-- ==== Sys2Proof/Word.lean ====
section
/-! DEFINITION. The plain types of the block: bytes, words, masks. -/
namespace Sys2Proof

/-- One byte of memory or of a frame. -/
abbrev Byte := BitVec 8

/-- A 64-bit mask, one bit per alarm condition (R118). -/
abbrev Mask64 := BitVec 64

/-- The 512 bits of a command-queue entry (R338), a grain descriptor (R250) or an event record (R529). -/
abbrev Bits512 := BitVec 512

/-- A sparse table: entries in rising key order, one per key. -/
abbrev Table (α : Type) := List (Nat × α)

end Sys2Proof
end

