-- ==== Sys2Proof/Syntax.lean ====
section
/-! DEFINITION. The commands of the block: one constructor of `Instr` for every row of
spec/opcode_table.json, and the plain data their operands are made of.
Every command's first operand `t` is the instant it happens at, in whole nanoseconds of the
free-running 25 MHz reference (notes/assumptions/1.md). -/
namespace Sys2Proof

/-- The paths by which an object is written (R469). -/
inductive Path where
  | can | rpdo | udp | pcie | journal | firmware
deriving DecidableEq, Repr

/-- What a job of the graph does; it names the engine's context the job works for. -/
inductive JobKind where
  | other
  | jpeg (ctx : Nat)
  | cbor
  | h264 (ctx : Nat)
  | encode (e : Nat)
  | rateControl (e : Nat)
  | pass (p : Nat)
  | tokenise
  | mac (slot : Nat)
  | transfer
  | capture
  | rescore
  | report (kind : Nat)
  | tpdo (n : Nat)
deriving DecidableEq, Repr

/-- One descriptor a job names: the physical address of its 64 bytes and how the job uses the tensor (R250, R263). `blocks`
says that a block-coordinate list addresses it, `scatters` that it is the table of an overwriting scatter, and `operandB`
that it is operand A of a MAC pass whose operand B is the n-th descriptor of the job (R316). -/
structure DescUse where
  addr   : Nat
  inDram : Bool
  write  : Bool := false
  accum  : Bool := false
  index  : Bool := false
  blocks : Bool := false
  scatters : Bool := false
  operandB : Option Nat := none
deriving DecidableEq, Repr

/-- What a transfer does. -/
inductive XferKind where
  | copy | gather | scatter | accumulate
deriving DecidableEq, Repr

/-- The list of a gather or scatter: an index descriptor of the job, or the device virtual address and the length of a
block-coordinate list (R266). -/
inductive ListDef where
  | none
  | index (desc : Nat)
  | blocks (addr n : Nat)
deriving DecidableEq, Repr

/-- A transfer of a job: its engine, its sides as numbers of the job's descriptors, and its consumer channels (R279, R281).
`fence` says that a fence stands before it (R288). -/
structure TransferDef where
  engine : Nat
  kind   : XferKind
  src    : Nat
  dst    : Nat
  list   : ListDef := .none
  chans  : List Nat := []
  fence  : Bool := false
deriving DecidableEq, Repr

/-- A ledger entry (R11) with what the graph says of the same job. -/
structure JobEntry where
  id        : Nat
  pinned    : Bool
  period    : Nat := 0
  phase     : Nat := 0
  priority  : Nat := 0
  drops     : Bool := false
  maxDefers : Nat := 0
  costs     : List Nat := []
  finish    : Nat := 0
  producers : List Nat := []
  hostAlt   : Option Nat := none
  kind      : JobKind := .other
  /-- The stage entries of the job: each a stream and a stage (0 decode, 1 pre-processing, 2 transfer, 3 compute). -/
  entries   : List (Nat × Nat) := []
  /-- The entry takes a window of units and tests the newest only (R99). -/
  window    : Bool := false
  pd        : Nat := 0
  descs     : List DescUse := []
  transfers : List TransferDef := []
  channels  : List Nat := []
deriving DecidableEq, Repr

/-- A rate alternative of the ledger (R13): its range of P and the P at which its bounds are computed (R11), with its mode
flag (R494) and epoch period (R398). -/
structure Alternative where
  pmin    : Nat
  pmax    : Nat
  p       : Nat := pmin
  reduced : Bool := false
  epoch   : Nat := 24
  jobs    : List JobEntry := []
deriving DecidableEq, Repr

/-- What an image says of one stream: its ceilings (R77), the room for its pool (R90), its peak counts
per tick of units and of lines or packets (R101), and the channel its Chuck announces on (R92). -/
structure StreamCeiling where
  stream : Nat
  width  : Nat
  height : Nat
  unit   : Nat
  region : Nat
  perTick : Nat
  subPerTick : Nat := 0
  chan : Option Nat := none
deriving DecidableEq, Repr

/-- A model slot of an image (R334). -/
structure SlotImage where
  slot   : Nat
  slabs  : Nat
  bytes  : Nat
  digest : Nat
deriving DecidableEq, Repr

/-- A channel of an image (R323). -/
structure ChannelImage where
  chan     : Nat
  depth    : Nat
  producer : Nat
  consumer : Nat
deriving DecidableEq, Repr

/-- The conversions of a schema slot (R148). -/
inductive SlotType where
  | int32 | fp32 | fp16
deriving DecidableEq, Repr

/-- A key of a schema path (R148): an unsigned integer or a text string. -/
inductive PathKey where
  | num (n : Nat)
  | text (s : List Byte)
deriving DecidableEq, Repr

/-- The action of a schema entry (R148). -/
inductive SchemaAction where
  | slot (ty : SlotType)
  | token (dict : Nat)
deriving DecidableEq, Repr

/-- A schema entry: field path, slot, action, default (R148, R149). -/
structure SchemaEntry where
  path   : List PathKey
  slot   : Nat
  action : SchemaAction
  dflt   : Nat
deriving DecidableEq, Repr

/-- A hash dictionary (R206): size, entries by slot (hash, token), the unknown token. -/
structure Dict where
  size    : Nat
  entries : List (Nat × (Nat × Nat))
  unknown : Nat
deriving DecidableEq, Repr

/-- The tokenisers of R205. -/
inductive Tokeniser where
  | uniform (base : Int) (lo hi : Int) (n : Nat)
  | edges (base : Int) (es : List Int)
deriving DecidableEq, Repr

/-- What an image says of one encode context (R168, R189). -/
structure EncodeImage where
  source  : Nat
  sliceRows : Nat
  slotSize  : Nat
  maxMbW  : Nat
  maxMbH  : Nat
  level   : Nat
  fpsNum  : Nat
  fpsDen  : Nat
deriving DecidableEq, Repr

/-- The sampling stage of a pass (R194, R198). -/
inductive Sampling where
  | none | copy | nearest | bilinear | bicubic
deriving DecidableEq, Repr

/-- What an image says of one pass: its source (a stream, or 0x80 + pass), the mask of operations compiled into it over the
IDs 1 to 11 (R207), its sampling stage, whether it has the colour stage, and its output type code. -/
structure PassImage where
  source   : Nat
  ops      : Nat := 0
  sampling : Sampling := .none
  colour   : Bool := false
  outType  : Nat := 0
deriving DecidableEq, Repr

/-- A pipeline image (R331), as the data it carries; its file format is not in the spec (notes/assumptions/9.md). -/
structure Image where
  id        : Nat
  ledgerId  : Nat
  /-- The public key the header's signature verifies under; 0 for none. -/
  signer    : Nat := 0
  /-- Every non-weight section matches its digest. -/
  sectionsOk : Bool := true
  alts      : List Alternative := []
  ceilings  : List StreamCeiling := []
  slots     : List SlotImage := []
  channels  : List ChannelImage := []
  /-- Values of the objects whose default is "image" (R488): key index × 256 + subindex. -/
  objects   : List (Nat × Nat) := []
  needsDram : Bool := false
  multiChip : Nat := 0
  chips     : Nat := 1
  passes    : List (Nat × PassImage) := []
  /-- Each H.264 context's stream and the KiB of its DPB region (R153). -/
  contexts  : List (Nat × (Nat × Nat)) := []
  encode    : List (Nat × EncodeImage) := []
  schemas   : List (Nat × List SchemaEntry) := []
  dicts     : List (Nat × Dict) := []
  tokenisers : List (Nat × Tokeniser) := []
  removeMean : Bool := false
  rescoreJob : Option Nat := none
  rescoreThreshold : Nat := 0
  /-- Pages mapped on demand (R298): domain and page address. -/
  demandPages : List (Nat × Nat) := []
  /-- Spare pages (physical addresses) the firmware maps them from. -/
  sparePages  : List Nat := []
  warmBytes   : Nat := 0
  /-- The per-tick maxima of the output cursors (R406): PDOs of a TPDO, reports, RTP packets of a context, units of a pass. -/
  cursorMax   : List Nat := []
  /-- The model state of the image (R398): SRAM addresses and lengths. -/
  modelState  : List (Nat × Nat) := []
  plantTpdos  : List Nat := []
  mappable    : List Nat := []
deriving DecidableEq, Repr

/-- What a JPEG job reports: its result under R141, R142, R144. -/
structure JpegReport where
  rejected  : Bool
  damaged   : Nat
  concealed : Nat
  last      : Bool
deriving DecidableEq, Repr

/-- A sequence parameter set as the checks of R151, R152 and R87 read it. -/
structure SpsInfo where
  profile   : Nat
  level     : Nat
  widthMb   : Nat
  heightMb  : Nat
  chroma    : Nat := 1
  bitDepth  : Nat := 8
  frameMbsOnly : Bool := true
  constraintSet1 : Bool := false
deriving DecidableEq, Repr

/-- What an H.264 job reports of its range (R155 to R158). -/
structure H264Report where
  idr          : Bool
  picType      : Nat
  damagedSlices : Nat
  concealed    : Nat
  taintedRef   : Bool
  frameNumGap  : Bool := false
  nalDiscarded : Nat := 0
  sps          : Option SpsInfo := none
  last         : Bool
  written      : Nat := 0
  suppressed   : Nat := 0
deriving DecidableEq, Repr

/-- What an encode job reports (R171 to R182): the size of the source picture it read, the bits it coded, and the sizes of
the NAL units it finished, in order. -/
structure EncodeReport where
  last      : Bool
  widthMb   : Nat
  heightMb  : Nat
  degraded  : Bool := false
  nals      : List Nat := []
  bits      : Nat := 0
deriving DecidableEq, Repr

/-- What a picture pass reports (R197, R204, R211, R222). -/
structure PassReport where
  pixels    : Nat
  fp16Sat   : Nat := 0
  behind    : Nat := 0
  paramBlockMissing : Bool := false
  formatOk  : Bool := true
deriving DecidableEq, Repr

/-- One token to sample (R235): the scores as binary32 bit patterns. -/
structure SampleTask where
  scores : List (BitVec 32)
deriving DecidableEq, Repr

/-- What a model job reports (R317, R319, R258, R230): among it the groups it read with an invalid scale byte (R255). -/
structure MacReport where
  passes    : Nat
  accSat    : Nat := 0
  convSat   : Nat := 0
  badScales : Nat := 0
  drewNoise : Bool := false
  samples   : List SampleTask := []
deriving DecidableEq, Repr

/-- The engine's part of a job completion. -/
inductive Work where
  | none
  | jpeg (r : JpegReport)
  | record (bytes : List Byte)
  | h264 (r : H264Report)
  | encode (r : EncodeReport)
  | rateControl
  | pass (r : PassReport)
  | tokens
  | mac (r : MacReport)
  | score (v : Nat)
  | report (body : List Byte)
  | tpdo (data : List Byte)
deriving DecidableEq, Repr

/-- A job completion's report: the engine's stall cycles per cause 1 to 6 (R25), the nanoseconds that the job
waited after its release before its engine began it, and its work. -/
structure JobReport where
  stalls : List Nat := []
  waited : Nat := 0
  work   : Work := .none
deriving DecidableEq, Repr

/-- An IEEE 1588 header's fields that R448 and R449 read. -/
structure PtpHeader where
  domain     : Nat
  transport  : Nat
  specific   : Nat := 0
  clock      : Nat
  seq        : Nat
deriving DecidableEq, Repr

/-- An Announce message (R449). `rank` is the dataset order of the default BMCA: a lower rank is better. -/
structure Announce where
  rank      : Nat
  utcOffset : Int
  utcValid  : Bool
  leap59    : Bool
  leap61    : Bool
  logInterval : Nat
deriving DecidableEq, Repr

/-- An RTP packet as R82 and R83 read it. -/
structure RtpPacket where
  ssrc    : Nat
  seq     : Nat
  ts      : Nat
  marker  : Bool
  /-- Payload structure is one of R82's: single NAL unit, STAP-A or FU-A over IPv4. -/
  supported : Bool
  bytes   : Nat
  sps     : Option SpsInfo := none
  idr     : Bool := false
deriving DecidableEq, Repr

/-- A frame of the Spindle Link (R362): header bits, payload, and whether its trailer's CRC-32C was good. -/
structure LinkFrame where
  header  : BitVec 128
  payload : List Byte
  crcOk   : Bool
deriving DecidableEq, Repr

/-- The 32 B payload of an IDENT frame (R360) is taken as bytes. -/
abbrev IdentPayload := List Byte

/-- What a power-on, pin reset or reset node finds outside the state: straps, parts, outcomes of training. -/
structure StartEnv where
  straps      : Nat := 0
  norMiB      : Nat := 256
  dramMiB     : Nat := 8192
  dramSame    : Bool := true
  storedTrainingOk : Bool := true
  fullTrainingOk   : Bool := true
  generatorOk : Bool := true
deriving DecidableEq, Repr

/-- The readings of one millisecond (R513, R619): junctions in 0.1 °C, supplies in mV, VBAT in mV. -/
structure Readings where
  junctions : List Int
  supplies  : List Nat
  vbat      : Nat
deriving DecidableEq, Repr

/-- The commands: one constructor per row of spec/opcode_table.json, in its order. -/
inductive Instr where
  | tickInEdge (t : Nat) (rising : Bool) (pulse : Nat)
  | internalEdge (t : Nat)
  | ptpDerivedEdge (t : Nat)
  | generatorEdge (t : Nat)
  | windowClose (t : Nat)
  | tickInputLost (t : Nat)
  | tickHoldoverLimit (t : Nat)
  | acquireTimeout (t : Nat)
  | switchOverAbandoned (t : Nat)
  | tickSourceRequest (t : Nat) (p : Path) (v : Nat)
  | nominalRateRequest (t : Nat) (p : Path) (v : Nat)
  | jobCompletion (t : Nat) (job : Nat) (r : JobReport)
  | budgetCut (t : Nat) (job : Nat) (concealed : Nat)
  | forceIdr (t : Nat) (p : Path) (e : Fin 2) (v : Nat)
  | setTime (t : Nat) (p : Path) (v : Nat)
  | ptpSync (t : Nat) (h : PtpHeader) (twoStep : Bool) (origin : Nat)
  | ppsInEdge (t : Nat) (rising : Bool) (pulse : Nat)
  | ppsSecondsMissed (t : Nat)
  | timeBaseHoldover (t : Nat)
  | timeBaseFreeRun (t : Nat)
  | leapSecond (t : Nat)
  | rtcWrite (t : Nat)
  | ptpFollowUp (t : Nat) (h : PtpHeader) (origin : Nat)
  | ptpAnnounce (t : Nat) (h : PtpHeader) (a : Announce)
  | ptpDelayResp (t : Nat) (h : PtpHeader) (received : Nat) (logInterval : Int)
  | ptpDelayReq (t : Nat)
  | ptpMasterLost (t : Nat)
  | csi2FrameStart (t : Nat) (rx : Fin 2) (vc : Nat)
  | csi2LongPacket (t : Nat) (rx : Fin 2) (vc : Nat) (dt : Nat) (bytes : Nat) (ecc : Nat) (crcOk : Bool) (lineGap : Bool)
  | csi2FrameEnd (t : Nat) (rx : Fin 2) (vc : Nat)
  | tdmFrame (t : Nat) (port : Fin 4) (words : List (BitVec 32)) (bclkOk : Bool)
  | spiTransaction (t : Nat) (m : Fin 2) (c : Fin 4) (word : Option (BitVec 32))
  | drdyTimeout (t : Nat) (m : Fin 2) (c : Fin 4)
  | rtpPacket (t : Nat) (mac : Fin 2) (port : Nat) (ipv4 : Bool) (pkt : RtpPacket)
  | ssrcRelease (t : Nat) (p : Path) (n : Fin 16) (v : Nat)
  | udpRecordDatagram (t : Nat) (iface : Fin 3) (port : Nat) (bytes : List Byte)
  | sampleWord (t : Nat) (tap : Fin 72) (raw : BitVec 32)
  | tapSilent (t : Nat) (tap : Fin 72)
  | clearLatches (t : Nat) (p : Path) (mask : Mask64)
  | bankCommit (t : Nat) (p : Path) (v : Nat)
  | bankSwap (t : Nat)
  | activeBankScrub (t : Nat) (crc : BitVec 32)
  | gclkFault (t : Nat)
  | reseed (t : Nat)
  | healthWindow (t : Nat) (raw : BitVec 1024)
  | chunkVisible (t : Nat) (xfer : Nat) (crcOk : Bool) (data : List Byte)
  | translationFault (t : Nat) (xfer : Nat) (chunk : Nat) (va : Nat) (access : Nat) (walkError : Bool)
  | faultResume (t : Nat) (p : Path) (v : BitVec 32)
  | faultAbandon (t : Nat) (p : Path) (v : BitVec 32)
  | faultDeadline (t : Nat)
  | invalidate (t : Nat) (p : Path) (v : Nat)
  | invalidationCompleted (t : Nat)
  | sramScrub (t : Nat) (addr : Nat) (errors : Nat)
  | imageLoadFromNor (t : Nat) (p : Path) (v : Nat)
  | slotHashComplete (t : Nat) (slot : Fin 16) (digest : Nat)
  | slotReload (t : Nat) (p : Path) (slot : Fin 16) (v : Nat)
  | queueDoorbell (t : Nat) (q : Fin 16) (tail : BitVec 32) (entries : List Bits512)
  | queueEnable (t : Nat) (p : Path) (q : Fin 16)
  | queueDisable (t : Nat) (p : Path) (q : Fin 16)
  | queueReset (t : Nat) (p : Path) (q : Fin 16)
  | completionHeadWrite (t : Nat) (q : Fin 16) (v : BitVec 32)
  | runJob (t : Nat) (q : Fin 16) (descs : List Bits512)
  | submitUnit (t : Nat) (q : Fin 16) (desc : Bits512) (formatOk : Bool)
  | fenceWrite (t : Nat) (q : Fin 16)
  | fenceToken (t : Nat) (q : Fin 16)
  | nop (t : Nat) (q : Fin 16)
  | loadImage (t : Nat) (q : Fin 16) (img : Image)
  | portTrainStart (t : Nat) (k : Fin 2)
  | train (t : Nat) (k : Fin 2) (c : BitVec 56)
  | trainingComplete (t : Nat) (k : Fin 2)
  | trainTimeout (t : Nat) (k : Fin 2)
  | ident (t : Nat) (k : Fin 2) (payload : IdentPayload)
  | identTimeout (t : Nat) (k : Fin 2)
  | refusedTimeout (t : Nat) (k : Fin 2)
  | portRetrain (t : Nat) (k : Fin 2)
  | retrainTimeout (t : Nat) (k : Fin 2)
  | ack (t : Nat) (k : Fin 2) (c : BitVec 56)
  | nak (t : Nat) (k : Fin 2) (c : BitVec 56)
  | replayTimeout (t : Nat) (k : Fin 2)
  | blockError (t : Nat) (k : Fin 2) (inFrame : Bool)
  | heartbeatInstant (t : Nat)
  | heartbeat (t : Nat) (k : Fin 2) (c : BitVec 56)
  | role (t : Nat) (k : Fin 2) (c : BitVec 56)
  | tick (t : Nat) (k : Fin 2) (c : BitVec 56)
  | bye (t : Nat) (k : Fin 2) (c : BitVec 56)
  | write (t : Nat) (k : Fin 2) (f : LinkFrame)
  | accum (t : Nat) (k : Fin 2) (f : LinkFrame) (ecc : Bool)
  | readReq (t : Nat) (k : Fin 2) (f : LinkFrame) (ecc : Bool)
  | readData (t : Nat) (k : Fin 2) (f : LinkFrame)
  | writeAck (t : Nat) (k : Fin 2) (f : LinkFrame)
  | token (t : Nat) (k : Fin 2) (f : LinkFrame)
  | unreach (t : Nat) (k : Fin 2) (f : LinkFrame)
  | journal (t : Nat) (k : Fin 2) (f : LinkFrame)
  | snapshot (t : Nat) (k : Fin 2) (f : LinkFrame)
  | commit (t : Nat) (k : Fin 2) (f : LinkFrame)
  | replAck (t : Nat) (k : Fin 2) (f : LinkFrame)
  | epochAbandoned (t : Nat)
  | startWaitExpiry (t : Nat)
  | promotionComplete (t : Nat)
  | promotionGateTimeout (t : Nat)
  | disputedEntered (t : Nat)
  | disputedResolved (t : Nat)
  | switchOverCommand (t : Nat) (p : Path)
  | resolve (t : Nat) (p : Path)
  | forceActive (t : Nat) (p : Path)
  | forceStandby (t : Nat) (p : Path)
  | requestedRoleWrite (t : Nat) (p : Path) (v : Nat)
  | peerRoleInChange (t : Nat) (level : Bool)
  | gateOpen (t : Nat)
  | interlockConflict (t : Nat)
  | roleKeeperLapse (t : Nat)
  | startRemoteNode (t : Nat) (c : Fin 2) (node : Nat)
  | stopRemoteNode (t : Nat) (c : Fin 2) (node : Nat)
  | enterPreOperational (t : Nat) (c : Fin 2) (node : Nat)
  | resetCommunication (t : Nat) (c : Fin 2) (node : Nat)
  | resetNode (t : Nat) (c : Fin 2) (node : Nat) (env : StartEnv)
  | duplicateListenEnd (t : Nat) (c : Fin 2)
  | duplicate (t : Nat) (c : Fin 2) (cob : Nat)
  | heartbeatProduction (t : Nat) (c : Fin 2)
  | partnerHeartbeat (t : Nat) (c : Fin 2) (node : Nat) (state : Nat)
  | bootUp (t : Nat) (c : Fin 2) (node : Nat)
  | partnerLost (t : Nat) (c : Fin 2) (node : Nat)
  | partnerForget (t : Nat) (c : Fin 2) (node : Nat)
  | sync (t : Nat) (c : Fin 2)
  | rpdo (t : Nat) (c : Fin 2) (n : Fin 8) (data : List Byte)
  | canRecordFragment (t : Nat) (c : Fin 2) (cob : Nat) (data : List Byte)
  | recordReassemblyTimeout (t : Nat) (c : Fin 2) (chan : Nat)
  | errorPassive (t : Nat) (c : Fin 2)
  | busOff (t : Nat) (c : Fin 2)
  | busOffRecovery (t : Nat) (c : Fin 2)
  | releaseHeldOffController (t : Nat) (p : Path) (c : Fin 2) (v : Nat)
  | busLoadWindow (t : Nat) (c : Fin 2) (load : Nat) (busiest : Nat)
  | switchStateGlobal (t : Nat) (c : Fin 2) (config : Bool)
  | switchStateSelective (t : Nat) (c : Fin 2) (addr : List Nat)
  | configureNodeId (t : Nat) (c : Fin 2) (v : Nat)
  | configureBitTiming (t : Nat) (c : Fin 2) (v : Nat)
  | activateBitTiming (t : Nat) (c : Fin 2)
  | storeConfiguration (t : Nat) (c : Fin 2)
  | inquireIdentity (t : Nat) (c : Fin 2) (part : Fin 4)
  | inquireNodeId (t : Nat) (c : Fin 2)
  | identifyRemoteSlave (t : Nat) (c : Fin 2) (vendor product revLo revHi serLo serHi : Nat)
  | identifyNonConfiguredSlave (t : Nat) (c : Fin 2)
  | fastscan (t : Nat) (c : Fin 2) (id : Nat) (bitCheck sub next : Nat)
  | plcaStatusChange (t : Nat) (ok : Bool)
  | erroredTransmission (t : Nat) (opp : Nat)
  | collision (t : Nat)
  | transmitLimit (t : Nat)
  | arp (t : Nat) (iface : Fin 3) (request : Bool) (sender : Nat) (senderMac : Nat) (target : Nat)
  | icmpEcho (t : Nat) (iface : Fin 3) (src dst : Nat) (data : List Byte)
  | udpObjectAccess (t : Nat) (src : Nat) (port : Nat) (data : List Byte)
  | objectWrite (t : Nat) (p : Path) (key : Nat) (data : List Byte)
  | divergencePersisted (t : Nat) (key : Nat)
  | store (t : Nat) (p : Path) (sub : Nat) (v : Nat)
  | storeComplete (t : Nat) (readBackOk : Bool)
  | restoreDefaults (t : Nat) (p : Path) (sub : Nat) (v : Nat)
  | domainPortSelect (t : Nat) (v : BitVec 32)
  | domainPortCommit (t : Nat) (v : Nat) (data : List Byte)
  | livenessDoorbell (t : Nat)
  | hostLivenessLapse (t : Nat)
  | pcieReset (t : Nat)
  | pcieLinkDown (t : Nat)
  | workingModeRequest (t : Nat) (p : Path) (v : Nat)
  | watchCommand (t : Nat) (p : Path)
  | retainedOffCommand (t : Nat) (p : Path)
  | deferralTimeout (t : Nat)
  | spotterFrameEnd (t : Nat) (score : BitVec 16) (samples : List (BitVec 16))
  | wakeN (t : Nat)
  | rtcWakeTime (t : Nat)
  | railsNotGood (t : Nat)
  | wakeRetry (t : Nat)
  | thermalSample (t : Nat) (r : Readings)
  | thermalTrip (t : Nat)
  | monitorSnapshot (t : Nat) (p : Path) (m : Fin 48)
  | monitorSnapshotAndClear (t : Nat) (p : Path) (m : Fin 48)
  | monitorClear (t : Nat) (p : Path) (m : Fin 48)
  | flush (t : Nat) (programFailAt : Option Nat)
  | freeze (t : Nat) (p : Path)
  | freezeRelease (t : Nat) (p : Path)
  | freezeTimeout (t : Nat)
  | pwrfailAsserted (t : Nat)
  | powerRestored (t : Nat)
  | watchdogService (t : Nat) (k : Fin 5)
  | watchdogExpiry (t : Nat) (k : Fin 5) (pc : BitVec 32)
  | debugHalt (t : Nat) (k : Fin 5)
  | debugResume (t : Nat) (k : Fin 5)
  | parityError (t : Nat) (core : Fin 4) (env : StartEnv)
  | lifetimeEntry (t : Nat) (writeOk : Bool)
  | eraseCountWrite (t : Nat) (writeOk : Bool)
  | powerOnReset (t : Nat) (env : StartEnv)
  | pinReset (t : Nat) (env : StartEnv)
  | confirmFirmware (t : Nat) (p : Path) (v : Nat)
  | updateData (t : Nat) (p : Path) (data : List Byte)
  | updateCommit (t : Nat) (p : Path) (v : Nat)
  | unlock (t : Nat) (tok : List Byte)
  | lock (t : Nat) (p : Path)
  | sealDevice (t : Nat) (p : Path)
  | keyBlock (t : Nat) (p : Path) (data : List Byte)
  | retentionLost (t : Nat)
  | gclkRelock (t : Nat)
  | faultRingConsumerWrite (t : Nat) (v : BitVec 32)
  | canWakeFrame (t : Nat) (c : Fin 2) (cob : Nat) (data : List Byte)
  | pwrfailDeasserted (t : Nat)
  | hostAssistStageRegistered (t : Nat) (stage : Fin 32) (cost : Nat)
  | carrierInOwnTo (t : Nat)
  | tpdoEventTimer (t : Nat) (n : Fin 16)
  | emergencyInhibitExpiry (t : Nat) (c : Fin 2)
  | emergencyFrameSent (t : Nat) (c : Fin 2)
  | coreRailsGood (t : Nat)
  | rtcpSenderReport (t : Nat) (mac : Fin 2) (port : Nat) (data : List Byte)
deriving DecidableEq, Repr

end Sys2Proof
end

