-- ==== Sys2Proof/Machine/Bits.lean ====
section
/-! DEFINITION. Bit fields, sign extension, byte order, rounding and the newer-than test: the helpers every
meaning uses. -/
namespace Sys2Proof.Machine

/-- Bits [hi:lo] of a number. -/
def bits (v hi lo : Nat) : Nat := (v >>> lo) % 2 ^ (hi + 1 - lo)

/-- Bit n of a number. -/
def bit (v n : Nat) : Bool := v.testBit n

/-- A Bool as a bit. -/
def b2n (b : Bool) : Nat := if b then 1 else 0

/-- A number with bit n set to b. -/
def putBit (v n : Nat) (b : Bool) : Nat :=
  if b then v ||| (1 <<< n) else if v.testBit n then v - 2 ^ n else v

/-- The two's-complement value of the low w bits. -/
def signed (w v : Nat) : Int :=
  let u := v % 2 ^ w
  if u < 2 ^ (w - 1) then (u : Int) else (u : Int) - (2 ^ w : Nat)

/-- The w-bit two's-complement pattern of an integer. -/
def pattern (w : Nat) (i : Int) : Nat := (i % (2 ^ w : Nat)).toNat

/-- A value clamped to [lo, hi]. -/
def clamp (lo hi v : Int) : Int := if v < lo then lo else if hi < v then hi else v

/-- sat32 of R113. -/
def sat32 (v : Int) : Int := clamp (-2147483648) 2147483647 v

/-- Ceiling division of naturals. -/
def ceilDiv (a b : Nat) : Nat := (a + b - 1) / b

/-- The n little-endian bytes of a number (R4). -/
def leBytes : Nat → Nat → List Byte
  | 0, _ => []
  | n + 1, v => BitVec.ofNat 8 v :: leBytes n (v / 256)

/-- The number little-endian bytes spell (R4). -/
def leNat : List Byte → Nat
  | [] => 0
  | b :: bs => b.toNat + 256 * leNat bs

/-- Bytes i to i + n − 1 as a number. -/
def leAt (bs : List Byte) (i n : Nat) : Nat := leNat ((bs.drop i).take n)

/-- R620: a is newer than b in serial-number arithmetic of 32 bits. -/
def newer (a b : Nat) : Bool :=
  let d := (a + 2 ^ 32 - b % 2 ^ 32) % 2 ^ 32
  decide (1 ≤ d) && decide (d ≤ 2 ^ 31 - 1)

/-- R620: the successor of a stored copy's sequence number, never 0xFFFF_FFFF. -/
def nextSeq (a : Nat) : Nat := if a = 0xFFFFFFFE then 0 else (a + 1) % 2 ^ 32

/-- Round to nearest, halves away from zero, of n / d. -/
def roundAway (n : Int) (d : Nat) : Int :=
  if 0 ≤ n then (2 * n + d) / (2 * d : Int) else -((2 * (-n) + d) / (2 * d : Int))

/-- The n-th entry of a list of counts, 0 beyond it. -/
def nth (l : List Nat) (n : Nat) : Nat := l.getD n 0

/-- Replace the n-th entry of a list. -/
def setNth {α : Type} (l : List α) (n : Nat) (v : α) : List α := l.set n v

/-- Entrywise sum of two lists of counts, padded with zeros to n entries. -/
def addLists (n : Nat) (a b : List Nat) : List Nat :=
  (List.range n).map fun i => nth a i + nth b i

end Sys2Proof.Machine
end

