-- ==== Sys2Proof/Machine/Tables.lean ====
section
/-! DEFINITION. Sparse tables and the addressed memories: lookup, update, the canonical form of memory
(addresses strictly rising, no entry equal to 0, which an unlisted byte reads as: notes/assumptions/5.md). -/
namespace Sys2Proof.Machine

/-- The entry at a key, or the default. -/
def tget {α : Type} (m : Table α) (k : Nat) (d : α) : α :=
  match m with
  | [] => d
  | (j, v) :: r => if j = k then v else tget r k d

/-- The entry at a key. -/
def tfind {α : Type} (m : Table α) (k : Nat) : Option α :=
  match m with
  | [] => none
  | (j, v) :: r => if j = k then some v else tfind r k

/-- The table with the entry at a key replaced or put in its place. -/
def tset {α : Type} (m : Table α) (k : Nat) (v : α) : Table α :=
  match m with
  | [] => [(k, v)]
  | (j, w) :: r =>
    if j = k then (k, v) :: r
    else if k < j then (k, v) :: (j, w) :: r
    else (j, w) :: tset r k v

/-- The table without the entry at a key. -/
def terase {α : Type} (m : Table α) (k : Nat) : Table α := m.filter fun e => e.1 != k

/-- Keys strictly rise and lie above a bound. -/
def risingFrom (b : Nat) : List Nat → Bool
  | [] => true
  | k :: r => decide (b ≤ k) && risingFrom (k + 1) r

/-- The canonical form of a memory: addresses strictly rising, no entry 0. -/
def Memory.wf (m : List Host.Cell) : Bool := risingFrom 0 (m.map (·.1)) && m.all fun c => c.2 != 0

/-- The byte at an address; an unlisted byte reads 0. -/
def memRead (m : List Host.Cell) (a : Nat) : Byte :=
  match m with
  | [] => 0
  | (j, v) :: r => if j = a then v else memRead r a

/-- The memory with one byte written, in canonical form. -/
def memWrite (m : List Host.Cell) (a : Nat) (v : Byte) : List Host.Cell :=
  match m with
  | [] => if v = 0 then [] else [(a, v)]
  | (j, w) :: r =>
    if j = a then (if v = 0 then r else (a, v) :: r)
    else if a < j then (if v = 0 then (j, w) :: r else (a, v) :: (j, w) :: r)
    else (j, w) :: memWrite r a v

/-- n bytes from an address. -/
def memReadN (m : List Host.Cell) (a : Nat) : Nat → List Byte
  | 0 => []
  | n + 1 => memRead m a :: memReadN m (a + 1) n

/-- Bytes written from an address on. -/
def memWriteN (m : List Host.Cell) (a : Nat) : List Byte → List Host.Cell
  | [] => m
  | b :: bs => memWriteN (memWrite m a b) (a + 1) bs

end Sys2Proof.Machine
end

