-- ==== Sys2Proof/Machine/Objects.lean ====
section
/-! DEFINITION. The object dictionary as data: every row of the chapters' object tables (type, access, default), the
subindex rule of R457, what is stored (R461, R462) and what is journalled (R393). The communication objects of R426 take
the layout of CiA 301 (notes/assumptions/13.md). -/
namespace Sys2Proof.Machine

/-- Object types (R458). -/
inductive ObjType where
  | u8 | u16 | u32 | u64 | i8 | i16 | i32 | i64 | f32 | str
  | dom (size : Nat)
deriving DecidableEq, Repr

/-- Access attributes. -/
inductive Access where
  | ro | wo | rw | const
deriving DecidableEq, Repr

/-- A row of an object table: `count` indices from `idx`, subindices `lo` to `hi`, type, access, default as a bit pattern,
and whether the default is "image". -/
structure ObjRow where
  idx    : Nat
  count  : Nat
  lo     : Nat
  hi     : Nat
  type   : ObjType
  access : Access
  dflt   : Nat
  image  : Bool
deriving DecidableEq, Repr

/-- The size in bytes of a value of a type (R458); 0 for a string, whose size varies. -/
def ObjType.size : ObjType → Nat
  | .u8 | .i8 => 1
  | .u16 | .i16 => 2
  | .u32 | .i32 | .f32 => 4
  | .u64 | .i64 => 8
  | .str => 0
  | .dom n => n

/-- A numeric type travels in a slot; a string or a domain does not (R474). -/
def ObjType.numeric : ObjType → Bool
  | .str | .dom _ => false
  | _ => true

/-- A signed type (R458). -/
def ObjType.isSigned : ObjType → Bool
  | .i8 | .i16 | .i32 | .i64 => true
  | _ => false

/-- The communication objects of R426, at the places CiA 301 gives them. -/
def objectsComm : List ObjRow :=
  [⟨0x1000, 1, 0x00, 0x00, .u32, .const, 0, false⟩,
   ⟨0x1001, 1, 0x00, 0x00, .u8, .ro, 0, false⟩,
   ⟨0x1003, 1, 0x01, 0x08, .u32, .ro, 0, false⟩,
   ⟨0x1005, 1, 0x00, 0x00, .u32, .rw, 0x80, false⟩,
   ⟨0x1014, 1, 0x00, 0x00, .u32, .rw, 0x80, false⟩,
   ⟨0x1015, 1, 0x00, 0x00, .u16, .rw, 0, false⟩,
   ⟨0x1016, 1, 0x01, 0x10, .u32, .rw, 0, false⟩,
   ⟨0x1017, 1, 0x00, 0x00, .u16, .rw, 0, false⟩,
   ⟨0x1018, 1, 0x01, 0x04, .u32, .ro, 0, false⟩,
   ⟨0x1200, 1, 0x01, 0x02, .u32, .ro, 0, false⟩,
   ⟨0x1400, 8, 0x01, 0x01, .u32, .rw, 0x80000000, false⟩,
   ⟨0x1400, 8, 0x02, 0x02, .u8, .rw, 255, false⟩,
   ⟨0x1600, 8, 0x01, 0x08, .u32, .rw, 0, false⟩,
   ⟨0x1800, 16, 0x01, 0x01, .u32, .rw, 0x80000000, false⟩,
   ⟨0x1800, 16, 0x02, 0x02, .u8, .rw, 254, false⟩,
   ⟨0x1800, 16, 0x03, 0x03, .u16, .rw, 0, false⟩,
   ⟨0x1800, 16, 0x05, 0x05, .u16, .rw, 0, false⟩,
   ⟨0x1A00, 16, 0x01, 0x08, .u32, .rw, 0, false⟩]

/-- Object table of 01_the_tick_and_the_ledger.md. -/
def objects01 : List ObjRow :=
  [⟨0x2200, 1, 0x01, 0x01, .u64, .ro, 0, false⟩,
   ⟨0x2200, 1, 0x02, 0x02, .u32, .ro, 0, false⟩,
   ⟨0x2200, 1, 0x03, 0x03, .u32, .ro, 0, false⟩,
   ⟨0x2200, 1, 0x04, 0x04, .u32, .ro, 0, false⟩,
   ⟨0x2200, 1, 0x05, 0x05, .u32, .ro, 0, false⟩,
   ⟨0x2201, 1, 0x01, 0x01, .u32, .ro, 0, false⟩,
   ⟨0x2201, 1, 0x02, 0x02, .u8, .ro, 0, false⟩,
   ⟨0x2201, 1, 0x03, 0x03, .u16, .const, 0x23F0, false⟩,
   ⟨0x2201, 1, 0x04, 0x04, .u16, .ro, 0, false⟩,
   ⟨0x2202, 1, 0x01, 0x01, .u64, .ro, 0, false⟩,
   ⟨0x2202, 1, 0x02, 0x02, .u64, .ro, 0, false⟩,
   ⟨0x2202, 1, 0x03, 0x03, .u32, .ro, 0, false⟩,
   ⟨0x2202, 1, 0x04, 0x04, .u32, .ro, 0, false⟩,
   ⟨0x2202, 1, 0x05, 0x05, .u32, .ro, 0, false⟩,
   ⟨0x2203, 1, 0x01, 0x01, .u32, .ro, 0, false⟩,
   ⟨0x2203, 1, 0x02, 0x02, .u32, .ro, 0, false⟩,
   ⟨0x2203, 1, 0x03, 0x03, .u32, .ro, 0, false⟩,
   ⟨0x2203, 1, 0x04, 0x04, .u64, .ro, 0, false⟩,
   ⟨0x2203, 1, 0x05, 0x05, .u16, .ro, 0xFFFF, false⟩,
   ⟨0x2203, 1, 0x06, 0x06, .u8, .ro, 0, false⟩,
   ⟨0x2204, 1, 0x01, 0x06, .u64, .ro, 0, false⟩,
   ⟨0x2205, 1, 0x01, 0x01, .u16, .rw, 0x2134, false⟩,
   ⟨0x2205, 1, 0x02, 0x02, .u16, .rw, 0x10, false⟩,
   ⟨0x2205, 1, 0x03, 0x03, .u16, .rw, 4, false⟩,
   ⟨0x2205, 1, 0x04, 0x04, .u16, .rw, 0x1770, false⟩,
   ⟨0x2205, 1, 0x05, 0x05, .u16, .rw, 0xF0, false⟩,
   ⟨0x2205, 1, 0x06, 0x06, .u16, .rw, 0xF0, false⟩,
   ⟨0x2205, 1, 0x07, 0x07, .u8, .rw, 3, false⟩,
   ⟨0x2205, 1, 0x08, 0x08, .u16, .rw, 0xA, false⟩,
   ⟨0x2206, 1, 0x01, 0x20, .u8, .rw, 0, false⟩,
   ⟨0x2207, 1, 0x01, 0x20, .u8, .ro, 1, false⟩,
   ⟨0x2208, 1, 0x01, 0x0D, .u16, .ro, 0, false⟩]

/-- Object table of 02_time_base_and_tick_sources.md. -/
def objects02 : List ObjRow :=
  [⟨0x2300, 1, 0x01, 0x01, .u64, .ro, 0, false⟩,
   ⟨0x2300, 1, 0x02, 0x02, .u8, .rw, 1, false⟩,
   ⟨0x2300, 1, 0x03, 0x03, .u8, .ro, 0, false⟩,
   ⟨0x2300, 1, 0x04, 0x04, .u8, .ro, 2, false⟩,
   ⟨0x2300, 1, 0x05, 0x05, .i32, .ro, 0, false⟩,
   ⟨0x2300, 1, 0x06, 0x06, .i32, .ro, 0, false⟩,
   ⟨0x2300, 1, 0x07, 0x07, .u32, .rw, 0x3E8, false⟩,
   ⟨0x2300, 1, 0x08, 0x08, .u32, .rw, 0xF4240, false⟩,
   ⟨0x2300, 1, 0x09, 0x09, .u32, .rw, 0xE10, false⟩,
   ⟨0x2300, 1, 0x0A, 0x0A, .u32, .ro, 0, false⟩,
   ⟨0x2300, 1, 0x0B, 0x0B, .u8, .ro, 0, false⟩,
   ⟨0x2300, 1, 0x0C, 0x0C, .i64, .ro, 0, false⟩,
   ⟨0x2300, 1, 0x0D, 0x0D, .u8, .rw, 0, false⟩,
   ⟨0x2300, 1, 0x0E, 0x0E, .i32, .rw, 0, false⟩,
   ⟨0x2300, 1, 0x0F, 0x0F, .u32, .ro, 0, false⟩,
   ⟨0x2301, 1, 0x01, 0x01, .u64, .ro, 0, false⟩,
   ⟨0x2301, 1, 0x02, 0x02, .i16, .rw, 0x25, false⟩,
   ⟨0x2301, 1, 0x03, 0x03, .i16, .ro, 0x25, false⟩,
   ⟨0x2301, 1, 0x04, 0x04, .u8, .ro, 0, false⟩,
   ⟨0x2301, 1, 0x05, 0x05, .u64, .wo, 0, false⟩,
   ⟨0x2301, 1, 0x06, 0x06, .u8, .ro, 0, false⟩,
   ⟨0x2301, 1, 0x07, 0x07, .i8, .ro, 0, false⟩,
   ⟨0x2302, 1, 0x01, 0x01, .u8, .rw, 0, false⟩,
   ⟨0x2302, 1, 0x02, 0x02, .u8, .ro, 0, false⟩,
   ⟨0x2302, 1, 0x03, 0x03, .u8, .ro, 3, false⟩,
   ⟨0x2302, 1, 0x04, 0x04, .u32, .rw, 0x3A980, false⟩,
   ⟨0x2302, 1, 0x05, 0x05, .u32, .ro, 0x3A980, false⟩,
   ⟨0x2302, 1, 0x06, 0x06, .u16, .rw, 0x1E, false⟩,
   ⟨0x2302, 1, 0x07, 0x07, .u16, .rw, 0x3E8, false⟩,
   ⟨0x2302, 1, 0x08, 0x08, .u8, .rw, 0, false⟩,
   ⟨0x2302, 1, 0x09, 0x09, .u32, .rw, 0, false⟩,
   ⟨0x2302, 1, 0x0A, 0x0A, .u32, .ro, 0, false⟩,
   ⟨0x2302, 1, 0x0B, 0x0B, .u32, .ro, 0, false⟩,
   ⟨0x2302, 1, 0x0C, 0x0C, .u32, .ro, 0, false⟩,
   ⟨0x2302, 1, 0x0D, 0x0D, .u32, .ro, 0, false⟩,
   ⟨0x2302, 1, 0x0E, 0x0E, .u32, .ro, 0, false⟩,
   ⟨0x2302, 1, 0x0F, 0x0F, .u32, .ro, 0, false⟩]

/-- Object table of 03_stream_ingest.md. -/
def objects03 : List ObjRow :=
  [⟨0x2100, 16, 0x01, 0x01, .u8, .rw, 0, false⟩,
   ⟨0x2100, 16, 0x02, 0x02, .u32, .rw, 0, false⟩,
   ⟨0x2100, 16, 0x03, 0x03, .u8, .ro, 0, false⟩,
   ⟨0x2100, 16, 0x04, 0x04, .u32, .rw, 0xFFFFFFFF, false⟩,
   ⟨0x2100, 16, 0x05, 0x05, .u16, .rw, 0, false⟩,
   ⟨0x2100, 16, 0x06, 0x06, .u16, .rw, 0, false⟩,
   ⟨0x2100, 16, 0x07, 0x07, .u32, .rw, 0, false⟩,
   ⟨0x2100, 16, 0x08, 0x08, .u8, .rw, 0, false⟩,
   ⟨0x2100, 16, 0x09, 0x09, .u16, .rw, 0x20, false⟩,
   ⟨0x2100, 16, 0x0A, 0x0A, .u8, .rw, 0, false⟩,
   ⟨0x2100, 16, 0x0B, 0x0B, .u8, .rw, 4, false⟩,
   ⟨0x2100, 16, 0x0C, 0x0C, .u8, .ro, 0, false⟩,
   ⟨0x2100, 16, 0x0D, 0x0D, .u8, .rw, 0, false⟩,
   ⟨0x2100, 16, 0x0E, 0x0E, .u64, .ro, 0, false⟩,
   ⟨0x2100, 16, 0x0F, 0x0F, .u64, .ro, 0, false⟩,
   ⟨0x2100, 16, 0x10, 0x10, .u32, .ro, 0, false⟩,
   ⟨0x2100, 16, 0x11, 0x11, .u32, .ro, 0, false⟩,
   ⟨0x2100, 16, 0x12, 0x12, .u32, .ro, 0, false⟩,
   ⟨0x2100, 16, 0x13, 0x16, .u32, .ro, 0, false⟩,
   ⟨0x2100, 16, 0x17, 0x17, .u32, .ro, 0, false⟩,
   ⟨0x2100, 16, 0x18, 0x18, .u32, .ro, 0, false⟩,
   ⟨0x2100, 16, 0x19, 0x19, (.dom 16), .ro, 0, false⟩,
   ⟨0x2100, 16, 0x1A, 0x1A, .u32, .rw, 0, false⟩,
   ⟨0x2100, 16, 0x1B, 0x1B, .u32, .ro, 0, false⟩,
   ⟨0x2100, 16, 0x1C, 0x1C, .u32, .ro, 0, false⟩,
   ⟨0x2100, 16, 0x1D, 0x1D, .u32, .rw, 0x186A0, false⟩]

/-- Object table of 04_alarm_path.md. -/
def objects04 : List ObjRow :=
  [⟨0x2400, 1, 0x01, 0x01, .u8, .ro, 0, false⟩,
   ⟨0x2400, 1, 0x02, 0x02, .u8, .ro, 0, false⟩,
   ⟨0x2400, 1, 0x03, 0x03, .u64, .ro, 0, false⟩,
   ⟨0x2400, 1, 0x04, 0x04, .u64, .ro, 0, false⟩,
   ⟨0x2400, 1, 0x05, 0x05, .u64, .wo, 0, false⟩,
   ⟨0x2400, 1, 0x06, 0x06, .u8, .rw, 0, false⟩,
   ⟨0x2400, 1, 0x07, 0x07, .u32, .ro, 0, false⟩,
   ⟨0x2400, 1, 0x08, 0x08, .u32, .ro, 0, false⟩,
   ⟨0x2401, 1, 0x01, 0x01, .u8, .wo, 0, false⟩,
   ⟨0x2401, 1, 0x02, 0x02, .u32, .ro, 0, false⟩,
   ⟨0x2401, 1, 0x03, 0x03, .u8, .ro, 0, false⟩,
   ⟨0x2401, 1, 0x04, 0x05, .u32, .ro, 0, false⟩,
   ⟨0x2401, 1, 0x06, 0x06, .u32, .ro, 0, false⟩,
   ⟨0x2403, 1, 0x01, 0x40, .u64, .rw, 0, false⟩,
   ⟨0x2410, 72, 0x01, 0x01, .i32, .rw, 0x1000000, false⟩,
   ⟨0x2410, 72, 0x02, 0x02, .i32, .rw, 0, false⟩,
   ⟨0x2410, 72, 0x03, 0x03, .u8, .rw, 0, false⟩,
   ⟨0x2410, 72, 0x04, 0x04, .u16, .rw, 0x64, false⟩,
   ⟨0x2410, 72, 0x05, 0x05, .u8, .rw, 1, false⟩,
   ⟨0x2410, 72, 0x06, 0x09, .u8, .rw, 0, false⟩,
   ⟨0x2410, 72, 0x0A, 0x0D, .i32, .rw, 0, false⟩,
   ⟨0x2410, 72, 0x0E, 0x11, .i32, .rw, 0, false⟩,
   ⟨0x2410, 72, 0x12, 0x15, .u16, .rw, 1, false⟩,
   ⟨0x2410, 72, 0x16, 0x19, .u16, .rw, 1, false⟩,
   ⟨0x2410, 72, 0x1A, 0x1A, .i32, .ro, 0, false⟩,
   ⟨0x2410, 72, 0x1B, 0x1B, .u8, .ro, 0, false⟩,
   ⟨0x2410, 72, 0x1C, 0x1C, .u32, .ro, 0, false⟩,
   ⟨0x2410, 72, 0x1D, 0x1D, .u32, .ro, 0, false⟩,
   ⟨0x2410, 72, 0x1E, 0x1E, .u8, .rw, 0x18, false⟩]

/-- Object table of 05_decoding.md. -/
def objects05 : List ObjRow :=
  [⟨0x2500, 1, 0x01, 0x01, .u32, .const, 0x1DE200, false⟩,
   ⟨0x2500, 1, 0x02, 0x02, .u64, .ro, 0, false⟩,
   ⟨0x2500, 1, 0x03, 0x03, .u64, .ro, 0, false⟩,
   ⟨0x2500, 1, 0x04, 0x04, .u32, .ro, 0, false⟩,
   ⟨0x2500, 1, 0x05, 0x05, .u32, .ro, 0, false⟩,
   ⟨0x2501, 1, 0x01, 0x01, .u32, .ro, 0, false⟩,
   ⟨0x2501, 1, 0x02, 0x02, .u32, .ro, 0, false⟩,
   ⟨0x2501, 1, 0x03, 0x03, .u32, .ro, 0, false⟩,
   ⟨0x2501, 1, 0x04, 0x04, .u16, .const, 0x2000, false⟩,
   ⟨0x2502, 1, 0x01, 0x01, .u32, .ro, 0, false⟩,
   ⟨0x2502, 1, 0x02, 0x02, .u32, .ro, 0, false⟩,
   ⟨0x2502, 1, 0x03, 0x03, .u32, .ro, 0, false⟩,
   ⟨0x2502, 1, 0x04, 0x04, .u32, .ro, 0, false⟩,
   ⟨0x2502, 1, 0x05, 0x05, .u32, .ro, 0, false⟩,
   ⟨0x2502, 1, 0x06, 0x06, .u8, .const, 0x10, false⟩,
   ⟨0x2502, 1, 0x07, 0x07, .u32, .const, 0x10000, false⟩,
   ⟨0x2508, 8, 0x01, 0x01, .u8, .ro, 0xFF, false⟩,
   ⟨0x2508, 8, 0x02, 0x02, .u8, .ro, 0, false⟩,
   ⟨0x2508, 8, 0x03, 0x03, .u8, .ro, 0, false⟩,
   ⟨0x2508, 8, 0x04, 0x04, .u16, .ro, 0, false⟩,
   ⟨0x2508, 8, 0x05, 0x05, .u16, .ro, 0, false⟩,
   ⟨0x2508, 8, 0x06, 0x06, .u64, .ro, 0, false⟩,
   ⟨0x2508, 8, 0x07, 0x07, .u32, .ro, 0, false⟩,
   ⟨0x2508, 8, 0x08, 0x08, .u64, .ro, 0, false⟩,
   ⟨0x2508, 8, 0x09, 0x09, .u32, .ro, 0, false⟩,
   ⟨0x2508, 8, 0x0A, 0x0A, .u8, .rw, 0, false⟩,
   ⟨0x2508, 8, 0x0B, 0x0B, .u8, .ro, 0, false⟩,
   ⟨0x2508, 8, 0x0C, 0x0C, .u32, .ro, 0, false⟩,
   ⟨0x2508, 8, 0x0D, 0x0D, .u32, .ro, 0, false⟩,
   ⟨0x2508, 8, 0x0E, 0x0E, .u32, .ro, 0, false⟩,
   ⟨0x2508, 8, 0x0F, 0x0F, .u32, .ro, 0, false⟩]

/-- Object table of 06_video_encoding.md. -/
def objects06 : List ObjRow :=
  [⟨0x2504, 1, 0x01, 0x01, .u32, .const, 0x77880, false⟩,
   ⟨0x2504, 1, 0x02, 0x02, .u8, .const, 2, false⟩,
   ⟨0x2510, 2, 0x01, 0x01, .u8, .ro, 0xFF, false⟩,
   ⟨0x2510, 2, 0x02, 0x02, .u8, .rw, 1, false⟩,
   ⟨0x2510, 2, 0x03, 0x03, .u8, .rw, 1, false⟩,
   ⟨0x2510, 2, 0x04, 0x04, .u8, .rw, 0, false⟩,
   ⟨0x2510, 2, 0x05, 0x05, .u32, .rw, 0x3D0900, false⟩,
   ⟨0x2510, 2, 0x06, 0x06, .u32, .rw, 0x7A1200, false⟩,
   ⟨0x2510, 2, 0x07, 0x07, .u32, .rw, 0x3D0900, false⟩,
   ⟨0x2510, 2, 0x08, 0x08, .u8, .rw, 0x1E, false⟩,
   ⟨0x2510, 2, 0x09, 0x09, .u8, .rw, 0xA, false⟩,
   ⟨0x2510, 2, 0x0A, 0x0A, .u8, .rw, 0x30, false⟩,
   ⟨0x2510, 2, 0x0B, 0x0B, .u8, .rw, 0x1C, false⟩,
   ⟨0x2510, 2, 0x0C, 0x0C, .u8, .rw, 0x1E, false⟩,
   ⟨0x2510, 2, 0x0D, 0x0D, .u16, .rw, 0x3C, false⟩,
   ⟨0x2510, 2, 0x0E, 0x0E, .u8, .wo, 0, false⟩,
   ⟨0x2510, 2, 0x0F, 0x0F, .u8, .ro, 0, false⟩,
   ⟨0x2510, 2, 0x10, 0x10, .u8, .rw, 0, false⟩,
   ⟨0x2510, 2, 0x11, 0x11, .u8, .rw, 0, false⟩,
   ⟨0x2510, 2, 0x12, 0x12, .u8, .rw, 0x60, false⟩,
   ⟨0x2510, 2, 0x13, 0x13, .u32, .rw, 0, false⟩,
   ⟨0x2510, 2, 0x14, 0x14, .u32, .rw, 0, false⟩,
   ⟨0x2510, 2, 0x15, 0x15, .u16, .rw, 0, false⟩,
   ⟨0x2510, 2, 0x16, 0x16, .u32, .ro, 0, false⟩,
   ⟨0x2510, 2, 0x17, 0x17, .u32, .ro, 0, false⟩,
   ⟨0x2510, 2, 0x18, 0x18, .u64, .ro, 0, false⟩,
   ⟨0x2510, 2, 0x19, 0x19, .u32, .ro, 0, false⟩,
   ⟨0x2510, 2, 0x1A, 0x1A, .u64, .ro, 0, false⟩,
   ⟨0x2510, 2, 0x1B, 0x1B, .i32, .ro, 0, false⟩,
   ⟨0x2510, 2, 0x1C, 0x1C, .u8, .ro, 0, false⟩,
   ⟨0x2510, 2, 0x1D, 0x1D, .u8, .ro, 0, false⟩,
   ⟨0x2510, 2, 0x1E, 0x1E, .u8, .ro, 0, false⟩,
   ⟨0x2510, 2, 0x1F, 0x1F, .u32, .ro, 0, false⟩]

/-- Object table of 07_preprocessing.md. -/
def objects07 : List ObjRow :=
  [⟨0x2600, 1, 0x01, 0x01, .u8, .ro, 0, false⟩,
   ⟨0x2600, 1, 0x02, 0x02, .u64, .ro, 0, false⟩,
   ⟨0x2600, 1, 0x03, 0x03, .u32, .ro, 0, false⟩,
   ⟨0x2600, 1, 0x04, 0x04, .u32, .ro, 0, false⟩,
   ⟨0x2600, 1, 0x05, 0x05, .u32, .ro, 0, false⟩,
   ⟨0x2600, 1, 0x06, 0x06, .u32, .ro, 0, false⟩,
   ⟨0x2601, 1, 0x01, 0x01, .u8, .ro, 0, false⟩,
   ⟨0x2601, 1, 0x02, 0x02, .u8, .ro, 2, false⟩,
   ⟨0x2601, 1, 0x03, 0x03, .i16, .ro, 0, false⟩,
   ⟨0x2601, 1, 0x04, 0x04, .u16, .ro, 0, false⟩,
   ⟨0x2602, 1, 0x01, 0x01, .u64, .ro, 0, false⟩,
   ⟨0x2602, 1, 0x02, 0x02, .u32, .ro, 0, false⟩,
   ⟨0x2602, 1, 0x03, 0x03, .u32, .ro, 0, false⟩,
   ⟨0x2620, 32, 0x01, 0x01, .u8, .ro, 0xFF, false⟩,
   ⟨0x2620, 32, 0x02, 0x02, .u8, .ro, 0, false⟩,
   ⟨0x2620, 32, 0x03, 0x03, .u8, .rw, 0, false⟩,
   ⟨0x2620, 32, 0x04, 0x04, .u64, .rw, 0, false⟩,
   ⟨0x2620, 32, 0x05, 0x05, .u64, .rw, 0, false⟩,
   ⟨0x2620, 32, 0x06, 0x06, .u64, .ro, 0, false⟩,
   ⟨0x2620, 32, 0x07, 0x07, .u16, .rw, 0, false⟩,
   ⟨0x2620, 32, 0x08, 0x08, .u8, .rw, 0, true⟩,
   ⟨0x2620, 32, 0x09, 0x0B, .u16, .rw, 0, false⟩,
   ⟨0x2620, 32, 0x0C, 0x14, .i16, .rw, 0, true⟩,
   ⟨0x2620, 32, 0x15, 0x17, .i32, .rw, 0, true⟩,
   ⟨0x2620, 32, 0x18, 0x1A, .u16, .rw, 0, true⟩,
   ⟨0x2620, 32, 0x1B, 0x1D, .f32, .rw, 0, true⟩,
   ⟨0x2620, 32, 0x1E, 0x1E, .u8, .rw, 0, true⟩,
   ⟨0x2620, 32, 0x1F, 0x1F, .u8, .ro, 0, true⟩,
   ⟨0x2620, 32, 0x20, 0x20, .u64, .ro, 0, false⟩,
   ⟨0x2620, 32, 0x21, 0x21, .u64, .ro, 0, false⟩,
   ⟨0x2620, 32, 0x22, 0x22, .u16, .ro, 0, false⟩]

/-- Object table of 08_random_generators_and_sampling.md. -/
def objects08 : List ObjRow :=
  [⟨0x2603, 1, 0x01, 0x01, .u8, .ro, 0, false⟩,
   ⟨0x2603, 1, 0x02, 0x02, .u64, .ro, 0, false⟩,
   ⟨0x2603, 1, 0x03, 0x03, .u32, .ro, 0, false⟩,
   ⟨0x2603, 1, 0x04, 0x04, .u64, .ro, 0, false⟩,
   ⟨0x2603, 1, 0x05, 0x05, .u32, .ro, 0, false⟩,
   ⟨0x2604, 1, 0x01, 0x01, .u8, .const, 1, false⟩,
   ⟨0x2604, 1, 0x02, 0x02, .u8, .ro, 0, false⟩,
   ⟨0x2604, 1, 0x03, 0x03, .u64, .ro, 0, false⟩,
   ⟨0x2640, 16, 0x01, 0x01, .f32, .rw, 0, true⟩,
   ⟨0x2640, 16, 0x02, 0x02, .u16, .rw, 0, true⟩,
   ⟨0x2640, 16, 0x03, 0x03, .u8, .rw, 0, false⟩,
   ⟨0x2640, 16, 0x04, 0x04, .u8, .rw, 0, false⟩,
   ⟨0x2640, 16, 0x05, 0x05, .u64, .ro, 0, false⟩,
   ⟨0x2640, 16, 0x06, 0x06, .u32, .ro, 0, false⟩]

/-- Object table of 09_tensor_layout.md. -/
def objects09 : List ObjRow :=
  [⟨0x2710, 1, 0x01, 0x01, .u64, .ro, 0, false⟩,
   ⟨0x2710, 1, 0x02, 0x02, .u32, .ro, 0, false⟩,
   ⟨0x2710, 1, 0x03, 0x03, .u32, .ro, 0, false⟩,
   ⟨0x2710, 1, 0x04, 0x04, .u32, .ro, 0, false⟩,
   ⟨0x2710, 1, 0x05, 0x05, .u32, .ro, 0, false⟩,
   ⟨0x2710, 1, 0x06, 0x06, .u32, .ro, 0, false⟩,
   ⟨0x2710, 1, 0x07, 0x07, .u32, .ro, 0, false⟩,
   ⟨0x2710, 1, 0x08, 0x08, .u64, .ro, 0, false⟩,
   ⟨0x2710, 1, 0x09, 0x09, .u16, .ro, 0, false⟩,
   ⟨0x2710, 1, 0x0A, 0x0A, .u32, .ro, 0, false⟩,
   ⟨0x2710, 1, 0x0B, 0x0B, .u64, .ro, 0, false⟩,
   ⟨0x2710, 1, 0x0C, 0x0C, .u64, .ro, 0, false⟩,
   ⟨0x2710, 1, 0x0D, 0x0D, .u32, .ro, 0, false⟩,
   ⟨0x2710, 1, 0x0E, 0x0E, .u64, .ro, 0, false⟩,
   ⟨0x2710, 1, 0x0F, 0x0F, .u8, .const, 1, false⟩,
   ⟨0x2710, 1, 0x10, 0x10, .u8, .const, 6, false⟩]

/-- Object table of 10_transfers_and_translation.md. -/
def objects10 : List ObjRow :=
  [⟨0x2700, 1, 0x01, 0x01, .u64, .ro, 0, false⟩,
   ⟨0x2700, 1, 0x02, 0x02, .u64, .ro, 0, false⟩,
   ⟨0x2700, 1, 0x03, 0x03, .u32, .ro, 0, false⟩,
   ⟨0x2700, 1, 0x04, 0x04, .u32, .ro, 0, false⟩,
   ⟨0x2700, 1, 0x05, 0x05, .u32, .ro, 0, false⟩,
   ⟨0x2700, 1, 0x06, 0x06, .u32, .ro, 0, false⟩,
   ⟨0x2701, 1, 0x01, 0x01, .u16, .const, 0x200, false⟩,
   ⟨0x2701, 1, 0x02, 0x02, .u16, .const, 0x100, false⟩,
   ⟨0x2701, 1, 0x03, 0x03, .u16, .const, 0x100, false⟩,
   ⟨0x2701, 1, 0x04, 0x04, .u16, .const, 0xC00, false⟩,
   ⟨0x2701, 1, 0x05, 0x08, .u16, .ro, 0, false⟩,
   ⟨0x2702, 1, 0x01, 0x10, .u64, .rw, 0, false⟩,
   ⟨0x2703, 1, 0x01, 0x01, .u8, .rw, 0, false⟩,
   ⟨0x2703, 1, 0x02, 0x02, .u64, .rw, 0, false⟩,
   ⟨0x2703, 1, 0x03, 0x03, .u64, .rw, 0, false⟩,
   ⟨0x2703, 1, 0x04, 0x04, .u8, .rw, 0, false⟩,
   ⟨0x2703, 1, 0x05, 0x08, .u64, .ro, 0, false⟩,
   ⟨0x2703, 1, 0x09, 0x0C, .u64, .ro, 0, false⟩,
   ⟨0x2704, 1, 0x01, 0x01, .u32, .ro, 0, false⟩,
   ⟨0x2704, 1, 0x02, 0x02, .u8, .ro, 0, false⟩,
   ⟨0x2704, 1, 0x03, 0x03, .u32, .ro, 0, false⟩,
   ⟨0x2704, 1, 0x04, 0x04, .u32, .ro, 0, false⟩,
   ⟨0x2704, 1, 0x05, 0x05, (.dom 32), .ro, 0, false⟩,
   ⟨0x2704, 1, 0x06, 0x06, .u32, .wo, 0, false⟩,
   ⟨0x2705, 1, 0x01, 0x10, .u8, .rw, 0, false⟩]

/-- Object table of 11_compute_and_model_placement.md. -/
def objects11 : List ObjRow :=
  [⟨0x2800, 1, 0x01, 0x01, .u8, .const, 8, false⟩,
   ⟨0x2800, 1, 0x02, 0x02, .u8, .ro, 0xFF, false⟩,
   ⟨0x2800, 1, 0x04, 0x04, .u64, .ro, 0, false⟩,
   ⟨0x2800, 1, 0x05, 0x05, .u32, .ro, 0, false⟩,
   ⟨0x2800, 1, 0x06, 0x06, .u32, .ro, 0, false⟩,
   ⟨0x2800, 1, 0x07, 0x07, .u32, .ro, 0, false⟩,
   ⟨0x2800, 1, 0x08, 0x08, .u32, .ro, 0, false⟩,
   ⟨0x2801, 1, 0x01, 0x01, .u8, .wo, 0, false⟩,
   ⟨0x2801, 1, 0x02, 0x02, .u8, .ro, 0, false⟩,
   ⟨0x2801, 1, 0x03, 0x03, .u32, .ro, 0, false⟩,
   ⟨0x2801, 1, 0x04, 0x04, .u32, .ro, 0, false⟩,
   ⟨0x2802, 1, 0x01, 0x04, (.dom 32), .ro, 0, false⟩,
   ⟨0x2803, 1, 0x01, 0x01, .u16, .rw, 0, false⟩,
   ⟨0x2803, 1, 0x02, 0x02, .u16, .ro, 0, false⟩,
   ⟨0x2803, 1, 0x03, 0x03, .u16, .ro, 0, false⟩,
   ⟨0x2803, 1, 0x04, 0x04, .u16, .ro, 0, false⟩,
   ⟨0x2803, 1, 0x05, 0x05, .u64, .ro, 0, false⟩,
   ⟨0x2803, 1, 0x06, 0x06, .u32, .ro, 0, false⟩,
   ⟨0x2803, 1, 0x07, 0x08, .u16, .ro, 0, false⟩,
   ⟨0x2806, 1, 0x01, 0x01, .u8, .ro, 0, false⟩,
   ⟨0x2806, 1, 0x02, 0x02, .u8, .ro, 1, false⟩,
   ⟨0x2806, 1, 0x03, 0x03, .u16, .rw, 5, false⟩,
   ⟨0x2806, 1, 0x04, 0x04, .u32, .ro, 0, false⟩,
   ⟨0x2806, 1, 0x05, 0x05, .u32, .ro, 0, false⟩,
   ⟨0x2810, 16, 0x01, 0x01, .u64, .rw, 0, false⟩,
   ⟨0x2810, 16, 0x02, 0x02, .u16, .rw, 0x40, false⟩,
   ⟨0x2810, 16, 0x03, 0x03, .u8, .rw, 0, false⟩,
   ⟨0x2810, 16, 0x04, 0x04, .u8, .rw, 0, false⟩,
   ⟨0x2810, 16, 0x05, 0x05, .u8, .ro, 0, false⟩,
   ⟨0x2810, 16, 0x06, 0x06, .u16, .ro, 0, false⟩,
   ⟨0x2810, 16, 0x07, 0x07, .u64, .ro, 0, false⟩,
   ⟨0x2810, 16, 0x08, 0x08, .u32, .ro, 0, false⟩,
   ⟨0x2810, 16, 0x09, 0x09, .u8, .ro, 0, false⟩,
   ⟨0x2810, 16, 0x0A, 0x0A, .u64, .rw, 0, false⟩,
   ⟨0x2820, 16, 0x01, 0x01, .u8, .ro, 0, false⟩,
   ⟨0x2820, 16, 0x02, 0x02, .u32, .ro, 0, false⟩,
   ⟨0x2820, 16, 0x03, 0x03, .u32, .ro, 0, false⟩,
   ⟨0x2820, 16, 0x04, 0x04, (.dom 32), .ro, 0, false⟩,
   ⟨0x2820, 16, 0x05, 0x05, .u32, .ro, 0, false⟩,
   ⟨0x2820, 16, 0x06, 0x06, .u32, .ro, 0, false⟩]

/-- Object table of 11_compute_and_model_placement.md (continued). -/
def objects11b : List ObjRow :=
  [⟨0x2820, 16, 0x08, 0x08, .u8, .wo, 0, false⟩]

/-- Object table of 12_spindle_link.md. -/
def objects12 : List ObjRow :=
  [⟨0x2900, 1, 0x01, 0x01, .u8, .ro, 0, false⟩,
   ⟨0x2900, 1, 0x02, 0x02, .u8, .rw, 1, false⟩,
   ⟨0x2900, 1, 0x03, 0x03, .u8, .rw, 0, false⟩,
   ⟨0x2900, 1, 0x04, 0x04, .u8, .ro, 0, false⟩,
   ⟨0x2900, 1, 0x05, 0x05, .u8, .ro, 0, false⟩,
   ⟨0x2900, 1, 0x06, 0x06, .u16, .const, 0x3E8, false⟩,
   ⟨0x2900, 1, 0x07, 0x07, .u8, .const, 3, false⟩,
   ⟨0x2900, 1, 0x08, 0x08, .u16, .const, 0x9C4, false⟩,
   ⟨0x2901, 2, 0x01, 0x01, .u8, .ro, 0, false⟩,
   ⟨0x2901, 2, 0x02, 0x02, .u8, .ro, 0xFF, false⟩,
   ⟨0x2901, 2, 0x03, 0x03, .u16, .ro, 0, false⟩,
   ⟨0x2901, 2, 0x04, 0x05, .u64, .ro, 0, false⟩,
   ⟨0x2901, 2, 0x06, 0x06, .u32, .ro, 0, false⟩,
   ⟨0x2901, 2, 0x07, 0x07, .u32, .ro, 0, false⟩,
   ⟨0x2901, 2, 0x08, 0x08, .u32, .ro, 0, false⟩,
   ⟨0x2901, 2, 0x09, 0x09, .u32, .ro, 0, false⟩,
   ⟨0x2901, 2, 0x0A, 0x0A, .u32, .ro, 0, false⟩,
   ⟨0x2901, 2, 0x0B, 0x0B, .u8, .ro, 0xE4, false⟩,
   ⟨0x2901, 2, 0x0C, 0x0C, .u8, .ro, 0, false⟩,
   ⟨0x2901, 2, 0x0D, 0x0D, .u64, .ro, 0, false⟩,
   ⟨0x2903, 1, 0x01, 0x04, .u64, .rw, 0, false⟩,
   ⟨0x2903, 1, 0x05, 0x08, .u64, .rw, 0, false⟩,
   ⟨0x2903, 1, 0x09, 0x0C, .u8, .rw, 0, false⟩,
   ⟨0x2903, 1, 0x0D, 0x0D, .u32, .ro, 0, false⟩]

/-- Object table of 13_active_and_standby.md. -/
def objects13 : List ObjRow :=
  [⟨0x2910, 1, 0x01, 0x01, .u8, .rw, 0, false⟩,
   ⟨0x2910, 1, 0x02, 0x02, .u8, .ro, 0, false⟩,
   ⟨0x2910, 1, 0x03, 0x03, .u8, .rw, 0, false⟩,
   ⟨0x2910, 1, 0x04, 0x04, .u8, .ro, 1, false⟩,
   ⟨0x2910, 1, 0x05, 0x05, .u8, .wo, 0, false⟩,
   ⟨0x2910, 1, 0x06, 0x06, .u16, .rw, 0x7D0, false⟩,
   ⟨0x2910, 1, 0x07, 0x07, .u16, .rw, 0xA, false⟩,
   ⟨0x2910, 1, 0x08, 0x08, .u16, .rw, 0x3E8, false⟩,
   ⟨0x2910, 1, 0x09, 0x09, .u8, .rw, 0, false⟩,
   ⟨0x2910, 1, 0x0A, 0x0A, .u8, .ro, 0, false⟩,
   ⟨0x2910, 1, 0x0B, 0x0B, .u16, .const, 0x7D0, false⟩,
   ⟨0x2911, 1, 0x01, 0x01, .u32, .ro, 0, false⟩,
   ⟨0x2911, 1, 0x02, 0x02, .u32, .ro, 0, false⟩,
   ⟨0x2911, 1, 0x03, 0x03, .u16, .const, 0x1000, false⟩,
   ⟨0x2911, 1, 0x04, 0x04, .u16, .ro, 0, false⟩,
   ⟨0x2911, 1, 0x05, 0x05, .u64, .ro, 0, false⟩,
   ⟨0x2911, 1, 0x06, 0x06, .u32, .ro, 0, false⟩,
   ⟨0x2911, 1, 0x07, 0x07, .u32, .ro, 0, false⟩,
   ⟨0x2911, 1, 0x08, 0x08, .u32, .ro, 0, false⟩,
   ⟨0x2911, 1, 0x09, 0x09, .u32, .ro, 0, false⟩,
   ⟨0x2911, 1, 0x0A, 0x0A, .u32, .ro, 0, false⟩,
   ⟨0x2911, 1, 0x0B, 0x0B, .u16, .ro, 0, false⟩,
   ⟨0x2911, 1, 0x0C, 0x0C, .u32, .ro, 0, false⟩,
   ⟨0x2911, 1, 0x0D, 0x0D, .u32, .ro, 0, false⟩,
   ⟨0x2912, 1, 0x01, 0x01, .u32, .ro, 0, false⟩,
   ⟨0x2912, 1, 0x02, 0x02, .u64, .ro, 0, false⟩,
   ⟨0x2912, 1, 0x03, 0x03, .u32, .ro, 0, false⟩,
   ⟨0x2912, 1, 0x04, 0x04, .u32, .ro, 0, false⟩,
   ⟨0x2912, 1, 0x05, 0x05, .u8, .ro, 0, false⟩,
   ⟨0x2912, 1, 0x06, 0x06, .u64, .ro, 0, false⟩,
   ⟨0x2912, 1, 0x07, 0x07, .u32, .ro, 0, false⟩,
   ⟨0x2912, 1, 0x08, 0x08, .u32, .ro, 0, false⟩,
   ⟨0x2912, 1, 0x09, 0x09, .u8, .ro, 0, false⟩,
   ⟨0x2912, 1, 0x0A, 0x0A, .u32, .ro, 0, false⟩]

/-- Object table of 14_field_network_and_discovery.md. -/
def objects14 : List ObjRow :=
  [⟨0x2E01, 2, 0x01, 0x01, .u8, .rw, 0, false⟩,
   ⟨0x2E01, 2, 0x02, 0x02, .u8, .ro, 0, false⟩,
   ⟨0x2E01, 2, 0x03, 0x03, .u8, .rw, 0xFF, false⟩,
   ⟨0x2E01, 2, 0x04, 0x04, .u8, .ro, 0xFF, false⟩,
   ⟨0x2E01, 2, 0x05, 0x05, .u32, .rw, 0x7A120, false⟩,
   ⟨0x2E01, 2, 0x06, 0x06, .u32, .rw, 0x1E8480, false⟩,
   ⟨0x2E01, 2, 0x07, 0x07, .u8, .ro, 0, false⟩,
   ⟨0x2E01, 2, 0x08, 0x08, .u16, .ro, 0, false⟩,
   ⟨0x2E01, 2, 0x09, 0x09, .u16, .ro, 0xFFFF, false⟩,
   ⟨0x2E01, 2, 0x0A, 0x0A, .u16, .rw, 0x64, false⟩,
   ⟨0x2E01, 2, 0x0B, 0x0B, .u8, .wo, 0, false⟩,
   ⟨0x2E01, 2, 0x0C, 0x0C, .u32, .ro, 0, false⟩,
   ⟨0x2E01, 2, 0x0D, 0x0D, .u32, .ro, 0, false⟩,
   ⟨0x2E03, 1, 0x01, 0x01, .u16, .rw, 0, false⟩,
   ⟨0x2E03, 1, 0x02, 0x02, .u32, .ro, 0, false⟩,
   ⟨0x2E03, 1, 0x03, 0x03, .u32, .ro, 0, false⟩,
   ⟨0x2E04, 1, 0x01, 0x01, .u8, .ro, 0, false⟩,
   ⟨0x2E04, 1, 0x04, 0x04, .u16, .rw, 0x64, false⟩,
   ⟨0x2E04, 1, 0x05, 0x05, .u16, .rw, 0xA, false⟩,
   ⟨0x2E04, 1, 0x06, 0x06, .u16, .rw, 0x3C, false⟩,
   ⟨0x2E04, 1, 0x07, 0x07, .u16, .rw, 0x1F40, false⟩,
   ⟨0x2E04, 1, 0x08, 0x08, .u8, .ro, 0, false⟩,
   ⟨0x2E04, 1, 0x09, 0x09, .u32, .ro, 0, false⟩,
   ⟨0x2E05, 1, 0x01, 0x01, .u8, .rw, 0, false⟩,
   ⟨0x2E05, 1, 0x02, 0x06, .u32, .ro, 0, false⟩,
   ⟨0x2E06, 1, 0x01, 0x01, .u8, .rw, 0xFF, false⟩,
   ⟨0x2E06, 1, 0x02, 0x02, .u8, .rw, 8, false⟩,
   ⟨0x2E06, 1, 0x03, 0x03, .u8, .rw, 0x20, false⟩,
   ⟨0x2E06, 1, 0x04, 0x04, .u8, .rw, 0, false⟩,
   ⟨0x2E06, 1, 0x05, 0x05, .u8, .rw, 0x80, false⟩,
   ⟨0x2E06, 1, 0x06, 0x06, .u8, .ro, 0, false⟩,
   ⟨0x2E06, 1, 0x07, 0x07, .u32, .ro, 0, false⟩,
   ⟨0x2E06, 1, 0x08, 0x08, .u8, .ro, 0xFF, false⟩,
   ⟨0x2E06, 1, 0x09, 0x09, .u8, .ro, 0, false⟩,
   ⟨0x2E06, 1, 0x0A, 0x0A, .u32, .ro, 0, false⟩,
   ⟨0x2E07, 1, 0x01, 0x03, .u32, .rw, 0, false⟩,
   ⟨0x2E07, 1, 0x04, 0x06, .u32, .rw, 0, false⟩,
   ⟨0x2E07, 1, 0x07, 0x09, .u32, .rw, 0, false⟩,
   ⟨0x2E07, 1, 0x0A, 0x0C, .u64, .ro, 0, false⟩,
   ⟨0x2E07, 1, 0x0D, 0x0D, .u32, .ro, 0, false⟩]

/-- Object table of 14_field_network_and_discovery.md (continued). -/
def objects14b : List ObjRow :=
  [⟨0x2E08, 1, 0x01, 0x01, .u8, .rw, 0, false⟩,
   ⟨0x2E08, 1, 0x02, 0x02, .u8, .rw, 0, false⟩,
   ⟨0x2E08, 1, 0x03, 0x03, .u8, .ro, 0, false⟩,
   ⟨0x2E08, 1, 0x04, 0x04, .u64, .ro, 0, false⟩,
   ⟨0x2E08, 1, 0x05, 0x05, .u32, .ro, 0, false⟩,
   ⟨0x2E08, 1, 0x06, 0x06, .u32, .ro, 0, false⟩,
   ⟨0x2E08, 1, 0x07, 0x07, .u32, .ro, 0, false⟩,
   ⟨0x2E09, 1, 0x01, 0x01, .u32, .rw, 0, false⟩,
   ⟨0x2E09, 1, 0x02, 0x02, .u16, .rw, 0, false⟩,
   ⟨0x2E09, 1, 0x03, 0x03, .u16, .rw, 0xC000, false⟩,
   ⟨0x2E09, 1, 0x04, 0x04, .u64, .ro, 0, false⟩,
   ⟨0x2E0A, 1, 0x01, 0x10, .u8, .ro, 0, false⟩,
   ⟨0x2E10, 1, 0x01, 0x04, .u8, .rw, 0, false⟩,
   ⟨0x2E11, 1, 0x01, 0x08, .u8, .rw, 0, false⟩,
   ⟨0x2E40, 1, 0x01, 0x80, .u32, .rw, 0, false⟩,
   ⟨0x2E41, 1, 0x01, 0x80, .u32, .rw, 0, false⟩,
   ⟨0x2E42, 1, 0x01, 0x01, .u16, .rw, 0x64, false⟩,
   ⟨0x2E42, 1, 0x02, 0x02, .u32, .ro, 0, false⟩]

/-- Object table of 15_object_dictionary.md. -/
def objects15 : List ObjRow :=
  [⟨0x2000, 1, 0x01, 0x01, .str, .const, 0, false⟩,
   ⟨0x2000, 1, 0x02, 0x02, .u16, .const, 0x4201, false⟩,
   ⟨0x2000, 1, 0x03, 0x03, .u8, .const, 0, false⟩,
   ⟨0x2000, 1, 0x04, 0x04, .u64, .const, 0, false⟩,
   ⟨0x2000, 1, 0x05, 0x05, .u32, .ro, 0, false⟩,
   ⟨0x2000, 1, 0x06, 0x06, .u8, .ro, 0, false⟩,
   ⟨0x2000, 1, 0x07, 0x07, .u32, .const, 0, false⟩,
   ⟨0x2000, 1, 0x08, 0x08, .u16, .const, 1, false⟩,
   ⟨0x2001, 1, 0x01, 0x01, .u16, .ro, 0, false⟩,
   ⟨0x2001, 1, 0x02, 0x02, .u32, .ro, 0, false⟩,
   ⟨0x2001, 1, 0x03, 0x03, .u16, .rw, 0x3E8, false⟩,
   ⟨0x2001, 1, 0x04, 0x04, .u32, .ro, 0, false⟩,
   ⟨0x2002, 1, 0x01, 0x04, .u64, .ro, 0, false⟩,
   ⟨0x2002, 1, 0x05, 0x08, .u32, .ro, 0, false⟩,
   ⟨0x2002, 1, 0x09, 0x0C, .u32, .ro, 0, false⟩,
   ⟨0x2002, 1, 0x0D, 0x0D, .u32, .ro, 0, false⟩,
   ⟨0x2002, 1, 0x0E, 0x0E, .u32, .ro, 0, false⟩,
   ⟨0x2002, 1, 0x0F, 0x0F, .u32, .ro, 0, false⟩,
   ⟨0x2003, 1, 0x01, 0x01, .u8, .rw, 0, false⟩,
   ⟨0x2003, 1, 0x02, 0x02, .u16, .rw, 0, false⟩,
   ⟨0x2003, 1, 0x03, 0x06, .u32, .rw, 0, false⟩,
   ⟨0x2003, 1, 0x07, 0x07, .u32, .ro, 0, false⟩,
   ⟨0x2003, 1, 0x08, 0x08, .u32, .ro, 0, false⟩,
   ⟨0x2004, 1, 0x01, 0x01, .u8, .ro, 0, false⟩,
   ⟨0x2004, 1, 0x02, 0x02, .u32, .ro, 0, false⟩,
   ⟨0x2004, 1, 0x03, 0x03, .u32, .ro, 0, false⟩,
   ⟨0x2004, 1, 0x04, 0x04, .u32, .ro, 0, false⟩,
   ⟨0x1010, 1, 0x01, 0x03, .u32, .rw, 1, false⟩,
   ⟨0x1011, 1, 0x01, 0x03, .u32, .rw, 1, false⟩]

/-- Object table of 16_power_modes_and_wake.md. -/
def objects16 : List ObjRow :=
  [⟨0x2A00, 1, 0x01, 0x01, .u8, .rw, 0, false⟩,
   ⟨0x2A00, 1, 0x02, 0x02, .u8, .ro, 0, false⟩,
   ⟨0x2A00, 1, 0x03, 0x03, .u8, .wo, 0, false⟩,
   ⟨0x2A00, 1, 0x04, 0x04, .u8, .ro, 0, false⟩,
   ⟨0x2A00, 1, 0x05, 0x05, .u32, .ro, 0, false⟩,
   ⟨0x2A00, 1, 0x06, 0x06, .u8, .ro, 0xFF, false⟩,
   ⟨0x2A00, 1, 0x07, 0x07, .u32, .ro, 0, false⟩,
   ⟨0x2A01, 1, 0x01, 0x01, .u8, .rw, 0xF, false⟩,
   ⟨0x2A01, 1, 0x02, 0x02, .u64, .rw, 0, false⟩,
   ⟨0x2A01, 1, 0x03, 0x03, .u64, .rw, 0, false⟩,
   ⟨0x2A01, 1, 0x04, 0x07, .u16, .rw, 0, false⟩,
   ⟨0x2A02, 1, 0x01, 0x01, .u32, .rw, 0x80000000, false⟩,
   ⟨0x2A03, 1, 0x01, 0x01, .u8, .ro, 0, false⟩,
   ⟨0x2A03, 1, 0x02, 0x02, .i16, .ro, 0, false⟩,
   ⟨0x2A03, 1, 0x03, 0x03, .u32, .ro, 0, false⟩,
   ⟨0x2A10, 1, 0x01, 0x01, .u8, .rw, 0xFF, false⟩,
   ⟨0x2A10, 1, 0x02, 0x02, .u16, .ro, 0, false⟩,
   ⟨0x2A10, 1, 0x03, 0x03, .u16, .rw, 0x4000, false⟩,
   ⟨0x2A10, 1, 0x04, 0x04, .u16, .rw, 0xC000, false⟩,
   ⟨0x2A10, 1, 0x05, 0x05, .u16, .const, 0x640, false⟩,
   ⟨0x2A10, 1, 0x06, 0x06, .u8, .rw, 0, false⟩,
   ⟨0x2A10, 1, 0x07, 0x07, .u32, .ro, 0, false⟩,
   ⟨0x2A10, 1, 0x08, 0x09, .u32, .ro, 0, false⟩,
   ⟨0x2A10, 1, 0x0A, 0x0A, .u32, .ro, 0, false⟩,
   ⟨0x2A10, 1, 0x0B, 0x0B, (.dom 16), .ro, 0, false⟩,
   ⟨0x2A10, 1, 0x0C, 0x0C, .u16, .const, 0xA00, false⟩]

/-- Object table of 17_health_evidence_and_lifetime.md. -/
def objects17 : List ObjRow :=
  [⟨0x2B00, 1, 0x01, 0x01, .u8, .const, 0x30, false⟩,
   ⟨0x2B00, 1, 0x02, 0x02, .u32, .ro, 0, false⟩,
   ⟨0x2B10, 48, 0x01, 0x02, .u16, .rw, 0, false⟩,
   ⟨0x2B10, 48, 0x03, 0x03, .u8, .rw, 0, false⟩,
   ⟨0x2B10, 48, 0x04, 0x04, .i32, .rw, 0, false⟩,
   ⟨0x2B10, 48, 0x05, 0x05, .u32, .rw, 1, false⟩,
   ⟨0x2B10, 48, 0x06, 0x06, .u64, .ro, 0, false⟩,
   ⟨0x2B10, 48, 0x07, 0x07, .i32, .ro, 0x7FFFFFFF, false⟩,
   ⟨0x2B10, 48, 0x08, 0x08, .i32, .ro, 0x80000000, false⟩,
   ⟨0x2B10, 48, 0x09, 0x09, .i32, .ro, 0, false⟩,
   ⟨0x2B10, 48, 0x0A, 0x0A, .u8, .wo, 0, false⟩,
   ⟨0x2B10, 48, 0x0B, 0x0B, .i32, .rw, 0x7FFFFFFF, false⟩,
   ⟨0x2B10, 48, 0x0C, 0x0C, .u64, .ro, 0, false⟩,
   ⟨0x2B10, 48, 0x0D, 0x0E, .i32, .ro, 0, false⟩,
   ⟨0x2B10, 48, 0x0F, 0x0F, (.dom 256), .ro, 0, false⟩,
   ⟨0x2B10, 48, 0x10, 0x10, .u64, .ro, 0, false⟩,
   ⟨0x2C00, 1, 0x01, 0x01, .u16, .rw, 0, false⟩,
   ⟨0x2C00, 1, 0x02, 0x02, .u64, .ro, 0, false⟩,
   ⟨0x2C00, 1, 0x03, 0x03, .u16, .ro, 0, false⟩,
   ⟨0x2C00, 1, 0x04, 0x04, .u32, .ro, 0, false⟩,
   ⟨0x2C00, 1, 0x05, 0x05, .u32, .ro, 0, false⟩,
   ⟨0x2C00, 1, 0x06, 0x06, .u32, .ro, 0, false⟩,
   ⟨0x2C00, 1, 0x07, 0x07, .u32, .ro, 0, false⟩,
   ⟨0x2C00, 1, 0x08, 0x08, .u32, .ro, 0, false⟩,
   ⟨0x2C00, 1, 0x09, 0x09, .u16, .ro, 0, false⟩,
   ⟨0x2C01, 1, 0x01, 0x01, .u8, .wo, 0, false⟩,
   ⟨0x2C01, 1, 0x02, 0x02, .u8, .ro, 0, false⟩,
   ⟨0x2C01, 1, 0x03, 0x03, .u16, .rw, 0x258, false⟩,
   ⟨0x2C01, 1, 0x04, 0x04, .u64, .ro, 0, false⟩,
   ⟨0x2C02, 1, 0x01, 0x01, .u32, .rw, 0, false⟩,
   ⟨0x2C02, 1, 0x02, 0x02, (.dom 64), .ro, 0, false⟩,
   ⟨0x2C02, 1, 0x03, 0x04, .u32, .ro, 0, false⟩,
   ⟨0x2C02, 1, 0x05, 0x05, .u16, .ro, 0, false⟩,
   ⟨0x2C02, 1, 0x06, 0x06, .u32, .ro, 0, false⟩,
   ⟨0x2C10, 1, 0x01, 0x01, .u32, .const, 0x7F00000, false⟩,
   ⟨0x2C10, 1, 0x02, 0x02, .u32, .ro, 0, false⟩,
   ⟨0x2C10, 1, 0x03, 0x03, .u64, .ro, 0, false⟩,
   ⟨0x2C10, 1, 0x04, 0x04, .u32, .rw, 0, false⟩,
   ⟨0x2C10, 1, 0x05, 0x05, (.dom 64), .ro, 0, false⟩,
   ⟨0x2D01, 4, 0x01, 0x01, .u32, .const, 0x2710, false⟩]

/-- Object table of 17_health_evidence_and_lifetime.md (continued). -/
def objects17b : List ObjRow :=
  [⟨0x2D05, 1, 0x01, 0x01, .u32, .const, 0x186A0, false⟩,
   ⟨0x2D01, 4, 0x02, 0x02, .u32, .const, 0x3E8, false⟩,
   ⟨0x2D05, 1, 0x02, 0x02, .u32, .const, 0x2710, false⟩,
   ⟨0x2D01, 5, 0x03, 0x03, .u8, .ro, 0, false⟩,
   ⟨0x2D01, 5, 0x04, 0x04, .u32, .ro, 0, false⟩,
   ⟨0x2D01, 5, 0x05, 0x05, .u32, .ro, 0, false⟩,
   ⟨0x2D01, 5, 0x06, 0x07, .u64, .ro, 0, false⟩,
   ⟨0x2D01, 5, 0x08, 0x08, .u8, .ro, 0, false⟩,
   ⟨0x2D06, 1, 0x01, 0x01, .u32, .ro, 0, false⟩,
   ⟨0x2D10, 1, 0x01, 0x01, .u64, .ro, 0, false⟩,
   ⟨0x2D10, 1, 0x02, 0x02, .u32, .ro, 0, false⟩,
   ⟨0x2D10, 1, 0x03, 0x03, .u64, .ro, 0, false⟩,
   ⟨0x2D10, 1, 0x04, 0x04, .u32, .ro, 0, false⟩,
   ⟨0x2D10, 1, 0x05, 0x05, .u32, .ro, 0, false⟩,
   ⟨0x2D10, 1, 0x06, 0x06, .u32, .ro, 0, false⟩,
   ⟨0x2D10, 1, 0x07, 0x07, .u32, .ro, 0, false⟩,
   ⟨0x2D10, 1, 0x08, 0x08, .u64, .ro, 0, false⟩,
   ⟨0x2D10, 1, 0x09, 0x09, .u64, .ro, 0, false⟩,
   ⟨0x2D11, 1, 0x01, 0x01, .u16, .rw, 0, false⟩,
   ⟨0x2D11, 1, 0x02, 0x02, .u32, .ro, 0, false⟩,
   ⟨0x2D40, 1, 0x01, 0x02, .u32, .ro, 0, false⟩,
   ⟨0x2D40, 1, 0x03, 0x04, .u32, .ro, 0, false⟩]

/-- Object table of 18_startup_and_retained_state.md. -/
def objects18 : List ObjRow :=
  [⟨0x2F00, 1, 0x01, 0x01, .u8, .ro, 0, false⟩,
   ⟨0x2F00, 1, 0x02, 0x02, .u8, .ro, 0, false⟩,
   ⟨0x2F00, 1, 0x03, 0x03, .u16, .ro, 0, false⟩,
   ⟨0x2F00, 1, 0x04, 0x04, .u16, .ro, 0, false⟩,
   ⟨0x2F01, 1, 0x01, 0x01, .u8, .ro, 0, false⟩,
   ⟨0x2F01, 1, 0x02, 0x02, .u8, .ro, 0, false⟩,
   ⟨0x2F01, 1, 0x03, 0x03, .u8, .ro, 0, false⟩,
   ⟨0x2F01, 1, 0x04, 0x04, .u8, .rw, 0, false⟩,
   ⟨0x2F01, 1, 0x05, 0x05, .u8, .wo, 0, false⟩,
   ⟨0x2F01, 1, 0x06, 0x06, .u32, .ro, 0, false⟩,
   ⟨0x2F01, 1, 0x07, 0x07, .u16, .ro, 0, false⟩,
   ⟨0x2F02, 1, 0x01, 0x01, .u32, .rw, 0, false⟩,
   ⟨0x2F02, 1, 0x02, 0x02, (.dom 256), .wo, 0, false⟩,
   ⟨0x2F02, 1, 0x03, 0x03, .u8, .wo, 0, false⟩,
   ⟨0x2F02, 1, 0x04, 0x04, .u8, .ro, 0, false⟩,
   ⟨0x2F03, 1, 0x01, 0x01, .u8, .rw, 1, false⟩,
   ⟨0x2F03, 1, 0x02, 0x02, .u8, .ro, 0, false⟩,
   ⟨0x2F03, 1, 0x03, 0x03, .u32, .ro, 0, false⟩,
   ⟨0x2F04, 1, 0x01, 0x01, .u8, .ro, 0, false⟩,
   ⟨0x2F04, 1, 0x02, 0x03, .u32, .ro, 0, false⟩,
   ⟨0x2F04, 1, 0x04, 0x04, .u32, .ro, 0, false⟩,
   ⟨0x2F04, 1, 0x05, 0x05, .u8, .ro, 0, false⟩,
   ⟨0x2F05, 1, 0x01, 0x01, .u8, .ro, 1, false⟩,
   ⟨0x2F05, 1, 0x02, 0x02, .u16, .rw, 0, false⟩,
   ⟨0x2F05, 1, 0x03, 0x03, .u32, .ro, 0, false⟩,
   ⟨0x2F06, 1, 0x01, 0x01, .u8, .ro, 0, false⟩,
   ⟨0x2F06, 1, 0x03, 0x03, .u64, .ro, 0, false⟩,
   ⟨0x2F06, 1, 0x04, 0x04, .u32, .const, 0x14216A6B, false⟩,
   ⟨0x2F06, 1, 0x05, 0x05, .u8, .wo, 0, false⟩,
   ⟨0x2F20, 1, 0x01, 0x01, .u8, .rw, 0, false⟩,
   ⟨0x2F20, 1, 0x02, 0x02, .u8, .ro, 0, false⟩,
   ⟨0x2F20, 1, 0x03, 0x03, .u32, .ro, 0, false⟩,
   ⟨0x2F20, 1, 0x04, 0x04, .u8, .ro, 0, false⟩,
   ⟨0x2F30, 1, 0x01, 0x01, (.dom 136), .wo, 0, false⟩,
   ⟨0x2F30, 1, 0x02, 0x03, .u32, .ro, 0, false⟩]

/-- Object table of 19_electrical_and_package.md. -/
def objects19 : List ObjRow :=
  [⟨0x2A08, 1, 0x01, 0x08, .i16, .ro, 0, false⟩,
   ⟨0x2A08, 1, 0x09, 0x11, .u16, .ro, 0, false⟩,
   ⟨0x2A08, 1, 0x12, 0x12, .u16, .ro, 0, false⟩,
   ⟨0x2A08, 1, 0x13, 0x13, .u8, .ro, 0, false⟩]

/-- The rows whose indices have a given high byte. -/
def rowsOf (hi : Nat) : List ObjRow :=
  match hi with
  | 0x20 => objects15
  | 0x21 => objects03
  | 0x22 => objects01
  | 0x23 => objects02
  | 0x24 => objects04
  | 0x25 => objects05 ++ objects06
  | 0x26 => objects07 ++ objects08
  | 0x27 => objects09 ++ objects10
  | 0x28 => objects11 ++ objects11b
  | 0x29 => objects12 ++ objects13
  | 0x2A => objects16 ++ objects19
  | 0x2B => objects17
  | 0x2C => objects17
  | 0x2D => objects17 ++ objects17b
  | 0x2E => objects14 ++ objects14b
  | 0x2F => objects18
  | _ => objectsComm ++ objects15

/-- Every row, by high byte of the index. -/
def objectRows : List ObjRow :=
  objectsComm ++ objects15 ++ objects03 ++ objects01 ++ objects02 ++ objects04 ++ rowsOf 0x25 ++ rowsOf 0x26 ++
  rowsOf 0x27 ++ rowsOf 0x28 ++ rowsOf 0x29 ++ rowsOf 0x2A ++ rowsOf 0x2D ++ rowsOf 0x2E ++ objects18

/-- A row covers a key. -/
def ObjRow.covers (r : ObjRow) (k : Nat) : Bool :=
  let i := k / 256
  let s := k % 256
  decide (r.idx ≤ i) && decide (i < r.idx + r.count) && decide (r.lo ≤ s) && decide (s ≤ r.hi)

/-- The row of a key. -/
def objectRow (k : Nat) : Option ObjRow := (rowsOf (k / 65536)).find? (·.covers k)

/-- The default of a key (R459). -/
def objectDefault (k : Nat) : Nat :=
  match objectRow k with
  | some r => r.dflt
  | none => 0

/-- An index is implemented (R461). -/
def indexExists (i : Nat) : Bool := (rowsOf (i / 256)).any fun r => decide (r.idx ≤ i) && decide (i < r.idx + r.count)

/-- The highest subindex an index implements (R457). -/
def highestSub (i : Nat) : Nat :=
  (rowsOf (i / 256)).foldl (fun m r => if r.idx ≤ i ∧ i < r.idx + r.count then max m r.hi else m) 0

/-- The value field of a type as wide as its size; 64 bits at most. -/
def ObjType.width (t : ObjType) : Nat := if t.numeric then 8 * t.size else 64

/-- The objects that are excluded from every stored range (R462), and the two commands 0x1010 and 0x1011, whose reads are
fixed (R481, R482; notes/assumptions/20.md). -/
def neverStored (k : Nat) : Bool :=
  [0x280301, 0x2C0201, 0x2C1004, 0x2D1101, 0x2E0501, 0x2F0201].contains k ||
  (decide (0x270000 ≤ k) && decide (k < 0x271100)) ||
  (decide (0x2100 ≤ k / 256) && decide (k / 256 ≤ 0x210F) && k % 256 == 0x1A) ||
  k / 256 == 0x1010 || k / 256 == 0x1011

/-- An index lies in the communication set of 0x1010.02 (Table: Dictionary map). -/
def inCommunication (i : Nat) : Bool :=
  (decide (0x1000 ≤ i) && decide (i ≤ 0x1FFF)) || (decide (0x2E00 ≤ i) && decide (i ≤ 0x2EFF))

/-- An object is stored (R461, R462). -/
def isStored (k : Nat) : Bool :=
  match objectRow k with
  | some r => r.access == .rw && !neverStored k
  | none => false

/-- The network identity objects (R435). -/
def isIdentity (k : Nat) : Bool :=
  (decide (0x2E0103 ≤ k) && decide (k ≤ 0x2E0106)) || (decide (0x2E0203 ≤ k) && decide (k ≤ 0x2E0206)) ||
  (decide (0x2E0601 ≤ k) && decide (k ≤ 0x2E0605)) || k / 256 == 0x2E07

/-- A write to the object is journalled (R393, Table: Dictionary map). -/
def isJournalled (k : Nat) : Bool :=
  let i := k / 256
  (match objectRow k with
   | some r => r.access == .rw || r.access == .wo
   | none => false) &&
  decide (0x2000 ≤ i) && decide (i ≤ 0x2FFF) &&
  !(decide (0x2205 ≤ i) && decide (i ≤ 0x2207)) &&
  !(decide (0x2700 ≤ i) && decide (i ≤ 0x27FF)) &&
  !(decide (0x2820 ≤ i) && decide (i ≤ 0x282F) && k % 256 == 0x08) &&
  !(decide (0x2900 ≤ i) && decide (i ≤ 0x29FF)) &&
  !isIdentity k &&
  !(decide (0x2000 ≤ i) && decide (i ≤ 0x2004) && k != 0x200103 && i != 0x2003)

end Sys2Proof.Machine
end

