-- ==== Sys2Proof/Config.lean ====
section
/-! DEFINITION. What an implementation fixes and the free values: opaque constants, so that no proof can see a value
(notes/assumptions/6.md, 7.md, 10.md). -/
namespace Sys2Proof.Config

/-- A free value: drawn with a tag that names its use and the state's counter `free`. -/
opaque freeValue : (tag : Nat) → (n : Nat) → Nat

/-- The servo's total frequency correction in 0.001 ppm after a measurement, before its limit of ±500 ppm (R45). -/
opaque servo : (n : Nat) → (offset : Int) → Int

/-- The Gumbel table of R231: 1,024 FP16 values. -/
opaque gumbel : BitVec 10 → BitVec 16

/-- One step of a noise lane: the lane word it yields and its next state (R227). -/
opaque laneStep : BitVec 128 → BitVec 32 × BitVec 128

/-- The minimum valid value of a lane component and the constant that replaces a smaller one (R227). -/
opaque laneMinimum : Fin 4 → Nat
/-- See `laneMinimum`. -/
opaque laneConstant : Fin 4 → BitVec 32

/-- Ed25519 verification (R331, R564, R580, R581): public key, message, signature. -/
opaque ed25519 : Nat → List Byte → List Byte → Bool

/-- What the boot ROM reads from the pages of a firmware bank: `none` when it does not verify (R564). -/
opaque firmware : List (Nat × List Byte) → Option (Nat × Nat × Nat × Bool)

/-- The device serial (R463), the order code's fuse (R464), the ROM version and the MAC addresses. -/
opaque serial : BitVec 64
/-- 0 for OZW-4216-IA, 1 for OZW-4216-XA (R464). -/
opaque grade : Fin 2
/-- 0x2000.07. -/
opaque romVersion : BitVec 32
/-- 0x2E07.0A–.0C. -/
opaque macAddress : Fin 3 → BitVec 48

/-- The unlock nonces, in order (R580). -/
opaque nonce : Nat → BitVec 64

/-- The additional information of an event's entry in 0x1003 (R426). -/
opaque errorInfo : (code : Nat) → Nat

/-- The LPDDR5 training parameters in force (R571), as they stand in a body. -/
opaque training : List Byte

end Sys2Proof.Config
end

