-- ==== Sys2Proof/Machine/State.lean ====
section
/-! DEFINITION. The state of the block: plain data, one structure for each block of the chip.
Objects of the dictionary that are no field here are held in `od` under the key index × 256 + subindex;
an absent key reads as the default of its object table (Objects.lean). Defaults of the fields are the
reset values; those the spec does not state are named in notes/assumptions/4.md. -/
namespace Sys2Proof.Machine

/-- The one way the model stops: safe, since the machine itself may go on. -/
inductive Fault where
  /-- A physical access to an address at which the spec puts no memory (R329, R507, R562). Raised by the remote accesses
  WRITE, ACCUM and READ_REQ, by chunk moves and by walks; safe. -/
  | noSuchMemory (addr : Nat)
deriving DecidableEq, Repr

/-- A command without a meaning. -/
inductive Refusal where
  /-- Raised only by an arm of `exec` whose command has no meaning yet; safe. -/
  | notModelled (mnemonic : String)
deriving DecidableEq, Repr

/-- Time base states (R44). -/
inductive BaseState where
  | locked | holdover | freeRun
deriving DecidableEq, Repr

/-- Tick states (R58). -/
inductive TickState where
  | locked | holdover | freeRun | acquire
deriving DecidableEq, Repr

/-- Tick sources (R52). -/
inductive TickSource where
  | internal | tickIn | ptpDerived
deriving DecidableEq, Repr

/-- A timestamp's fields (R42); `step` numbers the steps of the device's life, its low 4 bits are the step epoch. -/
structure Stamp where
  dev      : Nat
  tick     : Nat
  base     : BaseState
  stepped  : Bool
  calendar : Bool
  tickState : TickState
  tickSource : TickSource
  timeSource : Nat
  step     : Nat
deriving DecidableEq, Repr

/-- A unit metadata record (R95); `carried` is the exact bound m / 2^k that the record's EBOUND rounds up (R214). -/
structure UnitMeta where
  stamp  : Stamp
  useq   : Nat
  stream : Nat
  job    : Nat := 0xFFFF
  tick   : Nat
  status : Nat := 0
  lost   : Nat := 0
  hostTime : Option Nat := none
  damage : Bool := false
  ndeg   : Bool := false
  exact  : Bool := true
  mean   : Int := 0
  sindex : Nat := 0
  ebound : Nat := 0
  dinfo  : Nat := 0
  carried : Nat × Nat := (0, 0)
deriving DecidableEq, Repr

/-! ### Time base, calendar, PTP (R42–R51, R448, R449) -/

/-- A step that waits for its edge (R46, R47): an amount, and whether its source sets the second, or a written time. -/
inductive PendingStep where
  | amount (d : Int) (sets : Bool)
  | target (v : Nat)
deriving DecidableEq, Repr

/-- The time base and its servo, the calendar and the RTC. `epoch` numbers the steps since power-on; its low 4 bits are the
step epoch. `source` is the adopted 0x2300.02, `actual` 0x2300.03; `ptpOff` is the last PTP offset and `lastPps` the
device time of the whole second of the last PPS_IN edge that was not ignored. -/
structure TimeSt where
  dev      : Nat := 0
  rem      : Int := 0
  state    : BaseState := .freeRun
  source   : Nat := 0
  actual   : Nat := 0
  offset   : Int := 0
  freq     : Int := 0
  steps    : Nat := 0
  epoch    : Nat := 0
  lastStep : Int := 0
  history  : List Int := []
  pending  : Option PendingStep := none
  stepped  : Bool := false
  runIn    : Nat := 0
  runOut   : Nat := 0
  runStep  : Nat := 0
  lastMeas : Nat := 0
  taiKnown : Bool := false
  ptpOff   : Int := 0
  lastPps  : Int := 0
  holdoverAt : Nat := 0
  calendar : Bool := false
  utc      : Int := 37
  origin   : Nat := 0
  leapAdj  : Int := 0
  leapPending : Int := 0
  masterUtc : Option Int := none
  rtcSec   : Nat := 0
  rtcFrac  : Nat := 0
  rtcAt    : Nat := 0
  rtcValid : Bool := false
  retentionLost : Bool := false
  lastRtc  : Option Nat := none
deriving DecidableEq, Repr

/-- A master heard by Announce (R449). -/
structure Master where
  clock   : Nat
  ann     : Announce
  heardAt : Nat
deriving DecidableEq, Repr

/-- The PTP port (R448, R449). -/
structure PtpSt where
  masters : List Master := []
  chosen  : Option Nat := none
  delay   : Option Nat := none
  waiting : Option (Nat × Nat) := none
  last    : Option (Nat × Nat) := none
  req     : Option (Nat × Nat) := none
  reqSeq  : Nat := 0
  reqAt   : Nat := 0
  logInterval : Int := 0
deriving DecidableEq, Repr

/-! ### Tick source (R52–R63, R622) -/

/-- A switch-over in progress (R61). -/
structure SwitchOver where
  goal   : TickSource
  period : Nat
  pl     : Nat
  qualAt : Nat
  was    : TickState
  fromQualification : Bool
deriving DecidableEq, Repr

/-- The tick source, the generator and TICK_IN's measurement. `started` says that an edge was accepted since the start; `passed`
counts the expected edges that passed since the last accepted one. Internal edge number `edgeNo` is the next, from `startAt`;
a PTP-derived edge is the first grid instant at or after device time `gridFrom`, under the adopted offset `phase`. `genNext` is the
generator's next edge, `genNominal` that it runs at the nominal rate. `skip` says that the next interval on TICK_IN enters no
measurement; `held` is a change of source that no alternative covers. -/
structure TickSt where
  started : Bool := false
  source  : TickSource := .internal
  state   : TickState := .acquire
  count   : Nat := 0
  period  : Nat := 0
  ceiling : Nat := 0
  alt     : Nat := 0
  nominal : Nat := 240000
  lastEdge : Option Nat := none
  passed  : Nat := 0
  startAt : Nat := 0
  edgeNo  : Nat := 0
  genNext : Option Nat := none
  genPeriod : Nat := 0
  genNominal : Bool := false
  periods : List Nat := []
  lastIn  : Option Nat := none
  intervals : List Nat := []
  skip    : Bool := false
  switch  : Option SwitchOver := none
  held    : Option TickSource := none
  holdoverAt : Nat := 0
  acquireAt  : Nat := 0
  gridFrom   : Nat := 0
  phase      : Nat := 0
deriving DecidableEq, Repr

/-! ### Headstock (R8–R39) -/

/-- A demand request (R15, R339): `queue` carries queue, TAG and SEQ of its entry and whether a record is asked; `descs` the
addresses that replace the job's first descriptors, each with its 512 bits when they came from host memory, `pd` the
domain of those addresses; `urgent` is a request at priority 0 (R511). -/
structure Demand where
  job     : Nat
  arrival : Nat
  queue   : Option (Nat × Nat × Nat × Bool) := none
  descs   : List (Nat × Option Nat) := []
  pd      : Nat := 0
  urgent  : Bool := false
deriving DecidableEq, Repr

/-- A deferred job (R18): pinned, or the demand it came from. -/
structure Deferred where
  job    : Nat
  count  : Nat
  demand : Option Demand
deriving DecidableEq, Repr

/-- A running job; `band` is the rough-out bound at its admission edge and `gain` its pass's matrix gain × 4,096 (R214, R220).
`edge` is the stamp of its admission edge, `aug` the augmentation source and `sampler` the temperature and k at its admission (R237), `stalls` the cycles per cause already added to the chip-wide totals, `breached` that a ledger breach was reported, `began` when its engine began it. -/
structure Run where
  rid      : Nat
  entry    : JobEntry
  tick     : Nat
  at_      : Nat
  overran  : Bool := false
  badIn    : Bool := false
  breached : Bool := false
  onHost   : Bool := false
  takeover : Bool := false
  stalls   : List Nat := []
  began    : Option Nat := none
  demand   : Option Demand := none
  meta_    : Option UnitMeta := none
  edge     : Option Stamp := none
  band     : Nat := 0
  gain     : Nat := 0
  aug      : Nat := 0
  sampler  : Nat × Nat := (0, 0)
deriving DecidableEq, Repr

/-- A host-assist stage (R28–R33). -/
structure Stage where
  cost      : Option Nat := none
  onHost    : Bool := false
  moveTo    : Option Bool := none
  above     : Nat := 0
  deferrals : Nat := 0
  below     : Nat := 0
  lastMove  : Option Nat := none
  late      : Nat := 0
  barUntil  : Nat := 0
deriving DecidableEq, Repr

/-- A model slot (R334); `state` is 0 empty, 1 loading, 2 resident, 3 failed. `want` is the section's digest, `digest` that of
the last hash. -/
structure Slot where
  state  : Nat := 0
  slabs  : Nat := 0
  bytes  : Nat := 0
  digest : Nat := 0
  want   : Nat := 0
  failNext : Bool := false
  reload : Bool := false
deriving DecidableEq, Repr

/-- An image being verified and loaded (R332, R333): its slots so far; `tooFew` slabs are free until the old image stops, and
`stopped` says that it has. -/
structure Loading where
  img   : Image
  bank  : Nat
  slots : Table Slot := []
  tooFew : Bool := false
  stopped : Bool := false
deriving DecidableEq, Repr

/-- The Headstock: the image in force, candidates, running jobs, host-assist stages; `tickFrom` is the edge from which `busy` counts
the lanes. -/
structure HeadSt where
  image    : Option Image := none
  loading  : Option Loading := none
  imgState : Nat := 0
  bank     : Nat := 0
  running  : List Run := []
  endedLate : List Run := []
  demand   : List Demand := []
  deferred : List Deferred := []
  status   : Table Nat := []
  busy     : Table Nat := []
  tickFrom : Nat := 0
  occupancy : Table Nat := []
  stages   : Table Stage := []
  arrival  : Nat := 0
  rid      : Nat := 0
  metas    : Table UnitMeta := []
deriving DecidableEq, Repr

/-! ### Ingest (R74–R111) -/

/-- A captured unit with what its metadata record says (R95). -/
structure CapturedUnit where
  seq     : Nat
  stamp   : Stamp
  bytes   : Nat
  damaged : Bool := false
  lost    : Nat := 0
  hostTime : Option Nat := none
  data    : List Byte := []
  samples : List Int := []
  idr     : Bool := false
deriving DecidableEq, Repr

/-- A pool buffer (R90, R91): free, in capture, complete and announced, or held by a running job. -/
inductive Buf where
  | free
  | filling (u : CapturedUnit)
  | waiting (u : CapturedUnit)
  | held (rid : Nat) (u : CapturedUnit)
deriving DecidableEq, Repr

/-- The limits a stream captures under (R90, R102). -/
structure Limits where
  width  : Nat := 0
  height : Nat := 0
  unit   : Nat := 0
  format : Nat := 0
  block  : Nat := 32
  mem    : Nat := 0
  count  : Nat := 4
deriving DecidableEq, Repr

/-- A stream and its Chuck; `limitsWritten` says that a limits write waits for its edge (R102). -/
structure StreamSt where
  kind   : Nat := 0
  addr   : Nat := 0
  limits : Limits := {}
  pool   : List Buf := []
  recut  : Option Nat := none
  drained : Bool := false
  seq    : Nat := 0
  lost   : Nat := 0
  lines  : Nat := 0
  inTick : Nat := 0
  subInTick : Nat := 0
  block  : List Int := []
  unconfigured : Bool := false
  waitIdr : Bool := false
  ssrc   : Option Nat := none
  rtpSeq : Option Nat := none
  rtpTs  : Option Nat := none
  size   : Nat := 0
  lastStamp : Option Stamp := none
  limitsWritten : Bool := false
deriving DecidableEq, Repr

/-! ### Alarm path (R112–R134) -/

/-- A tap's windows (R114, R116). -/
structure TapSt where
  setc      : List Nat := [0, 0, 0, 0]
  relc      : List Nat := [0, 0, 0, 0]
  persisted : List Bool := [false, false, false, false]
  compare   : List Bool := [false, false, false, false]
  lastWord  : Option Nat := none
  silent    : Bool := false
  value     : Int := 0
deriving DecidableEq, Repr

/-- The guard domain. `bank` is the active bank: the values of 0x2403 and 0x2410–0x2457 in force; `commit` is a checked
shadow bank that waits for the word boundary. `forced` asserts every pin (R124, R126); `gclkFault` says that the commit
which ends it restarts every counter and clears every latch. -/
structure AlarmSt where
  path    : Nat := 0
  bank    : Table Nat := []
  commit  : Option (Table Nat) := none
  refused : Bool := false
  everCommitted : Bool := false
  taps    : Table TapSt := []
  conds   : Mask64 := 0
  raw     : Mask64 := 0
  latched : Mask64 := 0
  forced  : Bool := false
  gclkOk  : Bool := true
  gclkFault : Bool := false
  rises   : Nat := 0
  waitingTrips : List Nat := []
  pins    : BitVec 4 := 0
deriving DecidableEq, Repr

/-! ### Codecs (R135–R193) -/

/-- A JPEG decode context (R144, R166): the image in decode. -/
structure JpegCtx where
  rejected : Bool := false
  conc   : Nat := 0
  damaged : Bool := false
  cut    : Bool := false
deriving DecidableEq, Repr

/-- An H.264 decode context (R151–R166): the parameter set in force, whether later pictures carry Taint (R159) or are dropped
(resync), and the picture in decode. -/
structure H264Ctx where
  sps    : Option SpsInfo := none
  taint  : Bool := false
  resync : Bool := false
  picTaint : Bool := false
  conc   : Nat := 0
  damaged : Bool := false
  cut    : Bool := false
  aborted : Bool := false
  picType : Nat := 0
deriving DecidableEq, Repr

/-- An encode context (R168–R192). `lastI` and `lastP` are QP and bits of the last frame coded of each type, `nextI` and
`nextP` the QP of the next; `skips` says that an all-skip picture is owed (R185); `awaitIdr` that the next clean picture is
an IDR (R173). The fields from `coding` on belong to the picture in coding; `src` is the record of the source picture it holds. -/
structure EncCtx where
  lastI  : Option (Nat × Nat) := none
  lastP  : Option (Nat × Nat) := none
  nextI  : Option Nat := none
  nextP  : Option Nat := none
  started  : Bool := false
  sinceIdr : Nat := 0
  forced   : Bool := false
  idrNext  : Bool := false
  skips    : Bool := false
  awaitIdr : Bool := false
  rcDue    : Bool := false
  size     : Nat × Nat := (0, 0)
  unconfigured : Bool := false
  rtpSeq   : Nat := 0
  coding   : Bool := false
  first    : Bool := false
  coded    : Bool := false
  stale    : Bool := false
  flagged  : Bool := false
  force    : Bool := false
  idr      : Bool := false
  degraded : Bool := false
  qp       : Nat := 0
  bits     : Nat := 0
  rtpTs    : Nat := 0
  src      : Option UnitMeta := none
deriving DecidableEq, Repr

/-- The decoders and the encoder. -/
structure CodecSt where
  jpeg : Table JpegCtx := []
  h264 : Table H264Ctx := []
  enc  : Table EncCtx := []
deriving DecidableEq, Repr

/-! ### Noise source (R227–R230) -/

/-- The noise source; `state` is 0 filling, 1 ready, 2 degraded. `pool` holds conditioned bits not yet used, `fails` and
`passes` count the last consecutive windows. -/
structure NoiseSt where
  state : Nat := 0
  lanes : Table (BitVec 128) := []
  next  : Nat := 0
  pool  : List (BitVec 32) := []
  fails : Nat := 0
  passes : Nat := 0
deriving DecidableEq, Repr

/-! ### Transfers (R279–R314) -/

/-- A grain descriptor's fields (R250). -/
structure Grain where
  crc : Nat
  chunkCrc : Bool
  ro  : Bool
  b0  : Nat
  b1  : Nat
  pd  : Nat
  scale : Nat
  strides : List Nat
  sizes : List Nat
  ver : Nat
  type : Nat
  rank : Nat
  layout : Nat
  mem : Nat
  base : Nat
deriving DecidableEq, Repr

/-- The list of a gather or scatter (R265, R266). -/
inductive XferList where
  | none
  | index (g : Grain)
  | blocks (addr n : Nat)
deriving DecidableEq, Repr

/-- A translation fault (R298). -/
structure FaultRec where
  id     : Nat
  kind   : Nat
  pd     : Nat
  level  : Nat
  access : Nat
  engine : Nat
  dev    : Nat
  tick   : Nat
  job    : Nat
  va     : Nat
  chunk  : Nat
  deadline : Nat
  host   : Bool
  mem    : Nat := 0
deriving DecidableEq, Repr

/-- A transfer in progress; `next` is one above the applied mark, in chunks (R281, R304). `merged` says that its only chunk is
part of the chunk of the transfer before it (R289), `fenced` that a fence stands before it (R288). -/
structure Xfer where
  xid    : Nat
  engine : Nat
  rid    : Nat
  job    : Nat
  kind   : XferKind
  src    : Grain
  dst    : Grain
  list   : XferList := .none
  next   : Nat := 0
  chans  : List Nat := []
  merged : Bool := false
  fenced : Bool := false
  retried : Bool := false
  fault  : Option FaultRec := none
deriving DecidableEq, Repr

/-- A cached translation (R296): `page` is the page's first address, `size` its bytes. -/
structure TlbEntry where
  cluster : Nat
  pd   : Nat
  page : Nat
  size : Nat
  pte  : Nat
deriving DecidableEq, Repr

/-- Transfer engines, translation and the host fault ring (R478). -/
structure XferSt where
  active  : List Xfer := []
  xid     : Nat := 0
  faultId : Nat := 0
  last    : Option FaultRec := none
  tlb     : List TlbEntry := []
  invalidating : Bool := false
  sparesUsed : Nat := 0
  ring    : Table FaultRec := []
  ringProd : Nat := 0
  ringCons : Nat := 0
  ringCount : Nat := 0
deriving DecidableEq, Repr

/-! ### Compute (R323–R351) -/

/-- A token (R324). -/
structure Tok where
  crc    : Option Nat := none
  tick   : Nat
  index  : Nat
  job    : Nat
  reason : Nat := 0
  status : Nat
  kind   : Nat
deriving DecidableEq, Repr

/-- A channel (R323): `tokens` have been sent and not taken, `owed` wait for a credit. -/
structure Channel where
  depth    : Nat := 0
  free     : Nat := 0
  tokens   : List Tok := []
  owed     : List Tok := []
  sent     : Nat := 0
  poison   : Nat := 0
  producer : Nat := 0
  consumer : Nat := 0
deriving DecidableEq, Repr

/-- A fence a queue waits on (R339): the visibility of the writes of its earlier jobs, or the sent count of a channel. -/
inductive Fence where
  | writes
  | tokens (chan target : Nat)
deriving DecidableEq, Repr

/-- A command queue (R337–R341, R477); `state` is 0 disabled, 1 running, 2 halted. `fetched` holds the entries between head and
tail, each with the stamp of its doorbell; `fenceRec` the JOB, TAG and SEQ of a FENCE entry that asks for a record. `compUsed`
records stand in the completion ring and are not released. -/
structure Queue where
  state  : Nat := 0
  expect : Nat := 0
  head   : Nat := 0
  tail   : Nat := 0
  fetched : List (Bits512 × Stamp) := []
  fence  : Option Fence := none
  fenceRec : Option (Nat × Nat × Nat) := none
  compProd : Nat := 0
  compHead : Nat := 0
  compUsed : Nat := 0
deriving DecidableEq, Repr

/-- Channels, slots, queues and the SRAM error state. -/
structure ComputeSt where
  channels : Table Channel := []
  slots    : Table Slot := []
  queues   : Table Queue := []
  bad      : List Nat := []
deriving DecidableEq, Repr

/-! ### Spindle Link (R352–R381) -/

/-- A link port; `state` is 0 DOWN, 1 TRAIN, 2 IDENT, 3 UP, 4 RETRAIN, 5 REFUSED. `lanes` holds the lanes on which TRAIN blocks
came, `locked` and `aligned` what the neighbour's last one shows; `waiting` the frames that wait for a credit, `credits` those
left per class, `tc2Behind` the frames sent past a waiting TC2 frame, `tc0` the TC0 frames sent in this tick. -/
structure Port where
  state  : Nat := 0
  since  : Nat := 0
  leftUp : Nat := 0
  lanes  : List Nat := []
  locked : Bool := false
  aligned : Bool := false
  trained : Bool := false
  latSum : Nat := 0
  latN   : Nat := 0
  skew   : Nat := 0
  txSeq  : Nat := 0
  rxSeq  : Nat := 0
  nakSent : Bool := false
  waiting : List LinkFrame := []
  replay : List LinkFrame := []
  replayAt : Nat := 0
  stuck  : Nat := 0
  credits : List Nat := [0, 0, 0, 0]
  tc2Behind : Nat := 0
  tc0    : Nat := 0
  tc1Refused : Bool := false
  accums : List LinkFrame := []
  errors : List Nat := []
  badFrame : Bool := false
deriving DecidableEq, Repr

/-- What a member knows of a peer (R372, R373, R389). -/
structure Peer where
  seen   : Bool := false
  heard  : Bool := false
  lastHb : Nat := 0
  misses : Nat := 0
  lost   : Bool := false
  departed : Bool := false
  lostAt : Nat := 0
  hbCount : Option Nat := none
  role   : Nat := 1
  lastRole : Option Nat := none
  lastTick : Option (Nat × Nat) := none
deriving DecidableEq, Repr

/-- A tag of a remote request (R283, R367): its port and its transfer. -/
structure RemoteTag where
  port : Nat
  tag  : Nat
  xid  : Nat
deriving DecidableEq, Repr

/-- The link; `group`, `topology` and `windows` (the objects 0x2903) are in force since the last IDENT exchange (R381). -/
structure LinkSt where
  id    : Nat := 0
  group : Nat := 1
  topology : Nat := 0
  windows : Table Nat := []
  complete : Bool := false
  ports : Table Port := []
  peers : Table Peer := []
  hbAt  : Nat := 0
  hbCount : Nat := 0
  roleRepeat : Nat := 0
  roleReason : Nat := 0
  tags  : List RemoteTag := []
deriving DecidableEq, Repr

/-! ### Active and standby (R382–R420) -/

/-- A journal entry (R394). -/
structure JEntry where
  value : Nat
  jseq  : Nat
  tick  : Nat
  key   : Nat
  len   : Nat
  piece : Nat
  path  : Nat
deriving DecidableEq, Repr

/-- A segment of an epoch received so far (R399). -/
structure Segment where
  seg    : Nat
  nseg   : Nat
  epoch  : Nat
  offset : Nat
  len    : Nat
  dcrc   : Nat
  ledger : Nat
  data   : List (Nat × List Byte) := []
deriving DecidableEq, Repr

/-- A committed epoch (R401): its number, JSEQ and edge at the active, its own tick there, and its warm state. -/
structure Epoch where
  number : Nat
  jseq   : Nat
  tick   : Nat
  ownTick : Nat
  data   : List Byte
deriving DecidableEq, Repr

/-- Roles (Table: Roles). -/
inductive Role where
  | single | starting | syncing | tailstock | promoting | active | disputed | outOfService
deriving DecidableEq, Repr

/-- The redundancy state. `gate` is the gate's latch behind the ROLE lines. `keeperRuns` says that core 0 refreshes the keeper,
else `keeperAt` is when it stopped; `lapsed` that the keeper lapsed. `entered` is the role at the entry to Disputed. `row` is the
row that holds since `rowAt`, and rows agree since `agreeAt`. `queue` waits to be sent; `got` waits to be applied. `area` is the
warm state of the last accepted edge, `open_` the epoch that waits for its answer. `handover` is 0 none, 1 capture at the next
edge, 2 sent, 3 acknowledged. `restored` says that the takeover's first edge is still to come, `takeover` that this tick's
outputs carry the flag. -/
structure RedSt where
  config  : Nat := 0
  role    : Role := .starting
  since   : Nat := 0
  roleOut : Bool := false
  roleOutAt : Nat := 0
  peerIn  : Bool := false
  peerInAt : Nat := 0
  gate    : Bool := false
  keeperRuns : Bool := true
  keeperAt : Nat := 0
  lapsed  : Bool := false
  entered : Role := .starting
  row     : Nat := 0
  rowAt   : Nat := 0
  agreeAt : Nat := 0
  issued  : Nat := 0
  queue   : List JEntry := []
  got     : List JEntry := []
  applied : Nat := 0
  gap     : Bool := false
  framesInTick : Nat := 0
  area    : List Byte := []
  areaTick : Nat := 0
  areaJseq : Nat := 0
  areaAt  : Nat := 0
  captured : Nat := 0
  capturedAt : Nat := 0
  open_   : Option Epoch := none
  highest : Nat := 0
  partialSegs : List Segment := []
  committed : Option Epoch := none
  loadConfig : Bool := false
  handover : Nat := 0
  peerHandedOver : Bool := false
  restored : Bool := false
  takeover : Bool := false
deriving DecidableEq, Repr

/-! ### Field network (R421–R456) -/

/-- NMT states (R423). -/
inductive Nmt where
  | initialisation | preOperational | operational | stopped
deriving DecidableEq, Repr

/-- An emergency message waiting (R430). -/
structure Emcy where
  eec   : Nat
  code  : Nat
  arg   : Nat
  reg   : Nat
  dev   : Nat
  tick  : Nat
  trip  : Bool
deriving DecidableEq, Repr

/-- A CAN controller (R421–R441). `err` is 0 active, 1 passive, 2 bus-off, 4 held off. `dup` says that the listen since
`listenFrom` found a duplicate, `booted` that the boot-up message went out; `busOffs` are the last instants, newest first. -/
structure Ctrl where
  mode    : Nat := 0
  node    : Nat := 0xFF
  nominal : Nat := 500000
  bitrate : Nat := 2000000
  err     : Nat := 0
  silenced : Bool := false
  listenFrom : Option Nat := none
  dup     : Bool := false
  booted  : Bool := false
  hbAt    : Nat := 0
  busOffs : List Nat := []
  factor  : Nat := 1
  emcy    : List Emcy := []
  sending : Bool := false
  inhibitFrom : Option Nat := none
  lssConfig : Bool := false
  lssPending : Option Nat := none
  fastPos : Nat := 0
deriving DecidableEq, Repr

/-- A partner (R438); `heard` says that a frame came from it since its entry was made. -/
structure Partner where
  node   : Nat
  ctrl   : Nat
  configured : Bool
  heard  : Bool := true
  lost   : Bool := false
  period : Nat := 0
  heardAt : Nat
  heardDev : Nat
  lostAt : Nat := 0
  state  : Nat := 0
  relearn : Bool := false
deriving DecidableEq, Repr

/-- A record in reassembly (R437). -/
structure RecordBuf where
  chan  : Nat
  ctrl  : Nat
  len   : Nat
  next  : Nat
  data  : List Byte
  since : Nat
deriving DecidableEq, Repr

/-- The field network; `errHistory` holds the entries of 0x1003, newest first; `broadcasts` holds for each interface when its second of broadcasts began and how many came in it. -/
structure NetSt where
  nmt     : Nmt := .initialisation
  ctrls   : Table Ctrl := []
  errReg  : Nat := 0
  errHistory : List Nat := []
  emcySent : Nat := 0
  emcyDrops : Nat := 0
  partners : List Partner := []
  strangers : List (Nat × Nat × Nat) := []
  records : List RecordBuf := []
  plcaOk  : Bool := false
  plcaErrs : Table (List Nat) := []
  carriers : List Nat := []
  collisions : Nat := 0
  txStopped : Bool := false
  broadcasts : Table (Nat × Nat) := []
  tpdoSeq : Table Nat := []
  tpdoAt  : Table Nat := []
  tpdoData : Table (List Byte) := []
  tpdoWait : List Nat := []
  reportSeq : Nat := 0
  syncs   : Nat := 0
  watchFrames : List (Nat × Nat × List Byte) := []
  rtcp    : Table (List Byte) := []
deriving DecidableEq, Repr

/-! ### The dictionary service (R457–R491) -/

/-- A store in progress (R481, R482): the object written, the values it writes and the copy it writes them to. A store of a
restore mark runs twice. `lss` is the controller whose LSS command asked for it (R434). -/
structure StoreSt where
  path   : Path
  key    : Nat
  snap   : Table Nat
  marks  : Nat
  copy   : Nat
  isMark : Bool
  second : Bool := false
  lss    : Option Nat := none
deriving DecidableEq, Repr

/-- The dictionary service; `resetComm` says that a reset communication waits for the end of a store (R483), `restored` that
no image has come into force since a start restored the objects (R488). -/
structure DictSt where
  resetComm : Bool := false
  sel    : Option Nat := none
  window : List Byte := []
  wlen   : Nat := 0
  divs   : List (Nat × Nat) := []
  raised : List Nat := []
  udp    : List (Nat × Nat × Nat × List Byte) := []
  store  : Option StoreSt := none
  restored : Bool := false
deriving DecidableEq, Repr

/-! ### Power (R492–R524) -/

/-- Power modes (R492). -/
inductive Mode where
  | run | reduced | watch | retainedOff
deriving DecidableEq, Repr

/-- A frame of the pre-roll ring (R507). -/
structure PreRoll where
  stamp   : Stamp
  samples : List (BitVec 16)
deriving DecidableEq, Repr

/-- A wake phrase that the spotter decides (R511): the frames at which it armed and detected, whether its detection woke the
device, and whether its window was overwritten at the admission of the re-score job. -/
structure Phrase where
  arm  : Stamp
  det  : Stamp
  woke : Bool
  overwritten : Bool := false
deriving DecidableEq, Repr

/-- Power modes, the spotter and thermal levels. `toRun` is when the return to Run was asked for (R496); `command` the low-power
command that stands (2 Watch, 3 Retained-off), `deferring` when its deferral began and `deferred` that it may defer no more
(R510); `thermalWatch` that a thermal level entered Watch. `coreEn` and `sramEn` are the enable outputs, `wakeAt` the instant w of
R504, `railsOk` that the rails came good, `retryAt` the retry of a wake, `admitFrom` w + 4.2 ms. `trip` is THERMTRIP_N. `ring` holds the
pre-roll frames, newest first, and `frameNo` counts them. -/
structure PowerSt where
  mode    : Mode := .run
  toRun   : Option Nat := none
  command : Nat := 0
  deferring : Option Nat := none
  deferred : Bool := false
  thermalWatch : Bool := false
  coreEn  : Bool := false
  sramEn  : Bool := false
  wakeAt  : Option Nat := none
  railsOk : Bool := false
  retryAt : Option Nat := none
  admitFrom : Option Nat := none
  thermal : Nat := 0
  hottest : Int := 250
  junctions : List Int := [250, 250, 250, 250, 250, 250, 250, 250]
  supplies : List Nat := [750, 800, 800, 1050, 500, 1800, 3300, 900, 1800]
  vbat    : Nat := 3000
  trip    : Bool := false
  tripSticky : Bool := false
  armed   : Bool := false
  arm     : Option Stamp := none
  score   : Nat := 0
  spotterDecides : Bool := false
  phrase  : Option Phrase := none
  ring    : List PreRoll := []
  frameNo : Nat := 0
  forcedMs : Nat := 0
  lastDetection : Option Stamp := none
deriving DecidableEq, Repr

/-! ### Health (R525–R559) -/

/-- A monitor (R525–R528). -/
structure Monitor where
  source : Nat := 0
  inst   : Nat := 0
  mode   : Nat := 0
  lo     : Int := 0
  w      : Nat := 1
  dirty  : Bool := false
  count  : Nat := 0
  min    : Int := 0x7FFFFFFF
  max    : Int := -2147483648
  last   : Int := 0
  bins   : Table Nat := []
  sCount : Nat := 0
  sMin   : Int := 0
  sMax   : Int := 0
  sBins  : Table Nat := []
  sDev   : Nat := 0
deriving DecidableEq, Repr

/-- An event record (R529); `seq` is the sequence number within the log that holds the copy. -/
structure EventRec where
  code : Nat
  subj : Nat
  arg  : Nat
  sev  : Nat
  fl   : Bool
  dev  : Nat
  tick : Nat
  utc  : Int
  base : BaseState
  stepped : Bool
  cv   : Bool
  epoch : Nat
  boot : Nat
  seq  : Nat
deriving DecidableEq, Repr

/-- A staged record, whether a flush has copied it, and the instant it was staged (R532). -/
structure Staged where
  rec_ : EventRec
  flushed : Bool
  at_  : Nat
deriving DecidableEq, Repr

/-- The event recorder, the fault log in NOR and the freeze (R529–R543). `ring` lists the written ring sectors in the order
of writing, each with its records. -/
structure RecorderSt where
  shavings : List EventRec := []
  shavSeq  : Nat := 0
  shavCount : Nat := 0
  staging  : List Staged := []
  nextSeq  : Nat := 0
  staged   : Nat := 0
  drops    : Nat := 0
  flushes  : Nat := 0
  programErrors : Nat := 0
  wrapped  : Nat := 0
  pfFlushes : Nat := 0
  firstLife : List EventRec := []
  firstRetired : Bool := false
  ring     : Table (List EventRec) := []
  retired  : List Nat := []
  frozen   : Option Nat := none
  frozenDev : Nat := 0
  pfail    : Bool := false
  pfHighAt : Option Nat := none
  recent   : List ((Nat × Nat) × Nat) := []
deriving DecidableEq, Repr

/-- A watchdog (R544): `state` is 0 running, 1 frozen, 2 expired with reset pending, 3 stopped. -/
structure Watchdog where
  state : Nat := 0
  last  : Nat := 0
  lastDev : Nat := 0
  expiries : Nat := 0
  pc    : Nat := 0
  capLast : Nat := 0
  capAt : Nat := 0
  reason : Nat := 0
deriving DecidableEq, Repr

/-- A lifetime entry (R549) or the live values of the lifetime counters (R548). -/
structure Lifetime where
  powerOn  : Nat := 0
  count    : Nat := 0
  ticks    : Nat := 0
  cycles   : Nat := 0
  hot      : Nat := 0
  expiries : Nat := 0
  pfails   : Nat := 0
  first    : Nat := 0
  armed    : Bool := true
deriving DecidableEq, Repr

/-- Monitors, watchdogs, halts and lifetime; `linkErrors` are the ports' error counts at the last 1 ms sample,
`stallsAt` the stall counts at the last accepted edge. -/
structure HealthSt where
  monitors : Table Monitor := []
  dogs     : Table Watchdog := []
  halted   : List Nat := []
  resetPending : Option Nat := none
  live     : Lifetime := {}
  liveFrom : Nat := 0
  hotWindow : Nat := 0
  hotSeen  : Bool := false
  entry    : Option Lifetime := none
  entrySeq : Nat := 0
  entryAt  : Nat := 0
  entryDev : Nat := 0
  eraseAt  : Nat := 0
  erases   : Table Nat := []
  eraseTable : Table Nat := []
  linkErrors : Table Nat := []
  stallsAt : Table Nat := []
deriving DecidableEq, Repr

/-! ### Boot (R560–R587) -/

/-- What the boot ROM's check of a firmware bank finds (R564). -/
structure FwInfo where
  version  : Nat
  security : Nat
  signer   : Nat
  raisesMin : Bool
deriving DecidableEq, Repr

/-- A firmware bank: its programmed pages since the last erase, or shipped content. -/
structure FwBank where
  info  : Option FwInfo := none
  pages : List (Nat × List Byte) := []
deriving DecidableEq, Repr

/-- A boot-header copy (R563). -/
structure BootHeader where
  seq  : Nat
  preferred : Nat
  trial : Bool
  trials : Nat
deriving DecidableEq, Repr

/-- A retained copy (R568): its sequence number, marks, image, training and entries. -/
structure Retained where
  seq     : Nat
  imageId : Nat := 0
  marks   : Nat := 0
  train   : Bool := false
  entries : Table Nat := []
deriving DecidableEq, Repr

/-- The NOR's records and the boot state. A copy that is `none` is not valid. `on` says that the reset is released and the
boot ROM has run; `env` is what the last start found of straps and parts, `versionOk` that the host has
had its protocol version accepted for the next attachment (R579). -/
structure BootSt where
  on      : Bool := false
  header0 : Option BootHeader := some ⟨0, 0, false, 0⟩
  header1 : Option BootHeader := none
  bankA   : FwBank := { info := some ⟨0x01000000, 0, 0, false⟩ }
  bankB   : FwBank := {}
  running : Nat := 0
  security : Nat := 0
  rootKeys : List Nat := [0]
  copy0   : Option Retained := some { seq := 0 }
  copy1   : Option Retained := some { seq := 1 }
  selected : Nat := 0xFF
  marks   : Nat := 0
  imageA  : Option Image := none
  imageB  : Option Image := none
  keys    : Table (Nat × Nat) := []
  keysInForce : Table Nat := []
  state   : Nat := 0
  cause   : Nat := 0
  releasedAt : Nat := 0
  msPreop : Nat := 0
  msFirst : Nat := 0
  updating : Nat := 0
  host    : Nat := 1
  rungAt  : Option Nat := none
  versionOk : Bool := false
  lockLevel : Nat := 0
  unlocked : Bool := false
  nonce   : Nat := 0
  eccOn   : Bool := false
  dramMiB : Nat := 0
  training : Nat := 0
  norMiB  : Nat := 256
  trainGood : Bool := false
  completed : Bool := false
  generatorBad : Bool := false
  env     : StartEnv := {}
deriving DecidableEq, Repr

/-! ### What a command sends -/

/-- What leaves the chip: the frames, tokens, records and answers a command sends, in order. -/
inductive Out where
  | block (port : Nat) (type : Nat) (content : Nat)
  | frame (port : Nat) (f : LinkFrame)
  | can (ctrl : Nat) (cob : Nat) (data : List Byte)
  | lss (ctrl : Nat) (cmd : Nat) (value : Nat)
  | udp (iface : Nat) (dst port : Nat) (data : List Byte)
  | arpReply (iface : Nat) (target : Nat)
  | icmpReply (iface : Nat) (dst : Nat) (data : List Byte)
  | delayReq (seq : Nat)
  | rtp (mac dst port pt ssrc seq ts : Nat) (marker : Bool) (bytes : Nat)
  | tokens (chan : Nat) (tok : Tok)
  | completion (q : Nat) (index : Nat) (rec_ : Nat)
  | faultRecord (index : Nat) (r : FaultRec)
  | outside (mem peer pa : Nat) (accumulate : Bool) (type : Nat) (data : List Byte)
  | msix (vector : Nat)
  | answer (p : Path) (key : Nat) (abort : Nat) (value : List Byte)
  | warmState (epoch : Nat)
  | output (job : Nat) (status : Nat) (tick : Nat) (takeover : Bool)
  | values (job : Nat) (vs : List Int)
  | record (job : Nat) (slots : List (Nat × Nat)) (mask : Nat)
  | metadata (job : Nat) (rec_ : Nat)
deriving DecidableEq, Repr

/-- The state of the block. `now` is the instant of the last command; `free` counts the free values drawn
(notes/assumptions/6.md), no number a statement may rest on. `od` holds requested values and counters; `inForce` is the
copy of it that the last accepted edge adopted (R460); `actual` holds the values in force of the encode contexts and
passes (R186, R221). -/
structure State where
  now   : Nat := 0
  free  : Nat := 0
  od    : Table Nat := []
  inForce : Table Nat := []
  actual : Table Nat := []
  time  : TimeSt := {}
  ptp   : PtpSt := {}
  tick  : TickSt := {}
  head  : HeadSt := {}
  streams : Table StreamSt := []
  alarm : AlarmSt := {}
  codec : CodecSt := {}
  noise : NoiseSt := {}
  xfer  : XferSt := {}
  comp  : ComputeSt := {}
  link  : LinkSt := {}
  red   : RedSt := {}
  net   : NetSt := {}
  dict  : DictSt := {}
  power : PowerSt := {}
  log   : RecorderSt := {}
  health : HealthSt := {}
  boot  : BootSt := {}
  sram  : List Host.Cell := []
  dram  : List Host.Cell := []
  out   : List Out := []
  pending : List Instr := []
deriving DecidableEq, Repr

/-- A record of the first start: its event, severity, flush flag and sequence number. -/
def startRecord (code sev : Nat) (fl : Bool) (seq : Nat) : EventRec :=
  { code := code, subj := 0xFFFF, arg := 0, sev := sev, fl := fl, dev := 0, tick := 0, utc := 37, base := .freeRun, stepped := false
    cv := false, epoch := 0, boot := 1, seq := seq }

/-- The state right after the first power-on reset, at instant 0, of a device as it is shipped (R459, R560, R572): the start sequence
has run, there is no image, no command waits (notes/assumptions/52.md). -/
def State.reset : State :=
  { od := [(0x200402, 1), (0x200403, 0), (0x240102, 1), (0x280104, 2)]
    time := { source := 1, actual := 1 }
    tick := { source := .internal }
    head := { imgState := 2 }
    alarm := { path := 1, everCommitted := true, taps := (List.range 72).map fun k => (k, {}), pins := 0xF }
    red := { role := .single }
    net := { nmt := .preOperational, ctrls := [(0, {}), (1, {})] }
    dict := { divs := [(0x2F0301, 0)], restored := true }
    power := { coreEn := true, sramEn := true, railsOk := true }
    log := {
      shavings := [startRecord 0xD00A 0 false 7, startRecord 0x100A 1 true 6, startRecord 0xD009 0 false 5, startRecord 0x100A 1 true 4,
                   startRecord 0xD007 0 false 3, startRecord 0xA001 0 false 2, startRecord 0x4003 0 false 1, startRecord 0x200E 0 false 0]
      shavSeq := 8, shavCount := 8
      staging := [⟨startRecord 0x100A 1 true 0, false, 0⟩, ⟨startRecord 0x100A 1 true 1, false, 0⟩], nextSeq := 2, staged := 2 }
    health := { monitors := (List.range 48).map fun m => (m, { dirty := true }), live := { count := 1 } }
    boot := { on := true, selected := 1, state := 2, msPreop := 1, dramMiB := 8192, training := 1, trainGood := true } }

end Sys2Proof.Machine
end

