-- ==== Sys2Proof/Machine/Flags.lean ====
section
/-! DEFINITION. The flags the block computes: event severities (R530), abort codes (R470), output status (R24), the error
register 0x1001 (R431), the codes of the states, and which parts of the chip run. -/
namespace Sys2Proof.Machine

/-- R530: 0 note, 1 fault, 2 fatal. -/
def severity (code : Nat) : Nat :=
  if [0xB00D, 0xC018, 0xC020, 0xC038].contains code then 2
  else if [0x1002, 0x1006, 0x100A, 0x2001, 0x2002, 0x4001, 0x4002, 0x4008, 0x4009, 0x600A, 0x7003, 0x8003, 0x8005,
      0x9006, 0x9014, 0x9015, 0x901A, 0xA003, 0xA005, 0xA007, 0xA00D, 0xB00A, 0xC016, 0xC030, 0xC039, 0xD041,
      0xD043].contains code then 1
  else 0

/-- R531: the event also goes to the fault log, under the note mask of 0x2C00.01. -/
def toFaultLog (mask code : Nat) : Bool :=
  decide (severity code ≠ 0) || (mask.testBit (bits code 15 12) && code != 0xC010 && code != 0xC015)

/-- SDO abort codes of R470. -/
def abortNoObject : Nat := 0x06020000
def abortNoSub : Nat := 0x06090011
def abortWriteOnly : Nat := 0x06010001
def abortReadOnly : Nat := 0x06010002
def abortPath : Nat := 0x06010000
def abortLength : Nat := 0x06070010
def abortValue : Nat := 0x06090030
def abortState : Nat := 0x08000022
def abortHardware : Nat := 0x06060000

/-- 0x2300.04. -/
def BaseState.code : BaseState → Nat
  | .locked => 0
  | .holdover => 1
  | .freeRun => 2

/-- 0x2302.03; also the order of R43 from best to worst. -/
def TickState.code : TickState → Nat
  | .locked => 0
  | .holdover => 1
  | .freeRun => 2
  | .acquire => 3

/-- 0x2302.02. -/
def TickSource.code : TickSource → Nat
  | .internal => 0
  | .tickIn => 1
  | .ptpDerived => 2

/-- The source a code of 0x2302.01 names. -/
def TickSource.ofCode : Nat → TickSource
  | 1 => .tickIn
  | 2 => .ptpDerived
  | _ => .internal

/-- 0x2910.04 (R384). -/
def Role.code : Role → Nat
  | .single => 0
  | .starting => 1
  | .syncing => 2
  | .tailstock => 3
  | .promoting => 4
  | .active => 5
  | .disputed => 6
  | .outOfService => 7

/-- The state byte of R425. -/
def Nmt.code : Nmt → Nat
  | .initialisation => 0x00
  | .stopped => 0x04
  | .operational => 0x05
  | .preOperational => 0x7F

/-- 0x2A00.02. -/
def Mode.code : Mode → Nat
  | .run => 0
  | .reduced => 1
  | .watch => 2
  | .retainedOff => 3

/-- R53: with the PTP-derived source the tick state follows the time base state; otherwise it is the state machine's. -/
def State.tickState (s : State) : TickState :=
  match s.tick.source, s.tick.state with
  | _, .acquire => .acquire
  | .ptpDerived, _ => match s.time.state with
    | .locked => .locked
    | .holdover => .holdover
    | .freeRun => .freeRun
  | _, st => st

/-- The worse of two tick states (R43). -/
def TickState.worse (a b : TickState) : TickState := if a.code < b.code then b else a

/-- Power, reset and mode leave the always-on domain running (R501, R505, R515). -/
def State.powered (s : State) : Bool := s.boot.on && s.power.mode != .retainedOff

/-- The control cores, the Headstock and the engines run: the firmware serves (R566, R572) and the core rails are on (R500,
R504). -/
def State.coreOn (s : State) : Bool :=
  s.powered && (s.boot.state == 2 || s.boot.state == 3) && s.power.coreEn && s.power.railsOk

/-- A working mode, in which the Headstock can sell work (R492). -/
def State.working (s : State) : Bool := s.power.mode == .run || s.power.mode == .reduced

/-- The controller runs CANopen, has a node-ID and may transmit (R432, R433, R434, R440). -/
def Ctrl.sends (c : Ctrl) : Bool :=
  (c.mode == 1 || c.mode == 2) && c.node != 0xFF && !c.silenced && (c.err == 0 || c.err == 1)

/-- The controllers' numbers. -/
def ctrlNos : List Nat := [0, 1]

/-- 0x1001 as R431 gives it. -/
def State.errorRegister (s : State) : Nat :=
  b2n (s.alarm.path == 2 || s.comp.slots.any (fun e => e.2.state == 3) || s.red.role == .disputed) +
  16 * b2n (s.net.ctrls.any fun e => e.2.silenced || e.2.err == 1 || e.2.err == 2 || e.2.err == 3)

/-- The output status of R24 from what a job consumed and its own end: 0 on time, 1 late, 2 invalid. -/
def outputStatus (late bad : Bool) : Nat := if bad then 2 else if late then 1 else 0

end Sys2Proof.Machine
end

