-- ==== Sys2Proof/Machine/Hash.lean ====
section
/-! DEFINITION. The check codes the spec names: CRC-32C (R95, R250, R282, R529 and others) and SHA-256 (R334,
R400, R580), both of published standards, and the noise pool's use of SHA-256 (R228). -/
namespace Sys2Proof.Machine

/-- Eight shifts of the reflected Castagnoli polynomial. -/
def crcBits : Nat → BitVec 32 → BitVec 32
  | 0, c => c
  | n + 1, c => crcBits n (if c.getLsbD 0 then (c >>> 1) ^^^ 0x82F63B78#32 else c >>> 1)

/-- CRC-32C of bytes. -/
def crc32c (bs : List Byte) : BitVec 32 :=
  ~~~ (bs.foldl (fun c b => crcBits 8 (c ^^^ b.zeroExtend 32)) 0xFFFFFFFF#32)

/-- The round constants of SHA-256. -/
def shaK : List (BitVec 32) :=
  [0x428a2f98, 0x71374491, 0xb5c0fbcf, 0xe9b5dba5, 0x3956c25b, 0x59f111f1, 0x923f82a4, 0xab1c5ed5,
   0xd807aa98, 0x12835b01, 0x243185be, 0x550c7dc3, 0x72be5d74, 0x80deb1fe, 0x9bdc06a7, 0xc19bf174] ++
  [0xe49b69c1, 0xefbe4786, 0x0fc19dc6, 0x240ca1cc, 0x2de92c6f, 0x4a7484aa, 0x5cb0a9dc, 0x76f988da,
   0x983e5152, 0xa831c66d, 0xb00327c8, 0xbf597fc7, 0xc6e00bf3, 0xd5a79147, 0x06ca6351, 0x14292967] ++
  [0x27b70a85, 0x2e1b2138, 0x4d2c6dfc, 0x53380d13, 0x650a7354, 0x766a0abb, 0x81c2c92e, 0x92722c85,
   0xa2bfe8a1, 0xa81a664b, 0xc24b8b70, 0xc76c51a3, 0xd192e819, 0xd6990624, 0xf40e3585, 0x106aa070] ++
  [0x19a4c116, 0x1e376c08, 0x2748774c, 0x34b0bcb5, 0x391c0cb3, 0x4ed8aa4a, 0x5b9cca4f, 0x682e6ff3,
   0x748f82ee, 0x78a5636f, 0x84c87814, 0x8cc70208, 0x90befffa, 0xa4506ceb, 0xbef9a3f7, 0xc67178f2]

/-- The initial hash value of SHA-256. -/
def shaInit : List (BitVec 32) :=
  [0x6a09e667, 0xbb67ae85, 0x3c6ef372, 0xa54ff53a, 0x510e527f, 0x9b05688c, 0x1f83d9ab, 0x5be0cd19]

/-- Extend the 16 words of a block; the list is newest first. -/
def shaSchedule : Nat → List (BitVec 32) → List (BitVec 32)
  | 0, w => w
  | n + 1, w =>
    let g := fun i => w.getD i 0
    let a := g 14
    let s0 := a.rotateRight 7 ^^^ a.rotateRight 18 ^^^ (a >>> 3)
    let b := g 1
    let s1 := b.rotateRight 17 ^^^ b.rotateRight 19 ^^^ (b >>> 10)
    shaSchedule n ((g 15 + s0 + g 6 + s1) :: w)

/-- The rounds of the compression function over pairs of constant and word. -/
def shaRounds : List (BitVec 32 × BitVec 32) → List (BitVec 32) → List (BitVec 32)
  | [], h => h
  | (k, w) :: r, h =>
    let g := fun i => h.getD i 0
    let e := g 4
    let s1 := e.rotateRight 6 ^^^ e.rotateRight 11 ^^^ e.rotateRight 25
    let ch := (e &&& g 5) ^^^ (~~~ e &&& g 6)
    let t1 := g 7 + s1 + ch + k + w
    let a := g 0
    let s0 := a.rotateRight 2 ^^^ a.rotateRight 13 ^^^ a.rotateRight 22
    let maj := (a &&& g 1) ^^^ (a &&& g 2) ^^^ (g 1 &&& g 2)
    shaRounds r [t1 + s0 + maj, a, g 1, g 2, g 3 + t1, e, g 5, g 6]

/-- The compression function: 16 words of a block into the chaining value. -/
def shaCompress (h : List (BitVec 32)) (block : List (BitVec 32)) : List (BitVec 32) :=
  let w := (shaSchedule 48 block.reverse).reverse
  List.zipWith (· + ·) h (shaRounds (shaK.zip w) h)

/-- A big-endian 32-bit word of four bytes. -/
def beWord (bs : List Byte) : BitVec 32 :=
  bs.foldl (fun a b => (a <<< 8) ||| b.zeroExtend 32) 0#32

/-- Blocks of 64 bytes into the chaining value. -/
def shaBlocks : Nat → List Byte → List (BitVec 32) → List (BitVec 32)
  | 0, _, h => h
  | n + 1, bs, h =>
    shaBlocks n (bs.drop 64) (shaCompress h ((List.range 16).map fun i => beWord ((bs.drop (4 * i)).take 4)))

/-- SHA-256: the number that the digest's 32 bytes, in the order of the standard, spell in a little-endian field (R4,
notes/assumptions/53.md). -/
def sha256 (m : List Byte) : Nat :=
  let pad := (119 - m.length % 64) % 64
  let bs := m ++ [0x80#8] ++ List.replicate pad 0 ++ (leBytes 8 (8 * m.length)).reverse
  leNat ((shaBlocks (bs.length / 64) bs shaInit).flatMap fun w => (leBytes 4 w.toNat).reverse)

end Sys2Proof.Machine
end

