-- ==== Sys2Proof/Machine/Operands.lean ====
section
/-! DEFINITION. The layouts in which the block writes its structures: timestamp (R42), event record (R529), emergency
frame (R430), ROLE block (R389), journal entry (R394), token (R324), metadata record (R95), commit and segment headers
(R399, R400), fault record (R298) and completion record (R341). -/
namespace Sys2Proof.Machine

/-- Put fields together: each a value and its low bit. -/
def packFields (fs : List (Nat × Nat)) : Nat := fs.foldl (fun a f => a + f.1 * 2 ^ f.2) 0

/-- R42: the 128 bits of a timestamp. -/
def Stamp.pack (x : Stamp) : Nat :=
  packFields [(x.step % 16, 108), (x.timeSource % 4, 106), (x.tickSource.code, 104), (x.tickState.code, 102),
    (b2n x.calendar, 101), (b2n x.stepped, 99), (b2n (x.base == .freeRun), 98), (b2n (x.base == .holdover), 97),
    (b2n (x.base == .locked), 96), (x.tick % 2 ^ 32, 64), (x.dev % 2 ^ 64, 0)]

/-- R529: bytes 0–59 of an event record as a number. -/
def EventRec.packBody (r : EventRec) : Nat :=
  packFields [(r.arg % 2 ^ 224, 256), (r.subj % 2 ^ 16, 240), (r.epoch % 16, 236), (b2n r.cv, 235), (b2n r.stepped, 234),
    (b2n (r.base == .freeRun), 233), (b2n (r.base == .holdover), 232), (b2n (r.base == .locked), 231), (r.sev, 226),
    (b2n r.fl, 225), (r.tick % 2 ^ 32, 192), (r.code % 2 ^ 16, 176), (r.boot % 2 ^ 16, 160), (r.seq % 2 ^ 32, 128),
    (pattern 16 r.utc, 112), (r.dev % 2 ^ 64, 0)]

/-- R529: the 64 bytes of an event record, its CRC-32C last. -/
def EventRec.bytes (r : EventRec) : List Byte :=
  let b := leBytes 60 r.packBody
  b ++ leBytes 4 (crc32c b).toNat

/-- R430: the emergency frame of a mode: 20 bytes in CANopen FD (2), 8 in classic CANopen. -/
def Emcy.bytes (mode : Nat) (e : Emcy) : List Byte :=
  if mode = 2 then
    leBytes 2 e.eec ++ leBytes 1 e.reg ++ leBytes 1 0 ++ leBytes 2 e.code ++ leBytes 2 e.arg ++ leBytes 8 e.dev ++
      leBytes 4 e.tick
  else leBytes 2 e.eec ++ leBytes 1 e.reg ++ leBytes 2 e.code ++ leBytes 2 e.arg ++ leBytes 1 e.tick

/-- R394: a journal entry's 192 bits. -/
def JEntry.pack (e : JEntry) : Nat :=
  packFields [(e.value % 2 ^ 64, 128), (e.jseq % 2 ^ 32, 96), (e.tick % 2 ^ 32, 64), (e.key / 256 % 2 ^ 16, 48),
    (e.key % 256, 40), (e.len % 256, 32), (e.piece % 256, 24), (e.path % 16, 20)]

/-- R394: the entry 24 bytes spell, and whether its reserved fields and its path are legal (R5). -/
def JEntry.unpack (bs : List Byte) : JEntry × Bool :=
  let v := leNat (bs.take 24)
  ({ value := bits v 191 128, jseq := bits v 127 96, tick := bits v 95 64, key := bits v 63 48 * 256 + bits v 47 40,
     len := bits v 39 32, piece := bits v 31 24, path := bits v 23 20 },
   bits v 19 0 == 0 && decide (bits v 23 20 ≤ 3) && decide (1 ≤ bits v 39 32) && decide (bits v 39 32 ≤ 8))

/-- R469, R394: the PATH code of a path. -/
def pathCode : Path → Nat
  | .can => 0
  | .rpdo => 0
  | .udp => 1
  | .pcie => 2
  | .firmware => 3
  | .journal => 3

/-- R324: a token's 128 bits. -/
def Tok.pack (k : Tok) : Nat :=
  packFields [((k.crc.getD 0) % 2 ^ 32, 96), (k.tick % 2 ^ 32, 64), (k.index % 2 ^ 32, 32), (k.job % 2 ^ 16, 16),
    (k.reason % 16, 12), (k.status % 4, 8), (k.kind % 4, 6), (b2n k.crc.isSome, 5)]

/-- R298: a fault record's 256 bits. -/
def FaultRec.pack (f : FaultRec) : Nat :=
  packFields [(f.chunk % 2 ^ 32, 224), (f.va % 2 ^ 48, 176), (f.job % 2 ^ 16, 160), (f.tick % 2 ^ 32, 128),
    (f.dev % 2 ^ 64, 64), (f.id % 2 ^ 16, 48), (f.kind % 16, 44), (f.pd % 16, 40), (f.level % 8, 37),
    (f.access % 4, 35), (f.engine % 16, 31)]

/-- R95: a unit metadata record's 512 bits, its CRC-32C over bytes 0–59 included. -/
def UnitMeta.pack (m : UnitMeta) : Nat :=
  let body := packFields [(pattern 32 m.mean, 416), ((m.hostTime.getD 0) % 2 ^ 64, 352), (m.lost % 2 ^ 32, 320),
    (m.useq % 2 ^ 32, 288), (m.tick % 2 ^ 32, 256), (m.job % 2 ^ 16, 240), (m.stream % 256, 232), (m.status % 4, 228),
    (b2n m.hostTime.isSome, 227), (b2n m.damage, 226), (b2n m.ndeg, 225), (b2n m.exact, 224), (m.sindex % 2 ^ 48, 176),
    (m.ebound % 2 ^ 16, 160), (m.dinfo % 2 ^ 32, 128), (m.stamp.pack, 0)]
  body + (crc32c (leBytes 60 body)).toNat * 2 ^ 480

/-- R458: the bytes of a requested value of a numeric type. -/
def valueBytes (size v : Nat) : List Byte := leBytes size v

end Sys2Proof.Machine
end

