-- ==== Sys2Proof/Machine/Update.lean ====
section
/-! DEFINITION. One update per part of the state: every meaning changes the state through these. -/
namespace Sys2Proof.Machine

/-- The state with its `time` part changed. -/
def State.onTime (s : State) (f : TimeSt → TimeSt) : State := { s with time := f s.time }

/-- The state with its `ptp` part changed. -/
def State.onPtp (s : State) (f : PtpSt → PtpSt) : State := { s with ptp := f s.ptp }

/-- The state with its `tick` part changed. -/
def State.onTick (s : State) (f : TickSt → TickSt) : State := { s with tick := f s.tick }

/-- The state with its `head` part changed. -/
def State.onHead (s : State) (f : HeadSt → HeadSt) : State := { s with head := f s.head }

/-- The state with its `alarm` part changed. -/
def State.onAlarm (s : State) (f : AlarmSt → AlarmSt) : State := { s with alarm := f s.alarm }

/-- The state with its `codec` part changed. -/
def State.onCodec (s : State) (f : CodecSt → CodecSt) : State := { s with codec := f s.codec }

/-- The state with its `noise` part changed. -/
def State.onNoise (s : State) (f : NoiseSt → NoiseSt) : State := { s with noise := f s.noise }

/-- The state with its `xfer` part changed. -/
def State.onXfer (s : State) (f : XferSt → XferSt) : State := { s with xfer := f s.xfer }

/-- The state with its `comp` part changed. -/
def State.onComp (s : State) (f : ComputeSt → ComputeSt) : State := { s with comp := f s.comp }

/-- The state with its `link` part changed. -/
def State.onLink (s : State) (f : LinkSt → LinkSt) : State := { s with link := f s.link }

/-- The state with its `red` part changed. -/
def State.onRed (s : State) (f : RedSt → RedSt) : State := { s with red := f s.red }

/-- The state with its `net` part changed. -/
def State.onNet (s : State) (f : NetSt → NetSt) : State := { s with net := f s.net }

/-- The state with its `dict` part changed. -/
def State.onDict (s : State) (f : DictSt → DictSt) : State := { s with dict := f s.dict }

/-- The state with its `power` part changed. -/
def State.onPower (s : State) (f : PowerSt → PowerSt) : State := { s with power := f s.power }

/-- The state with its `log` part changed. -/
def State.onLog (s : State) (f : RecorderSt → RecorderSt) : State := { s with log := f s.log }

/-- The state with its `health` part changed. -/
def State.onHealth (s : State) (f : HealthSt → HealthSt) : State := { s with health := f s.health }

/-- The state with its `boot` part changed. -/
def State.onBoot (s : State) (f : BootSt → BootSt) : State := { s with boot := f s.boot }

/-- The state with its streams replaced. -/
def State.setStreams (s : State) (v : Table StreamSt) : State := { s with streams := v }

/-- The state with its SRAM replaced. -/
def State.setSram (s : State) (m : List Host.Cell) : State := { s with sram := m }

/-- The state with its LPDDR5 replaced. -/
def State.setDram (s : State) (m : List Host.Cell) : State := { s with dram := m }

/-- The state with its adopted objects replaced. -/
def State.setInForce (s : State) (m : Table Nat) : State := { s with inForce := m }

/-- The state with the values in force of contexts and passes replaced. -/
def State.setActual (s : State) (m : Table Nat) : State := { s with actual := m }

/-- The state with one more free value drawn (notes/assumptions/6.md). -/
def State.drew (s : State) : State := { s with free := s.free + 1 }

/-- The state with one more message sent. -/
def State.send (s : State) (o : Out) : State := { s with out := s.out ++ [o] }

/-- The state with its objects replaced. -/
def State.setOd (s : State) (m : Table Nat) : State := { s with od := m }

end Sys2Proof.Machine
end

