-- ==== Sys2Proof/Machine/Ops.lean ====
section
/-! DEFINITION. The operations every meaning shares: the passing of time, objects, counters, timestamps and ages, event
records and emergencies, and the frame around a command's effect. -/
namespace Sys2Proof.Machine

/-- What `exec` answers. -/
abbrev Result := Host.Outcome State Fault Refusal

/-- One second, in nanoseconds. -/
def second : Nat := 1000000000

/-- One millisecond, in nanoseconds. -/
def msec : Nat := 1000000

/-! ### Time and objects -/

/-- The state at a later instant: device time runs at the corrected frequency (R45), and what the last command sent is gone
(notes/assumptions/1.md, 8.md). -/
def State.advance (s : State) (t : Nat) : State :=
  let n := s.time.rem + ((t - s.now : Nat) : Int) * (1000000000 + s.time.freq)
  { s with
    now := max s.now t
    out := []
    time := { s.time with dev := (s.time.dev + n / 1000000000).toNat, rem := n % 1000000000 } }

/-- The requested value of an object, or its counter. -/
def State.obj (s : State) (k : Nat) : Nat := tget s.od k (objectDefault k)

/-- The value of an object that the units have adopted (R460). -/
def State.cfg (s : State) (k : Nat) : Nat := tget s.inForce k (objectDefault k)

/-- The state with an object's value set. -/
def State.setObj (s : State) (k v : Nat) : State := s.setOd (tset s.od k v)

/-- The state with an object's adopted value set. -/
def State.adopt (s : State) (k v : Nat) : State := s.setInForce (tset s.inForce k v)

/-- The width in bits of an object's value. -/
def objWidth (k : Nat) : Nat :=
  match objectRow k with
  | some r => r.type.width
  | none => 32

/-- A counter n further; counters wrap at their width. -/
def State.incr (s : State) (k : Nat) (n : Nat := 1) : State :=
  s.setObj k ((s.obj k + n) % 2 ^ objWidth k)

/-- A bit mask object as a Bool. -/
def State.flag (s : State) (k n : Nat) : Bool := (s.cfg k).testBit n

/-- A signed object's adopted value. -/
def State.cfgInt (s : State) (k : Nat) : Int := signed (objWidth k) (s.cfg k)

/-- Draw a free value under a tag (notes/assumptions/6.md). -/
def State.draw (s : State) (tag : Nat) : Nat × State :=
  (Config.freeValue tag s.free, s.drew)

/-! ### Stamps and ages -/

/-- R42: the timestamp of this instant. -/
def State.stamp (s : State) : Stamp :=
  { dev := s.time.dev, tick := s.tick.count % 2 ^ 32, base := s.time.state, stepped := s.time.stepped,
    calendar := s.time.calendar, tickState := s.tickState, tickSource := s.tick.source, timeSource := s.time.actual,
    step := s.time.epoch }

/-- R51: the age of a stamp, or none when its capture epoch is 15 or more steps old. -/
def State.age (s : State) (x : Stamp) : Option Int :=
  let d := s.time.epoch - x.step
  if 15 ≤ d then none
  else some ((s.time.dev : Int) - x.dev - (s.time.history.take d).sum)

/-- R43: the timestamp of an output: that of its oldest input under the tick, the source and the worse state of its job's admission
edge. A job without inputs takes the stamp of that edge (notes/assumptions/51.md). -/
def Run.outputStamp (r : Run) (now : Stamp) : Stamp :=
  let e := r.edge.getD now
  match r.meta_ with
  | none => e
  | some m => { m.stamp with tick := e.tick, tickSource := e.tickSource, tickState := m.stamp.tickState.worse e.tickState }

/-- R43: the oldest of stamps, the first of those of equal age. A stamp beyond the kept steps is older than any other. -/
def State.oldest (s : State) : List Stamp → Option Stamp
  | [] => none
  | x :: r =>
    match s.oldest r with
    | none => some x
    | some y =>
      match s.age x, s.age y with
      | none, _ => some x
      | _, none => some y
      | some a, some b => if a < b then some y else some x

/-! ### Event records -/

/-- The record of an event at this instant (R529), before a log gives it its SEQ. -/
def State.eventRec (s : State) (code subj arg : Nat) (fl : Bool) : EventRec :=
  { code := code, subj := subj, arg := arg, sev := severity code, fl := fl, dev := s.time.dev,
    tick := s.tick.count % 2 ^ 32, utc := s.time.utc, base := s.time.state, stepped := s.time.stepped,
    cv := s.time.calendar, epoch := s.time.epoch % 16, boot := s.health.live.count % 2 ^ 16, seq := 0 }

/-- R542: the ring takes a record under the next Shavings sequence; 16,384 records stand in it. -/
def RecorderSt.shave (l : RecorderSt) (r : EventRec) : RecorderSt :=
  { l with shavings := ({ r with seq := l.shavSeq } :: l.shavings).take 16384
           shavSeq := (l.shavSeq + 1) % 2 ^ 32
           shavCount := l.shavCount + 1 }

/-- The staged records not yet in NOR. -/
def RecorderSt.unflushed (l : RecorderSt) : List Staged := l.staging.filter (!·.flushed)

/-- The list without its first entry that meets a test. -/
def dropFirst {α : Type} (p : α → Bool) : List α → List α
  | [] => []
  | x :: r => if p x then r else x :: dropFirst p r

/-- R532: staging keeps 1,024 records; the oldest flushed one makes room. -/
def trimStaging (q : List Staged) : List Staged :=
  if 1024 < q.length then dropFirst (·.flushed) q else q

/-- R532, R533: a record into staging, and whether a record was dropped for it. -/
def RecorderSt.stage (l : RecorderSt) (now : Nat) (r : EventRec) : RecorderSt × Bool :=
  let put := fun (q : List Staged) =>
    { l with staging := trimStaging (q ++ [⟨{ r with seq := l.nextSeq }, false, now⟩])
             nextSeq := (l.nextSeq + 1) % 2 ^ 32
             staged := l.staged + 1 }
  if l.unflushed.length < 1024 then (put l.staging, false)
  else if r.sev ≠ 0 ∧ l.unflushed.any (·.rec_.sev == 0) then
    ({ put (dropFirst (fun e => !e.flushed && e.rec_.sev == 0) l.staging) with drops := l.drops + 1 }, true)
  else ({ l with drops := l.drops + 1 }, true)

/-- R621: the interval since the last recorded occurrence of an event for a subject has passed. -/
def State.due (s : State) (interval code key : Nat) : Bool :=
  match s.log.recent.find? (fun e => e.1 == (code, key)) with
  | none => true
  | some e => decide (e.2 + interval ≤ s.now)

/-- Note an occurrence as recorded now. -/
def State.noted (s : State) (code key : Nat) : State :=
  s.onLog fun l => { l with recent := ((code, key), s.now) :: l.recent.filter (fun e => e.1 != (code, key)) }

/-- R542: Shavings is written outside Watch. -/
def State.shavingsOn (s : State) : Bool := s.power.mode == .run || s.power.mode == .reduced

/-- R533: event 0xC015 goes to Shavings only, at most once per second. -/
def State.stagingFull (s : State) : State :=
  if s.due second 0xC015 0 then
    let r := s.eventRec 0xC015 0xFFFF 0 false
    (s.noted 0xC015 0).onLog fun l => if s.shavingsOn then l.shave r else l
  else s

/-- R529–R533: an event is recorded in Shavings and, by severity and note mask, in the fault log. -/
def State.record (s : State) (code subj arg : Nat) : State :=
  let fl := toFaultLog (s.cfg 0x2C0001) code
  let r := s.eventRec code subj arg fl
  let l := if s.shavingsOn then s.log.shave r else s.log
  if fl then
    let s' := s.onLog fun _ => (l.stage s.now r).1
    if (l.stage s.now r).2 then s'.stagingFull else s'
  else s.onLog fun _ => l

/-! ### Emergencies (R430–R432) -/

/-- A controller. -/
def State.ctrl (s : State) (c : Nat) : Ctrl := tget s.net.ctrls c {}

/-- The state with a controller set. -/
def State.setCtrl (s : State) (c : Nat) (v : Ctrl) : State :=
  s.onNet fun n => { n with ctrls := tset n.ctrls c v }

/-- R430: the COB-ID of a controller's emergencies; the default form 0x080 gives each its own node-ID (notes/assumptions/13.md). -/
def State.emcyCob (s : State) (c : Ctrl) : Nat :=
  if s.cfg 0x101400 = 0x80 then 0x80 + c.node else s.cfg 0x101400

/-- R430: the inhibit time at 0x1015 in nanoseconds. -/
def State.inhibit (s : State) : Nat := s.cfg 0x101500 * 100000

/-- R430: the head of a controller's queue goes on the bus when none is on it and the inhibit time has expired. -/
def State.startEmcy (s : State) (c : Nat) : State :=
  let k := s.ctrl c
  match k.emcy with
  | [] => s
  | e :: _ =>
    let free := match k.inhibitFrom with
      | none => true
      | some i => decide (i + s.inhibit ≤ s.now)
    if !k.sending && free && k.sends then
      (s.setCtrl c { k with sending := true, inhibitFrom := some s.now }).send
        (.can c (s.emcyCob k) (e.bytes k.mode))
    else s

/-- R432: a trip message goes behind the other trip messages and ahead of every non-trip one; the message on the bus
stays first. -/
def insertEmcy (sending : Bool) (q : List Emcy) (e : Emcy) : List Emcy :=
  if e.trip then
    let head := if sending then q.take 1 else []
    let rest := if sending then q.drop 1 else q
    head ++ rest.filter (·.trip) ++ [e] ++ rest.filter (!·.trip)
  else q ++ [e]

/-- The list without its last entry that meets a test. -/
def dropLast' {α : Type} (p : α → Bool) (l : List α) : List α := (dropFirst p l.reverse).reverse

/-- R432: a message into a queue of 16, and whether a message was dropped. -/
def queueEmcy (sending : Bool) (q : List Emcy) (e : Emcy) : List Emcy × Bool :=
  if q.length < 16 then (insertEmcy sending q e, false)
  else
    let rest := if sending then q.drop 1 else q
    if e.trip ∧ rest.any (!·.trip) then
      let head := if sending then q.take 1 else []
      (insertEmcy sending (head ++ dropLast' (!·.trip) rest) e, true)
    else (q, true)

/-- R432: an emergency to one controller; in Watch only trip messages are sent (R501). -/
def State.emcyTo (s : State) (c : Nat) (e : Emcy) : State :=
  let k := s.ctrl c
  if k.sends ∧ (s.net.nmt = .preOperational ∨ s.net.nmt = .operational) ∧ (e.trip ∨ s.power.mode ≠ .watch) then
    let p := queueEmcy k.sending k.emcy e
    let s' := s.setCtrl c { k with emcy := p.1 }
    let s' := if p.2 then
      (s'.onNet fun n => { n with emcyDrops := (n.emcyDrops + 1) % 2 ^ 32 }).record 0xA00D 0xFFFF 0
      else s'
    s'.startEmcy c
  else s

/-- R426: 0x1003 keeps the error codes of 8 emergencies, newest first, under information that the spec leaves open
(notes/assumptions/13.md). -/
def State.noteError (s : State) (eec code : Nat) : State :=
  if eec = 0 then s
  else s.onNet fun n => { n with errHistory := (((Config.errorInfo code % 2 ^ 16) * 2 ^ 16 + eec) :: n.errHistory).take 8 }

/-- R430: an emergency message to both controllers. -/
def State.emcy (s : State) (eec code arg : Nat) (trip : Bool) : State :=
  let e : Emcy := { eec := eec, code := code, arg := arg % 2 ^ 16, reg := s.errorRegister, dev := s.time.dev % 2 ^ 64,
                    tick := s.tick.count % 2 ^ 32, trip := trip }
  ((s.noteError eec code).emcyTo 0 e).emcyTo 1 e

/-- R431: the group mask makes an emergency of an event. -/
def State.masked (s : State) (code : Nat) : Bool :=
  (s.cfg 0x2E0301).testBit (bits code 15 12) && code != 0x4002 && code != 0xA00D

/-- R479: MSI-X vector 17 fires on three events. -/
def State.vector (s : State) (code : Nat) : State :=
  if code = 0xC040 ∨ code = 0xD040 ∨ code = 0xD041 then s.send (.msix 17) else s

/-- An event: recorded, sent as an emergency when its group is masked in, and signalled to the host (R431, R479, R531). -/
def State.emitArg (s : State) (code subj arg emcyArg : Nat) (always : Bool) (eec : Nat) : State :=
  let s := (s.record code subj arg).vector code
  if always || s.masked code then s.emcy eec code emcyArg false else s

/-- An event with no argument of its own in its emergency. -/
def State.emit (s : State) (code : Nat) (subj : Nat := 0xFFFF) (arg : Nat := 0) : State :=
  s.emitArg code subj arg 0 false (0xFF00 + bits code 15 12)

/-- R621: an event limited to once per interval and key. -/
def State.emitLimited (s : State) (interval code subj arg key : Nat) : State :=
  if s.due interval code key then (s.noted code key).emit code subj arg else s

/-- R255: groups read with an invalid scale byte are counted, event 0x7088 at most once per second. -/
def State.badGroups (s : State) (n : Nat) : State :=
  if n = 0 then s else (s.incr 0x27100D n).emitLimited second 0x7088 0xFFFF 0 0

/-! ### The frame around a command -/

/-- R431: when 0x1001 returns to 0, an error reset is sent. -/
def State.settleErrors (s : State) : State :=
  let e := s.errorRegister
  let s' := s.onNet fun n => { n with errReg := e }
  if s.net.errReg ≠ 0 ∧ e = 0 then s'.emcy 0 0 0 false else s'

end Sys2Proof.Machine
end

