-- ==== Sys2Proof/Machine/Completion.lean ====
section
/-! DEFINITION. The completion rings of the command queues and the fences they wait on (R339–R341, R477). -/
namespace Sys2Proof.Machine

/-- A queue. -/
def State.queue (s : State) (q : Nat) : Queue := tget s.comp.queues q {}

/-- The state with a queue set. -/
def State.setQueue (s : State) (q : Nat) (x : Queue) : State := s.onComp fun c => { c with queues := tset c.queues q x }

/-- The key of an object of a queue. -/
def queueKey (q u : Nat) : Nat := 0x281000 + 256 * q + u

/-- R477: the entries of a queue's rings. -/
def State.ringSize (s : State) (q : Nat) : Nat := s.obj (queueKey q 0x02)

/-- R341: the 128 bits of a completion record. -/
def completionRecord (tick event job seq tag q status out : Nat) : Nat :=
  packFields [(tick % 2 ^ 32, 96), (event % 2 ^ 16, 80), (job % 2 ^ 16, 64), (seq % 2 ^ 16, 48), (tag % 2 ^ 16, 32), (q, 24),
    (status, 8), (out % 4, 0)]

/-- R341, R479: a completion record is written at the producer index, and the queue's MSI-X vector fires. -/
def State.postCompletion (s : State) (q event job seq tag status out : Nat) : State :=
  let x := s.queue q
  let n := max (s.ringSize q) 1
  ((s.setQueue q { x with compProd := (x.compProd + 1) % n, compUsed := x.compUsed + 1 }).send
    (.completion q (x.compProd % n) (completionRecord s.tick.count event job seq tag q status out))).send (.msix q)

/-- R340: an entry is refused: event 0x8008, the counts, and a record whatever COMPLETE says. -/
def State.refuseEntry (s : State) (q event job seq tag status : Nat) : State :=
  ((((s.incr (queueKey q 0x08)).setObj (queueKey q 0x09) status).emit 0x8008 q).postCompletion q event job seq tag status 2)

/-- The demand jobs of a queue that have not ended. -/
def State.outstanding (s : State) (q : Nat) : Nat :=
  let of := fun (d : Option Demand) => d.any fun d => d.queue.any fun e => e.1 == q
  (s.head.demand.filter fun d => of (some d)).length + (s.head.deferred.filter fun d => of d.demand).length +
    (s.head.running.filter fun r => of r.demand).length

/-- R477: the completion ring has room for one more record beside those the earlier entries may still write. -/
def State.completionRoom (s : State) (q : Nat) : Bool :=
  decide ((s.queue q).compUsed + s.outstanding q + b2n (s.queue q).fenceRec.isSome < s.ringSize q)

/-- R339: the fence of a queue is met. -/
def State.fenceMet (s : State) (q : Nat) : Fence → Bool
  | .writes => s.outstanding q == 0
  | .tokens c target => decide (target ≤ (tget s.comp.channels c {}).sent)

/-- A met fence is lifted, and its FENCE entry's record is written. -/
def State.liftFence (s : State) (q : Nat) : State :=
  match (s.queue q).fence with
  | none => s
  | some f =>
    if s.fenceMet q f then
      let s1 := s.setQueue q { s.queue q with fence := none, fenceRec := none }
      match (s.queue q).fenceRec with
      | some (job, tag, seq) => s1.postCompletion q 0 job seq tag 0 0
      | none => s1
    else s

/-- The fences of every queue. -/
def State.settleFences (s : State) : State := (s.comp.queues.map (·.1)).foldl State.liftFence s

end Sys2Proof.Machine
end

