-- ==== Sys2Proof/Machine/LinkTx.lean ====
section
/-! DEFINITION. The sending side of the Spindle Link: routes, control blocks, frame headers, credits and the replay buffer
(R352–R357, R362–R365), and the tags of remote requests (R283, R367). -/
namespace Sys2Proof.Machine

/-! ### Ports and routes -/

/-- The port numbers: 0 is L0, 1 is L1. -/
def portNos : List Nat := [0, 1]

/-- A port. -/
def State.port (s : State) (k : Nat) : Port := tget s.link.ports k {}

/-- The state with a port set. -/
def State.setPort (s : State) (k : Nat) (p : Port) : State := s.onLink fun l => { l with ports := tset l.ports k p }

/-- A port changed. -/
def State.onPort (s : State) (k : Nat) (f : Port → Port) : State := s.setPort k (f (s.port k))

/-- The key of an object of a port. -/
def portKey (k u : Nat) : Nat := 0x290100 + 256 * k + u

/-- R352: the topology at 0x2900.03 uses a port: a pair's cable joins L0 of peer 0 to L1 of peer 1. -/
def State.portUsed (s : State) (k : Nat) : Bool :=
  match s.obj 0x290003 with
  | 1 => k == s.link.id
  | 2 => true
  | 3 => true
  | _ => false

/-- R352: the second cable of a pair carries control blocks only. -/
def State.dataPort (s : State) (k : Nat) : Bool := s.link.topology != 2 || k == s.link.id

/-- R352: the neighbour on a port. -/
def State.neighbour (s : State) (k : Nat) : Nat :=
  let n := max s.link.group 1
  if k = 0 then (s.link.id + 1) % n else (s.link.id + n - 1) % n

/-- R354: the port a frame to a peer leaves on; in a pair the port of the cable that carries data (notes/assumptions/38.md). -/
def State.route (s : State) (dst : Nat) : Nat :=
  let n := max s.link.group 1
  let d := (dst + n - s.link.id % n) % n
  if n = 2 then s.link.id % 2 else if d ≤ n - d then 0 else 1

/-- The other members of the group. -/
def State.peerNos (s : State) : List Nat := (List.range (min s.link.group 4)).filter (· != s.link.id)

/-- A peer. -/
def State.peer (s : State) (p : Nat) : Peer := tget s.link.peers p {}

/-- The state with a peer set. -/
def State.setPeer (s : State) (p : Nat) (x : Peer) : State := s.onLink fun l => { l with peers := tset l.peers p x }

/-- R372: the originator's TTL. -/
def State.originTtl (s : State) : Nat := (s.link.group - 2) % 4

/-- R358: a port is UP. -/
def Port.isUp (p : Port) : Bool := p.state == 3

/-! ### Control blocks (R356) -/

/-- A control block on a port. -/
def State.block (s : State) (k type content : Nat) : State := s.send (.block k type content)

/-- A control block on every UP port. -/
def State.blockUp (s : State) (type content : Nat) : State :=
  (portNos.filter fun k => (s.port k).isUp).foldl (fun s k => s.block k type content) s

/-- R356: the content of a LINK block. -/
def linkContent (kind seq : Nat) (credits : List Nat) : Nat :=
  packFields [(kind, 54), (seq % 4096, 42), (nth credits 0 % 256, 34), (nth credits 1 % 256, 26), (nth credits 2 % 256, 18),
    (nth credits 3 % 256, 10)]

/-- The type code of a control block. -/
def typeLink : Nat := 0x2D
def typeHeartbeat : Nat := 0x33
def typeRole : Nat := 0x3C
def typeTick : Nat := 0x4B
def typeBye : Nat := 0x5A
def typeTrain : Nat := 0x99

/-! ### Frames (R362) -/

/-- R362: the fields of a frame header. -/
structure FrameInfo where
  addr : Nat := 0
  tag  : Nat := 0
  op   : Nat
  seq  : Nat := 0
  len  : Nat := 0
  tc   : Nat
  dst  : Nat
  src  : Nat
  ttl  : Nat := 0
  last : Bool := false
  res  : Nat := 0
  arg  : Nat := 0
deriving DecidableEq, Repr

/-- R362: the fields of a header. -/
def FrameInfo.ofBits (v : Nat) : FrameInfo :=
  { addr := bits v 127 80, tag := bits v 79 72, op := bits v 71 64, seq := bits v 63 52, len := bits v 51 46, tc := bits v 45 44
    dst := bits v 43 42, src := bits v 41 40, ttl := bits v 39 38, last := v.testBit 37, res := bits v 36 32, arg := bits v 31 0 }

/-- R362: the header of fields. -/
def FrameInfo.pack (f : FrameInfo) : Nat :=
  packFields [(f.addr % 2 ^ 48, 80), (f.tag % 256, 72), (f.op % 256, 64), (f.seq % 4096, 52), (f.len % 64, 46), (f.tc % 4, 44),
    (f.dst % 4, 42), (f.src % 4, 40), (f.ttl % 4, 38), (b2n f.last, 37), (f.res % 32, 32), (f.arg % 2 ^ 32, 0)]

/-- The fields of a frame. -/
def frameInfo (f : LinkFrame) : FrameInfo := FrameInfo.ofBits f.header.toNat

/-- A frame with other fields. -/
def withInfo (f : LinkFrame) (i : FrameInfo) : LinkFrame := { f with header := BitVec.ofNat 128 i.pack }

/-- Payload in whole 8-byte words. -/
def padPayload (bs : List Byte) : List Byte := bs ++ List.replicate ((8 - bs.length % 8) % 8) 0

/-- A frame of this device. -/
def State.newFrame (s : State) (i : FrameInfo) (payload : List Byte) : LinkFrame :=
  let p := padPayload payload
  withInfo { header := 0, payload := p, crcOk := true }
    { i with len := p.length / 8, src := s.link.id, ttl := s.originTtl }

/-- R363: the frame buffers a receiver grants at the entry to UP. -/
def grantedCredits : List Nat := [16, 64, 32, 8]

/-- R365: the class may send: a credit, a place in the replay buffer, and for TC0 fewer than 16 frames in the tick. -/
def Port.classReady (p : Port) (tc : Nat) : Bool :=
  decide (0 < nth p.credits tc) && decide (p.replay.length < 128) && (tc != 0 || decide (p.tc0 < 16))

/-- The first waiting frame of a class. -/
def Port.firstOf (p : Port) (tc : Nat) : Option LinkFrame := p.waiting.find? fun f => (frameInfo f).tc == tc

/-- R365: the next frame to send: a TC2 frame behind 63 others, else the highest class that may send. -/
def Port.nextFrame (p : Port) : Option LinkFrame :=
  let ready := fun (tc : Nat) => if p.classReady tc then p.firstOf tc else none
  if 63 ≤ p.tc2Behind ∧ (ready 2).isSome then ready 2 else [0, 1, 2, 3].findSome? ready

/-- R363–R365: a frame goes out: a credit, a SEQ, a place in the replay buffer. -/
def State.transmit (s : State) (k : Nat) (f : LinkFrame) : State :=
  let p := s.port k
  let i := frameInfo f
  let g := withInfo f { i with seq := p.txSeq }
  let behind := if i.tc = 2 then 0 else if (p.firstOf 2).isSome then p.tc2Behind + 1 else 0
  ((s.setPort k { p with
    txSeq := (p.txSeq + 1) % 4096, waiting := dropFirst (· == f) p.waiting, replay := p.replay ++ [g]
    replayAt := if p.replay.isEmpty then s.now else p.replayAt
    credits := setNth p.credits i.tc (nth p.credits i.tc - 1), tc2Behind := behind
    tc0 := p.tc0 + b2n (i.tc == 0) }).incr (portKey k 0x04)).send (.frame k g)

/-- The waiting frames of a port go out as far as they may; the first argument bounds their number. -/
def State.pumpPort (s : State) (k : Nat) : Nat → State
  | 0 => s
  | n + 1 =>
    if (s.port k).isUp then
      match (s.port k).nextFrame with
      | some f => (s.transmit k f).pumpPort k n
      | none => s
    else s

/-- The waiting frames of a port. -/
def State.pumpAll (s : State) (k : Nat) : State := s.pumpPort k (s.port k).waiting.length

/-- A frame joins those that wait on a port. -/
def State.queueFrame (s : State) (k : Nat) (f : LinkFrame) : State :=
  (s.onPort k fun p => { p with waiting := p.waiting ++ [f] }).pumpAll k

/-- A frame of this device to a peer. -/
def State.sendFrame (s : State) (i : FrameInfo) (payload : List Byte) : State :=
  s.queueFrame (s.route i.dst) (s.newFrame i payload)

/-! ### Tags (R283, R367) -/

/-- A tag of a port's pool of 256 is free. -/
def State.tagFree (s : State) (k n : Nat) : Bool := !(s.link.tags.any fun e => e.port == k && e.tag == n)

/-- R283, R367: one tag for each 256 B that a remote chunk moves, the lowest free ones first. -/
def State.takeTags (s : State) (xid peer bytes : Nat) : State :=
  let k := s.route peer
  let free := ((List.range 256).filter (s.tagFree k)).take (ceilDiv bytes 256)
  s.onLink fun l => { l with tags := l.tags ++ free.map fun n => ⟨k, n, xid⟩ }

/-- A transfer waits for an answer from a peer. -/
def State.tagged (s : State) (xid : Nat) : Bool := s.link.tags.any (·.xid == xid)

/-! ### The journal goes out (R395) -/

/-- The other member of a pair. -/
def State.pairPeer (s : State) : Nat := 1 - s.link.id % 2

/-- R395: one JOURNAL frame of up to 10 entries. -/
def State.sendJournalFrame (s : State) : State :=
  let es := s.red.queue.take 10
  (s.onRed fun r => { r with queue := r.queue.drop 10, framesInTick := r.framesInTick + 1 }).sendFrame
    { op := 0x10, tc := 0, dst := s.pairPeer, src := s.link.id, arg := es.length } (es.flatMap fun e => leBytes 24 e.pack)

/-- R395: the active sends what waits in its journal, at most 15 frames in a tick. -/
def State.sendJournal (s : State) : Nat → State
  | 0 => s
  | n + 1 =>
    if s.red.role = .active ∧ !s.red.queue.isEmpty ∧ s.red.framesInTick < 15 ∧ (s.port (s.route s.pairPeer)).isUp then
      s.sendJournalFrame.sendJournal n
    else s

end Sys2Proof.Machine
end

