-- ==== Sys2Proof/Machine/Access.lean ====
section
/-! DEFINITION. Access by path: the order of the checks (R470), the rights of the paths (R469), the value and state rules of
the home chapters, the counting of writes and refusals (R471), the journal (R393–R397), requested against actual
(R465–R468), and the frame of every command. -/
namespace Sys2Proof.Machine

/-! ### The journal of the active (R393–R395) -/

/-- The 8-byte pieces of a value, with their numbers (R394). -/
def journalPieces : Nat → Nat → List Byte → List (Nat × List Byte)
  | 0, _, _ => []
  | n + 1, i, bs => if bs.isEmpty then [] else (i, bs.take 8) :: journalPieces n (i + 1) (bs.drop 8)

/-- The access of an object. -/
def objAccess (k : Nat) : Option Access := (objectRow k).map (·.access)

/-- R393, R394: an accepted write on the active takes the next sequence number and waits in the queue; a value takes effect at the
next accepted edge, a command at once. -/
def State.journalWrite (s : State) (p : Path) (k : Nat) (data : List Byte) : State :=
  if s.red.role = .active ∧ isJournalled k then
    let j := (s.red.issued + 1) % 2 ^ 32
    let es := (journalPieces 33 0 data).map fun e =>
      ({ value := leNat e.2, jseq := j, tick := (s.tick.count + b2n (objAccess k == some .rw)) % 2 ^ 32, key := k, len := e.2.length, piece := e.1,
         path := pathCode p } : JEntry)
    s.onRed fun r => { r with issued := j, queue := r.queue ++ es }
  else s

/-! ### Checks -/

/-- The indices a device in recovery serves (R566). -/
def recoveryServes (i : Nat) : Bool :=
  i == 0x1000 || i == 0x1018 || i / 256 == 0x20 && i == 0x2000 || i == 0x2F00 || i == 0x2F02

/-- The subindex exists (R457). -/
def subExists (k : Nat) : Bool := (objectRow k).isSome || (k % 256 == 0 && indexExists (k / 256))

/-- The path may write the object (R469). -/
def State.pathMayWrite (s : State) (p : Path) (k : Nat) : Bool :=
  let i := k / 256
  match p with
  | .can => true
  | .pcie => true
  | .firmware => true
  | .udp => !(decide (0x1000 ≤ i) && decide (i ≤ 0x1FFF)) && !(decide (0x2E00 ≤ i) && decide (i ≤ 0x2EFF))
  | .rpdo =>
    ((decide (0x2000 ≤ i) && decide (i ≤ 0x2DFF)) || (decide (0x2F00 ≤ i) && decide (i ≤ 0x2FFF))) &&
    (match objectRow k with
     | some r => r.access == .rw && decide (1 ≤ r.type.size) && decide (r.type.size ≤ 8)
     | none => false) &&
    (match s.head.image with
     | some im => im.mappable.contains k
     | none => false)
  | .journal => isJournalled k

/-- The NMT state serves the path (R469), the firmware runs and the dictionary is restored (R572). -/
def State.served (s : State) (p : Path) : Bool :=
  match p with
  | .can | .udp => s.net.nmt == .preOperational || s.net.nmt == .operational
  | .rpdo => s.net.nmt == .operational
  | _ => true

/-- The number of set bits below bit n. -/
def popCount : Nat → Nat → Nat
  | 0, _ => 0
  | n + 1, v => b2n (v.testBit n) + popCount n v

/-- A number is among choices. -/
def oneOf (l : List Nat) (v : Nat) : Bool := l.contains v

/-- Value rules of the tick, ledger and time objects (R41, R52, R54, R72, R73). -/
def State.timeValueOk (s : State) (k v : Nat) : Bool :=
  let i := k / 256
  if k = 0x220501 then decide (s.obj 0x220504 < v)
  else if k = 0x220504 then decide (v < s.obj 0x220501)
  else if i = 0x2206 then decide (v ≤ 2)
  else if k = 0x230002 then decide (v ≤ 3)
  else if k = 0x23000D ∨ k = 0x230208 then decide (v ≤ 1)
  else if k = 0x230201 then decide (v ≤ 2) && (v != 2 || s.obj 0x230204 % 1000 == 0)
  else if k = 0x230204 then
    decide (60000 ≤ v) && decide (v ≤ 480000) && (s.obj 0x230201 != 2 || v % 1000 == 0)
  else if k = 0x230209 then decide (v < s.tick.period)
  else true

/-- Value rules of the redundancy objects (R387, R420). -/
def redValueOk (k v : Nat) : Bool :=
  if k = 0x291001 then decide (v ≤ 4)
  else if k = 0x291003 then decide (v ≤ 3)
  else if k = 0x291005 then decide (1 ≤ v) && decide (v ≤ 4)
  else if k = 0x291009 then decide (v ≤ 127)
  else true

/-- Value rules of the network objects (R421, R426, R427, R434, R440, R456). -/
def netValueOk (k v : Nat) : Bool :=
  let i := k / 256
  let u := k % 256
  if i = 0x2E01 ∨ i = 0x2E02 then
    if u = 1 then decide (v ≤ 2)
    else if u = 3 then (decide (1 ≤ v) && decide (v ≤ 127)) || v == 0xFF
    else if u = 5 then oneOf [125000, 250000, 500000, 800000, 1000000] v
    else if u = 6 then oneOf [1000000, 2000000, 4000000, 5000000] v
    else if u = 0x0B then v == 1
    else true
  else if k = 0x2E0501 then decide (v ≤ 31)
  else if k = 0x2E0801 then decide (v ≤ 1)
  else if i = 0x2E10 ∨ i = 0x2E11 then decide (v ≤ 1)
  else if 0x1400 ≤ i ∧ i ≤ 0x1407 ∧ u = 2 then oneOf [254, 255] v
  else if 0x1800 ≤ i ∧ i ≤ 0x180F ∧ u = 2 then (decide (1 ≤ v) && decide (v ≤ 240)) || oneOf [254, 255] v
  else true

/-- R428: the mapping of a plant-output TPDO keeps its status byte first. -/
def State.mappingOk (s : State) (k v : Nat) : Bool :=
  let i := k / 256
  if 0x1A00 ≤ i ∧ i ≤ 0x1A0F ∧ k % 256 = 1 then
    let t := i - 0x1A00
    match s.head.image with
    | some im => if im.plantTpdos.contains t then v == (0x2E0A01 + t) * 256 + 8 else true
    | none => true
  else true

/-- Value rules of the dictionary service (R481, R482, R491). -/
def dictValueOk (k v : Nat) : Bool :=
  if k = 0x200301 then decide (v ≤ 1)
  else if k / 256 = 0x1010 then v == 0x65766173
  else if k / 256 = 0x1011 then v == 0x64616F6C
  else true

/-- Value rules of the power objects (R498, R506, R523, R524). -/
def State.powerValueOk (s : State) (k v : Nat) : Bool :=
  if k = 0x2A0001 ∨ k = 0x2A1006 then decide (v ≤ 1)
  else if k = 0x2A0003 then oneOf [2, 3] v
  else if k = 0x2A0101 then decide (v ≤ 0x1F)
  else if k = 0x2A0201 then v.testBit 31 && decide (popCount 32 v ≤ 8)
  else if k = 0x2A1001 then v == 0xFF || (decide (v ≤ 15) && (tget s.streams v {}).kind == 2)
  else if k = 0x2A1003 then decide (v < s.obj 0x2A1004)
  else if k = 0x2A1004 then decide (s.obj 0x2A1003 < v)
  else true

/-- R118, R119: a condition word is legal. -/
def conditionOk (v : Nat) : Bool :=
  let terms := (List.range 4).filter fun j => v.testBit (52 + j)
  bits v 50 40 == 0 && bits v 61 60 != 3 && terms.all (fun j => decide (bits v (10 * j + 8) (10 * j + 2) ≤ 71)) &&
    !(v.testBit 63 && terms.isEmpty) && !(bits v 61 60 == 2 && decide (terms.length < 2))

/-- Value rules of the alarm objects (R114, R115, R119, R134). -/
def alarmValueOk (k v : Nat) : Bool :=
  let i := k / 256
  let u := k % 256
  if k = 0x240006 then decide (v ≤ 0xF)
  else if k = 0x240101 then v == 1
  else if i = 0x2403 then conditionOk v
  else if 0x2410 ≤ i ∧ i ≤ 0x2457 then
    if u = 3 then decide (v ≤ 1)
    else if u = 5 then decide (v ≤ 2)
    else if 0x06 ≤ u ∧ u ≤ 0x09 then decide (v ≤ 4)
    else if 0x12 ≤ u ∧ u ≤ 0x19 then decide (1 ≤ v)
    else if u = 0x1E then oneOf (if i ≤ 0x244F then [16, 24, 32] else [8, 16, 24, 32]) v
    else true
  else true

/-- Bits per pixel of a supported CSI-2 data type (R78); 0 for any other. -/
def dataTypeBits (dt : Nat) : Nat :=
  match dt with
  | 0x2A => 8
  | 0x2B => 10
  | 0x2C => 12
  | 0x2E => 16
  | 0x1E => 16
  | 0x24 => 24
  | _ => 0

/-- Stored bytes of a sample word (R90): format codes 1 to 4 are taken as the bytes, any other as 4
(notes/assumptions/25.md). -/
def sampleBytes (format : Nat) : Nat := if 1 ≤ format ∧ format ≤ 4 then format else 4

/-- R74, R75: an address names a source that exists, with its reserved bits zero. -/
def addressOk (kind addr : Nat) : Bool :=
  match kind with
  | 1 => decide (addr < 2 ^ 14) && bits addr 7 6 == 0 && decide (bits addr 3 0 ≤ 1) && dataTypeBits (bits addr 13 8) != 0
  | 2 => decide (addr < 2 ^ 12) && bits addr 7 4 == 0 && decide (bits addr 3 0 ≤ 3)
  | 3 => decide (addr < 2 ^ 10) && bits addr 7 4 == 0 && decide (bits addr 3 0 ≤ 1)
  | 4 => decide (addr < 2 ^ 20) && decide (bits addr 19 16 ≤ 1)
  | 5 => decide (addr < 2 ^ 16) && bits addr 7 4 == 0 && decide (bits addr 3 0 ≤ 1)
  | 6 => decide (addr < 2 ^ 20) && decide (bits addr 19 16 ≤ 2)
  | 7 => decide (addr ≤ 15)
  | _ => true

/-- What two addresses of one kind must differ in to name two sources: the whole address, but for the data type of CSI-2. -/
def sourceKey (kind addr : Nat) : Nat × Nat := if kind = 1 then (1, addr % 256) else (kind, addr)

/-- The requested kind and address of a stream. -/
def State.askedSource (s : State) (n : Nat) : Nat × Nat := (s.obj (0x210001 + 256 * n), s.obj (0x210002 + 256 * n))

/-- R75: no other stream asks for the source. -/
def State.sourceFree (s : State) (n kind addr : Nat) : Bool :=
  kind == 0 || (List.range 16).all fun m =>
    m == n || (s.askedSource m).1 == 0 ||
      sourceKey (s.askedSource m).1 (s.askedSource m).2 != sourceKey kind addr

/-- What the image in force says of a stream (R77). -/
def State.ceiling (s : State) (n : Nat) : Option StreamCeiling :=
  match s.head.image with
  | none => none
  | some im => im.ceilings.find? (·.stream == n)

/-- The limits a stream asks for (R90). -/
def State.askedLimits (s : State) (n : Nat) : Limits :=
  let b := 0x210000 + 256 * n
  { width := s.obj (b + 5), height := s.obj (b + 6), unit := s.obj (b + 7), format := s.obj (b + 8),
    block := s.obj (b + 9), mem := s.obj (b + 0x0A), count := s.obj (b + 0x0B) }

/-- R90: the buffer size of a stream, rounded up to 4 KiB. -/
def bufferSize (kind addr : Nat) (l : Limits) : Nat :=
  let raw := match kind with
    | 1 => ceilDiv (l.width * l.height * dataTypeBits (bits addr 13 8)) 8
    | 2 | 3 => l.block * sampleBytes l.format
    | _ => l.unit
  ceilDiv raw 4096 * 4096

/-- R77, R90: limits lie within the image's ceilings and the pool fits its region. -/
def State.limitsOk (s : State) (n : Nat) (l : Limits) : Bool :=
  match s.ceiling n with
  | none => true
  | some c => decide (l.width ≤ c.width) && decide (l.height ≤ c.height) && decide (l.unit ≤ c.unit) &&
      decide (l.count * bufferSize (s.askedSource n).1 (s.askedSource n).2 l ≤ c.region)

/-- Value rules of the stream objects (R75, R77, R87, R90, R103, R111). -/
def State.streamValueOk (s : State) (k v : Nat) : Bool :=
  let i := k / 256
  if 0x2100 ≤ i ∧ i ≤ 0x210F then
    let n := i - 0x2100
    let a := s.askedSource n
    let l := s.askedLimits n
    match k % 256 with
    | 0x01 => decide (v ≤ 7) && addressOk v a.2 && s.sourceFree n v a.2
    | 0x02 => addressOk a.1 v && s.sourceFree n a.1 v
    | 0x05 => s.limitsOk n { l with width := v }
    | 0x06 => s.limitsOk n { l with height := v }
    | 0x07 => s.limitsOk n { l with unit := v } && !((a.1 == 5 || a.1 == 6) && decide (65536 < v))
    | 0x08 => s.limitsOk n { l with format := v }
    | 0x09 => decide (1 ≤ v) && s.limitsOk n { l with block := v }
    | 0x0A => decide (v ≤ 1)
    | 0x0B => decide (2 ≤ v) && decide (v ≤ 64) && s.limitsOk n { l with count := v }
    | 0x0D => decide (v ≤ 1)
    | 0x1A => v == 0
    | 0x1D => v != 0
    | _ => true
  else true

/-- R526: the bin parameter fits a bin mode. -/
def binParamOk (mode v : Nat) : Bool :=
  if mode = 0 then decide (1 ≤ v) && decide (v ≤ 2 ^ 31 - 1) else decide (v ≤ 30)

/-- The fault-log record of a sequence number, from staging or NOR (R536). -/
def State.logRecord (s : State) (q : Nat) : Option EventRec :=
  match s.log.staging.find? (·.rec_.seq == q) with
  | some e => some e.rec_
  | none =>
    match s.log.firstLife.find? (·.seq == q) with
    | some r => some r
    | none => (s.log.ring.flatMap (·.2)).find? (·.seq == q)

/-- The number of 64 KiB NOR sectors (R539, R562). -/
def State.norSectors (s : State) : Nat := s.boot.norMiB * 16

/-- Value rules of the health objects (R526, R536, R537, R559). -/
def State.healthValueOk (s : State) (k v : Nat) : Bool :=
  let i := k / 256
  let u := k % 256
  if 0x2B10 ≤ i ∧ i ≤ 0x2B3F then
    if u = 1 then decide (v ≤ 10)
    else if u = 3 then decide (v ≤ 1)
    else if u = 5 then binParamOk (s.obj (i * 256 + 3)) v
    else if u = 0x0A then oneOf [1, 2, 3] v
    else true
  else if k = 0x2C0101 then oneOf [1, 2] v
  else if k = 0x2C0201 then (s.logRecord v).isSome
  else if k = 0x2C1004 then s.log.shavings.any (·.seq == v)
  else if k = 0x2D1101 then decide (v < s.norSectors)
  else true

/-- Value rules of the start-up objects (R565, R567, R579, R580, R587); the firmware serves host protocol version 1
(notes/assumptions/21.md). -/
def bootValueOk (k v : Nat) : Bool :=
  if k = 0x2F0104 ∨ k = 0x2F2001 then decide (v ≤ 1)
  else if k = 0x2F0105 ∨ k = 0x2F0203 then v == 1
  else if k = 0x2F0201 then v % 256 == 0
  else if k = 0x2F0301 then decide (v ≤ 2)
  else if k = 0x2F0502 then v == 1
  else if k = 0x2F0605 then oneOf [1, 2] v
  else true

/-- The encode value rules (R169, R181, R186): codes of an encode context. -/
def encodeValueOk (u v : Nat) : Bool :=
  if oneOf [0x02, 0x03] u then decide (v ≤ 1)
  else if oneOf [0x04, 0x10, 0x11] u then decide (v ≤ 2)
  else if u = 0x0E then v == 1
  else true

/-- R237: a sampling temperature: 0, or from 0.05 to 100. -/
def temperatureOk (v : Nat) : Bool := v == 0 || v == 0x80000000 || (decide (0x3D4CCCCD ≤ v) && decide (v ≤ 0x42C80000))

/-- A finite binary32 value. -/
def finite32 (v : Nat) : Bool := bits v 30 23 != 255

/-- The operations compiled into a pass (R207). -/
def State.passOps (s : State) (p : Nat) : Nat :=
  match s.head.image with
  | none => 0
  | some im => ((im.passes.find? (·.1 == p)).map (·.2.ops)).getD 0

/-- The value rules of a pass (R199, R201, R202, R203, R204, R207, R212, R226). -/
def State.passValueOk (s : State) (p u v : Nat) : Bool :=
  if u = 0x03 then decide (v ≤ 2)
  else if u = 0x05 then decide (v < 2 ^ 48)
  else if u = 0x07 then v % 2 == 0 && (List.range 32).all fun i => !(v.testBit i) || (s.passOps p).testBit i
  else if u = 0x08 then decide (v ≤ 2)
  else if u = 0x1E then decide (v ≤ 3)
  else if 0x15 ≤ u ∧ u ≤ 0x17 then decide (-65535 ≤ signed 32 v) && decide (signed 32 v ≤ 65535)
  else if 0x1B ≤ u ∧ u ≤ 0x1D then finite32 v
  else true

/-- Value rules of the codecs, the passes and the sampler. -/
def State.engineValueOk (s : State) (k v : Nat) : Bool :=
  let i := k / 256
  let u := k % 256
  if i = 0x2510 ∨ i = 0x2511 then encodeValueOk u v
  else if 0x2508 ≤ i ∧ i ≤ 0x250F ∧ u = 0x0A then decide (v ≤ 1)
  else if 0x2620 ≤ i ∧ i ≤ 0x263F then s.passValueOk (i - 0x2620) u v
  else if 0x2640 ≤ i ∧ i ≤ 0x264F then
    if u = 0x01 then temperatureOk v
    else if u = 0x02 then decide (v ≤ 256)
    else if u = 0x03 ∨ u = 0x04 then decide (v ≤ 1)
    else true
  else true

/-- The transfer with a pending fault of an ID; a fault is not pending beyond its deadline (R302). -/
def State.faulted (s : State) (id : Nat) : Option (Xfer × FaultRec) :=
  s.xfer.active.findSome? fun x => x.fault.bind fun f => if f.id = id ∧ s.now ≤ f.deadline then some (x, f) else none

/-- R301: a legal fault response: it names a pending fault and an action. -/
def State.responseOk (s : State) (v : Nat) : Bool :=
  bits v 31 24 == 0 && bits v 7 2 == 0 && (bits v 1 0 == 1 || bits v 1 0 == 2) && (s.faulted (bits v 23 8)).isSome

/-- Value rules of the transfer and compute objects (R297, R301, R314, R335, R337, R340, R351). -/
def State.computeValueOk (s : State) (k v : Nat) : Bool :=
  let i := k / 256
  let u := k % 256
  if k = 0x270301 then decide (v ≤ 15)
  else if k = 0x270304 then decide (v ≤ 1)
  else if i = 0x2705 then decide (v ≤ 3)
  else if k = 0x270406 then s.responseOk v
  else if k = 0x280101 then oneOf [1, 2] v
  else if k = 0x280301 then decide (v ≤ 511)
  else if 0x2810 ≤ i ∧ i ≤ 0x281F then
    if u = 0x02 then decide (64 ≤ v) && decide (v ≤ 4096)
    else if u = 0x03 then decide (v ≤ 15)
    else if u = 0x04 then decide (v ≤ 2)
    else true
  else if 0x2820 ≤ i ∧ i ≤ 0x282F ∧ u = 0x08 then v == 1
  else true

/-- R381: a group size goes with its topologies. -/
def groupOk (size topology : Nat) : Bool :=
  if size = 2 then oneOf [1, 2] topology else if size = 1 then true else topology == 3

/-- R381: two windows overlap. -/
def windowsMeet (a b : Nat × Nat) : Bool :=
  a.2 != 0 && b.2 != 0 && decide (a.1 < b.1 + b.2) && decide (b.1 < a.1 + a.2)

/-- R381: window w, changed to a base and size, overlaps no other. -/
def State.windowOk (s : State) (w base size : Nat) : Bool :=
  (List.range 4).all fun v => v == w || !(windowsMeet (base, size) (s.obj (0x290301 + v), s.obj (0x290305 + v)))

/-- Value rules of the link objects (R353, R381). -/
def State.linkValueOk (s : State) (k v : Nat) : Bool :=
  if k = 0x290002 then decide (1 ≤ v) && decide (v ≤ 4) && groupOk v (s.obj 0x290003)
  else if k = 0x290003 then decide (v ≤ 3) && groupOk (s.obj 0x290002) v
  else if 0x290301 ≤ k ∧ k ≤ 0x290304 then s.windowOk (k - 0x290301) v (s.obj (k + 4))
  else if 0x290305 ≤ k ∧ k ≤ 0x290308 then s.windowOk (k - 0x290305) (s.obj (k - 4)) v
  else if 0x290309 ≤ k ∧ k ≤ 0x29030C then decide (v ≤ 3)
  else true

/-- The model slot that the slot objects show: of the image in force, or the one being loaded where that leaves it empty. -/
def State.slotShown (s : State) (n : Nat) : Slot :=
  let x := tget s.comp.slots n {}
  match s.head.loading with
  | some l => if x.state = 0 then tget l.slots n {} else x
  | none => x

/-- Check 6 of R470: the value lies in the object's range and breaks no rule of its home chapter. -/
def State.valueOk (s : State) (k : Nat) (data : List Byte) : Bool :=
  let v := leNat data
  s.timeValueOk k v && redValueOk k v && netValueOk k v && s.mappingOk k v && dictValueOk k v && s.powerValueOk k v &&
    s.healthValueOk k v && bootValueOk k v && alarmValueOk k v && s.streamValueOk k v && s.engineValueOk k v &&
    s.computeValueOk k v && s.linkValueOk k v

/-- R397: the roles in which only the journal writes journalled objects. -/
def State.journalOnly (s : State) : Bool := s.red.role == .syncing || s.red.role == .tailstock

/-- Check 7 of R470: the present state allows the write (R47, R314, R335, R395, R397, R409, R483, R497). -/
def State.stateOk (s : State) (p : Path) (k : Nat) (data : List Byte) : Bool :=
  let v := leNat data
  !(s.journalOnly && isJournalled k && p != .journal) &&
  !(s.red.role == .active && isJournalled k && decide (4096 < s.red.queue.length + (data.length + 7) / 8)) &&
  !(k == 0x230105 && s.obj 0x230002 != 0) &&
  !(k == 0x291005 && v == 1 &&
    !(s.red.role == .active && s.link.peers.any fun e => e.2.seen && !e.2.lost && !e.2.departed && e.2.role == 3)) &&
  !(k == 0x291005 && v != 1 && s.red.role != .disputed) &&
  !(k == 0x2A0003 && (s.red.role == .active || s.red.role == .promoting || s.red.role == .tailstock)) &&
  !((k / 256 == 0x1010 || k / 256 == 0x1011) && (s.dict.store.isSome || s.log.pfail)) &&
  !(decide (0x2820 ≤ k / 256) && decide (k / 256 ≤ 0x282F) && k % 256 == 8 &&
    ((s.slotShown (k / 256 - 0x2820)).state != 3 || (s.slotShown (k / 256 - 0x2820)).reload)) &&
  !((k / 256 == 0x2702 || k / 256 == 0x2705) && p != .pcie && (s.obj (0x270500 + k % 256)).testBit 1)

/-- R458, R470: the length of a value fits its object; every writable string has a fixed write size (R475). -/
def lengthOk (r : ObjRow) (n : Nat) : Bool :=
  match r.type with
  | .str => decide (1 ≤ n) && decide (n ≤ 256)
  | t => n == t.size

/-- R470: the abort code of a write, 0 when every check passes. On the journal path check 7 is left out (R484). -/
def State.writeError (s : State) (p : Path) (k : Nat) (data : List Byte) : Nat :=
  if s.boot.state = 4 ∧ recoveryServes (k / 256) = false then abortNoObject
  else if indexExists (k / 256) = false then abortNoObject
  else match objectRow k with
    | none => if k % 256 = 0 then abortReadOnly else abortNoSub
    | some r =>
      if r.access = .ro ∨ r.access = .const then abortReadOnly
      else if s.pathMayWrite p k = false then abortPath
      else if lengthOk r data.length = false then abortLength
      else if s.valueOk k data = false then abortValue
      else if p ≠ .journal ∧ s.stateOk p k data = false then abortState
      else 0

/-- The counters of a path in 0x2002 (R471): the offset of the path in each group of four. -/
def pathSlot : Path → Option Nat
  | .can | .rpdo => some 0
  | .udp => some 1
  | .pcie => some 2
  | .journal => some 3
  | .firmware => none

/-- R471: an accepted write is counted, acknowledged and journalled. -/
def State.acceptWrite (s : State) (p : Path) (k : Nat) (data : List Byte) : State :=
  let s := match pathSlot p with
    | some n => s.incr (0x200201 + n)
    | none => s
  (s.journalWrite p k data).send (.answer p k 0 [])

/-- R471: a refusal is counted and its code and object noted; it changes nothing else. A refusal on the firmware path is
reported to the firmware alone. -/
def State.refuse (s : State) (p : Path) (k code : Nat) : State :=
  let s := match pathSlot p with
    | some n => ((s.incr (0x200205 + n)).setObj (0x200209 + n) code).setObj 0x20020D k
    | none => s
  let s := if p = .rpdo then (s.incr 0x2E0409).emitLimited second 0xA01A 0xFFFF 0 0 else s
  s.send (.answer p k code [])

/-- R102: an accepted write of a limit of a stream asks for a re-cut. -/
def State.noteLimits (s : State) (k : Nat) : State :=
  if 0x2100 ≤ k / 256 ∧ k / 256 ≤ 0x210F ∧ 0x05 ≤ k % 256 ∧ k % 256 ≤ 0x0B then
    s.setStreams (tset s.streams (k / 256 - 0x2100) { tget s.streams (k / 256 - 0x2100) {} with limitsWritten := true })
  else s

/-- R460, R622: an accepted value becomes the requested value; time and tick objects are adopted at once before the first
accepted edge. -/
def State.request (s : State) (k v : Nat) : State :=
  let s := (s.setObj k v).noteLimits k
  if s.tick.started = false ∧ 0x2300 ≤ k / 256 ∧ k / 256 ≤ 0x2302 then s.adopt k v else s

/-- A write by a path: served, checked, and either refused or accepted with its effect (R424, R469–R472). -/
def State.controlled (s : State) (p : Path) (k : Nat) (data : List Byte) (eff : State → State) : State :=
  if s.served p then
    let e := s.writeError p k data
    if e = 0 then eff (s.acceptWrite p k data) else s.refuse p k e
  else s

/-- A write of a number in its object's size. -/
def State.controlledNum (s : State) (p : Path) (k v : Nat) (eff : State → State) : State :=
  s.controlled p k (leBytes (objWidth k / 8) v) eff

/-! ### The output gate (R383, R391) -/

/-- The gate passes plant outputs: always outside Pair-standby, else with ROLE_OUT asserted and the gate open. -/
def State.gateOpen (s : State) : Bool := s.red.config != 1 || (s.red.roleOut && s.red.gate)

/-- R391: a plant output at a closed gate is dropped, counted and reported. -/
def State.gateDrop (s : State) : State := (s.incr 0x29120A).emitLimited second 0x901B 0xFFFF 0 0

/-- A plant output passes the gate or is dropped. -/
def State.plant (s : State) (o : Out) : State := if s.gateOpen then s.send o else s.gateDrop

/-! ### Requested against actual (R465–R468) -/

/-- The objects of an alarm bank (R122). -/
def isBankKey (k : Nat) : Bool :=
  let i := k / 256
  let u := k % 256
  i == 0x2403 || (decide (0x2410 ≤ i) && decide (i ≤ 0x2457) && ((decide (1 ≤ u) && decide (u ≤ 0x19)) || u == 0x1E))

/-- A value of the active alarm bank. -/
def State.bk (s : State) (k : Nat) : Nat := tget s.alarm.bank k (objectDefault k)

/-- The shadow bank's values that were written (R122). -/
def State.shadow (s : State) : Table Nat := s.od.filter fun e => isBankKey e.1

/-- The two banks differ (R124). -/
def State.banksDiffer (s : State) : Bool :=
  (s.shadow ++ s.alarm.bank).any fun e => s.obj e.1 != s.bk e.1

/-- The pairs that are divergent now, each by its requested object. -/
def State.divergent (s : State) : List Nat :=
  let one := fun (b : Bool) (k : Nat) => if b then [k] else []
  ((List.range 32).flatMap fun n =>
    let r := s.obj (0x220601 + n)
    one (r != 0 && (r == 2) != (tget s.head.stages n {}).onHost) (0x220601 + n)) ++
  one (s.obj 0x230002 != s.time.actual) 0x230002 ++
  one (s.obj 0x230201 != s.tick.source.code) 0x230201 ++
  one (s.obj 0x230204 != s.tick.nominal) 0x230204 ++
  ((List.range 16).flatMap fun n =>
    let x := tget s.streams n {}
    let b := 0x210000 + 256 * n
    one (s.askedSource n != (x.kind, x.addr)) (b + 1) ++
    one (s.askedLimits n != x.limits || s.obj (b + 4) != s.cfg (b + 4)) (b + 4)) ++
  one s.banksDiffer 0x240301 ++
  one (s.obj 0x291001 != s.red.config) 0x291001 ++
  (ctrlNos.flatMap fun c =>
    one (s.obj (0x2E0101 + 256 * c) != (s.ctrl c).mode) (0x2E0101 + 256 * c) ++
    one (s.obj (0x2E0103 + 256 * c) != (s.ctrl c).node) (0x2E0103 + 256 * c)) ++
  one (s.working && s.obj 0x2A0001 != s.power.mode.code && s.power.thermal == 0) 0x2A0001 ++
  ((List.range 2).flatMap fun e => one (([0x02, 0x03, 0x12, 0x13, 0x14, 0x15].map (0x251000 + 256 * e + ·)).any fun k =>
    s.obj k != tget s.actual k (objectDefault k)) (0x251002 + 256 * e)) ++
  ((List.range 32).flatMap fun p => one ((([0x04, 0x05] ++ (List.range 24).map (· + 7)).map (0x262000 + 256 * p + ·)).any fun k =>
    s.obj k != tget s.actual k (s.obj k)) (0x262003 + 256 * p)) ++
  one (s.obj 0x2F0301 != s.head.bank) 0x2F0301 ++
  one (s.obj 0x2F2001 != b2n s.boot.eccOn) 0x2F2001

/-- R466, R468: divergences are followed from the instant they begin; the end of a persisted one raises 0xC041. -/
def State.settleDivergence (s : State) : State :=
  let d := s.divergent
  let kept := s.dict.divs.filter fun e => d.contains e.1
  let fresh := (d.filter fun k => !(s.dict.divs.any fun e => e.1 == k)).map fun k => (k, s.now)
  let ended := s.dict.raised.filter fun k => !d.contains k
  ended.foldl (fun s _ => s.emit 0xC041)
    (s.onDict fun x => { x with divs := kept ++ fresh, raised := x.raised.filter fun k => d.contains k })

/-- What stands at the end of every command: the fences, the journal, the error register and the divergences. -/
def State.settle (s : State) : State := ((s.settleFences.sendJournal 15).settleErrors).settleDivergence

/-! ### The frame of a command -/

/-- A command that takes effect whatever is powered. -/
def always (t : Nat) (f : State → State) (s : State) : Result := .next (f (s.advance t)).settle

/-- A command of the always-on domain (R501). -/
def whenPowered (t : Nat) (f : State → State) (s : State) : Result :=
  .next (if s.powered then (f (s.advance t)).settle else s.advance t)

/-- A command of the control cores and engines. -/
def whenCore (t : Nat) (f : State → State) (s : State) : Result :=
  .next (if s.coreOn then (f (s.advance t)).settle else s.advance t)

/-- A command of the control cores that also runs in recovery (R566). -/
def whenServed (t : Nat) (f : State → State) (s : State) : Result :=
  .next (if s.coreOn || (s.powered && s.boot.state == 4) then (f (s.advance t)).settle else s.advance t)

end Sys2Proof.Machine
end

