-- ==== Sys2Proof/Machine/Recorder.lean ====
section
/-! DEFINITION. The fault log in NOR, the freeze, the power-fail flush, monitors, watchdogs and lifetime counters
(R525–R550, R624). -/
namespace Sys2Proof.Machine

/-! ### The fault-log region (R534) -/

/-- Erased ring sectors: neither written nor retired. -/
def RecorderSt.blanks (l : RecorderSt) : Nat :=
  511 - l.ring.length - (l.retired.filter (· ≠ 0)).length

/-- The sector that follows a sector in the ring and is neither written nor retired. -/
def RecorderSt.nextSector (l : RecorderSt) : Nat :=
  let cur := match l.ring.getLast? with
    | some e => e.1
    | none => 511
  (((List.range 511).map fun n => (cur + n) % 511 + 1).find? fun k =>
    !(l.retired.contains k) && !(l.ring.any fun e => e.1 == k)).getD 1

/-- The 64 KiB NOR sector of a fault-log sector (R562). -/
def norSector (k : Nat) : Nat := 128 + k

/-- One erase of a NOR sector is counted (R548). -/
def State.countErase (s : State) (sector : Nat) : State :=
  s.onHealth fun h => { h with erases := tset h.erases sector (tget h.erases sector 0 + 1) }

/-- n NOR sectors from one on are erased. -/
def State.countErases (s : State) (first n : Nat) : State := (List.range n).foldl (fun s i => s.countErase (first + i)) s

/-- R534: the oldest ring sector is erased, event 0xC017. -/
def State.wrapErase (s : State) : State :=
  match s.log.ring with
  | [] => s
  | e :: r =>
    ((s.onLog fun l => { l with ring := r, wrapped := (l.wrapped + 1) % 2 ^ 32 }).countErase
      (norSector e.1)).emit 0xC017

/-- R537: erases resume by themselves, event 0xC014 with its cause. -/
def State.thaw (s : State) (cause : Nat) : State :=
  (s.onLog fun l => { l with frozen := none }).emit 0xC014 0xFFFF cause

/-- R534, R537: on entering a sector, two erased sectors are kept ahead; a freeze ends when only one remains. -/
def State.eraseAhead (s : State) : State :=
  if s.log.blanks < 2 ∧ ¬ s.log.pfail then
    let s := if s.log.frozen.isSome then s.thaw 1 else s
    s.wrapErase
  else s

/-- The ring with a record behind the last, and whether a new sector was entered. -/
def RecorderSt.ringPut (l : RecorderSt) (r : EventRec) : RecorderSt × Bool :=
  match l.ring.getLast? with
  | some e =>
    if e.2.length < 1024 then ({ l with ring := l.ring.dropLast ++ [(e.1, e.2 ++ [r])] }, false)
    else ({ l with ring := l.ring ++ [(l.nextSector, [r])] }, true)
  | none => ({ l with ring := [(l.nextSector, [r])] }, true)

/-- R534: a program error retires a sector. -/
def State.retire (s : State) (k : Nat) : State :=
  (s.onLog fun l => { l with retired := k :: l.retired, programErrors := (l.programErrors + 1) % 2 ^ 32 }).emit 0xC016

/-- R534: a record into the ring; a failed program moves the sector's records to the next erased one. -/
def State.ringWrite (s : State) (r : EventRec) (fails : Bool) : State :=
  let s1 := s.onLog fun l => (l.ringPut r).1
  let s2 := if (s.log.ringPut r).2 then s1.eraseAhead else s1
  if fails then
    match s2.log.ring.getLast? with
    | some e =>
      ((s2.retire e.1).onLog fun l => { l with ring := l.ring.dropLast ++ [(l.nextSector, e.2)] }).eraseAhead
    | none => s2
  else s2

/-- R534: one record into NOR: SEQ 0 to 1,023 of the life into the first-life sector, the others into the ring. -/
def State.nvWrite (s : State) (r : EventRec) (fails : Bool) : State :=
  if r.seq < 1024 ∧ s.log.firstRetired = false ∧ s.log.firstLife.length < 1024 then
    if fails then
      ((s.retire 0).onLog fun l => { l with firstRetired := true }).ringWrite r false
    else s.onLog fun l => { l with firstLife := l.firstLife ++ [r] }
  else s.ringWrite r fails

/-- Records into NOR in order; the n-th fails its program. -/
def State.nvWriteAll (s : State) : List EventRec → Nat → Option Nat → State
  | [], _, _ => s
  | r :: rs, n, f => (s.nvWrite r (f == some n)).nvWriteAll rs (n + 1) f

/-- The staged records with these sequence numbers are in NOR. -/
def RecorderSt.markFlushed (l : RecorderSt) (seqs : List Nat) : RecorderSt :=
  { l with staging := l.staging.map fun e => if seqs.contains e.rec_.seq then { e with flushed := true } else e }

/-- R532: every unflushed record is written in SEQ order; the flush is counted. -/
def State.flushAll (s : State) (failAt : Option Nat) : State :=
  let rs := s.log.unflushed.map (·.rec_)
  (s.nvWriteAll rs 0 failAt).onLog fun l =>
    { l.markFlushed (rs.map (·.seq)) with flushes := (l.flushes + 1) % 2 ^ 32 }

/-- R532: a flush is due: a fault or fatal record is unflushed, or 32 records are, or one has been for 1 s. -/
def State.flushDue (s : State) : Bool :=
  let u := s.log.unflushed
  u.any (fun e => e.rec_.sev != 0) || decide (32 ≤ u.length) || u.any (fun e => decide (e.at_ + second ≤ s.now))

/-! ### Lifetime (R548–R550, R624) -/

/-- Seconds with VDD_AON good (R548). -/
def State.powerOnTime (s : State) : Nat := s.health.live.powerOn + (s.now - s.health.liveFrom) / second

/-- The lifetime values at this instant. -/
def State.lifetimeNow (s : State) : Lifetime := { s.health.live with powerOn := s.powerOnTime }

/-- R549: a lifetime entry is appended; a failed write raises 0xC030. -/
def State.appendLifetime (s : State) (writeOk : Bool) : State :=
  if writeOk then
    s.onHealth fun h => { h with entry := some s.lifetimeNow, entrySeq := nextSeq h.entrySeq, entryAt := s.now,
                                 entryDev := s.time.dev }
  else (s.onHealth fun h => { h with entryAt := s.now }).emit 0xC030

/-- R549: the erase-count table is written. -/
def State.writeEraseTable (s : State) (writeOk : Bool) : State :=
  if writeOk then s.onHealth fun h => { h with eraseTable := h.erases, eraseAt := s.now }
  else (s.onHealth fun h => { h with eraseAt := s.now }).emit 0xC030

/-- R538: the ARG of the power-fail record: the live values and the records this flush will not write. -/
def State.powerFailArg (s : State) (left : Nat) : Nat :=
  let l := s.lifetimeNow
  packFields [(l.powerOn % 2 ^ 64, 0), (l.ticks % 2 ^ 64, 64), (l.hot % 2 ^ 32, 128), (l.cycles % 2 ^ 32, 160),
    (left % 2 ^ 16, 192)]

/-- R538: the order of the power-fail flush: the power-fail record, fault and fatal records oldest first, then the others,
at most 128 beside it. -/
def powerFailOrder (u : List EventRec) : List EventRec :=
  let pf := u.filter (·.code == 0xC018)
  let rest := u.filter (·.code != 0xC018)
  pf ++ (rest.filter (·.sev != 0) ++ rest.filter (·.sev == 0)).take 128

/-- R538 step 3: the flush at power fail. -/
def State.powerFailFlush (s : State) : State :=
  let rs := powerFailOrder (s.log.unflushed.map (·.rec_))
  (s.nvWriteAll rs 0 none).onLog fun l =>
    { l.markFlushed (rs.map (·.seq)) with flushes := (l.flushes + 1) % 2 ^ 32, pfFlushes := (l.pfFlushes + 1) % 2 ^ 32 }

/-- Every fault-log record in NOR. -/
def RecorderSt.inNor (l : RecorderSt) : List EventRec := l.firstLife ++ l.ring.flatMap (·.2)

/-- The newest of records by SEQ under R620. -/
def newestRec : List EventRec → Option EventRec
  | [] => none
  | r :: rs =>
    match newestRec rs with
    | none => some r
    | some x => if newer r.seq x.seq then some r else some x

/-- R550, R624: the live values at a start, and whether a power-fail record gave one. -/
def State.restoredLifetime (s : State) : Lifetime × Bool :=
  let e := s.health.entry.getD {}
  match newestRec (s.log.inNor.filter (·.code == 0xC018)) with
  | none => (e, false)
  | some r =>
    let m := { e with powerOn := max e.powerOn (bits r.arg 63 0), ticks := max e.ticks (bits r.arg 127 64),
                      hot := max e.hot (bits r.arg 159 128), cycles := max e.cycles (bits r.arg 191 160) }
    (m, decide (m ≠ e))

/-- R624, R550: a power-on or pin reset restores the live values and counts the power-on. -/
def State.startLifetime (s : State) : State :=
  let p := s.restoredLifetime
  let l : Lifetime := { p.1 with count := (p.1.count + 1) % 2 ^ 32 }
  let s' := s.onHealth fun h => { h with live := l, liveFrom := s.now, hotWindow := 0, hotSeen := false,
                                         entryAt := s.now, eraseAt := s.now }
  if p.2 then s'.emit 0xC031 else s'

/-- R548: the first power-on is noted at the first instant of the life at which the calendar is valid. -/
def State.noteCalendar (s : State) : State :=
  if s.time.calendar ∧ s.health.live.first = 0 then
    (s.onHealth fun h => { h with live := { h.live with first := s.time.dev / second } }).emit 0xC032
  else s

/-- R548: the thermal-cycle rule on a sample in 0.1 °C. -/
def Lifetime.cycle (l : Lifetime) (hot : Int) : Lifetime :=
  if hot < 350 then { l with armed := true }
  else if 850 < hot ∧ l.armed then { l with armed := false, cycles := (l.cycles + 1) % 2 ^ 32 } else l

/-- R548: a 1 ms reading of the hottest junction, in 0.1 °C. -/
def State.lifetimeSample (s : State) (hot : Int) : State :=
  s.onHealth fun h =>
    let l := h.live.cycle hot
    let seen := h.hotSeen || decide (1000 < hot)
    if h.hotWindow + 1 = 1000 then
      { h with live := { l with hot := (l.hot + b2n seen) % 2 ^ 32 }, hotWindow := 0, hotSeen := false }
    else { h with live := l, hotWindow := h.hotWindow + 1, hotSeen := seen }

/-! ### Monitors (R525–R528) -/

/-- R526: the histogram bin of a sample. -/
def Monitor.bin (m : Monitor) (v : Int) : Nat :=
  if m.mode = 0 then (clamp 0 63 ((v - m.lo) / (m.w : Int))).toNat
  else if v < (2 ^ m.w : Nat) then 0 else Nat.min (Nat.log2 v.toNat - m.w + 1) 63

/-- R525: a sample; bins stop at their greatest value. -/
def Monitor.sample (m : Monitor) (v : Int) : Monitor :=
  let i := m.bin v
  { m with count := (m.count + 1) % 2 ^ 64, min := if v < m.min then v else m.min
           max := if m.max < v then v else m.max, last := v
           bins := tset m.bins i (Nat.min (tget m.bins i 0 + 1) 0xFFFFFFFF) }

/-- R527: a cleared monitor. -/
def Monitor.clear (m : Monitor) : Monitor :=
  { m with count := 0, min := 0x7FFFFFFF, max := -2147483648, bins := [] }

/-- R527: the snapshot fields take the present ones. -/
def Monitor.snapshot (m : Monitor) (dev : Nat) : Monitor :=
  { m with sCount := m.count, sMin := m.min, sMax := m.max, sBins := m.bins, sDev := dev }

/-- A monitor. -/
def State.monitor (s : State) (m : Nat) : Monitor := tget s.health.monitors m {}

/-- The state with a monitor set. -/
def State.setMonitor (s : State) (m : Nat) (v : Monitor) : State :=
  s.onHealth fun h => { h with monitors := tset h.monitors m v }

/-- R525, R528: monitor m takes a sample, and a sample above its high limit is counted and reported. -/
def State.monitorSample (s : State) (m : Nat) (v : Int) : State :=
  let v := sat32 v
  let s := s.setMonitor m ((s.monitor m).sample v)
  if signed 32 (s.cfg (0x2B100B + 256 * m)) < v then
    (s.incr 0x2B0002).emitLimited second 0xC001 m (pattern 32 v) m
  else s

/-- A value of a source is sampled by every monitor bound to it (R525). -/
def State.observe (s : State) (source inst : Nat) (v : Int) : State :=
  (List.range 48).foldl (fun s m =>
    if (s.monitor m).source = source ∧ (s.monitor m).inst = inst ∧ source ≠ 0 then s.monitorSample m v else s) s

/-- R527: at an accepted edge a monitor whose configuration was written adopts it and clears. -/
def State.adoptMonitors (s : State) : State :=
  (List.range 48).foldl (fun s m =>
    let x := s.monitor m
    if x.dirty then
      let b := 0x2B1000 + 256 * m
      s.setMonitor m { x.clear with source := s.obj (b + 1), inst := s.obj (b + 2), mode := s.obj (b + 3),
                                    lo := signed 32 (s.obj (b + 4)), w := s.obj (b + 5), dirty := false }
    else s) s

/-! ### Watchdogs (R544–R546) -/

/-- A watchdog. -/
def State.dog (s : State) (k : Nat) : Watchdog := tget s.health.dogs k {}

/-- The state with a watchdog set. -/
def State.setDog (s : State) (k : Nat) (v : Watchdog) : State :=
  s.onHealth fun h => { h with dogs := tset h.dogs k v }

/-- R544: the window-open time and the timeout of a watchdog, in nanoseconds. -/
def dogOpen (k : Nat) : Nat := if k ≤ 3 then 1000000 else 10000000
def dogTimeout (k : Nat) : Nat := if k ≤ 3 then 10000000 else 100000000

/-- R545: the watchdog's evidence of an expiry at device time `dev`, instant `now`. -/
def Watchdog.expire (d : Watchdog) (state reason pc dev now : Nat) : Watchdog :=
  { d with state := state, expiries := (d.expiries + 1) % 2 ^ 32, pc := pc % 2 ^ 32, capLast := d.lastDev, capAt := dev,
           reason := reason, last := now, lastDev := dev }

/-- R545, R553: a watchdog expires: evidence, event 0xC020, the core halts; a control core's reset waits for the flush, the
always-on core alone restarts. -/
def State.dogExpires (s : State) (k reason pc : Nat) : State :=
  let d := s.dog k
  let s1 := s.setDog k (d.expire (if k ≤ 3 then 2 else 0) reason pc s.time.dev s.now)
  let s2 := s1.onHealth fun h => { h with live := { h.live with expiries := (h.live.expiries + 1) % 2 ^ 32 } }
  let s3 := s2.emit 0xC020 k (packFields [(pc % 2 ^ 32, 0), (d.lastDev % 2 ^ 64, 32), (reason, 96)])
  if k ≤ 3 then
    let s4 := s3.onHealth fun h => { h with resetPending := some k }
    if s4.health.halted = [] then s4 else s4.emit 0xC022
  else s3

/-- R546: a watchdog restarts from a full timeout. -/
def State.dogRestart (s : State) (k : Nat) : State :=
  s.setDog k { s.dog k with state := 0, last := s.now, lastDev := s.time.dev }

end Sys2Proof.Machine
end

