-- ==== Sys2Proof/Machine/Wake.lean ====
section
/-! DEFINITION. Wake causes (R502, R504): what begins an exit from Watch. -/
namespace Sys2Proof.Machine

/-- R499, R502, R504: an enabled cause in Watch below thermal level 2 asserts CORE_EN, is noted and reported. A cause that
comes while an exit runs adds nothing. -/
def State.wakeCause (s : State) (n : Nat) : State :=
  if s.power.mode = .watch ∧ s.flag 0x2A0101 n ∧ s.power.thermal < 2 ∧ s.power.wakeAt = none then
    ((s.onPower fun p => { p with coreEn := true, wakeAt := some s.now, railsOk := false, retryAt := none }).setObj
      0x2A0006 n).emit 0xB004
  else s

/-- R502: the always-on core keeps up to 8 CAN frames that address the Zwili, in the order of arrival; such a frame is a wake
cause. -/
def State.wakeFrame (s : State) (c cob : Nat) (data : List Byte) : State :=
  (s.onNet fun n => { n with
    watchFrames := if n.watchFrames.length < 8 then n.watchFrames ++ [(c, cob, data)] else n.watchFrames }).wakeCause 1

end Sys2Proof.Machine
end

