-- ==== Sys2Proof/Machine/Alarm.lean ====
section
/-! DEFINITION. The alarm path: taps, windows, persistence, the matrix, banks and the firmware trip path (R112–R134). -/
namespace Sys2Proof.Machine

/-! ### Calibration and windows (R113–R115) -/

/-- The index base of a tap's objects. -/
def tapBase (tap : Nat) : Nat := 0x241000 + 256 * tap

/-- R115: a tap takes the first w bits of a TDM slot (left-justified in 32 bits), or the low w bits of an SPI word. -/
def tapBits (tap w raw : Nat) : Nat := if tap < 64 then raw % 2 ^ 32 / 2 ^ (32 - w) else raw % 2 ^ w

/-- R113: the calibrated value. -/
def calibrate (w : Nat) (unsigned : Bool) (v : Nat) (g o : Int) : Int :=
  let x : Int := if unsigned then v else signed w v
  sat32 (x * g / 16777216 + o)

/-- Table: Window modes. -/
def windowCompare (mode : Nat) (lo hi c : Int) : Bool :=
  match mode with
  | 1 => decide (lo ≤ c) && decide (c ≤ hi)
  | 2 => decide (c < lo) || decide (hi < c)
  | 3 => decide (hi < c)
  | 4 => decide (c < lo)
  | _ => false

/-- A tap. -/
def State.tap (s : State) (n : Nat) : TapSt := tget s.alarm.taps n {}

/-- The state with a tap set. -/
def State.setTap (s : State) (n : Nat) (v : TapSt) : State :=
  s.onAlarm fun a => { a with taps := tset a.taps n v }

/-- R114: one window's counters and persisted bit after a word whose compare is `c`, with counts `sc` and `rc`. -/
def windowStep (c : Bool) (sc rc set rel : Nat) (p : Bool) : Nat × Nat × Bool :=
  let set' := if c then set + 1 else 0
  let rel' := if c then 0 else rel + 1
  let p' := if c ∧ sc ≤ set' then true else if ¬ c ∧ rc ≤ rel' then false else p
  (set', rel', p')

/-- The calibrated value a word gives a tap under the active bank (R113, R115). -/
def State.tapValue (s : State) (tap raw : Nat) : Int :=
  let b := tapBase tap
  let w := s.bk (b + 0x1E)
  calibrate w ((s.bk (b + 3)).testBit 0) (tapBits tap w raw) (signed 32 (s.bk (b + 1))) (signed 32 (s.bk (b + 2)))

/-- R114: the compare of window w of a tap for a value. -/
def State.tapCompare (s : State) (tap w : Nat) (c : Int) : Bool :=
  let b := tapBase tap
  windowCompare (s.bk (b + 0x06 + w)) (signed 32 (s.bk (b + 0x0A + w))) (signed 32 (s.bk (b + 0x0E + w))) c

/-- R114, R116: a tap after a word; at the first word after silence its counters restart. -/
def State.tapStep (s : State) (tap : Nat) (c : Int) : TapSt :=
  let b := tapBase tap
  let x := s.tap tap
  let x := if x.silent then { x with setc := [0, 0, 0, 0], relc := [0, 0, 0, 0], silent := false } else x
  let r := (List.range 4).map fun w =>
    windowStep (s.tapCompare tap w c) (s.bk (b + 0x12 + w)) (s.bk (b + 0x16 + w)) (nth x.setc w) (nth x.relc w)
      (x.persisted.getD w false)
  { x with setc := r.map (·.1), relc := r.map (·.2.1), persisted := r.map (·.2.2)
           compare := (List.range 4).map fun w => s.tapCompare tap w c
           lastWord := some s.now, value := c }

/-! ### The matrix (R118–R121) -/

/-- The condition word k of the active bank. -/
def State.condWord (s : State) (k : Nat) : Nat := s.bk (0x240301 + k)

/-- The enabled terms of a condition word. -/
def enabledTerms (w : Nat) : List Nat := (List.range 4).filter fun j => w.testBit (52 + j)

/-- R120: a term's value: the persisted bit it names, XOR INV. -/
def State.termValue (s : State) (w j : Nat) : Bool :=
  let f := bits w (10 * j + 9) (10 * j)
  ((s.tap (bits f 8 2)).persisted.getD (f % 4) false) ^^ f.testBit 9

/-- R118, R120: a condition's raw value. -/
def State.condRaw (s : State) (k : Nat) : Bool :=
  let w := s.condWord k
  let vs := (enabledTerms w).map (s.termValue w)
  w.testBit 63 &&
  match bits w 61 60 with
  | 0 => vs.any id
  | 1 => vs.all id
  | 2 => decide (2 ≤ (vs.filter id).length)
  | _ => false

/-- A 64-bit mask from a test of each bit. -/
def maskOf (f : Nat → Bool) : Mask64 :=
  BitVec.ofNat 64 ((List.range 64).foldl (fun a k => if f k then a + 2 ^ k else a) 0)

/-- R121: the level of pin n: low until the first commit and in Retained-off, else asserted by a true condition routed to it
or by a fault, under its polarity. -/
def State.pinLevel (s : State) (n : Nat) : Bool :=
  let asserted := s.alarm.forced || (List.range 64).any fun k =>
    s.alarm.conds.getLsbD k && (s.condWord k).testBit (56 + n)
  if s.alarm.everCommitted = false ∨ s.powered = false then false
  else if s.flag 0x240006 n then asserted else !asserted

/-- The pins follow. -/
def State.drivePins (s : State) : State :=
  s.onAlarm fun a => { a with pins := BitVec.ofNat 4 ((List.range 4).foldl (fun v n =>
    if s.pinLevel n then v + 2 ^ n else v) 0) }

/-- R127, R385, R391: the trip message of a condition goes to the controllers when the device may send plant outputs. -/
def State.tripMessage (s : State) (k : Nat) : State :=
  if s.red.role = .tailstock then s
  else if s.gateOpen then s.emcy 0xFF04 0x4001 k true
  else s.gateDrop

/-- R127: the handlers of a tick serve four rises; later ones wait for the next accepted edge. In Watch the always-on core
queues every rise. -/
def State.notifyTrip (s : State) (k : Nat) : State :=
  if s.power.mode = .watch then s.tripMessage k
  else if s.alarm.rises < 4 then (s.onAlarm fun a => { a with rises := a.rises + 1 }).tripMessage k
  else (s.onAlarm fun a => { a with waitingTrips := a.waitingTrips ++ [k] }).incr 0x240008

/-- R131: a rise or fall is recorded at most once per 10 ms per condition; a suppressed record is counted. -/
def State.alarmRecord (s : State) (code k : Nat) : State :=
  if s.due 10000000 code k then (s.noted code k).record code k 0 else s.incr 0x240007

/-- R127, R431, R502: what the rise of a condition does. -/
def State.condRise (s : State) (k : Nat) : State :=
  let s1 := s.alarmRecord 0x4001 k
  let s2 := if (s.condWord k).testBit 51 then s1.notifyTrip k
    else if s.due 10000000 0x4001 k ∧ s.masked 0x4001 then s1.emcy 0xFF04 0x4001 k false else s1
  if (s.cfg 0x2A0102).testBit k then s2.wakeCause 2 else s2

/-- R131: what the fall of a condition does. -/
def State.condFall (s : State) (k : Nat) : State := s.alarmRecord 0x4002 k

/-- The bit numbers of a mask. -/
def bitsOf (m : Mask64) : List Nat := (List.range 64).filter fun k => m.getLsbD k

/-- R120: the latched conditions after the raw values `raw`. -/
def State.nextLatched (s : State) (raw : Mask64) : Mask64 :=
  maskOf fun k => (s.condWord k).testBit 63 &&
    (s.alarm.latched.getLsbD k || (raw.getLsbD k && (s.condWord k).testBit 62))

/-- R118–R121: the matrix and the pins after the persisted bits changed. -/
def State.matrix (s : State) : State :=
  let raw := maskOf s.condRaw
  let lat := s.nextLatched raw
  let conds := raw ||| lat
  let s1 := (s.onAlarm fun a => { a with raw := raw, latched := lat, conds := conds }).drivePins
  let s2 := (bitsOf (conds &&& ~~~ s.alarm.conds)).foldl State.condRise s1
  (bitsOf (s.alarm.conds &&& ~~~ conds)).foldl State.condFall s2

/-- R112–R117: a tap takes a word; with GCLK stopped the chain does not run. -/
def State.tapWord (s : State) (tap raw : Nat) : State :=
  if s.alarm.gclkOk then
    let c := s.tapValue tap raw
    (((s.setTap tap (s.tapStep tap c)).incr (tapBase tap + 0x1C)).setObj (tapBase tap + 0x1A) (pattern 32 c)).matrix
  else s

/-! ### Banks (R122–R124, R573) -/

/-- R116: a tap is tracked for silence when an enabled condition names it. -/
def State.tracked (s : State) (tap : Nat) : Bool :=
  (List.range 64).any fun k =>
    let w := s.condWord k
    w.testBit 63 && (enabledTerms w).any fun j => bits w (10 * j + 8) (10 * j + 2) == tap

/-- R122: the low bound of the first window of the shadow bank whose low bound exceeds its high bound. -/
def State.shadowFault (s : State) : Option Nat :=
  (((List.range 72).flatMap fun t => (List.range 4).map fun w => (t, w)).find? fun e =>
    let b := tapBase e.1
    (s.obj (b + 0x06 + e.2) == 1 || s.obj (b + 0x06 + e.2) == 2) &&
      decide (signed 32 (s.obj (b + 0x0E + e.2)) < signed 32 (s.obj (b + 0x0A + e.2)))).map
    fun e => tapBase e.1 + 0x0A + e.2

/-- R123: window w of a tap has other mode, bounds or counts in the new bank. -/
def windowChanged (old new : Nat → Nat) (tap w : Nat) : Bool :=
  [0x06, 0x0A, 0x0E, 0x12, 0x16].any fun u => old (tapBase tap + u + w) != new (tapBase tap + u + w)

/-- R123: a tap over a swap: changed windows restart, all of them after a GCLK fault (R126). -/
def TapSt.swap (x : TapSt) (changed : Nat → Bool) : TapSt :=
  let z := fun (l : List Nat) => (List.range 4).map fun w => if changed w then 0 else nth l w
  { x with setc := z x.setc, relc := z x.relc
           persisted := (List.range 4).map fun w => if changed w then false else x.persisted.getD w false }

/-- R123, R126: the swap of the banks. -/
def State.swapBank (s : State) (b : Table Nat) : State :=
  let new := fun k => tget b k (objectDefault k)
  let all := s.alarm.gclkFault
  let s1 := s.onAlarm fun a => { a with
    bank := b, commit := none, refused := false, everCommitted := true, path := 1, forced := false, gclkFault := false
    latched := if all then 0 else maskOf fun k => a.latched.getLsbD k && (new (0x240301 + k)).testBit 63
    taps := (List.range 72).map fun n =>
      (n, (s.tap n).swap fun w => all || windowChanged s.bk new n w) }
  let s2 := s1.onAlarm fun a => { a with taps := a.taps.map fun e =>
    (e.1, if s1.tracked e.1 && !s.tracked e.1 then { e.2 with lastWord := some s.now } else e.2) }
  ((s2.incr 0x240102).emit 0x4003).matrix

/-- R122: the check of the shadow bank at a commit; a checked bank waits for the word boundary. -/
def State.requestCommit (s : State) : State :=
  match s.shadowFault with
  | some k => ((s.onAlarm fun a => { a with refused := true }).setObj 0x240106 k).emit 0x4004
  | none => s.onAlarm fun a => { a with commit := some s.shadow }

/-- R573: the commit of the restored shadow bank at start step 3. -/
def State.startCommit (s : State) : State :=
  match s.shadowFault with
  | some _ => s.requestCommit
  | none => s.swapBank s.shadow

/-- R124: the CRC-32C of a bank over its objects in index and subindex order (notes/assumptions/24.md). -/
def bankCrc (f : Nat → Nat) : BitVec 32 :=
  crc32c (((List.range 64).flatMap fun k => leBytes 8 (f (0x240301 + k))) ++
    ((List.range 72).flatMap fun t => ((List.range 25).map (· + 1) ++ [0x1E]).flatMap fun u =>
      leBytes (objWidth (tapBase t + u) / 8) (f (tapBase t + u))))

/-- R124, R126: a fault asserts every pin. -/
def State.alarmFault (s : State) (code : Nat) : State :=
  ((s.onAlarm fun a => { a with forced := true, path := 2 }).emit code).drivePins

/-- R127: what an accepted edge gives the trip path: the waiting messages go out, and the count of the tick restarts. -/
def State.edgeTrips (s : State) : State :=
  (s.alarm.waitingTrips.foldl State.tripMessage (s.onAlarm fun a => { a with rises := 0, waitingTrips := [] })).drivePins

/-! ### The commands -/

/-- SAMPLE_WORD (R112, R113). -/
def execSampleWord (t : Nat) (tap : Fin 72) (raw : BitVec 32) : State → Result :=
  whenPowered t fun s => s.tapWord tap raw.toNat

/-- TAP_SILENT (R116). -/
def execTapSilent (t : Nat) (tap : Fin 72) : State → Result :=
  whenPowered t fun s =>
    let b := tapBase tap
    let x := s.tap tap
    if s.alarm.gclkOk ∧ s.tracked tap ∧ x.silent = false ∧
        x.lastWord.all (fun i => decide (i + s.bk (b + 4) * 1000 < s.now)) then
      let p := match s.bk (b + 5) with
        | 1 => [true, true, true, true]
        | 2 => [false, false, false, false]
        | _ => x.persisted
      (((s.setTap tap { x with silent := true, persisted := p }).incr (b + 0x1D)).emit 0x4005 tap).matrix
    else s

/-- R120, R132: the latches of a mask whose conditions are false clear. -/
def State.clearLatches (s : State) (mask : Mask64) : State :=
  let go := mask &&& ~~~ s.alarm.raw &&& s.alarm.latched
  ((bitsOf go).foldl (fun s k => s.emit 0x4007 k)
    (s.onAlarm fun a => { a with latched := a.latched &&& ~~~ go })).matrix

/-- CLEAR_LATCHES (R120, R132). -/
def execClearLatches (t : Nat) (p : Path) (mask : Mask64) : State → Result :=
  whenCore t fun s => s.controlledNum p 0x240005 mask.toNat fun s => s.clearLatches mask

/-- BANK_COMMIT (R122). -/
def execBankCommit (t : Nat) (p : Path) (v : Nat) : State → Result :=
  whenCore t fun s => s.controlledNum p 0x240101 v State.requestCommit

/-- BANK_SWAP (R122, R123). -/
def execBankSwap (t : Nat) : State → Result :=
  whenPowered t fun s =>
    match s.alarm.commit with
    | some b => if s.alarm.gclkOk then s.swapBank b else s
    | none => s

/-- ACTIVE_BANK_SCRUB (R124): the operand is the CRC that the scrubber recomputes. -/
def execActiveBankScrub (t : Nat) (crc : BitVec 32) : State → Result :=
  whenPowered t fun s => if crc = bankCrc s.bk then s else s.alarmFault 0x4009

/-- GCLK_FAULT (R126). -/
def execGclkFault (t : Nat) : State → Result :=
  whenPowered t fun s => (s.onAlarm fun a => { a with gclkOk := false, gclkFault := true }).alarmFault 0x4008

/-- GCLK_RELOCK (R126). -/
def execGclkRelock (t : Nat) : State → Result :=
  whenPowered t fun s => s.onAlarm fun a => { a with gclkOk := true }

end Sys2Proof.Machine
end

