-- ==== Sys2Proof/Machine/Float.lean ====
section
/-! DEFINITION. Exact arithmetic on dyadic numbers m × 2^e and rounding to the floating formats of R253:
binary32, FP16, BF16, FP8 E4M3 and FP8 E5M2, with the conversions of R258, R204 and R232. -/
namespace Sys2Proof.Machine

/-- The number m × 2^e. -/
structure Dyadic where
  m : Int
  e : Int
deriving DecidableEq, Repr

/-- A decoded value. -/
inductive FVal where
  | fin (neg : Bool) (d : Dyadic)
  | inf (neg : Bool)
  | nan (neg : Bool)
deriving DecidableEq, Repr

/-- A format: exponent bits, fraction bits, and whether the top exponent holds infinities (E4M3 has none). -/
structure Format where
  eb : Nat
  fb : Nat
  ieee : Bool
deriving DecidableEq, Repr

def fp32 : Format := ⟨8, 23, true⟩
def fp16 : Format := ⟨5, 10, true⟩
def bf16 : Format := ⟨8, 7, true⟩
def e5m2 : Format := ⟨5, 2, true⟩
def e4m3 : Format := ⟨4, 3, false⟩

/-- The exponent bias. -/
def Format.bias (f : Format) : Int := 2 ^ (f.eb - 1) - 1

/-- Decode a bit pattern. -/
def decodeFloat (f : Format) (v : Nat) : FVal :=
  let s := v.testBit (f.eb + f.fb)
  let e := bits v (f.eb + f.fb - 1) f.fb
  let m := v % 2 ^ f.fb
  let top := 2 ^ f.eb - 1
  if f.ieee ∧ e = top then (if m = 0 then .inf s else .nan s)
  else if ¬ f.ieee ∧ e = top ∧ m = 2 ^ f.fb - 1 then .nan s
  else
    let mag : Dyadic := if e = 0 then ⟨m, 1 - f.bias - f.fb⟩ else ⟨m + 2 ^ f.fb, e - f.bias - f.fb⟩
    .fin s ⟨if s then -mag.m else mag.m, mag.e⟩

/-- Bring two dyadics to one exponent. -/
def alignTo (d : Dyadic) (e : Int) : Int := d.m * 2 ^ (d.e - e).toNat

/-- Exact sum. -/
def Dyadic.add (a b : Dyadic) : Dyadic :=
  let e := min a.e b.e
  ⟨alignTo a e + alignTo b e, e⟩

/-- Exact product. -/
def Dyadic.mul (a b : Dyadic) : Dyadic := ⟨a.m * b.m, a.e + b.e⟩

/-- Exact comparison a < b. -/
def Dyadic.lt (a b : Dyadic) : Bool :=
  let e := min a.e b.e
  decide (alignTo a e < alignTo b e)

/-- floor(d). -/
def Dyadic.floor (d : Dyadic) : Int :=
  if 0 ≤ d.e then d.m * 2 ^ d.e.toNat else d.m / (2 ^ (-d.e).toNat : Int)

/-- n / 2^k rounded to nearest, ties to even. -/
def roundEven (n k : Nat) : Nat :=
  if k = 0 then n else
  let q := n / 2 ^ k
  let r := n % 2 ^ k
  if 2 * r > 2 ^ k then q + 1 else if 2 * r = 2 ^ k then q + q % 2 else q

/-- Round a magnitude m × 2^e into the finite range of a format, ties to even: the pattern without its sign, and whether it
lies above the greatest finite value. -/
def packMagnitude (f : Format) (m : Nat) (e : Int) : Nat × Bool :=
  if m = 0 then (0, false) else
  let lg : Int := Nat.log2 m
  let emin := 1 - f.bias
  let ex := max (lg + e) emin
  let sh := ex - f.fb - e
  let q := if 0 ≤ sh then roundEven m sh.toNat else m * 2 ^ (-sh).toNat
  let pat := ((ex - emin) * 2 ^ f.fb + q).toNat
  let greatest := if f.ieee then (2 ^ f.eb - 1) * 2 ^ f.fb - 1 else 2 ^ (f.eb + f.fb) - 2
  (min pat greatest, decide (pat > greatest))

/-- The greatest finite pattern of a format. -/
def Format.greatest (f : Format) : Nat :=
  if f.ieee then (2 ^ f.eb - 1) * 2 ^ f.fb - 1 else 2 ^ (f.eb + f.fb) - 2

/-- The sign bit of a format. -/
def Format.sign (f : Format) (neg : Bool) : Nat := if neg then 2 ^ (f.eb + f.fb) else 0

/-- Round a dyadic to a format, a finite value saturating (R258). -/
def packFinite (f : Format) (neg : Bool) (d : Dyadic) : Nat × Bool :=
  let r := packMagnitude f d.m.natAbs d.e
  (r.1 + f.sign neg, r.2)

/-- IEEE rounding of an exact binary32 result: overflow gives an infinity. -/
def packIeee (f : Format) (neg : Bool) (d : Dyadic) : Nat :=
  let r := packMagnitude f d.m.natAbs d.e
  (if r.2 then (2 ^ f.eb - 1) * 2 ^ f.fb else r.1) + f.sign neg

/-- binary32 addition with round-to-nearest-even. -/
def fadd (a b : Nat) : Nat :=
  match decodeFloat fp32 a, decodeFloat fp32 b with
  | .nan _, _ => 0x7FC00000
  | _, .nan _ => 0x7FC00000
  | .inf s, .inf r => if s = r then a else 0x7FC00000
  | .inf _, _ => a
  | _, .inf _ => b
  | .fin s x, .fin r y =>
    let z := x.add y
    packIeee fp32 (if z.m = 0 then s && r else decide (z.m < 0)) z

/-- binary32 multiplication with round-to-nearest-even. -/
def fmul (a b : Nat) : Nat :=
  match decodeFloat fp32 a, decodeFloat fp32 b with
  | .nan _, _ => 0x7FC00000
  | _, .nan _ => 0x7FC00000
  | .inf s, .fin r y => if y.m = 0 then 0x7FC00000 else 0x7F800000 + fp32.sign (s ^^ r)
  | .fin s x, .inf r => if x.m = 0 then 0x7FC00000 else 0x7F800000 + fp32.sign (s ^^ r)
  | .inf s, .inf r => 0x7F800000 + fp32.sign (s ^^ r)
  | .fin s x, .fin r y => packIeee fp32 (s ^^ r) (x.mul y)

/-- binary32 negation. -/
def fneg (a : Nat) : Nat := if a < 2 ^ 31 then a + 2 ^ 31 else a - 2 ^ 31

/-- The binary32 nearest an integer. -/
def fofInt (i : Int) : Nat := packIeee fp32 (decide (i < 0)) ⟨i, 0⟩

/-- a < b in binary32; false on a NaN. -/
def flt (a b : Nat) : Bool :=
  match decodeFloat fp32 a, decodeFloat fp32 b with
  | .nan _, _ => false
  | _, .nan _ => false
  | .inf s, .inf r => s && !r
  | .inf s, _ => s
  | _, .inf r => !r
  | .fin _ x, .fin _ y => x.lt y

/-- A NaN. -/
def isNan (a : Nat) : Bool := match decodeFloat fp32 a with | .nan _ => true | _ => false

/-- An infinity. -/
def isInf (a : Nat) : Bool := match decodeFloat fp32 a with | .inf _ => true | _ => false

/-- A magnitude m × 2^e rounded to an integer, halves away from zero. -/
def roundAwayDyadic (d : Dyadic) : Int :=
  if 0 ≤ d.e then d.m * 2 ^ d.e.toNat else roundAway d.m (2 ^ (-d.e).toNat)

/-- The element types of R253 that a job writes. -/
inductive Elem where
  | int4 | gs4 | int8 | gs8 | uint8 | int16 | int32 | e4m3 | e5m2 | fp16 | bf16 | fp32
deriving DecidableEq, Repr

/-- The type of a code (R253). -/
def elemOf : Nat → Option Elem
  | 1 => some .int4 | 2 => some .gs4 | 3 => some .int8 | 4 => some .gs8 | 5 => some .uint8 | 6 => some .int16
  | 7 => some .int32 | 8 => some .e4m3 | 9 => some .e5m2 | 10 => some .fp16 | 11 => some .bf16 | 12 => some .fp32
  | _ => none

/-- Bits of an element (R253). -/
def Elem.bits : Elem → Nat
  | .int4 | .gs4 => 4
  | .int8 | .gs8 | .uint8 | .e4m3 | .e5m2 => 8
  | .int16 | .fp16 | .bf16 => 16
  | .int32 | .fp32 => 32

/-- The type takes an accumulating scatter (R253): 0 refused, 1 integer, 2 floating. -/
def Elem.accumulates : Elem → Nat
  | .int4 | .gs4 | .gs8 => 0
  | .int8 | .uint8 | .int16 | .int32 => 1
  | .e4m3 | .e5m2 | .fp16 | .bf16 | .fp32 => 2

/-- The types with a scale array. -/
def Elem.scaled : Elem → Bool
  | .gs4 | .gs8 => true
  | _ => false

/-- The range of an integer type; a scaled type's values range as its width. -/
def Elem.range : Elem → Int × Int
  | .int4 | .gs4 => (-8, 7)
  | .int8 | .gs8 => (-128, 127)
  | .uint8 => (0, 255)
  | .int16 => (-32768, 32767)
  | _ => (-2147483648, 2147483647)

/-- The floating format of a type. -/
def Elem.format : Elem → Option Format
  | .e4m3 => some Machine.e4m3
  | .e5m2 => some Machine.e5m2
  | .fp16 => some Machine.fp16
  | .bf16 => some Machine.bf16
  | .fp32 => some Machine.fp32
  | _ => none

/-- A floating format's quiet NaN under R258. -/
def nanPattern (f : Format) (neg : Bool) : Nat :=
  if f = Machine.e4m3 then 0x7F + f.sign neg
  else if f = Machine.e5m2 then 0x7E + f.sign neg
  else if f = Machine.fp16 then 0x7E00 else 0x7FC0

/-- The conversion of a binary32 result to an element type with the default rounding (R258): the pattern and whether it
saturated. Scaled types convert by groups (`quantise`). -/
def convert (el : Elem) (v : Nat) : Nat × Bool :=
  match el.format with
  | none =>
    let (lo, hi) := el.range
    match decodeFloat fp32 v with
    | .nan _ => (0, false)
    | .inf s => (pattern el.bits (if s then lo else hi), true)
    | .fin _ d =>
      let i := roundAwayDyadic d
      (pattern el.bits (clamp lo hi i), decide (i < lo) || decide (hi < i))
  | some f =>
    if el = .fp32 then (v, false) else
    match decodeFloat fp32 v with
    | .nan s => (nanPattern f s, false)
    | .inf s =>
      if el = .fp16 ∨ el = .bf16 then ((2 ^ f.eb - 1) * 2 ^ f.fb + f.sign s, false)
      else (f.greatest + f.sign s, true)
    | .fin s d => packFinite f s d

/-- The value of an element's pattern as binary32 (exact for every type but scaled ones, R257). -/
def toFp32 (el : Elem) (p : Nat) : Nat :=
  match el.format with
  | none =>
    let i : Int := if el = .uint8 then (p % 256 : Nat) else signed el.bits p
    fofInt i
  | some f =>
    match decodeFloat f p with
    | .nan s => 0x7FC00000 + fp32.sign s
    | .inf s => 0x7F800000 + fp32.sign s
    | .fin s d => packIeee fp32 s d

/-- v × 2^e in binary32, a result beyond the range saturating (R255, R257). -/
def dequantise (v : Int) (e : Int) : Nat := (packFinite fp32 (decide (v < 0)) ⟨v, e⟩).1

/-- The scale exponent of a group and its values (R204): the smallest e of −127 to 127 for which every rounded y / 2^e lies
in the type's range; saturating at the largest. -/
def quantise (el : Elem) (ys : List Dyadic) : Int × List Int :=
  let (lo, hi) := el.range
  let q := fun (e : Int) => ys.map fun d => roundAwayDyadic ⟨d.m, d.e - e⟩
  let fits := fun (e : Int) => (q e).all fun i => decide (lo ≤ i) && decide (i ≤ hi)
  let e := (((List.range 255).map fun (n : Nat) => (n : Int) - 127).find? fits).getD 127
  (e, (q e).map (clamp lo hi))

/-- Stochastic rounding of a magnitude that drops d bits (R232): D is the dropped part, r a fresh lane word. -/
def stochastic (m d : Nat) (r : BitVec 32) : Nat :=
  let q := m / 2 ^ d
  let low := m % 2 ^ d
  if low + bits r.toNat 31 (32 - d) ≥ 2 ^ d then q + 1 else q

/-- Drop-out keeps an element when bits [31:16] of a fresh lane word are at least the threshold round(p × 65,536) (R233). -/
def keeps (threshold : Nat) (r : BitVec 32) : Bool := decide (threshold ≤ bits r.toNat 31 16)

end Sys2Proof.Machine
end

