-- ==== Sys2Proof/Machine/Cbor.lean ====
section
/-! DEFINITION. CBOR records and schema tables (R137, R146–R149), tokenisers and hash dictionaries (R205, R206). -/
namespace Sys2Proof.Machine

/-- A value at a path of a record. -/
inductive Leaf where
  | int (i : Int)
  | bytes (b : List Byte)
  | text (b : List Byte)
  | float (v : FVal)
  | simple
  | container
deriving DecidableEq, Repr

/-- A path in a record; a key that no schema can name is `none`. -/
abbrev RecPath := List (Option PathKey)

/-- What a data item gives: its values by path, a canonical form (equal for equal items) and the bytes after it. -/
abbrev Item := List (RecPath × Leaf) × List Nat × List Byte

/-- A big-endian number. -/
def beNat (bs : List Byte) : Nat := bs.foldl (fun a b => 256 * a + b.toNat) 0

/-- The head of a data item: major type, additional information, argument; none for the values R147 rejects and past the
record's end (R135, R137). -/
def cborHead : List Byte → Option (Nat × Nat × Nat × List Byte)
  | [] => none
  | b :: r =>
    let ai := b.toNat % 32
    let n := if ai < 24 then 0 else if ai = 24 then 1 else if ai = 25 then 2 else if ai = 26 then 4 else 8
    if 28 ≤ ai ∨ r.length < n then none
    else some (b.toNat / 32, ai, if n = 0 then ai else beNat (r.take n), r.drop n)

/-- IEEE binary64. -/
def fp64 : Format := ⟨11, 52, true⟩

/-- An odd magnitude, or 0, with the exponent that keeps the value. -/
def oddPart : Nat → Nat → Int → Nat × Int
  | 0, m, e => (m, e)
  | n + 1, m, e => if m % 2 = 0 ∧ m ≠ 0 then oddPart n (m / 2) (e + 1) else (m, e)

/-- The canonical form of a floating value, the same in every precision. -/
def FVal.canon : FVal → List Nat
  | .nan _ => [7, 0]
  | .inf s => [7, 1, b2n s]
  | .fin s d =>
    let p := oddPart 64 d.m.natAbs d.e
    [7, 2, b2n s, p.1, if p.1 = 0 then 0 else (p.2 + 2000).toNat]

/-- Major type 7: the simple values false to undefined and the floats (R146). -/
def cborSimple (path : RecPath) (ai arg : Nat) (r : List Byte) : Option Item :=
  let f := fun (v : FVal) => some ([(path, Leaf.float v)], v.canon, r)
  if 20 ≤ ai ∧ ai ≤ 23 then some ([(path, .simple)], [8, ai], r)
  else if ai = 25 then f (decodeFloat fp16 arg)
  else if ai = 26 then f (decodeFloat fp32 arg)
  else if ai = 27 then f (decodeFloat fp64 arg)
  else none

/-- The elements of an array from position i on. -/
def cborArray (item : RecPath → List Byte → Option Item) (path : RecPath) (i : Nat) : Nat → List Byte → Option Item
  | 0, bs => some ([], [], bs)
  | n + 1, bs =>
    match item (path ++ [some (.num i)]) bs with
    | none => none
    | some (f, c, r) =>
      match cborArray item path (i + 1) n r with
      | none => none
      | some (fs, cs, r') => some (f ++ fs, c.length :: c ++ cs, r')

/-- The key that a data item makes. -/
def keyOf : List (RecPath × Leaf) → Option PathKey
  | [(_, .int i)] => if 0 ≤ i then some (.num i.toNat) else none
  | [(_, .text b)] => some (.text b)
  | _ => none

/-- The pairs of a map; a duplicate key rejects (R147). `seen` holds the keys so far. -/
def cborMap (item : RecPath → List Byte → Option Item) (path : RecPath) : List (List Nat) → Nat → List Byte → Option Item
  | _, 0, bs => some ([], [], bs)
  | seen, n + 1, bs =>
    match item [] bs with
    | none => none
    | some (kf, kc, r) =>
      if seen.contains kc then none
      else match item (path ++ [keyOf kf]) r with
        | none => none
        | some (f, c, r') =>
          match cborMap item path (kc :: seen) n r' with
          | none => none
          | some (fs, cs, r'') => some (f ++ fs, kc.length :: kc ++ c.length :: c ++ cs, r'')

/-- One data item at a depth (R146, R147); the first argument bounds the recursion. -/
def cborItem : Nat → Nat → RecPath → List Byte → Option Item
  | 0, _, _, _ => none
  | fuel + 1, depth, path, bs =>
    match cborHead bs with
    | none => none
    | some (major, ai, arg, r) =>
      if 16 < depth then none
      else if major = 0 then some ([(path, .int arg)], [0, arg], r)
      else if major = 1 then some ([(path, .int (-1 - arg))], [1, arg], r)
      else if major = 7 then cborSimple path ai arg r
      else if major = 6 then
        if arg = 2 ∨ arg = 3 then none
        else match cborItem fuel depth path r with
          | none => none
          | some (f, c, r') => some (f, 6 :: arg :: c, r')
      else if r.length < arg then none
      else if major = 2 then some ([(path, .bytes (r.take arg))], 2 :: arg :: (r.take arg).map (·.toNat), r.drop arg)
      else if major = 3 then some ([(path, .text (r.take arg))], 3 :: arg :: (r.take arg).map (·.toNat), r.drop arg)
      else
        let inner := if major = 4 then cborArray (cborItem fuel (depth + 1)) path 0 arg r
          else cborMap (cborItem fuel (depth + 1)) path [] arg r
        match inner with
        | none => none
        | some (f, c, r') => some ((path, .container) :: f, major :: arg :: c, r')

/-- R146, R147: the values of a record, or none when it is rejected. -/
def cborRecord (bs : List Byte) : Option (List (RecPath × Leaf)) :=
  if 65536 < bs.length then none
  else match cborItem (bs.length + 1) 1 [] bs with
    | some (f, _, []) => some f
    | _ => none

/-! ### Hash dictionaries (R206) -/

/-- R206: the bytes whose CRC-32C is a value's hash; none for a value that is no string and no integer. -/
def Leaf.hashBytes : Leaf → Option (List Byte)
  | .bytes b => some b
  | .text b => some b
  | .int i => some (leBytes 8 (pattern 64 i))
  | _ => none

/-- R206: the token of a hash, or none on a miss. -/
def dictLookup (d : Dict) (h : Nat) : Option Nat :=
  ((List.range 8).findSome? fun i =>
    d.entries.find? fun e => e.1 == (h + i) % d.size && e.2.1 == h).map (·.2.2)

/-! ### Schema tables (R148, R149) -/

/-- R148: the conversion of a number into a slot; a NaN in an integer slot is 0. Rounding is R258's (notes/assumptions/26.md). -/
def slotNumber (ty : SlotType) (v : FVal) : Nat :=
  match ty, v with
  | .int32, .nan _ => 0
  | .int32, .inf s => pattern 32 (if s then -2147483648 else 2147483647)
  | .int32, .fin _ d => pattern 32 (sat32 (roundAwayDyadic d))
  | .fp32, .fin s d => (packFinite fp32 s d).1
  | .fp16, .fin s d => (packFinite fp16 s d).1
  | .fp32, .inf s => 0x7F800000 + fp32.sign s
  | .fp16, .inf s => 0x7C00 + fp16.sign s
  | .fp32, .nan s => nanPattern fp32 s + fp32.sign s
  | .fp16, .nan s => nanPattern fp16 s

/-- What a schema entry gives: the slot's value and its presence bit, and what it counts. -/
inductive EntryEnd where
  | value (v : Nat)
  | missed (v : Nat)
  | missing
  | mismatch
deriving DecidableEq, Repr

/-- R148, R149: an entry on the values of a record. A simple value is no number (notes/assumptions/26.md). -/
def runEntry (e : SchemaEntry) (dicts : List (Nat × Dict)) (fields : List (RecPath × Leaf)) : EntryEnd :=
  match fields.find? (fun f => f.1 == e.path.map some) with
  | none => .missing
  | some (_, x) =>
    match e.action with
    | .slot ty =>
      match x with
      | .int i => .value (slotNumber ty (.fin (decide (i < 0)) ⟨i, 0⟩))
      | .float v => .value (slotNumber ty v)
      | _ => .mismatch
    | .token d =>
      match x.hashBytes, dicts.find? (·.1 == d) with
      | some b, some (_, t) =>
        match dictLookup t (crc32c b).toNat with
        | some k => .value k
        | none => .missed t.unknown
      | _, _ => .mismatch

/-- The fields that no entry names. -/
def ignoredFields (es : List SchemaEntry) (fields : List (RecPath × Leaf)) : Nat :=
  (fields.filter fun f => f.2 != .container && !(es.any fun e => e.path.map some == f.1)).length

/-! ### Tokenisers (R205) -/

/-- R205: the block mean floor((Σx + n/2) / n); n/2 is the whole half. -/
def blockMean (xs : List Int) : Int := (xs.sum + (xs.length / 2 : Nat)) / (xs.length : Int)

/-- R205: the token of a sample, and whether it was clamped. -/
def tokenOf (k : Tokeniser) (x : Int) : Int × Bool :=
  match k with
  | .uniform base lo hi n =>
    let q := (x - lo) * n / (hi - lo)
    (base + clamp 0 ((n : Int) - 1) q, decide (q < 0) || decide ((n : Int) - 1 < q))
  | .edges base es => (base + ((es.filter fun e => decide (e ≤ x)).length : Nat), false)

end Sys2Proof.Machine
end

