-- ==== Sys2Proof/Machine/Channels.lean ====
section
/-! DEFINITION. Channels, tokens and credits (R323–R327), and what the image in force says of a job. -/
namespace Sys2Proof.Machine

/-- The rate alternative in force (R13); none while the old image is stopped for a change (R333). -/
def State.alternative (s : State) : Option Alternative :=
  if s.head.loading.any (·.stopped) then none
  else match s.head.image with
  | none => none
  | some im => im.alts[s.tick.alt]?

/-- The ledger entries in force. -/
def State.jobs (s : State) : List JobEntry :=
  match s.alternative with
  | none => []
  | some a => a.jobs

/-- The ledger entry of a job in the alternative in force. -/
def State.jobEntry (s : State) (j : Nat) : Option JobEntry := s.jobs.find? (·.id == j)

/-- A channel; one that the image does not fix has no depth. -/
def State.chan (s : State) (c : Nat) : Channel := tget s.comp.channels c {}

/-- The state with a channel set. -/
def State.setChan (s : State) (c : Nat) (v : Channel) : State :=
  s.onComp fun x => { x with channels := tset x.channels c v }

/-- R323: waiting tokens are sent, each taking a credit; and which they are. -/
def Channel.deliver (k : Channel) : Channel × List Tok :=
  let n := Nat.min k.free k.owed.length
  let go := k.owed.take n
  ({ k with free := k.free - n, owed := k.owed.drop n, tokens := k.tokens ++ go, sent := (k.sent + n) % 2 ^ 64,
            poison := (k.poison + (go.filter (·.kind == 1)).length) % 2 ^ 32 }, go)

/-- Send several things. -/
def State.sendAll (s : State) (os : List Out) : State := os.foldl State.send s

/-- R325: poison and end-of-job tokens carry no buffer; their credit returns as soon as they are taken. -/
def Channel.takeAll (k : Channel) : Channel × List Tok :=
  ({ k with tokens := [], free := k.free + (k.tokens.filter (·.kind != 0)).length }, k.tokens)

/-- The credits of data tokens return when the consumer releases their buffers (R323). -/
def Channel.release (k : Channel) (n : Nat) : Channel := { k with free := Nat.min k.depth (k.free + n) }

/-- A consumer that is no job of the image takes each token and releases its buffer at once (notes/assumptions/23.md). -/
def State.outsideConsumer (s : State) (k : Channel) : Bool := !(s.jobs.any fun e => e.id == k.consumer)

/-- The tokens of a channel go out as far as credits allow. -/
def State.pump (s : State) (c : Nat) : State :=
  let k := s.chan c
  let d := k.deliver
  let s' := (s.setChan c d.1).sendAll (d.2.map (.tokens c))
  if s.outsideConsumer k then
    let t := d.1.takeAll
    s'.setChan c (t.1.release ((t.2.filter (·.kind == 0)).length))
  else s'

/-- R323: a token is sent on a channel, or waits for a credit; a poison token is counted (R303). -/
def State.sendTok (s : State) (c : Nat) (k : Tok) : State :=
  if (s.chan c).depth = 0 then s
  else ((s.setChan c { s.chan c with owed := (s.chan c).owed ++ [k] }).incr 0x270006 (b2n (k.kind == 1))).pump c

/-- A credit or more returns on a channel (R323). -/
def State.returnCredits (s : State) (c n : Nat) : State :=
  if n = 0 then s else (s.setChan c ((s.chan c).release n)).pump c

/-- R327: poison with a reason on channels, each followed by end of job. -/
def State.poisonAll (s : State) (chans : List Nat) (job tick reason : Nat) : State :=
  chans.foldl (fun s c =>
    (s.sendTok c { tick := tick % 2 ^ 32, index := 0, job := job, reason := reason, status := 2, kind := 1 }).sendTok c
      { tick := tick % 2 ^ 32, index := 0, job := job, status := 2, kind := 2 }) s

/-- A completed job's data and end-of-job tokens on its channels, with its output status (R24, R325). -/
def State.announce (s : State) (chans : List Nat) (job tick status : Nat) (data : Bool) : State :=
  chans.foldl (fun s c =>
    let s := if data then s.sendTok c { tick := tick % 2 ^ 32, index := 0, job := job, status := status, kind := 0 }
      else s
    s.sendTok c { tick := tick % 2 ^ 32, index := 0, job := job, status := status, kind := 2 }) s

/-- The channels a job consumes. -/
def State.inputs (s : State) (j : Nat) : List Nat :=
  (s.comp.channels.filter fun e => e.2.consumer == j && e.2.depth != 0).map (·.1)

/-- A job takes the tokens on its channels: the state, and the tokens it took. The credits of data tokens return here:
the buffers of the model are the pools', and a job releases a token's buffer with it (notes/assumptions/23.md). -/
def State.consume (s : State) (j : Nat) : State × List Tok :=
  (s.inputs j).foldl (fun a c =>
    let t := (a.1.chan c).takeAll
    (((a.1.setChan c (t.1.release ((t.2.filter (·.kind == 0)).length))).pump c), a.2 ++ t.2)) (s, [])

end Sys2Proof.Machine
end

