-- ==== Sys2Proof/Machine/Ingest.lean ====
section
/-! DEFINITION. Stream ingest: bindings, limits, pools, capture of frames, access units, sample blocks and records, re-cuts
and the stale drop (R74–R111), and the commands of the ports. -/
namespace Sys2Proof.Machine

/-! ### Streams and buffers -/

/-- A stream. -/
def State.stream (s : State) (n : Nat) : StreamSt := tget s.streams n {}

/-- The state with a stream set. -/
def State.setStream (s : State) (n : Nat) (v : StreamSt) : State := s.setStreams (tset s.streams n v)

/-- A stream changed. -/
def State.onStream (s : State) (n : Nat) (f : StreamSt → StreamSt) : State := s.setStream n (f (s.stream n))

/-- The key of an object of a stream. -/
def streamKey (n u : Nat) : Nat := 0x210000 + 256 * n + u

/-- R506, R501: the stream is the wake stream. -/
def State.isWake (s : State) (n : Nat) : Bool := s.cfg 0x2A1001 == n

/-- R500, R506: the stream's Chuck runs: bound, in a working mode, and not at a re-cut's start of a unit. -/
def State.chuckRuns (s : State) (n : Nat) : Bool := (s.stream n).kind != 0 && s.working

/-- R102: the Chuck may start a unit. -/
def State.mayStart (s : State) (n : Nat) : Bool := s.chuckRuns n && (s.stream n).recut.isNone

/-- The stream bound to a source (R75). -/
def State.boundTo (s : State) (p : Nat → Nat → Bool) : Option Nat :=
  (List.range 16).find? fun n => (s.stream n).kind != 0 && p (s.stream n).kind (s.stream n).addr

/-- A buffer is free. -/
def Buf.isFree : Buf → Bool
  | .free => true
  | _ => false

/-- A buffer is being filled. -/
def Buf.isFilling : Buf → Bool
  | .filling _ => true
  | _ => false

/-- The unit that waits in a buffer. -/
def Buf.waiting? : Buf → Option CapturedUnit
  | .waiting u => some u
  | _ => none

/-- A buffer is held or waiting (R102). -/
def Buf.inUse : Buf → Bool
  | .waiting _ => true
  | .held _ _ => true
  | _ => false

/-- The index of the waiting unit captured first. -/
def oldestWaiting : List Buf → Nat → Option (Nat × CapturedUnit)
  | [], _ => none
  | b :: r, i =>
    match b.waiting?, oldestWaiting r (i + 1) with
    | some u, some (j, v) => if u.seq ≤ v.seq then some (i, u) else some (j, v)
    | some u, none => some (i, u)
    | none, o => o

/-- The unit in capture, with its buffer's index. -/
def fillingAt : List Buf → Nat → Option (Nat × CapturedUnit)
  | [], _ => none
  | .filling u :: _, i => some (i, u)
  | _ :: r, i => fillingAt r (i + 1)

/-- R91: at the start of a unit the Chuck takes a free buffer, else the oldest waiting one; the pool with the unit in it and
the unit displaced; none when every buffer is held. -/
def takeBuffer (pool : List Buf) (u : CapturedUnit) : Option (List Buf × Option CapturedUnit) :=
  match pool.findIdx? Buf.isFree with
  | some i => some (pool.set i (.filling u), none)
  | none =>
    match oldestWaiting pool 0 with
    | some (i, v) => some (pool.set i (.filling u), some v)
    | none => none

/-! ### Units dropped before decode (R159) -/

/-- An H.264 decode context. -/
def State.h264 (s : State) (c : Nat) : H264Ctx := tget s.codec.h264 c {}

/-- The state with an H.264 decode context set. -/
def State.setH264 (s : State) (c : Nat) (x : H264Ctx) : State := s.onCodec fun y => { y with h264 := tset y.h264 c x }

/-- The key of an object of an H.264 context. -/
def h264Key (c u : Nat) : Nat := 0x250800 + 256 * c + u

/-- The H.264 contexts that the image binds to a stream (R153). -/
def State.contextsOf (s : State) (n : Nat) : List Nat :=
  match s.head.image with
  | none => []
  | some im => (im.contexts.filter fun e => e.2.1 == n).map (·.1)

/-- R159: the context enters resync, event 0x5007. -/
def State.enterResync (s : State) (c : Nat) : State :=
  if (s.h264 c).resync then s else (s.setH264 c { s.h264 c with resync := true }).emit 0x5007

/-- R159: a missing access unit of a context: wait for an IDR, or continue with Taint. -/
def State.missingPicture (s : State) (c : Nat) : State :=
  if s.cfg (h264Key c 0x0A) = 0 then s.enterResync c else s.setH264 c { s.h264 c with taint := true }

/-- R159: an access unit of a stream is dropped before decode. -/
def State.dropBeforeDecode (s : State) (n : Nat) : State := (s.contextsOf n).foldl State.missingPicture s

/-- R91: a unit starts in a stream: displaced and dropped units are counted and reported. -/
def State.startUnit (s : State) (n : Nat) (u : CapturedUnit) : State :=
  match takeBuffer (s.stream n).pool u with
  | none => ((s.incr (streamKey n 0x10)).emit 0x3002 n).dropBeforeDecode n
  | some (p, none) => s.onStream n fun x => { x with pool := p }
  | some (p, some _) =>
    (((s.onStream n fun x => { x with pool := p }).incr (streamKey n 0x11)).emit 0x3003 n).dropBeforeDecode n

/-- The unit in capture changed. -/
def StreamSt.onFilling (x : StreamSt) (f : CapturedUnit → CapturedUnit) : StreamSt :=
  match fillingAt x.pool 0 with
  | some (i, u) => { x with pool := x.pool.set i (.filling (f u)) }
  | none => x

/-- The unit in capture is given up; its buffer is free again (R94). -/
def StreamSt.dropFilling (x : StreamSt) : StreamSt :=
  match fillingAt x.pool 0 with
  | some (i, _) => { x with pool := x.pool.set i .free }
  | none => x

/-- The unit in capture. -/
def StreamSt.filling (x : StreamSt) : Option CapturedUnit := (fillingAt x.pool 0).map (·.2)

/-- R95: the metadata record that the Chuck writes for a unit. -/
def CapturedUnit.metadata (u : CapturedUnit) (n : Nat) : UnitMeta :=
  { stamp := u.stamp, useq := u.seq % 2 ^ 32, stream := n, tick := u.stamp.tick, lost := u.lost, hostTime := u.hostTime,
    damage := u.damaged }

/-- R92, R95: a complete unit waits, its record is written and a token announces it. -/
def State.completeUnit (s : State) (n : Nat) : State :=
  match fillingAt (s.stream n).pool 0 with
  | none => s
  | some (i, u) =>
    let s1 := s.onStream n fun x => { x with pool := x.pool.set i (.waiting u), lastStamp := some u.stamp }
    let s2 := (s1.incr (streamKey n 0x0E)).send (.metadata 0xFFFF (u.metadata n).pack)
    match s2.ceiling n with
    | some { chan := some c, .. } =>
      s2.sendTok c { tick := u.stamp.tick, index := u.seq % 2 ^ 32, job := 0xFFFF, status := 0, kind := 0 }
    | _ => s2

/-- R79, R83: damage of the unit in capture is noted and counted once. -/
def State.damageUnit (s : State) (n code : Nat) : State :=
  match (s.stream n).filling with
  | none => s
  | some u =>
    let s1 := s.onStream n fun x => x.onFilling fun u => { u with damaged := true }
    if u.damaged then s1 else (s1.incr (streamKey n 0x17)).emit code n

/-- R88: a unit in capture that fails a check: event, count, and its buffer is free again. -/
def State.failUnit (s : State) (n code : Nat) : State :=
  (((s.onStream n StreamSt.dropFilling).incr (streamKey n 0x12)).emit code n).dropBeforeDecode n

/-- R101: the stream has its peak count of units in this tick. -/
def State.unitsFull (s : State) (n : Nat) : Bool :=
  match s.ceiling n with
  | some c => decide (c.perTick ≤ (s.stream n).inTick)
  | none => false

/-- R101: the stream has its peak count of lines or packets in this tick. -/
def State.partsFull (s : State) (n : Nat) : Bool :=
  match s.ceiling n with
  | some c => decide (c.subPerTick ≤ (s.stream n).subInTick)
  | none => false

/-- R91, R93, R101, R102: a stream captures the start of a unit with the next sequence number, or drops it. -/
def State.captureStart (s : State) (n : Nat) (u : CapturedUnit) : State :=
  let x := s.stream n
  let s1 := s.onStream n fun x => { x with seq := x.seq + 1, inTick := x.inTick + 1 }
  if s.mayStart n = false ∨ s.unitsFull n then (s1.incr (streamKey n 0x10)).dropBeforeDecode n
  else s1.startUnit n { u with seq := x.seq }

/-! ### CSI-2 (R78, R79, R85, R87) -/

/-- The stream bound to a receiver and virtual channel. -/
def State.csiStream (s : State) (rx vc : Nat) : Option Nat :=
  s.boundTo fun k a => k == 1 && bits a 3 0 == rx && bits a 5 4 == vc % 4

/-- R79: a frame ends: a damaged one is delivered or dropped by the stream's policy. -/
def State.endFrame (s : State) (n : Nat) : State :=
  match (s.stream n).filling with
  | none => s
  | some u =>
    if u.damaged ∧ s.cfg (streamKey n 0x0D) = 0 then s.onStream n StreamSt.dropFilling
    else s.completeUnit n

/-- R78: a packet outside the support is discarded, counted and reported. -/
def State.foreignPacket (s : State) (n : Nat) : State := (s.incr (streamKey n 0x12)).emit 0x3005 n

/-- CSI2_FRAME_START (R78, R85, R87, R91): a frame still open has no Frame End and is damaged. -/
def execCsi2FrameStart (t : Nat) (rx : Fin 2) (vc : Nat) : State → Result :=
  whenCore t fun s =>
    match s.csiStream rx vc with
    | none => s
    | some n =>
      if 4 ≤ vc then s.foreignPacket n else
      let s1 := if (s.stream n).filling.isSome then (s.damageUnit n 0x3007).endFrame n else s
      (s1.captureStart n { seq := 0, stamp := s.stamp, bytes := 0 }).onStream n fun x => { x with lines := 0 }

/-- R87: a line within the limits is written; the first one beyond them drops the frame, and so does a frame of another data
type than the binding's (R88). -/
def State.takeLine (s : State) (n dt bytes : Nat) : State :=
  let x := s.stream n
  if x.filling.isNone then s
  else if dt ≠ bits x.addr 13 8 then s.failUnit n 0x3005
  else if x.limits.height < x.lines + 1 ∨ x.limits.width * dataTypeBits dt < bytes * 8 then s.failUnit n 0x3004
  else s.onStream n fun x => { x.onFilling (fun u => { u with bytes := u.bytes + bytes }) with lines := x.lines + 1 }

/-- CSI2_LONG_PACKET (R78, R79, R87, R101). `ecc` is 0 good, 1 a single-bit header error, 2 an uncorrectable one: the packet is
discarded, and where it was a line of a frame that line is missing. `lineGap` is a line missing before this one. -/
def execCsi2LongPacket (t : Nat) (rx : Fin 2) (vc dt bytes ecc : Nat) (crcOk lineGap : Bool) : State → Result :=
  whenCore t fun s =>
    match s.csiStream rx vc with
    | none => s
    | some n =>
      if 2 ≤ ecc then
        let s1 := s.emit 0x3006 n
        if dataTypeBits dt = 0 ∨ 4 ≤ vc then s1 else s1.damageUnit n 0x3007
      else
        let s1 := if ecc = 1 then s.incr (streamKey n 0x17) else s
        if dt = 0x12 then s1
        else if 4 ≤ vc ∨ dataTypeBits dt = 0 then s1.foreignPacket n
        else
          let full := s1.partsFull n
          let s2 := s1.onStream n fun x => { x with subInTick := x.subInTick + 1 }
          let s3 := if full then s2.incr (streamKey n 0x10) else s2.takeLine n dt bytes
          if full ∨ ¬ crcOk ∨ lineGap then s3.damageUnit n 0x3007 else s3

/-- CSI2_FRAME_END (R78, R79, R92). -/
def execCsi2FrameEnd (t : Nat) (rx : Fin 2) (vc : Nat) : State → Result :=
  whenCore t fun s =>
    match s.csiStream rx vc with
    | none => s
    | some n => if 4 ≤ vc then s.foreignPacket n else s.endFrame n

/-! ### Sample blocks (R80, R81, R93) -/

/-- R91, R93, R102, R506: the first sample of a block: the block takes its number and a buffer; in Watch only its number. -/
def State.startBlock (s : State) (n : Nat) : State :=
  let s1 := s.onStream n fun y => { y with seq := y.seq + 1 }
  if s.working = false then s1
  else if s.mayStart n = false then s1.incr (streamKey n 0x10)
  else s1.startUnit n { seq := (s.stream n).seq, stamp := s.stamp, bytes := 0 }

/-- R93: the samples of a block that is not delivered count as lost. -/
def StreamSt.loseBlock (x : StreamSt) (k : Nat) : StreamSt := { x.dropFilling with lost := x.lost + k }

/-- R85, R93, R101, R506: a whole block is announced, or its samples are lost. -/
def State.endBlock (s : State) (n : Nat) (samples : List Int) : State :=
  let x := s.stream n
  let s1 := s.onStream n fun x => { x with block := [], inTick := x.inTick + 1 }
  if x.filling.isNone ∨ s.working = false then s1.onStream n (·.loseBlock samples.length)
  else if s.unitsFull n then
    ((s1.onStream n (·.loseBlock samples.length)).incr (streamKey n 0x10)).incr (streamKey n 0x18) samples.length
  else
    (s1.onStream n fun x =>
      { x.onFilling (fun u => { u with stamp := s.stamp, bytes := samples.length * sampleBytes x.limits.format
                                       lost := x.lost % 2 ^ 32, samples := samples }) with lost := 0 }).completeUnit n

/-- R500, R506: the Chuck of a stream takes samples: in a working mode, and that of the wake stream in Watch too. -/
def State.takesSamples (s : State) (n : Nat) : Bool := s.working || s.isWake n

/-- R85: a sample joins its stream's block. -/
def State.takeSample (s : State) (n : Nat) (v : Int) : State :=
  if s.takesSamples n then
    let x := s.stream n
    let s1 := if x.block.isEmpty then s.startBlock n else s
    let b := x.block ++ [v]
    if x.limits.block ≤ b.length then s1.endBlock n b else s1.onStream n fun x => { x with block := b }
  else s

/-- R80, R81: one sample of a stream is lost. -/
def State.loseSample (s : State) (n : Nat) : State :=
  if s.takesSamples n then (s.onStream n fun x => { x with lost := x.lost + 1 }).incr (streamKey n 0x18) else s

/-- The stream bound to a TDM slot. -/
def State.tdmStream (s : State) (port slot : Nat) : Option Nat :=
  s.boundTo fun k a => k == 2 && bits a 3 0 == port && bits a 11 8 == slot

/-- One slot's word: to its tap, then to its Chuck (R112). -/
def State.slotWord (s : State) (port slot : Nat) (w : BitVec 32) : State :=
  let s1 := s.tapWord (16 * port + slot) w.toNat
  match s1.tdmStream port slot with
  | some n => s1.takeSample n w.toInt
  | none => s1

/-- TDM_FRAME (R80, R112, R117): a frame whose BCLK count is wrong is a frame-sync loss. -/
def execTdmFrame (t : Nat) (port : Fin 4) (words : List (BitVec 32)) (bclkOk : Bool) : State → Result :=
  whenPowered t fun s =>
    if bclkOk then
      (words.take 16).zipIdx.foldl (fun s e => s.slotWord port e.2 e.1) s
    else
      ((List.range 16).foldl (fun s slot =>
        match s.tdmStream port slot with
        | some n => s.loseSample n
        | none => s) s).emit 0x300A port

/-- The stream bound to an SPI chip select. -/
def State.spiStream (s : State) (m c : Nat) : Option Nat :=
  s.boundTo fun k a => k == 3 && bits a 3 0 == m && bits a 9 8 == c

/-- SPI_TRANSACTION (R81, R112): no word when the transaction fails to start. -/
def execSpiTransaction (t : Nat) (m : Fin 2) (c : Fin 4) (word : Option (BitVec 32)) : State → Result :=
  whenPowered t fun s =>
    match word with
    | none =>
      match s.spiStream m c with
      | some n => s.loseSample n
      | none => s
    | some w =>
      let s1 := s.tapWord (64 + 4 * m + c) w.toNat
      match s1.spiStream m c with
      | some n => s1.takeSample n w.toInt
      | none => s1

/-- DRDY_TIMEOUT (R81). -/
def execDrdyTimeout (t : Nat) (m : Fin 2) (c : Fin 4) : State → Result :=
  whenPowered t fun s =>
    match s.spiStream m c with
    | some n => if s.cfg (0x2E1101 + 4 * m + c) = 1 then s.emit 0x300F n else s
    | none => s

/-! ### RTP H.264 (R82, R83, R87, R89) -/

/-- R151, R152: the decoder supports a sequence parameter set. Levels are ten times the level number. -/
def spsSupported (x : SpsInfo) : Bool :=
  (x.profile == 77 || x.profile == 100 || (x.profile == 66 && x.constraintSet1)) && decide (x.level ≤ 51) &&
    x.frameMbsOnly && (x.chroma == 1 || (x.chroma == 0 && x.profile == 100)) && x.bitDepth == 8 &&
    decide (1 ≤ x.widthMb) && decide (1 ≤ x.heightMb) && decide (x.widthMb ≤ 543) && decide (x.heightMb ≤ 543) &&
    decide (x.widthMb * x.heightMb ≤ 36864)

/-- R87, R89: a sequence parameter set is checked: one that fails leaves the stream unconfigured; one that passes ends that at
the IDR access unit that follows. -/
def State.takeSps (s : State) (n : Nat) (x : SpsInfo) : State :=
  let l := (s.stream n).limits
  if spsSupported x = false then
    ((s.onStream n fun y => { y with unconfigured := true, waitIdr := false }).incr (streamKey n 0x12)).emit 0x3005 n
  else if ceilDiv l.width 16 < x.widthMb ∨ ceilDiv l.height 16 < x.heightMb then
    ((s.onStream n fun y => { y with unconfigured := true, waitIdr := false }).incr (streamKey n 0x12)).emit 0x3004 n
  else s.onStream n fun y => { y with waitIdr := y.waitIdr || y.unconfigured }

/-- R83: an access unit is complete. -/
def State.endAccessUnit (s : State) (n : Nat) : State :=
  (s.completeUnit n).onStream n fun x => { x with size := 0 }

/-- R85, R89: the first packet of an access unit: captured, or dropped while the stream is unconfigured. -/
def State.startAccessUnit (s : State) (n : Nat) (pkt : RtpPacket) : State :=
  let s0 := match pkt.sps with
    | some x => s.takeSps n x
    | none => s
  let x := s0.stream n
  let s1 := if x.unconfigured ∧ x.waitIdr ∧ pkt.idr then
    s0.onStream n fun x => { x with unconfigured := false, waitIdr := false } else s0
  let s2 := s1.onStream n fun x => { x with rtpTs := some pkt.ts, size := 0 }
  if (s2.stream n).unconfigured then s2.incr (streamKey n 0x10)
  else s2.captureStart n { seq := 0, stamp := s.stamp, bytes := 0, idr := pkt.idr }

/-- R87: a packet's bytes join the access unit; one beyond the unit limit is dropped. -/
def State.addPacket (s : State) (n : Nat) (pkt : RtpPacket) : State :=
  let x := s.stream n
  if x.filling.isNone then s
  else if x.limits.unit < x.size + pkt.bytes then
    s.failUnit n 0x3004
  else s.onStream n fun x =>
    { x.onFilling (fun u => { u with bytes := u.bytes + pkt.bytes, idr := u.idr || pkt.idr }) with
        size := x.size + pkt.bytes }

/-- R83: a packet of the stream's source in its access unit. -/
def State.rtpData (s : State) (n : Nat) (pkt : RtpPacket) : State :=
  let x := s.stream n
  let gap := x.rtpSeq.any fun q => (q + 1) % 2 ^ 16 != pkt.seq % 2 ^ 16
  let open_ := x.filling.isSome
  let new := x.rtpTs != some pkt.ts
  let s1 := s.onStream n fun x => { x with rtpSeq := some (pkt.seq % 2 ^ 16) }
  let s2 := if gap ∧ open_ then s1.damageUnit n 0x3008 else s1
  let s3 := if new then (s2.endAccessUnit n).startAccessUnit n pkt else s2
  let s4 := if gap ∧ ¬ open_ then
      (if (s3.stream n).filling.isSome then s3.damageUnit n 0x3008 else s3.emit 0x3008 n)
    else s3
  let s5 := s4.addPacket n pkt
  if pkt.marker then (s5.endAccessUnit n).onStream n fun x => { x with rtpTs := none } else s5

/-- The stream bound to a MAC and UDP port. -/
def State.rtpStream (s : State) (mac port : Nat) : Option Nat :=
  s.boundTo fun k a => k == 4 && bits a 19 16 == mac && bits a 15 0 == port

/-- RTP_PACKET (R82, R83, R101). -/
def execRtpPacket (t : Nat) (mac : Fin 2) (port : Nat) (ipv4 : Bool) (pkt : RtpPacket) : State → Result :=
  whenCore t fun s =>
    match s.rtpStream mac port with
    | none => s
    | some n =>
      if s.chuckRuns n = false then s
      else if ¬ ipv4 ∨ ¬ pkt.supported then s.incr (streamKey n 0x12)
      else
        let x := s.stream n
        if x.ssrc.any (· != pkt.ssrc) then s.emit 0x3009 n
        else
          let full := s.partsFull n
          let s1 := s.onStream n fun x => { x with ssrc := some pkt.ssrc, subInTick := x.subInTick + 1 }
          if full then s1.incr (streamKey n 0x10) else s1.rtpData n pkt

/-- SSRC_RELEASE (R82): a write of 0 releases the adopted SSRC. -/
def execSsrcRelease (t : Nat) (p : Path) (n : Fin 16) (v : Nat) : State → Result :=
  whenCore t fun s => s.controlledNum p (streamKey n 0x1A) v fun s => s.onStream n fun x => { x with ssrc := none }

/-- RTCP_SENDER_REPORT (R82): a sender report is kept as metadata of its stream; other RTCP packets are ignored. The second
byte of an RTCP packet is its type, 200 for a sender report. -/
def execRtcpSenderReport (t : Nat) (mac : Fin 2) (port : Nat) (data : List Byte) : State → Result :=
  whenCore t fun s =>
    match s.rtpStream mac port with
    | none => s
    | some n => if leAt data 1 1 = 200 then s.onNet fun x => { x with rtcp := tset x.rtcp n data } else s

/-! ### Records and host-submitted units (R84, R86–R88) -/

/-- R87, R88, R92: a whole record or host-submitted unit is checked, captured and announced. -/
def State.deliver (s : State) (n bytes : Nat) (data : List Byte) (formatOk : Bool) (hostTime : Option Nat)
    (at_ : Stamp := s.stamp) : State :=
  if s.chuckRuns n = false then s
  else if formatOk = false then (s.incr (streamKey n 0x12)).emit 0x3005 n
  else if (s.stream n).limits.unit < bytes then (s.incr (streamKey n 0x12)).emit 0x3004 n
  else
    let s1 := s.captureStart n { seq := 0, stamp := at_, bytes := bytes, data := data, hostTime := hostTime }
    if (s1.stream n).filling.isSome then s1.completeUnit n else s1

/-- The stream bound to an interface and UDP port for records. -/
def State.udpStream (s : State) (iface port : Nat) : Option Nat :=
  s.boundTo fun k a => k == 6 && bits a 19 16 == iface && bits a 15 0 == port

/-- UDP_RECORD_DATAGRAM (R446, R84). -/
def execUdpRecordDatagram (t : Nat) (iface : Fin 3) (port : Nat) (bytes : List Byte) : State → Result :=
  whenCore t fun s =>
    match s.udpStream iface port with
    | none => s
    | some n => s.deliver n bytes.length bytes true none

/-! ### At an accepted edge (R76, R101–R103, R110) -/

/-- The waiting units of a pool are gone; and how many there were. -/
def dropWaiting (pool : List Buf) : List Buf × Nat :=
  (pool.map fun b => if b.waiting?.isSome then .free else b, (pool.filter fun b => b.waiting?.isSome).length)

/-- R103: the drain limit discards every waiting unit once. -/
def State.drain (s : State) (n : Nat) : State :=
  let x := s.stream n
  match x.recut with
  | none => s
  | some i =>
    if i + s.cfg (streamKey n 0x1D) * 1000 < s.now ∧ x.drained = false then
      let d := dropWaiting x.pool
      ((s.onStream n fun x => { x with pool := d.1, drained := true }).incr (streamKey n 0x11) d.2).emit 0x300E n
    else s

/-- R102, R163: the pool is rebuilt once no buffer is held, waiting or being filled; an H.264 stream then waits for a sequence
parameter set and an IDR access unit. -/
def State.finishRecut (s : State) (n : Nat) : State :=
  let x := s.stream n
  if x.recut.isSome ∧ x.pool.all Buf.isFree then
    let l := s.askedLimits n
    let s1 := (s.onStream n fun x => { x with limits := l, recut := none, drained := false, limitsWritten := false
                                              block := [], lost := x.lost + x.block.length
                                              unconfigured := x.kind == 4, waitIdr := false
                                              pool := if x.kind = 0 then [] else List.replicate l.count .free }).emit 0x300C n
    (s1.contextsOf n).foldl (fun s c => (s.setH264 c {}).enterResync c) s1
  else s

/-- R76, R110: a stream's unit in capture is released and counted as aborted. -/
def State.abortUnit (s : State) (n : Nat) : State :=
  let s1 := s.onStream n fun x => { x.loseBlock x.block.length with block := [] }
  if (s.stream n).filling.isSome then s1.incr (streamKey n 0x1B) else s1

/-- R76: a change of binding takes effect, event 0x300D. -/
def State.rebind (s : State) (n : Nat) : State :=
  let a := s.askedSource n
  if a = ((s.stream n).kind, (s.stream n).addr) then s
  else
    ((s.abortUnit n).onStream n fun x => { x with
      kind := a.1, addr := a.2, ssrc := none, rtpSeq := none, rtpTs := none, block := [], lost := 0
      unconfigured := false, waitIdr := false }).emit 0x300D n

/-- A limits write waits, or the pool a stream should have differs from the one it has (R90, R102). -/
def State.needsRecut (s : State) (n : Nat) : Bool :=
  let x := s.stream n
  x.recut.isNone && (x.limitsWritten || s.askedLimits n != x.limits || (x.kind != 0) != !x.pool.isEmpty)

/-- R102: a change of binding also re-cuts when it changes the buffer size. -/
def State.sizeChanges (s : State) (n : Nat) : Bool :=
  let x := s.stream n
  bufferSize x.kind x.addr x.limits != bufferSize (s.askedSource n).1 (s.askedSource n).2 (s.askedLimits n)

/-- What an accepted edge does to a stream. -/
def State.edgeStream (s : State) (n : Nat) : State :=
  let grow := s.sizeChanges n
  let s1 := (s.onStream n fun x => { x with inTick := 0, subInTick := 0 }).rebind n
  let s2 := if (s1.needsRecut n || grow) && (s1.stream n).recut.isNone then
    (s1.onStream n fun x => { x with recut := some s1.now }).emit 0x300B n else s1
  (s2.drain n).finishRecut n

/-- Every stream at an accepted edge. -/
def State.edgeStreams (s : State) : State := (List.range 16).foldl State.edgeStream s

/-- R110, R500: a mode change stops every Chuck but the wake stream's. -/
def State.stopChucks (s : State) : State :=
  (List.range 16).foldl (fun s n => if s.isWake n then s else s.abortUnit n) s

/-! ### Stage entries (R96–R99) -/

/-- The limit of a stream is disabled, or the age lies within it (R96). -/
def State.fresh (s : State) (n : Nat) (x : Stamp) : Bool :=
  let limit := s.cfg (streamKey n 0x04)
  limit == 0xFFFFFFFF ||
  match s.age x with
  | none => false
  | some a => decide (a ≤ (limit : Int) * 1000)

/-- R525: the age at a stage entry, in µs, is a sample of source 1. -/
def State.observeAge (s : State) (n stage : Nat) (x : Stamp) : State :=
  match s.age x with
  | some a => s.observe 1 (4 * n + stage) (a / 1000)
  | none => s

/-- R97: a stale unit is dropped at an entry: counted, event 0x3001 at most once per second per stream. -/
def State.staleDrop (s : State) (n stage : Nat) : State :=
  let s' := (s.incr (streamKey n (0x13 + stage))).emitLimited second 0x3001 n 0 n
  if stage = 0 then s'.dropBeforeDecode n else s'

/-- R159: an H.264 context in resync drops an access unit that is no IDR. -/
def State.resyncDrops (s : State) (ctx : Option Nat) (u : CapturedUnit) : Bool :=
  match ctx with
  | some c => (s.h264 c).resync && !u.idr
  | none => false

/-- R159: the first IDR access unit ends resync, event 0x5008. -/
def State.endResync (s : State) (ctx : Option Nat) : State :=
  match ctx with
  | some c => if (s.h264 c).resync then (s.setH264 c { s.h264 c with resync := false }).emit 0x5008 else s
  | none => s

/-- R97, R159: stale units at the head of the order are dropped until a fresh one is found, and so are those that a context in
resync passes over; the job that takes one holds its buffer. The recursion is bounded by the pool. -/
def State.takeUnit (s : State) (n stage rid : Nat) (ctx : Option Nat) : Nat → State × Option CapturedUnit
  | 0 => (s, none)
  | k + 1 =>
    match oldestWaiting (s.stream n).pool 0 with
    | none => (s, none)
    | some (i, u) =>
      let s1 := s.observeAge n stage u.stamp
      let s2 := s1.onStream n fun x => { x with pool := x.pool.set i .free }
      if s.fresh n u.stamp = false then (s2.staleDrop n stage).takeUnit n stage rid ctx k
      else if s.resyncDrops ctx u then (s2.incr (h264Key (ctx.getD 0) 0x09)).takeUnit n stage rid ctx k
      else
        (((s1.onStream n fun x => { x with pool := x.pool.set i (.held rid u) }).incr (streamKey n 0x0F)).endResync ctx,
          some u)

/-- R94: a job releases the buffers it holds. -/
def State.releaseUnits (s : State) (rid : Nat) : State :=
  (List.range 16).foldl (fun s n =>
    s.onStream n fun x => { x with pool := x.pool.map fun b =>
      match b with
      | .held r _ => if r = rid then .free else b
      | b => b }) s

/-- R99: a window's units wait again when their job ends. -/
def State.rewaitUnits (s : State) (rid : Nat) : State :=
  (List.range 16).foldl (fun s n =>
    s.onStream n fun x => { x with pool := x.pool.map fun b =>
      match b with
      | .held r u => if r = rid then .waiting u else b
      | b => b }) s

/-- R99: a window takes every waiting unit, and tests the newest only. -/
def State.takeWindow (s : State) (n stage rid : Nat) : State × Option (List CapturedUnit) :=
  let us := (s.stream n).pool.filterMap Buf.waiting?
  match us.reverse.head? with
  | none => (s, none)
  | some _ =>
    let newest := us.foldl (fun a u => match a with
      | none => some u
      | some v => if v.seq < u.seq then some u else some v) (none : Option CapturedUnit)
    match newest with
    | none => (s, none)
    | some u =>
      let s1 := s.observeAge n stage u.stamp
      if s.fresh n u.stamp then
        ((s1.onStream n fun x => { x with pool := x.pool.map fun b => match b with
          | .waiting u => .held rid u
          | b => b }).incr (streamKey n 0x0F), some us)
      else (s1.staleDrop n stage, none)

end Sys2Proof.Machine
end

