-- ==== Sys2Proof/Machine/Codec.lean ====
section
/-! DEFINITION. Decoding and encoding jobs: JPEG, CBOR, H.264, the encoder and its rate control (R135–R193), and the commands
BUDGET_CUT and FORCE_IDR. -/
namespace Sys2Proof.Machine

/-- How a job ended: whether its outputs are invalid, how many data tokens each of its channels gets, and its output's
metadata record. -/
structure JobEnd where
  bad  : Bool := false
  data : Nat := 1
  meta_ : Option UnitMeta := none
deriving DecidableEq, Repr

/-- A job that ended with invalid outputs. -/
def JobEnd.invalid (m : Option UnitMeta) : JobEnd := { bad := true, data := 0, meta_ := m }

/-- The stream whose unit or derived data a job works on. -/
def Run.stream (r : Run) : Option Nat := r.meta_.map (·.stream)

/-! ### The decode info word (R139, R140) -/

/-- R139: the decode info word. -/
def infoWord (conc : Nat) (taint damaged cut : Bool) (type : Nat) : Nat :=
  packFields [(conc % 2 ^ 16, 16), (b2n taint, 7), (b2n damaged, 6), (b2n cut, 5), (type % 4, 3)]

/-- R139: Damaged or Taint is set in an info word. -/
def flaggedWord (w : Nat) : Bool := w.testBit 6 || w.testBit 7

/-- R140: under damage policy 0 a damaged or tainted picture is not announced. -/
def State.announces (s : State) (stream : Option Nat) (w : Nat) : Bool :=
  !(flaggedWord w && stream.all fun n => s.cfg (streamKey n 0x0D) == 0)

/-- The end of a job that completed a decoded picture. -/
def State.pictureEnd (s : State) (r : Run) (w : Nat) : JobEnd :=
  let m := r.meta_.map fun m => { m with dinfo := w }
  if s.announces r.stream w then { meta_ := m } else .invalid m

/-! ### JPEG (R141–R144) -/

/-- A JPEG context. -/
def State.jpegCtx (s : State) (c : Nat) : JpegCtx := tget s.codec.jpeg c {}

/-- The state with a JPEG context set. -/
def State.setJpeg (s : State) (c : Nat) (x : JpegCtx) : State := s.onCodec fun y => { y with jpeg := tset y.jpeg c x }

/-- R142: a rejected image: event, count, no output. -/
def State.jpegReject (s : State) (c : Nat) (r : Run) (last : Bool) : State × JobEnd :=
  (((s.setJpeg c { rejected := !last }).incr 0x250102).emit 0x5001, .invalid r.meta_)

/-- R144: damaged intervals are counted, the event raised once per image. -/
def State.jpegDamage (s : State) (c n : Nat) : State :=
  if n = 0 then s
  else
    let s' := (s.setJpeg c { s.jpegCtx c with damaged := true }).incr 0x250103 n
    if (s.jpegCtx c).damaged then s' else s'.emit 0x5002

/-- R141–R144: the end of a JPEG job. -/
def State.jpegJob (s : State) (c : Nat) (r : Run) (x : JpegReport) : State × JobEnd :=
  if x.rejected then s.jpegReject c r x.last
  else
    let s1 := s.jpegDamage c x.damaged
    let k := s1.jpegCtx c
    let conc := k.conc + x.concealed
    if x.last then
      let w := infoWord conc false (k.damaged || decide (0 < conc)) k.cut 0
      (((s1.setJpeg c {}).incr 0x250101).incr 0x250002, s1.pictureEnd r w)
    else (s1.setJpeg c { k with conc := conc }, { data := 0, meta_ := r.meta_ })

/-! ### CBOR records (R146–R149) -/

/-- One entry's end: what it counts and reports (R149, R206). -/
def State.entryEnd (s : State) (n : Nat) (e : EntryEnd) : State :=
  match e with
  | .value _ => s
  | .missed _ => s.incr 0x260203
  | .missing => s.incr 0x250205
  | .mismatch => (s.incr 0x250204).emitLimited second 0x5004 n 0 n

/-- The value an entry writes and whether its presence bit is set. -/
def EntryEnd.out (dflt : Nat) : EntryEnd → Nat × Bool
  | .value v => (v, true)
  | .missed v => (v, true)
  | _ => (dflt, false)

/-- The schema table of a stream. -/
def State.schema (s : State) (n : Nat) : List SchemaEntry :=
  match s.head.image with
  | none => []
  | some im => ((im.schemas.find? fun e => e.1 == n).map (·.2)).getD []

/-- The hash dictionaries of the image in force. -/
def State.dicts (s : State) : List (Nat × Dict) :=
  match s.head.image with
  | none => []
  | some im => im.dicts

/-- The captured bytes of the unit a job holds; what the job reports for a unit whose bytes the model did not see. -/
def State.unitBytes (s : State) (rid : Nat) (reported : List Byte) : List Byte :=
  let held := s.streams.flatMap fun e => e.2.pool.filterMap fun b =>
    match b with
    | .held r u => if r = rid then some u.data else none
    | _ => none
  match held with
  | d :: _ => if d.isEmpty then reported else d
  | [] => reported

/-- R148, R149: a record's slots and presence mask are written and the ends of its entries counted. -/
def State.recordFields (s : State) (job n : Nat) (fields : List (RecPath × Leaf)) : State :=
  let es := s.schema n
  let ends := es.map fun e => (e, runEntry e s.dicts fields)
  let slots := ends.map fun p => (p.1.slot, (p.2.out p.1.dflt).1)
  let mask := ends.foldl (fun m p => putBit m p.1.slot (p.2.out p.1.dflt).2) 0
  ((ends.foldl (fun s p => s.entryEnd n p.2) s).incr 0x250203 (ignoredFields es fields)).send (.record job slots mask)

/-- R146–R149: the end of a record job. -/
def State.recordJob (s : State) (n : Nat) (r : Run) (bs : List Byte) : State × JobEnd :=
  match cborRecord (s.unitBytes r.rid bs) with
  | none => ((s.incr 0x250202).emit 0x5003, .invalid r.meta_)
  | some fields =>
    (((s.recordFields r.entry.id n fields).incr 0x250201).incr 0x250003, { meta_ := r.meta_ })

/-! ### H.264 (R151–R162) -/

/-- R153: a new sequence parameter set takes effect at its IDR access unit; a change raises 0x5009. -/
def State.takeParameters (s : State) (c : Nat) (x : H264Report) : State :=
  match x.sps with
  | none => s
  | some p =>
    if x.idr = false ∨ spsSupported p = false ∨ (s.h264 c).sps = some p then s
    else
      let s' := s.setH264 c { s.h264 c with sps := some p }
      if (s.h264 c).sps.isSome then s'.emit 0x5009 else s'

/-- R156, R157: damaged slices of a job: the event once per access unit, the macroblocks counted. -/
def State.h264Damage (s : State) (c : Nat) (x : H264Report) : State :=
  let k := s.h264 c
  let s1 := s.setH264 c { k with conc := k.conc + x.concealed, damaged := k.damaged || decide (0 < x.damagedSlices),
                                 picTaint := k.picTaint || x.taintedRef, picType := x.picType }
  let s2 := (s1.incr (h264Key c 0x08) x.concealed).incr (h264Key c 0x0F) x.nalDiscarded
  if 0 < x.damagedSlices ∧ k.damaged = false then s2.emit 0x5005 else s2

/-- R139, R158: the picture's Taint: damaged, predicted from a tainted picture, or after a missing one. -/
def H264Ctx.tainted (k : H264Ctx) (idr : Bool) : Bool :=
  if idr ∧ ¬ k.damaged then false else k.damaged || k.picTaint || k.taint

/-- The context after its picture. -/
def H264Ctx.nextPicture (k : H264Ctx) (idr : Bool) : H264Ctx :=
  { k with picTaint := false, conc := 0, damaged := false, cut := false, aborted := false
           taint := k.taint && !(idr && !k.damaged) }

/-- R139, R158: a picture is complete. A picture with an aborted job is not announced (R161). -/
def State.h264Picture (s : State) (c : Nat) (r : Run) (idr : Bool) : State × JobEnd :=
  let k := s.h264 c
  let w := infoWord k.conc (k.tainted idr) (k.damaged || decide (0 < k.conc)) k.cut k.picType
  let s1 := ((s.setH264 c (k.nextPicture idr)).incr 0x250002).incr (h264Key c 0x06)
  let s2 := (if k.damaged then s1.incr (h264Key c 0x07) else s1).setObj (h264Key c 0x0C) w
  let e := s2.pictureEnd r w
  (s2, if k.aborted then .invalid e.meta_ else e)

/-- R159: a gap in frame_num meets the resync policy; a context that waits drops the access unit. -/
def State.frameNumGap (s : State) (c : Nat) : State :=
  let s' := s.missingPicture c
  if (s'.h264 c).resync then s'.incr (h264Key c 0x09) else s'

/-- R155–R162: the end of an H.264 job. -/
def State.h264Job (s : State) (c : Nat) (r : Run) (x : H264Report) : State × JobEnd :=
  let s0 := s.incr 0x250004 x.suppressed
  let s1 := if x.frameNumGap then s0.frameNumGap c else s0
  if (s1.h264 c).resync then (s1, .invalid r.meta_)
  else
    let s2 := (s1.takeParameters c x).h264Damage c x
    if x.last then s2.h264Picture c r x.idr else (s2, { data := 0, meta_ := r.meta_ })

/-- R161: a decode job is aborted: the rows it left are concealed in the DPB copy, so many as it left undecoded (a free
value), and its picture is not announced. -/
def State.h264Abort (s : State) (c : Nat) : State :=
  let d := s.draw 5
  let k := d.2.h264 c
  (d.2.setH264 c { k with aborted := true, picTaint := true }).incr (h264Key c 0x08) d.1

/-! ### BUDGET_CUT (R138) -/

/-- R138, R162: the cut of a job in its context; what the decoder conceals for it is counted. -/
def State.cutContext (s : State) (k : JobKind) (conc : Nat) : State :=
  match k with
  | .jpeg c => s.setJpeg c { s.jpegCtx c with cut := true, conc := (s.jpegCtx c).conc + conc }
  | .h264 c =>
    ((s.setH264 c { s.h264 c with cut := true, conc := (s.h264 c).conc + conc, damaged := true }).incr
      (h264Key c 0x08) conc).incr (h264Key c 0x0D)
  | _ => s

/-- The job is a decoder's. -/
def jobDecodes : JobKind → Bool
  | .jpeg _ | .h264 _ | .cbor => true
  | _ => false

/-- BUDGET_CUT (R138): a running decode job reaches its lane cost. -/
def execBudgetCut (t job concealed : Nat) : State → Result :=
  whenCore t fun s =>
    match s.head.running.find? (fun r => r.entry.id == job && jobDecodes r.entry.kind) with
    | none => s
    | some r => ((s.cutContext r.entry.kind concealed).incr 0x250005).emit 0x5006

/-! ### The encoder (R168–R192) -/

/-- An encode context. -/
def State.enc (s : State) (e : Nat) : EncCtx := tget s.codec.enc e {}

/-- The state with an encode context set. -/
def State.setEnc (s : State) (e : Nat) (x : EncCtx) : State := s.onCodec fun y => { y with enc := tset y.enc e x }

/-- The key of an object of an encode context. -/
def encKey (e u : Nat) : Nat := 0x251000 + 256 * e + u

/-- What the image says of an encode context. -/
def State.encImage (s : State) (e : Nat) : Option EncodeImage :=
  match s.head.image with
  | none => none
  | some im => (im.encode.find? fun x => x.1 == e).map (·.2)

/-- R186: the objects of a context that take effect at an IDR. -/
def encAtIdr (e : Nat) : List Nat := [0x02, 0x03, 0x12, 0x13, 0x14, 0x15].map (encKey e)

/-- The value in force of such an object. -/
def State.encValue (s : State) (k : Nat) : Nat := tget s.actual k (objectDefault k)

/-- R186: an IDR adopts the profile, the entropy mode and the RTP settings. -/
def State.encAdopt (s : State) (e : Nat) : State :=
  (encAtIdr e).foldl (fun s k => s.setActual (tset s.actual k (s.cfg k))) s

/-- R171, R189: the size is legal and lies within the context's ceiling. -/
def encTakes (i : EncodeImage) (w h : Nat) : Bool :=
  decide (4 ≤ w) && decide (w ≤ 256) && decide (4 ≤ h) && decide (h ≤ 256) && decide (w * h ≤ 36864) &&
    decide (w ≤ i.maxMbW) && decide (h ≤ i.maxMbH)

/-- R172, R173, R186: the first job of a frame is admitted: it takes the source picture `src` of a stream and holds it, tests its
staleness and its flags, and takes a forced IDR request accepted before it. Without a picture the entry is empty (R98). -/
def State.encAdmit (s : State) (e source : Nat) (src : Option UnitMeta) : State :=
  let x := s.enc e
  let old := src.any fun m => decide (m.stream < 16) && !(s.fresh m.stream m.stamp)
  let stale := old || src.isNone
  let flagged := src.any fun m => flaggedWord m.dinfo
  let ts := match src with
    | some m => m.stamp.dev * 9 / 100000 % 2 ^ 32
    | none => 0
  let s1 := s.setEnc e { x with coding := true, first := true, coded := false, stale := stale, flagged := flagged,
                                force := x.forced, forced := x.forced && stale, degraded := false, bits := 0,
                                rtpTs := ts, src := src }
  if old then (s1.incr (encKey e 0x16)).emit 0x5010
  else if stale then s1.incr (streamKey source 0x1C)
  else if flagged then s1.emitLimited second 0x5014 0xFFFF 0 e
  else s1

/-- R186: an IDR is due: by period, by request, or for the first picture. -/
def State.idrDue (s : State) (e : Nat) (x : EncCtx) (resized : Bool) : Bool :=
  !x.started || x.force || x.idrNext || resized || decide (s.cfg (encKey e 0x0D) ≤ x.sinceIdr + 1)

/-- R173, R185, R189, R191: the picture is coded, is an IDR, is all P_Skip. -/
def State.pictureType (s : State) (e : Nat) (x : EncCtx) (resized : Bool) : Bool × Bool × Bool :=
  let policy := s.cfg (encKey e 0x10)
  let due := s.idrDue e x resized
  if x.flagged ∧ policy = 1 then (x.started, false, true)
  else
    let idr := due || (x.awaitIdr && !x.flagged)
    (true, idr, !idr && x.skips)

/-- The QP of the picture: what rate control set for its type, else the initial QP (R184), or the constant of its type in mode
2 (R183). -/
def State.pictureQp (s : State) (e : Nat) (x : EncCtx) (idr : Bool) : Nat :=
  match if idr then x.nextI else x.nextP with
  | some q => q
  | none =>
    if s.obj (encKey e 0x04) = 2 then s.obj (encKey e (if idr then 0x0B else 0x0C)) else s.obj (encKey e 0x08)

/-- The first job of a picture decides its size, its type and its QP. -/
def State.encStart (s : State) (e : Nat) (i : EncodeImage) (w h : Nat) : State :=
  let x := s.enc e
  if encTakes i w h = false then s.setEnc e { x with unconfigured := true, first := false }
  else
    let resized := x.size != (w, h)
    let p := s.pictureType e x resized
    let s1 := if resized ∧ x.started then s.emit 0x5015 else s
    let s2 := if p.1 ∧ p.2.1 then s1.encAdopt e else s1
    let y : EncCtx :=
      { x with first := false, unconfigured := false, size := (w, h), coded := p.1, idr := p.2.1
               qp := s.pictureQp e x p.2.1, started := p.1
               awaitIdr := if p.2.1 then false else x.awaitIdr || (x.flagged && s.cfg (encKey e 0x10) == 2)
               skips := x.skips && !p.2.2
               idrNext := if p.2.1 then false
                 else x.idrNext || (s.idrDue e x resized && x.flagged && s.cfg (encKey e 0x10) == 1)
               sinceIdr := if p.2.1 then 0 else x.sinceIdr + 1 }
    let y := if x.flagged ∧ s.cfg (encKey e 0x10) = 2 ∧ p.2.1 then { y with awaitIdr := true } else y
    let s3 := s2.setEnc e y
    if p.1 ∧ p.2.2 then s3.incr (encKey e 0x17) else s3

/-- R187: the payload sizes of the RTP packets that carry a NAL unit: one of up to 1,400 B, or the fragments of its bytes after
the header byte (notes/assumptions/27.md). -/
def rtpPieces (n : Nat) : List Nat :=
  if n ≤ 1400 then [n]
  else List.replicate ((n - 1) / 1400) 1400 ++ (if (n - 1) % 1400 = 0 then [] else [(n - 1) % 1400])

/-- R187: packets to the uplink; the last one of the access unit carries the marker. -/
def State.rtpSend (s : State) (e : Nat) (pieces : List Nat) (last : Bool) : State :=
  match pieces with
  | [] => s
  | n :: r =>
    let x := s.enc e
    let o := Out.rtp (s.cfg (encKey e 0x11) - 1) (s.encValue (encKey e 0x14)) (s.encValue (encKey e 0x15))
      (s.encValue (encKey e 0x12)) (s.encValue (encKey e 0x13)) x.rtpSeq x.rtpTs (last && r.isEmpty) n
    ((s.setEnc e { x with rtpSeq := (x.rtpSeq + 1) % 2 ^ 16 }).send o).rtpSend e r last

/-- R187: the sink of a context. -/
def State.encSend (s : State) (e : Nat) (nals : List Nat) (last : Bool) : State :=
  if s.cfg (encKey e 0x11) = 0 then s else s.rtpSend e (nals.flatMap rtpPieces) last

/-- R182: a picture whose slot ran nearly full is reported and counted once. -/
def State.encDegrade (s : State) (e : Nat) (d : Bool) : State :=
  let x := s.enc e
  if d ∧ x.degraded = false then ((s.setEnc e { x with degraded := true }).incr (encKey e 0x19)).emit 0x5011 else s

/-- The picture in coding is complete: it counts, and rate control is due (R183). -/
def State.encFinish (s : State) (e : Nat) : State :=
  let x := s.enc e
  if x.coded then
    let y := { x with coding := false, rcDue := true, lastI := if x.idr then some (x.qp, x.bits) else x.lastI
                      lastP := if x.idr then x.lastP else some (x.qp, x.bits) }
    ((s.setEnc e y).setObj (encKey e 0x1C) x.qp).incr (encKey e 0x18)
  else s.setEnc e { x with coding := false }

/-- R172–R189: the end of an encode job. -/
def State.encodeJob (s : State) (e : Nat) (r : Run) (x : EncodeReport) : State × JobEnd :=
  match s.encImage e with
  | none => (s, .invalid r.meta_)
  | some i =>
    let s1 := if (s.enc e).first ∧ (s.enc e).stale = false then s.encStart e i x.widthMb x.heightMb else s
    let k := s1.enc e
    if k.coded ∧ k.stale = false then
      let s2 := (s1.encDegrade e x.degraded).setEnc e { (s1.encDegrade e x.degraded).enc e with bits := k.bits + x.bits }
      let s3 := s2.encSend e x.nals x.last
      (if x.last then s3.encFinish e else s3, { data := x.nals.length, meta_ := r.meta_ })
    else (if x.last then s1.encFinish e else s1, .invalid r.meta_)

/-- R190: an encode job is aborted: the rest of its picture is not coded, the next picture is an IDR, and rate control counts the
bits emitted. -/
def State.encAbort (s : State) (e : Nat) : State :=
  let x := s.enc e
  let x := if x.coded then { x with lastI := if x.idr then some (x.qp, x.bits) else x.lastI
                                    lastP := if x.idr then x.lastP else some (x.qp, x.bits) } else x
  s.setEnc e { x with first := false, coded := false, rcDue := x.rcDue || !x.stale, idrNext := true }

/-! ### Rate control (R183–R185) -/

/-- R183: the fractions of rate control over the denominator 16 × fps numerator: T, the cap's share, and (F − S/2) / 8. -/
def rcUnit (i : EncodeImage) : Int := 16 * i.fpsNum

/-- R183: a rate's bits per frame in 1/rcUnit. -/
def rcShare (i : EncodeImage) (rate : Nat) : Int := 16 * (rate * i.fpsDen : Nat)

/-- R183: the target Tn for the next frame, in 1/rcUnit bits. -/
def rcTarget (i : EncodeImage) (mode rate cap buffer : Nat) (f : Int) : Int :=
  let t := rcShare i rate
  let excess := (2 * f - buffer) * i.fpsNum
  let raw := if mode = 0 then t - excess else min t (rcShare i cap - excess)
  if 4 * raw < t then t / 4 else min raw (4 * t)

/-- R183: the fullness after a frame, before the filler: rounded to the nearest bit, a half away from zero. -/
def rcFullness (i : EncodeImage) (mode rate cap : Nat) (f : Int) (b : Nat) : Int :=
  let v := (f + b) * rcUnit i - rcShare i (if mode = 0 then rate else cap)
  let r := roundAway v (16 * i.fpsNum)
  if mode = 0 then r else max 0 r

/-- R184: round(6 × log2(bt / Tn)) limited to ±4, Tn in 1/unit bits: the greatest k of −4 to 4 with (bt / Tn)^12 ≥ 2^(2k − 1),
else −4. -/
def qpChange (bt : Nat) (tn unit : Nat) : Int :=
  let a := (bt * unit) ^ 12
  let b := tn ^ 12
  let holds := fun (k : Int) => if 1 ≤ k then decide (b * 2 ^ (2 * k - 1).toNat ≤ a) else decide (b ≤ a * 2 ^ (1 - 2 * k).toNat)
  (([4, 3, 2, 1, 0, -1, -2, -3] : List Int).find? holds).getD (-4)

/-- R184: the next QP of a type from the last frame of that type; the logarithm of 0 and a division by 0 are free values. -/
def State.nextQp (s : State) (e : Nat) (i : EncodeImage) (tn : Int) (last : Option (Nat × Nat)) : Option Nat × State :=
  match last with
  | none => (none, s)
  | some (qt, bt) =>
    let open_ := decide (bt = 0) || decide (tn ≤ 0)
    let d := if open_ then s.draw 6 else (0, s)
    let change := if open_ then ((d.1 % 9 : Nat) : Int) - 4 else qpChange bt tn.toNat (16 * i.fpsNum)
    (some (clamp (s.obj (encKey e 0x09)) (s.obj (encKey e 0x0A)) ((qt : Int) + change)).toNat, d.2)

/-- R183–R185: the rate-control job of a frame. -/
def State.rateControlJob (s : State) (e : Nat) (r : Run) : State × JobEnd :=
  let x := s.enc e
  match s.encImage e with
  | none => (s, { meta_ := r.meta_ })
  | some i =>
    if x.rcDue = false then (s, { meta_ := r.meta_ })
    else
      let mode := s.obj (encKey e 0x04)
      if mode = 2 then
        (s.setEnc e { x with rcDue := false, nextI := some (s.obj (encKey e 0x0B)), nextP := some (s.obj (encKey e 0x0C)) },
          { meta_ := r.meta_ })
      else
        let rate := s.obj (encKey e 0x05)
        let cap := s.obj (encKey e 0x06)
        let size := s.obj (encKey e 0x07)
        let f := rcFullness i mode rate cap (signed 32 (s.obj (encKey e 0x1B))) x.bits
        let filler := (-f + 7).toNat / 8
        let s1 := if f < 0 then s.incr (encKey e 0x1A) filler else s
        let f1 := max 0 f
        let tn := rcTarget i mode rate cap size f1
        let q1 := s1.nextQp e i tn x.lastI
        let q2 := q1.2.nextQp e i tn x.lastP
        let oversize := decide ((size : Int) < f1)
        let s2 := (q2.2.setEnc e { x with rcDue := false, nextI := q1.1, nextP := q2.1, skips := x.skips || oversize }).setObj
          (encKey e 0x1B) (pattern 32 f1)
        (if oversize then s2.emit 0x5013 else s2, { meta_ := r.meta_ })

/-- R192: the encoder restarts: the next picture is an IDR and the fullness S/2. -/
def State.encRestart (s : State) (e : Nat) : State :=
  (s.setEnc e { s.enc e with started := false, coding := false, rcDue := false, skips := false, lastI := none, lastP := none,
                             nextI := none, nextP := none }).setObj (encKey e 0x1B) (s.obj (encKey e 0x07) / 2 % 2 ^ 32)

/-- 0x2510+e.1E: the state of a context; bit 7 shows that a value waits for an IDR (R186). -/
def State.encState (s : State) (e : Nat) : Nat :=
  let x := s.enc e
  (if x.unconfigured then 2 else if x.started then 1 else 0) +
    128 * b2n ((encAtIdr e).any fun k => s.encValue k != s.obj k)

/-- R186: the next frame admitted is an IDR. -/
def State.forceIdr (s : State) (e : Nat) : State := (s.setEnc e { s.enc e with forced := true }).emit 0x5012

/-- FORCE_IDR (R186). -/
def execForceIdr (t : Nat) (p : Path) (e : Fin 2) (v : Nat) : State → Result :=
  whenCore t fun s => s.controlledNum p (encKey e 0x0E) v fun s => s.forceIdr e

end Sys2Proof.Machine
end

