-- ==== Sys2Proof/Machine/Memory.lean ====
section
/-! DEFINITION. Physical memory and address translation: SRAM, LPDDR5, the pre-roll window, uncorrectable words, page-table
walks and the translation caches (R292–R297, R329, R330, R507). -/
namespace Sys2Proof.Machine

/-! ### Physical memory -/

/-- R329: the bytes of SRAM. -/
def sramSize : Nat := 0x08000000

/-- R507: the bytes of the pre-roll window behind SRAM. -/
def windowSize : Nat := 0x15000

/-- R507: a frame of the pre-roll ring by its slot, 0 to 255. -/
def PowerSt.ringFrame (p : PowerSt) (slot : Nat) : Option PreRoll := p.ring[(p.frameNo + 255 - slot) % 256]?

/-- R507: a byte of the window: the frames' samples in slot order, then their timestamps (notes/assumptions/29.md). -/
def PowerSt.windowByte (p : PowerSt) (off : Nat) : Byte :=
  if off < 81920 then
    match p.ringFrame (off / 320) with
    | some f => BitVec.ofNat 8 ((f.samples.getD (off % 320 / 2) 0).toNat / 256 ^ (off % 2))
    | none => 0
  else
    match p.ringFrame ((off - 81920) / 16) with
    | some f => BitVec.ofNat 8 (f.stamp.pack / 256 ^ ((off - 81920) % 16))
    | none => 0

/-- The bytes of LPDDR5 present (R574). -/
def State.dramSize (s : State) : Nat := s.boot.dramMiB * 2 ^ 20

/-- No memory stands at a physical address; the window reads in the working modes only (R507). -/
def State.hole (s : State) (mem pa : Nat) : Bool :=
  match mem with
  | 0 => !(decide (pa < sramSize) || (s.working && decide (pa < sramSize + windowSize)))
  | 1 => decide (s.dramSize ≤ pa)
  | _ => false

/-- The byte at a physical address of a local memory. -/
def State.readByte (s : State) (mem pa : Nat) : Byte :=
  if mem = 0 then
    if pa < sramSize then memRead s.sram pa else s.power.windowByte (pa - sramSize)
  else memRead s.dram pa

/-- Bytes from a physical address on. -/
def State.readBytes (s : State) (mem pa n : Nat) : List Byte := (List.range n).map fun i => s.readByte mem (pa + i)

/-- A byte written to a local memory; the window is read-only (R507). -/
def State.writeByte (s : State) (mem pa : Nat) (v : Byte) : State :=
  if mem = 0 then
    if pa < sramSize then s.setSram (memWrite s.sram pa v) else s
  else s.setDram (memWrite s.dram pa v)

/-- Bytes written from a physical address on. -/
def State.writeBytes (s : State) (mem pa : Nat) : List Byte → State
  | [] => s
  | b :: bs => (s.writeByte mem pa b).writeBytes mem (pa + 1) bs

/-- R330: the 64-bit word of SRAM that holds an address has an uncorrectable error. -/
def State.badWord (s : State) (mem pa : Nat) : Bool := mem == 0 && s.comp.bad.contains (pa / 8 * 8)

/-- R330: an access met an uncorrectable word: the event, the count, and the address as slab × 2^22 + offset. -/
def State.metBadWord (s : State) (pa : Nat) : State :=
  ((s.incr 0x280007).setObj 0x280008 (pa / 8 * 8)).emit 0x8005

/-! ### Walks (R293–R295) -/

/-- A physical place. -/
structure Place where
  mem  : Nat
  peer : Nat
  pa   : Nat
deriving DecidableEq, Repr

/-- What a walk finds: a page (its place for the address, its size and its entry), a fault kind with its level and the
physical address of the entry read there, or no memory at an address. -/
inductive Walk where
  | page (at_ : Place) (size pte : Nat)
  | fails (kind level : Nat) (entry : Place)
  | hole (pa : Nat)
deriving DecidableEq, Repr

/-- R294: the shift and the number of entries of a level. -/
def levelShift (l : Nat) : Nat := nth [39, 30, 21, 16, 12] l
def levelEntries (l : Nat) : Nat := nth [512, 512, 512, 32, 16] l

/-- R294: the page size a KIND names. -/
def pageSize (kind : Nat) : Nat := nth [0, 4096, 65536, 2097152] kind

/-- R293, R294: an entry is well formed at a level: reserved bits zero, KIND allowed, ADDR's low bits zero, and a table in local
memory. -/
def pteOk (l e : Nat) : Bool :=
  let kind := bits e 3 2
  let mem := bits e 9 8
  bits e 63 48 == 0 && bits e 7 6 == 0 && !(e.testBit 1) && (mem == 3 || bits e 11 10 == 0) &&
    (match l with
     | 2 => kind == 0 || kind == 3
     | 3 => kind == 0 || kind == 2
     | 4 => kind == 1
     | _ => kind == 0) &&
    (if kind = 0 then decide (mem ≤ 1) else bits e 47 0 / 4096 * 4096 % pageSize kind == 0)

/-- The physical address of an entry's target. -/
def pteAddr (e : Nat) : Nat := bits e 47 12 * 4096

/-- R295: a page entry is judged: permission, then memory. `access` is 0 read, 1 write, 2 accumulate; memory 4 stands for any. -/
def judgePage (va access mem l e : Nat) (at_ : Place) : Walk :=
  let size := pageSize (bits e 3 2)
  if (access = 0 ∧ e.testBit 4 = false) ∨ (access ≠ 0 ∧ e.testBit 5 = false) then .fails 2 l at_
  else if mem ≠ 4 ∧ bits e 9 8 ≠ mem then .fails 3 l at_
  else .page ⟨bits e 9 8, bits e 11 10, pteAddr e + va % size⟩ size e

/-- R294, R295: a walk from the table at a level; the first argument is the number of levels left. -/
def State.walkFrom (s : State) (va access mem : Nat) : Nat → Place → Walk
  | 0, p => .fails 4 4 p
  | n + 1, table =>
    let l := 4 - n
    let pa := table.pa + (va / 2 ^ levelShift l % levelEntries l) * 8
    let at_ : Place := ⟨table.mem, 0, pa⟩
    if s.hole table.mem pa then .hole pa
    else if s.badWord table.mem pa then .fails 5 l at_
    else
      let e := leNat (s.readBytes table.mem pa 8)
      if e.testBit 0 = false then .fails 1 l at_
      else if pteOk l e = false then .fails 4 l at_
      else if bits e 3 2 = 0 then s.walkFrom va access mem n ⟨bits e 9 8, 0, pteAddr e⟩
      else judgePage va access mem l e at_

/-- R292, R295: the walk of an address in a domain, from its root entry. -/
def State.walk (s : State) (pd va access mem : Nat) : Walk :=
  let root := s.cfg (0x270201 + pd)
  if (s.cfg (0x270501 + pd)).testBit 0 = false ∨ root.testBit 0 = false then .fails 1 0 ⟨4, 0, 0⟩
  else if pteOk 0 root = false then .fails 4 0 ⟨4, 0, 0⟩
  else s.walkFrom va access mem 5 ⟨bits root 9 8, 0, pteAddr root⟩

/-! ### The translation caches (R296, R297) -/

/-- A cached entry of a cluster. -/
def State.cached (s : State) (cluster pd va : Nat) : Option TlbEntry :=
  s.xfer.tlb.find? fun e => e.cluster == cluster && e.pd == pd && decide (e.page ≤ va) && decide (va < e.page + e.size)

/-- R296: a translation by an engine: a cached entry serves, else a walk. -/
def State.translate (s : State) (engine pd va access mem : Nat) : Walk :=
  match s.cached (engine / 4) pd va with
  | some e => judgePage va access mem 4 e.pte ⟨4, 0, 0⟩
  | none => s.walk pd va access mem

/-- The newest entries that a cluster's cache holds, the others' being kept (notes/assumptions/30.md). -/
def keepNewest (cluster : Nat) (l : List TlbEntry) : List TlbEntry :=
  (l.filter fun e => e.cluster == cluster).take 2048 ++ l.filter fun e => e.cluster != cluster

/-- R296: a lookup is counted as a hit or a walk, and the page of a walk that did not fail is cached. -/
def State.lookup (s : State) (engine pd va access mem : Nat) : State :=
  let c := engine / 4
  match s.cached c pd va with
  | some _ => s.incr (0x270305 + c)
  | none =>
    let s' := s.incr (0x270309 + c)
    match s.walk pd va access mem with
    | .page _ size pte =>
      s'.onXfer fun x => { x with tlb := keepNewest c (⟨c, pd, va / size * size, size, pte⟩ :: x.tlb) }
    | _ => s'

/-- R297: the entries of a domain that overlap a range are gone; a length of 0 means the whole domain. -/
def State.dropCached (s : State) (pd base len : Nat) : State :=
  s.onXfer fun x => { x with tlb := x.tlb.filter fun e =>
    !(e.pd == pd && (len == 0 || (decide (e.page < base + len) && decide (base < e.page + e.size)))) }

end Sys2Proof.Machine
end

