-- ==== Sys2Proof/Machine/Descriptors.lean ====
section
/-! DEFINITION. Grain descriptors: the fields, element addresses, the check at load (R250–R264, R271, R279, R316), and the loading of
a job's descriptors. -/
namespace Sys2Proof.Machine

/-! ### Fields and addresses -/

/-- R250: the fields of a descriptor's 512 bits. -/
def Grain.ofBits (v : Nat) : Grain :=
  { crc := bits v 511 480, chunkCrc := v.testBit 479, ro := v.testBit 478, b1 := bits v 471 468, b0 := bits v 467 464,
    pd := bits v 463 460, scale := bits v 447 400
    strides := [bits v 239 208, bits v 271 240, bits v 303 272, bits v 335 304, bits v 367 336, bits v 399 368]
    sizes := [bits v 87 64, bits v 111 88, bits v 135 112, bits v 159 136, bits v 183 160, bits v 207 184]
    ver := bits v 63 60, type := bits v 59 56, rank := bits v 55 53, layout := bits v 52 51, mem := bits v 50 49
    base := bits v 47 0 }

/-- The bytes 0–59 of a descriptor outside RO, by which two descriptors are equal (R263). -/
def grainSame (a b : Grain) : Bool := { a with ro := false, crc := 0 } == { b with ro := false, crc := 0 }

/-- The element type. -/
def Grain.elem (g : Grain) : Elem := (elemOf g.type).getD .int8

/-- The size of a dimension; 1 at and above RANK (R256). -/
def Grain.size (g : Grain) (d : Nat) : Nat := if d < g.rank then nth g.sizes d else 1

/-- The number of elements. -/
def Grain.count (g : Grain) : Nat := (List.range 6).foldl (fun a d => a * g.size d) 1

/-- The access width of the descriptor's memory (R264, R271). -/
def Grain.width (g : Grain) : Nat := if g.mem = 0 then 32 else 64

/-- The layout is blocked. -/
def Grain.blocked (g : Grain) : Bool := g.layout == 1

/-- The bytes of a block (R260). -/
def Grain.blockBytes (g : Grain) : Nat := 2 ^ g.b0 * 2 ^ g.b1 * g.elem.bits / 8

/-- A stride in bytes; on dimension 0 the packed stride when the field is 0 (R259, R260). -/
def Grain.stride (g : Grain) (d : Nat) : Nat :=
  if d = 0 ∧ nth g.strides 0 = 0 then (if g.blocked then g.blockBytes else g.elem.bits / 8) else 32 * nth g.strides d

/-- Σ of indices × strides over dimensions from a first one on. -/
def Grain.outer (g : Grain) (from_ : Nat) (ix : List Nat) : Nat :=
  ((List.range 6).map fun d => if from_ ≤ d ∧ d < g.rank then nth ix d * g.stride d else 0).sum

/-- R259, R260: the byte offset of an element from BASE. -/
def Grain.offset (g : Grain) (ix : List Nat) : Nat :=
  let i0 := nth ix 0
  if g.blocked then
    let b0 := 2 ^ g.b0
    let b1 := 2 ^ g.b1
    i0 / b0 * g.stride 0 + nth ix 1 / b1 * g.stride 1 + g.outer 2 ix +
      (nth ix 1 % b1 * b0 + i0 % b0) * g.elem.bits / 8
  else if g.elem.bits = 4 then i0 / 2 + g.outer 1 ix
  else i0 * g.stride 0 + g.outer 1 ix

/-- R254: a 4-bit element lies in the high nibble: at an odd position of its row, or of its block's row-major order. -/
def Grain.highNibble (g : Grain) (ix : List Nat) : Bool :=
  if g.blocked then (nth ix 1 % 2 ^ g.b1 * 2 ^ g.b0 + nth ix 0 % 2 ^ g.b0) % 2 == 1 else nth ix 0 % 2 == 1

/-- R256: the offset of an element's scale byte from SCALE. -/
def Grain.scaleOffset (g : Grain) (ix : List Nat) : Nat :=
  nth ix 0 / 32 + ceilDiv (g.size 0) 32 *
    (nth ix 1 + g.size 1 * (nth ix 2 + g.size 2 * (nth ix 3 + g.size 3 * (nth ix 4 + g.size 4 * nth ix 5))))

/-- R256: the bytes of the scale array. -/
def Grain.scaleSize (g : Grain) : Nat := ceilDiv (g.size 0) 32 * (g.count / g.size 0)

/-- The candidates for the greatest index of a dimension: the last, and in the blocked layout the end of the last full block. -/
def Grain.lastIndices (g : Grain) (d b : Nat) : List Nat :=
  let n := g.size d
  if g.blocked ∧ 0 < n / b then [n - 1, n / b * b - 1] else [n - 1]

/-- The bytes of one element, at least 1. -/
def Grain.elemBytes (g : Grain) : Nat := ceilDiv g.elem.bits 8

/-- The span: the greatest byte offset of any element, with the element's bytes. -/
def Grain.span (g : Grain) : Nat :=
  let rest := (List.range 4).map fun d => g.size (d + 2) - 1
  let all := (g.lastIndices 0 (2 ^ g.b0)).flatMap fun i => (g.lastIndices 1 (2 ^ g.b1)).map fun j => g.offset (i :: j :: rest)
  all.foldl max 0 + g.elemBytes

/-- The span of dimensions 0 to d alone; in the blocked layout of the block grid (R263). -/
def Grain.spanTo (g : Grain) (d : Nat) : Nat :=
  if g.blocked then
    let grid := fun (k : Nat) => if k = 0 then ceilDiv (g.size 0) (2 ^ g.b0) else if k = 1 then ceilDiv (g.size 1) (2 ^ g.b1)
      else g.size k
    ((List.range (d + 1)).map fun k => (grid k - 1) * g.stride k).sum + g.blockBytes
  else
    let first := if g.elem.bits = 4 then (g.size 0 - 1) / 2 else (g.size 0 - 1) * g.stride 0
    first + ((List.range (d + 1)).map fun k => if k = 0 then 0 else (g.size k - 1) * g.stride k).sum + g.elemBytes

/-! ### The checks (R263) -/

/-- Check 3: version, type, layout, rank, sizes, reserved fields (R251). -/
def formatOk (v : Nat) (g : Grain) : Bool :=
  g.ver == 1 && (elemOf g.type).isSome && decide (g.layout ≤ 1) && decide (1 ≤ g.rank) && decide (g.rank ≤ 6) &&
    ((List.range 6).all fun d =>
      if d < g.rank then decide (1 ≤ nth g.sizes d) else nth g.sizes d == 0 && nth g.strides d == 0) &&
    bits v 477 472 == 0 && bits v 459 448 == 0 && !(v.testBit 48) && (if g.blocked then decide (g.b0 ≤ 7) && decide (g.b1 ≤ 7) else g.b0 == 0 && g.b1 == 0)

/-- Check 4: alignment to the access width. -/
def alignmentOk (g : Grain) : Bool :=
  let w := g.width
  (if nth g.strides 0 = 0 ∧ g.blocked = false then g.base % g.elemBytes == 0 else g.base % w == 0) &&
    g.scale % w == 0 && ((List.range 6).all fun d => 32 * nth g.strides d % w == 0) &&
    (!g.blocked || g.blockBytes % w == 0)

/-- Check 5: type and layout (R262). -/
def typeLayoutOk (g : Grain) : Bool :=
  let e := g.elem
  (!(e == .int4 || e.scaled) || nth g.strides 0 == 0) && !(g.blocked && e.scaled && decide (g.b0 < 5)) &&
    (e.scaled == (g.scale != 0)) && !(g.blocked && g.rank == 1)

/-- Check 6: extent. -/
def extentOk (g : Grain) : Bool :=
  decide (g.base + g.span ≤ 2 ^ 48) && (!g.elem.scaled || decide (g.scale + g.scaleSize ≤ 2 ^ 48))

/-- R316: the pairs of MAC operands. -/
def macPair (a b : Elem) : Bool :=
  match a with
  | .int8 | .uint8 => b == .int8 || b == .int4 || b == .gs4
  | .int4 | .gs4 => b == .int4 || b == .gs4
  | .gs8 => b == .gs8 || b == .gs4
  | .e4m3 | .e5m2 => b == .e4m3 || b == .e5m2
  | .fp16 => b == .fp16
  | .bf16 => b == .bf16
  | _ => false

/-- The rules on a descriptor that is written. -/
def writeOk (g : Grain) : Bool :=
  !g.ro && ((List.range 6).all fun d => !(decide (1 ≤ d) && decide (d < g.rank)) ||
    (nth g.strides d != 0 && decide (g.spanTo (d - 1) ≤ g.stride d)))

/-- Two spans intersect. -/
def spansMeet (a b : Grain) : Bool := decide (a.base < b.base + b.span) && decide (b.base < a.base + a.span)

/-- Check 7 on a descriptor by itself (Table: Use rules). -/
def useOk (pd : Nat) (u : DescUse) (g : Grain) : Bool :=
  g.pd == pd && (!(u.write || u.accum || u.scatters) || writeOk g) && (!u.accum || g.elem.accumulates != 0) &&
    (!u.blocks || g.blocked) && (!u.index || (g.elem == .int32 && g.rank == 1 && nth g.strides 0 == 0)) &&
    !(u.scatters && g.elem.scaled && g.rank == 1)

/-- A descriptor of a job, loaded. -/
structure Loaded where
  addr : Nat
  use  : DescUse
  raw  : Nat
  g    : Grain
deriving DecidableEq, Repr

/-- R263: the event of the first check that a descriptor by itself fails, 0 when all pass. -/
def ownError (pd : Nat) (x : Loaded) : Nat :=
  if x.addr % 64 ≠ 0 then 0x7082
  else if (crc32c (leBytes 60 x.raw)).toNat ≠ bits x.raw 511 480 then 0x7081
  else if formatOk x.raw x.g = false then 0x7082
  else if alignmentOk x.g = false then 0x7083
  else if typeLayoutOk x.g = false then 0x7084
  else if extentOk x.g = false then 0x7085
  else if useOk pd x.use x.g = false then 0x7086
  else 0

/-- Descriptor n of a job, with nothing for one that is not used because a check by itself fails. -/
def usedAt (pd : Nat) (all : List Loaded) (n : Nat) : Option Loaded :=
  (all[n]?).filter fun y => ownError pd y == 0

/-- Check 7 against the job's other descriptors: a write meets no read unless in place; the pairs of MAC operands. One that is not
used is not compared with. -/
def pairOk (pd : Nat) (all : List Loaded) (x : Loaded) : Bool :=
  (!(x.use.write || x.use.accum || x.use.scatters) || all.all fun y => y.use.write || y.use.accum || y.use.scatters ||
    grainSame x.g y.g || !(spansMeet x.g y.g) || ownError pd y != 0) &&
  (match x.use.operandB with
   | none => true
   | some n => (usedAt pd all n).all fun y => macPair x.g.elem y.g.elem)

/-- Check 7 of a transfer on its destination: an accumulation keeps the type (R263), a plain copy keeps type and count
(R279). -/
def transferOk (pd : Nat) (all : List Loaded) (n : Nat) (t : TransferDef) : Bool :=
  match usedAt pd all t.src, usedAt pd all t.dst with
  | some a, some b =>
    n != t.dst ||
      (match t.kind with
       | .copy => a.g.type == b.g.type && a.g.count == b.g.count
       | .accumulate => a.g.type == b.g.type
       | _ => true)
  | _, _ => true

/-- R263: the event of the first failing check of a job's descriptor, 0 when all pass. -/
def descriptorError (pd : Nat) (all : List Loaded) (ts : List TransferDef) (n : Nat) (x : Loaded) : Nat :=
  if ownError pd x ≠ 0 then ownError pd x
  else if pairOk pd all x = false ∨ ts.all (transferOk pd all n) = false then 0x7086
  else 0

/-- The counter of a check's event. -/
def descriptorCounter (event : Nat) : Nat :=
  if event = 0x7081 then 0x271002 else if event = 0x7082 then 0x271003 else 0x271001 + (event - 0x7080)

/-- R263: a failing descriptor is counted and reported. -/
def State.reportDescriptor (s : State) (addr event : Nat) : State :=
  (((s.incr (descriptorCounter event)).setObj 0x271008 addr).setObj 0x271009 event).emit event

/-- The 512 bits of a job's descriptor: from the image's place, or, replaced by a command-queue entry, through that entry's domain or
from what the host's memory gave (R339). An address that does not translate gives no data. -/
def State.descriptorBits (s : State) (pd : Nat) (u : DescUse) (given : Option (Nat × Option Nat)) : Nat × Nat :=
  match given with
  | none => (u.addr, leNat (s.readBytes (b2n u.inDram) u.addr 64))
  | some (a, content) =>
    match s.walk pd a 0 4 with
    | .page p _ _ => (a, if p.mem ≤ 1 then leNat (s.readBytes p.mem p.pa 64) else content.getD 0)
    | _ => (a, 0)

/-- The descriptors of a job as it loads them; `given` are the addresses in domain `pd` that replace the first of them. -/
def State.loadAll (s : State) (e : JobEntry) (given : List (Nat × Option Nat)) (pd : Nat) : List Loaded :=
  e.descs.zipIdx.map fun p =>
    let o := (given[p.2]?).bind fun x => if x.1 = 0 then none else some x
    let b := s.descriptorBits pd p.1 o
    ⟨b.1, p.1, b.2, Grain.ofBits b.2⟩

/-- R263, R275: a job loads and checks its descriptors, each failing one reported; whether all pass. -/
def State.loadDescriptors (s : State) (e : JobEntry) (given : List (Nat × Option Nat)) (pd : Nat) : State × List Loaded × Bool :=
  let all := s.loadAll e given pd
  let errors := all.zipIdx.map fun p => (p.1.addr, descriptorError e.pd all e.transfers p.2 p.1)
  let s1 := s.incr 0x271001 all.length
  ((errors.filter fun x => x.2 != 0).foldl (fun s x => s.reportDescriptor x.1 x.2) s1, all, errors.all fun x => x.2 == 0)

/-- R339, R340: the descriptor of a SUBMIT_UNIT entry as it is loaded: at `addr` in the entry's domain, or what the host's memory
gave there. -/
def State.unitDescriptor (s : State) (pd addr content : Nat) : Loaded :=
  let u : DescUse := { addr := addr, inDram := false, write := false }
  let b := s.descriptorBits pd u (some (addr, some content))
  ⟨b.1, u, b.2, Grain.ofBits b.2⟩

/-- R263: the event of the first check that the descriptor of a SUBMIT_UNIT entry fails, 0 when all pass. -/
def State.unitError (s : State) (pd addr content : Nat) : Nat :=
  let x := s.unitDescriptor pd addr content
  descriptorError pd [x] [] 0 x

/-- R263: the check of the descriptor of a SUBMIT_UNIT entry is counted, and its failure reported. -/
def State.checkUnit (s : State) (pd addr content : Nat) : State :=
  let e := s.unitError pd addr content
  let s1 := s.incr 0x271001
  if e = 0 then s1 else s1.reportDescriptor addr e

end Sys2Proof.Machine
end

