-- ==== Sys2Proof/Machine/Transfers.lean ====
section
/-! DEFINITION. Transfers: canonical order and chunks, gathers and scatters, visibility, faults and their answers, invalidation
(R265–R314), and the commands of the transfer engines. -/
namespace Sys2Proof.Machine

/-! ### Canonical order and chunks (R265–R267, R279, R280) -/

/-- R279: the indices of the k-th element in canonical order over sizes. -/
def unravel : List Nat → Nat → List Nat
  | [], _ => []
  | n :: r, k => k % max n 1 :: unravel r (k / max n 1)

/-- The sizes of the dimensions below RANK. -/
def Grain.dims (g : Grain) : List Nat := g.sizes.take g.rank

/-- The elements of a table row (R265). -/
def Grain.rowCount (g : Grain) : Nat := g.count / g.size (g.rank - 1)

/-- The indices of element m of row k: the outermost index is k. -/
def Grain.rowIndex (g : Grain) (k m : Nat) : List Nat := unravel (g.dims.dropLast) m ++ [k]

/-- The block grid of a blocked descriptor: blocks on dimensions 0 and 1, sizes above. -/
def Grain.grid (g : Grain) : List Nat := ceilDiv (g.size 0) (2 ^ g.b0) :: ceilDiv (g.size 1) (2 ^ g.b1) :: g.dims.drop 2

/-- The indices of element m of the block at coordinates; none for padding (R261). -/
def Grain.blockIndex (g : Grain) (coords : List Nat) (m : Nat) : Option (List Nat) :=
  let i0 := nth coords 0 * 2 ^ g.b0 + m % 2 ^ g.b0
  let i1 := nth coords 1 * 2 ^ g.b1 + m / 2 ^ g.b0
  if i0 < g.size 0 ∧ i1 < g.size 1 then some (i0 :: i1 :: coords.drop 2) else none

/-- The table and the rows side of a listed transfer: a gather reads the table. -/
def Xfer.table (x : Xfer) : Grain := if x.kind = .gather then x.src else x.dst
def Xfer.rows (x : Xfer) : Grain := if x.kind = .gather then x.dst else x.src

/-- The entries of a transfer's list. -/
def Xfer.entries (x : Xfer) : Nat :=
  match x.list with
  | .none => 0
  | .index g => g.count
  | .blocks _ n => n

/-- The elements that one list entry moves. -/
def Xfer.perEntry (x : Xfer) : Nat :=
  match x.list with
  | .blocks _ _ => 2 ^ x.table.b0 * 2 ^ x.table.b1
  | _ => x.table.rowCount

/-- R280: elements in 4,096 B of values. -/
def Xfer.perChunk (x : Xfer) : Nat := 32768 / x.src.elem.bits

/-- R267: the bytes of a row. -/
def Xfer.rowBytes (x : Xfer) : Nat := ceilDiv (x.perEntry * x.src.elem.bits) 8

/-- R267: the chunks into which a long row is cut, and the entries of a chunk of short rows. -/
def Xfer.rowParts (x : Xfer) : Nat := ceilDiv x.rowBytes 4096
def Xfer.rowsPerChunk (x : Xfer) : Nat := max 1 (4096 / max x.rowBytes 1)

/-- The transfer goes by a list. -/
def Xfer.listed (x : Xfer) : Bool := x.list != .none

/-- R267, R280: the number of chunks; it depends on the descriptors alone. -/
def Xfer.chunks (x : Xfer) : Nat :=
  if x.listed = false then ceilDiv x.src.count x.perChunk
  else if 4096 < x.rowBytes then x.entries * x.rowParts
  else ceilDiv x.entries x.rowsPerChunk

/-- Numbers from a to b − 1. -/
def span (a b : Nat) : List Nat := (List.range (b - a)).map (· + a)

/-- The list entries of chunk k. -/
def Xfer.chunkEntries (x : Xfer) (k : Nat) : List Nat :=
  if 4096 < x.rowBytes then [k / x.rowParts]
  else span (k * x.rowsPerChunk) (min x.entries ((k + 1) * x.rowsPerChunk))

/-- The elements of each entry that chunk k moves. -/
def Xfer.chunkElements (x : Xfer) (k : Nat) : List Nat :=
  if 4096 < x.rowBytes then
    let j := k % x.rowParts
    span (j * x.perChunk) (min x.perEntry ((j + 1) * x.perChunk))
  else List.range x.perEntry

/-! ### Addresses a chunk needs -/

/-- An address that a chunk translates. -/
structure Need where
  va : Nat
  pd : Nat
  access : Nat
  mem : Nat
deriving DecidableEq, Repr

/-- R267: the addresses of the chunk's list entries, 4 bytes an index and 16 bytes a coordinate entry; a coordinate list takes
the domain of the transfer's table. -/
def Xfer.listNeeds (x : Xfer) (k : Nat) : List Need :=
  match x.list with
  | .none => []
  | .index g => (x.chunkEntries k).map fun e => ⟨g.base + 4 * e, g.pd, 0, g.mem⟩
  | .blocks a _ => (x.chunkEntries k).map fun e => ⟨a + 16 * e, x.table.pd, 0, 4⟩

/-- A pair of elements: indices on the source side (none writes a zero) and on the destination side. -/
abbrev Pair := Option (List Nat) × List Nat

/-- R265, R266: what a list entry selects. -/
inductive Selected where
  | row (k : Nat)
  | block (coords : List Nat)
  | skip
  | outOfRange
deriving DecidableEq, Repr

/-- R265: an index of the list. -/
def selectRow (table : Grain) (v : Nat) : Selected :=
  if v = 0xFFFFFFFF then .skip else if v < table.size (table.rank - 1) then .row v else .outOfRange

/-- R266: a coordinate entry of the list. -/
def selectBlock (table : Grain) (v : Nat) : Selected :=
  let cs := (List.range 6).map fun i => bits v (16 * i + 15) (16 * i)
  if nth cs 0 = 0xFFFF then .skip
  else if bits v 127 96 ≠ 0 ∨ (cs.drop table.rank).any (· != 0) ∨
      (List.zipWith (fun (c n : Nat) => decide (n ≤ c)) cs table.grid).any id then .outOfRange
  else .block (cs.take table.rank)

/-- The pairs of elements that a selected entry moves. -/
def Xfer.entryPairs (x : Xfer) (k e : Nat) (sel : Selected) : List Pair :=
  let ms := x.chunkElements k
  let rowsAt := fun (m : Nat) =>
    match x.list with
    | .blocks _ _ => x.rows.blockIndex (unravel x.rows.grid e) m
    | _ => some (x.rows.rowIndex e m)
  let tableAt := fun (m : Nat) =>
    match sel with
    | .row r => some (x.table.rowIndex r m)
    | .block cs => x.table.blockIndex cs m
    | _ => none
  ms.filterMap fun m =>
    match x.kind with
    | .gather => (rowsAt m).bind fun d =>
        match sel with
        | .row _ | .block _ => (tableAt m).map fun t => (some t, d)
        | _ => some (none, d)
    | _ => (tableAt m).bind fun d => (rowsAt m).map fun r => (some r, d)

/-- The pairs of a plain copy's chunk (R279, R280). -/
def Xfer.copyPairs (x : Xfer) (k : Nat) : List Pair :=
  (span (k * x.perChunk) (min x.src.count ((k + 1) * x.perChunk))).map fun e =>
    (some (unravel x.src.dims e), unravel x.dst.dims e)

/-- R292: the addresses of an element and of its scale byte. -/
def elementNeeds (g : Grain) (access : Nat) (ix : List Nat) : List Need :=
  ⟨g.base + g.offset ix, g.pd, access, g.mem⟩ ::
    (if g.elem.scaled then [⟨g.scale + g.scaleOffset ix, g.pd, access, g.mem⟩] else [])

/-- Needs of one page each, first of each page. -/
def distinctPages (ns : List Need) : List Need :=
  (ns.foldl (fun acc n => if acc.any fun m => m.va / 4096 == n.va / 4096 && m.pd == n.pd && m.access == n.access then acc
    else n :: acc) []).reverse

/-- The destination access of a transfer. -/
def Xfer.dstAccess (x : Xfer) : Nat := if x.kind = .accumulate then 2 else 1

/-- The addresses that the pairs of a chunk need. -/
def Xfer.pairNeeds (x : Xfer) (ps : List Pair) : List Need :=
  distinctPages ((ps.flatMap fun p => match p.1 with
    | some ix => elementNeeds x.src 0 ix
    | none => []) ++ ps.flatMap fun p => elementNeeds x.dst x.dstAccess p.2)

/-- The first need that finds no page. -/
def State.firstFail (s : State) (engine : Nat) (ns : List Need) : Option (Need × Walk) :=
  ns.findSome? fun n =>
    match s.translate engine n.pd n.va n.access n.mem with
    | .page _ _ _ => none
    | w => some (n, w)

/-- The place of an address that translates. -/
def State.placeAt (s : State) (engine : Nat) (n : Need) : Place :=
  match s.translate engine n.pd n.va n.access n.mem with
  | .page p _ _ => p
  | _ => ⟨4, 0, 0⟩

/-! ### Reading the list -/

/-- The bytes of each list entry are 4 or 16. -/
def Xfer.entryBytes (x : Xfer) : Nat :=
  match x.list with
  | .blocks _ _ => 16
  | _ => 4

/-- The list entries of a chunk: local memory, or from the head of what outside memory gave. -/
def State.listValues (s : State) (x : Xfer) (k : Nat) (data : List Byte) : List Nat :=
  ((x.listNeeds k).zipIdx).map fun p =>
    let at_ := s.placeAt x.engine p.1
    if at_.mem ≤ 1 then leNat (s.readBytes at_.mem at_.pa x.entryBytes)
    else leAt data (p.2 * x.entryBytes) x.entryBytes

/-- The list lies outside. -/
def State.listOutside (s : State) (x : Xfer) (k : Nat) : Bool :=
  (x.listNeeds k).any fun n => decide (2 ≤ (s.placeAt x.engine n).mem)

/-- What each entry of a chunk selects. -/
def State.selections (s : State) (x : Xfer) (k : Nat) (data : List Byte) : List (Nat × Selected) :=
  ((x.chunkEntries k).zip (s.listValues x k data)).map fun p =>
    (p.1, match x.list with
      | .blocks _ _ => selectBlock x.table p.2
      | _ => selectRow x.table p.2)

/-- The pairs of a chunk. -/
def State.chunkPairs (s : State) (x : Xfer) (k : Nat) (data : List Byte) : List Pair :=
  if x.listed then (s.selections x k data).flatMap fun p => x.entryPairs k p.1 p.2 else x.copyPairs k

/-- R265, R266: skips and entries out of range are counted, in the first chunk of their entry. -/
def State.countSelections (s : State) (x : Xfer) (k : Nat) (data : List Byte) : State :=
  if x.listed = false ∨ (4096 < x.rowBytes ∧ k % x.rowParts ≠ 0) then s
  else
    let sel := (s.selections x k data).map (·.2)
    let out := (sel.filter (· == .outOfRange)).length
    let s1 := (s.incr 0x27100B ((sel.filter (· == .skip)).length + out)).incr 0x27100A out
    if 0 < out then s1.emitLimited second 0x7087 0xFFFF 0 0 else s1

/-! ### Moving elements -/

/-- The bits of an element at a place. -/
def State.readElem (s : State) (g : Grain) (p : Place) (ix : List Nat) : Nat :=
  let v := leNat (s.readBytes p.mem p.pa g.elemBytes)
  if g.elem.bits = 4 then (if g.highNibble ix then v / 16 else v % 16) else v

/-- R254: the byte of a 4-bit element after it is written; the unused nibble at the end of an odd row is zero. -/
def nibbleByte (g : Grain) (ix : List Nat) (old v : Nat) : Nat :=
  if g.highNibble ix then old % 16 + 16 * v
  else if g.blocked = false ∧ nth ix 0 + 1 = g.size 0 then v else old / 16 * 16 + v

/-- An element written at a place; outside memory receives it as a request (notes/assumptions/31.md). -/
def State.writeElem (s : State) (g : Grain) (p : Place) (ix : List Nat) (v : Nat) : State :=
  if 2 ≤ p.mem then s.send (.outside p.mem p.peer p.pa false g.type (leBytes g.elemBytes v))
  else if g.elem.bits = 4 then
    s.writeByte p.mem p.pa (BitVec.ofNat 8 (nibbleByte g ix (s.readByte p.mem p.pa).toNat v))
  else s.writeBytes p.mem p.pa (leBytes g.elemBytes v)

/-- The n-th element of what outside memory gave. -/
def outsideElem (g : Grain) (data : List Byte) (n : Nat) : Nat :=
  if g.elem.bits = 4 then (if n % 2 = 0 then leAt data (n / 2) 1 % 16 else leAt data (n / 2) 1 / 16)
  else leAt data (n * g.elemBytes) g.elemBytes

/-- R255: the element's group has the invalid scale byte. -/
def State.scaleInvalid (s : State) (engine : Nat) (g : Grain) (ix : List Nat) : Bool :=
  g.elem.scaled &&
    (let p := s.placeAt engine ⟨g.scale + g.scaleOffset ix, g.pd, 0, g.mem⟩
     decide (p.mem ≤ 1) && s.readByte p.mem p.pa == 0x80)

/-- The value of a pair's source: 0 for a skip and for a group with an invalid scale byte. -/
def State.pairValue (s : State) (x : Xfer) (data : List Byte) (n : Nat) (p : Pair) : Nat :=
  match p.1 with
  | none => 0
  | some ix =>
    let at_ := s.placeAt x.engine ⟨x.src.base + x.src.offset ix, x.src.pd, 0, x.src.mem⟩
    if 2 ≤ at_.mem then outsideElem x.src data n
    else if s.scaleInvalid x.engine x.src ix then 0
    else s.readElem x.src at_ ix

/-- R255: the groups of a chunk with an invalid scale byte are counted. -/
def State.countScales (s : State) (x : Xfer) (ps : List Pair) : State :=
  let bad := ((ps.filterMap (·.1)).filter (s.scaleInvalid x.engine x.src)).map x.src.scaleOffset
  s.badGroups bad.eraseDups.length

/-- R280: the scale byte of an element's group travels with it. -/
def State.moveScale (s : State) (x : Xfer) (p : Pair) : State :=
  match p.1 with
  | some ix =>
    if x.dst.elem.scaled then
      let a := s.placeAt x.engine ⟨x.src.scale + x.src.scaleOffset ix, x.src.pd, 0, x.src.mem⟩
      let b := s.placeAt x.engine ⟨x.dst.scale + x.dst.scaleOffset p.2, x.dst.pd, 1, x.dst.mem⟩
      if a.mem ≤ 1 ∧ b.mem ≤ 1 then s.writeByte b.mem b.pa (s.readByte a.mem a.pa) else s
    else s
  | none => s

/-- The place of a pair's destination. -/
def State.dstPlace (s : State) (x : Xfer) (p : Pair) : Place :=
  s.placeAt x.engine ⟨x.dst.base + x.dst.offset p.2, x.dst.pd, x.dstAccess, x.dst.mem⟩

/-- A copy, gather or overwriting scatter of pairs with the values read before any is written. -/
def State.movePairs (s : State) (x : Xfer) (pv : List (Pair × Nat)) : State :=
  let s' := pv.foldl (fun a p => a.writeElem x.dst (s.dstPlace x p.1) p.1.2 p.2) s
  pv.foldl (fun a p => a.moveScale x p.1) s'

/-! ### Accumulation (R268) -/

/-- R268: the result on a destination element of the contributions to it, in list order, and whether it saturated. -/
def accumulate (el : Elem) (dst : Nat) (cs : List Nat) : Nat × Bool :=
  if el.accumulates = 1 then
    let val := fun (v : Nat) => if el = .uint8 then ((v % 256 : Nat) : Int) else signed el.bits v
    let sum := signed 64 (pattern 64 (cs.map val).sum)
    let r := val dst + sum
    (pattern el.bits (clamp el.range.1 el.range.2 r), decide (r < el.range.1) || decide (el.range.2 < r))
  else convert el (fadd (toFp32 el dst) (cs.foldl (fun a c => fadd a (toFp32 el c)) 0))

/-- The destination elements of a chunk in order of their first contribution, each with its contributions. -/
def gatherContributions (pv : List (Pair × Nat)) : List (List Nat × List Nat) :=
  pv.foldl (fun acc p =>
    match acc.findIdx? (fun e => e.1 == p.1.2) with
    | some i => acc.set i (p.1.2, (acc.getD i ([], [])).2 ++ [p.2])
    | none => acc ++ [(p.1.2, [p.2])]) []

/-- R268: one destination element; a peer's memory receives its contributions as accumulation requests. -/
def State.accumulateElem (s : State) (x : Xfer) (ix : List Nat) (cs : List Nat) : State :=
  let p := s.dstPlace x (none, ix)
  if 2 ≤ p.mem then
    cs.foldl (fun s c => s.send (.outside p.mem p.peer p.pa true x.dst.type (leBytes x.dst.elemBytes c))) s
  else
    let r := accumulate x.dst.elem (s.readElem x.dst p ix) cs
    (s.writeElem x.dst p ix r.1).incr 0x27100E (b2n r.2)

/-- R268: an accumulating chunk is applied. -/
def State.accumulatePairs (s : State) (x : Xfer) (pv : List (Pair × Nat)) : State :=
  ((gatherContributions pv).foldl (fun s e => s.accumulateElem x e.1 e.2) s).incr 0x27100C

/-! ### Ends of transfers -/

/-- The running job of a number. -/
def State.runOf (s : State) (rid : Nat) : Option Run := s.head.running.find? (·.rid == rid)

/-- The outputs of a running job will be invalid. -/
def State.failRun (s : State) (rid : Nat) : State :=
  s.onHead fun h => { h with running := h.running.map fun r => if r.rid = rid then { r with badIn := true } else r }

/-- A transfer replaced. -/
def State.setXfer (s : State) (x : Xfer) : State :=
  s.onXfer fun y => { y with active := y.active.map fun z => if z.xid = x.xid then x else z }

/-- A transfer removed, with its tags (R283). -/
def State.dropXfer (s : State) (xid : Nat) : State :=
  (s.onXfer fun y => { y with active := y.active.filter fun z => z.xid != xid }).onLink fun l =>
    { l with tags := l.tags.filter fun e => e.xid != xid }

/-- The tick in which the job of a transfer was admitted. -/
def State.xferTick (s : State) (x : Xfer) : Nat := ((s.runOf x.rid).map (·.tick)).getD 0

/-- R303: a transfer is abandoned: one poison token on each consumer channel in place of its first chunk that is not visible. -/
def State.abandonOne (s : State) (x : Xfer) (reason : Nat) : State :=
  let tick := s.xferTick x % 2 ^ 32
  (x.chans.foldl (fun s c =>
    s.sendTok c { tick := tick, index := x.next % 2 ^ 32, job := x.job, reason := reason, status := 2, kind := 1 })
    (((s.dropXfer x.xid).incr 0x270005).failRun x.rid))

/-- The transfers merged behind a transfer (R289). -/
def mergedBehind : List Xfer → List Xfer
  | [] => []
  | x :: r => if x.merged then x :: mergedBehind r else []

/-- The active transfers from one on. -/
def xfersFrom (xid : Nat) : List Xfer → List Xfer
  | [] => []
  | x :: r => if x.xid = xid then x :: r else xfersFrom xid r

/-- The transfers whose chunks make one chunk with a transfer's next; none when the transfer is over. -/
def State.mergeGroup (s : State) (x : Xfer) : List Xfer :=
  match xfersFrom x.xid s.xfer.active with
  | y :: r => y :: (mergedBehind r).filter fun z => z.rid == y.rid
  | [] => []

/-- R289, R303: a transfer is abandoned with those merged into its chunk. -/
def State.abandon (s : State) (x : Xfer) (reason : Nat) : State :=
  (s.mergeGroup x).foldl (fun s y => s.abandonOne y reason) s

/-- R308, R311, R312, R327: every transfer that meets a test ends with a poison reason. -/
def State.abandonAll (s : State) (p : Xfer → Bool) (reason : Nat) : State :=
  (s.xfer.active.filter p).foldl (fun s x => s.abandon x reason) s

/-- R312: a port goes down: MEM 2 for PCIe, 3 for the link. -/
def State.portDown (s : State) (mem : Nat) : State :=
  s.abandonAll (fun x => x.src.mem == mem || x.dst.mem == mem) 7

/-! ### Faults (R298–R303, R478) -/

/-- R302: the fault deadline: the last edge, accepted or passed, and the ceiling. -/
def State.faultDeadline (s : State) : Nat :=
  let p := match s.tick.switch with
    | some x => x.pl
    | none => s.tick.period
  s.tick.lastEdge.getD s.now + s.tick.passed * p + s.tick.ceiling

/-- R478: a record of a host-owned domain goes to the fault ring, or is counted when the ring is full. -/
def State.postFault (s : State) (r : FaultRec) : State :=
  if s.xfer.ringCount < 64 then
    let i := s.xfer.ringProd
    ((s.onXfer fun x => { x with ring := tset x.ring i r, ringProd := (i + 1) % 64, ringCount := x.ringCount + 1 }).send
      (.faultRecord i r)).send (.msix 16)
  else s.incr 0x20020E

/-- R298: the page of a fault is marked as mapped on demand. -/
def State.demandPage (s : State) (r : FaultRec) : Bool :=
  r.kind == 1 && (s.head.image.any fun im => im.demandPages.contains (r.pd, r.va / 4096 * 4096))

/-- R298: the firmware maps the page from the spare pool: it writes the missing 4 KiB entry, readable and writable, on the next
spare page (notes/assumptions/32.md). -/
def State.mapSpare (s : State) (r : FaultRec) (entry : Place) : State :=
  match s.head.image with
  | none => s
  | some im =>
    match im.sparePages[s.xfer.sparesUsed]? with
    | none => s
    | some page =>
      if r.level = 4 ∧ entry.mem ≤ 1 then
        (s.writeBytes entry.mem entry.pa (leBytes 8 (page / 4096 * 4096 + r.mem * 256 + 0x35))).onXfer fun x =>
          { x with sparesUsed := x.sparesUsed + 1 }
      else s

/-- A fault's answer is resume: the walk is taken again; whether it finds a page. -/
def State.walkAgain (s : State) (r : FaultRec) : Bool :=
  match s.walk r.pd r.va (if r.access = 3 then 0 else r.access) r.mem with
  | .page _ _ _ => true
  | _ => false

/-- R301: the fault is resolved and the transfer goes on from its chunk. -/
def State.resumed (s : State) (x : Xfer) : State :=
  ((s.setXfer { x with fault := none }).incr 0x270403).emit 0x7002

/-- R298: the firmware answers a fault of its own domain at once. -/
def State.firmwareAnswer (s : State) (x : Xfer) (r : FaultRec) (entry : Place) : State :=
  let s1 := if s.demandPage r then s.mapSpare r entry else s
  if s.demandPage r ∧ s1.walkAgain r then s1.resumed x else (s1.abandon x 1).emit 0x7004

/-- R298: a fault is raised: the record, event 0x7001, the count, and the owner. -/
def State.raiseFault (s : State) (x : Xfer) (chunk : Nat) (n : Need) (kind level : Nat) (entry : Place) : State :=
  let host := (s.cfg (0x270501 + n.pd)).testBit 1
  let r : FaultRec :=
    { id := s.xfer.faultId, kind := kind, pd := n.pd, level := level, access := if kind = 5 then 3 else n.access
      engine := x.engine, dev := s.time.dev, tick := s.tick.count % 2 ^ 32, job := x.job, va := n.va, chunk := chunk
      deadline := s.faultDeadline, host := host, mem := n.mem }
  let y := { x with fault := some r }
  let s1 := (((s.setXfer y).onXfer fun z => { z with faultId := (z.faultId + 1) % 2 ^ 16, last := some r }).incr
    0x270401).emit 0x7001
  if host then s1.postFault r else s1.firmwareAnswer y r entry

/-! ### A chunk becomes visible (R281, R282, R299, R304) -/

/-- What stops a chunk: the first address that does not translate. -/
def State.chunkFail (s : State) (x : Xfer) (data : List Byte) : Option (Need × Walk) :=
  match s.firstFail x.engine (distinctPages (x.listNeeds x.next)) with
  | some f => some f
  | none => s.firstFail x.engine (x.pairNeeds (s.chunkPairs x x.next data))

/-- The physical address of a chunk at which no memory stands. -/
def State.chunkHole (s : State) (x : Xfer) (data : List Byte) : Option Nat :=
  let ns := distinctPages (x.listNeeds x.next) ++ x.pairNeeds (s.chunkPairs x x.next data)
  ns.findSome? fun n =>
    match s.translate x.engine n.pd n.va n.access n.mem with
    | .hole a => some a
    | .page p _ _ => if s.hole p.mem p.pa then some p.pa else none
    | _ => none

/-- R304, R330: the first uncorrectable word that a chunk reads: of its list, of its source with the scale bytes, and of its
destination for an accumulation. -/
def State.chunkBad (s : State) (x : Xfer) (ps : List Pair) : Option Nat :=
  let lists := (x.listNeeds x.next).flatMap fun n =>
    let p := s.placeAt x.engine n
    if x.entryBytes = 16 then [p, { p with pa := p.pa + 8 }] else [p]
  let scales := if x.src.elem.scaled then ps.filterMap fun p => p.1.map fun ix =>
    s.placeAt x.engine ⟨x.src.scale + x.src.scaleOffset ix, x.src.pd, 0, x.src.mem⟩ else []
  let src := ps.filterMap fun p => p.1.map fun ix =>
    s.placeAt x.engine ⟨x.src.base + x.src.offset ix, x.src.pd, 0, x.src.mem⟩
  let dst := if x.kind = .accumulate then ps.map (s.dstPlace x) else []
  ((lists ++ src ++ scales ++ dst).find? fun p => s.badWord p.mem p.pa).map (·.pa)

/-- The bytes of a chunk's values in canonical order. -/
def packValues (el : Elem) : List Nat → List Byte
  | [] => []
  | v :: r =>
    if el.bits = 4 then
      match r with
      | [] => leBytes 1 v
      | w :: r' => leBytes 1 (v + 16 * w) ++ packValues el r'
    else leBytes (el.bits / 8) v ++ packValues el r

/-- A chunk's words of SRAM that were written whole have no error any more. -/
def State.healWords (s : State) (x : Xfer) (ps : List Pair) : State :=
  let bytes := ps.flatMap fun p => let d := s.dstPlace x p; if d.mem = 0 then span d.pa (d.pa + x.dst.elemBytes) else []
  s.onComp fun c => { c with bad := c.bad.filter fun w => !((List.range 8).all fun i => bytes.contains (w + i)) }

/-- The peer that a transfer's remote side lies at, when it has one and its page is known. -/
def State.remotePeer (s : State) (x : Xfer) : Option Nat :=
  let at_ := fun (g : Grain) (access : Nat) =>
    match s.translate x.engine g.pd g.base access g.mem with
    | .page p _ _ => some p.peer
    | _ => none
  if x.dst.mem = 3 then at_ x.dst x.dstAccess else if x.src.mem = 3 then at_ x.src 0 else none

/-- R367: the requests of a remote transfer's next chunk hold their tags; a port that is down ends the transfer (R312). -/
def State.request256 (s : State) (x : Xfer) : State :=
  match s.remotePeer x with
  | none => s
  | some p =>
    if (s.port (s.route p)).state = 3 ∨ (s.port (s.route p)).state = 4 then
      s.takeTags x.xid p (min 4096 (ceilDiv (x.src.count * x.src.elem.bits) 8))
    else s.abandon x 7

/-- R281, R282: the chunk is applied: its writes, its counts, its token on each consumer channel. -/
def State.applyChunk (s : State) (x : Xfer) (data : List Byte) : State :=
  let ps := s.chunkPairs x x.next data
  let rest := if s.listOutside x x.next then data.drop ((x.chunkEntries x.next).length * x.entryBytes) else data
  let pv := ps.zipIdx.map fun p => (p.1, s.pairValue x rest p.2 p.1)
  let s1 := (x.pairNeeds ps).foldl (fun s n => s.lookup x.engine n.pd n.va n.access n.mem) s
  let s2 := (s1.countSelections x x.next data).countScales x ps
  let s3 := (if x.kind = .accumulate then s2.accumulatePairs x pv else s2.movePairs x pv).healWords x ps
  let bytes := packValues x.src.elem (pv.map (·.2))
  let tok : Tok :=
    { crc := if x.dst.chunkCrc then some (crc32c bytes).toNat else none, tick := s.xferTick x % 2 ^ 32, index := x.next % 2 ^ 32
      job := x.job, status := match s.runOf x.rid with
        | some r => outputStatus r.overran r.badIn
        | none => 2
      kind := 0 }
  let s4 := x.chans.foldl (fun s c => s.sendTok c tok) ((s3.incr 0x270001 (b2n !x.merged)).incr 0x270002 bytes.length)
  let y := { x with next := x.next + 1, retried := false }
  if y.next = y.chunks then s4.dropXfer x.xid else (s4.setXfer y).request256 y

/-- R282: a chunk's CRC does not match: it is read again once, then the transfer is abandoned. -/
def State.chunkMismatch (s : State) (x : Xfer) : State :=
  let s1 := (s.incr 0x270004).emit 0x7005
  if x.retried then s1.abandon x 6 else s1.setXfer { x with retried := true }

/-- R289: the parts of one chunk, each with its share of what outside memory gave. -/
def State.applyGroup (s : State) (data : List Byte) : List Xfer → State
  | [] => s
  | x :: r => (s.applyChunk x data).applyGroup (data.drop (ceilDiv (x.src.count * x.src.elem.bits) 8)) r

/-- A transfer may make its next chunk visible: no fault at it, no request of it unanswered, and no fence or merge holds it. -/
def State.chunkReady (s : State) (x : Xfer) : Bool :=
  !(s.tagged x.xid) && decide (x.next < x.chunks) && !x.merged && (x.fault.all fun f => decide (x.next < f.chunk)) &&
    !(x.fenced && s.xfer.active.any fun y => y.rid == x.rid && decide (y.xid < x.xid))

/-- The transfer a command names, when its next chunk may become visible. -/
def State.readyXfer (s : State) (xid : Nat) : Option Xfer :=
  (s.xfer.active.find? (·.xid == xid)).filter s.chunkReady

/-- R281, R289: the next chunk of a transfer, with those merged into it; a page that does not translate stops it with a
fault. -/
def State.chunkVisible (s : State) (x : Xfer) (crcOk : Bool) (data : List Byte) : State :=
  let group := s.mergeGroup x
  match group.findSome? fun y => (s.chunkFail y data).map fun f => (y, f) with
  | some (_, n, .fails kind level entry) => s.raiseFault x x.next n kind level entry
  | some _ => s
  | none =>
    if x.dst.chunkCrc ∧ ¬ crcOk then s.chunkMismatch x
    else match group.findSome? fun y => s.chunkBad y (s.chunkPairs y y.next data) with
      | some pa => (s.metBadWord pa).abandon x 6
      | none => s.applyGroup data group

/-- No memory stands where the next chunk of a transfer reads or writes. -/
def State.xferHole (s : State) (xid : Nat) (data : List Byte) : Option Nat :=
  (s.readyXfer xid).bind fun x => (s.mergeGroup x).findSome? fun y => s.chunkHole y data

/-- CHUNK_VISIBLE (R281). `data` is what memory outside the chip gave for the chunk, `crcOk` the check of R282. -/
def execChunkVisible (t xfer : Nat) (crcOk : Bool) (data : List Byte) (s : State) : Result :=
  match if s.coreOn then s.xferHole xfer data else none with
  | some a => .fault (.noSuchMemory a)
  | none =>
    whenCore t (fun s =>
      match s.readyXfer xfer with
      | none => s
      | some x => s.chunkVisible x crcOk data) s

/-! ### Faults by command -/

/-- The transfer and the address of a fault command. -/
def State.faultable (s : State) (xid chunk : Nat) : Option Xfer :=
  (s.xfer.active.find? (·.xid == xid)).filter fun x =>
    decide (x.next ≤ chunk) && decide (chunk < x.chunks) && !(s.xfer.active.any fun y => y.engine == x.engine && y.fault.isSome)

/-- The memory that a side of a transfer names for an access. -/
def Xfer.sideMem (x : Xfer) (access : Nat) : Nat × Nat := if access = 0 then (x.src.pd, x.src.mem) else (x.dst.pd, x.dst.mem)

/-- TRANSLATION_FAULT (R298): the walk for an address of a chunk fails. A walk read error that the memory does not show comes
at a level the command does not give: a free value. -/
def execTranslationFault (t xfer chunk va access : Nat) (walkError : Bool) (s : State) : Result :=
  match (if s.coreOn then s.faultable xfer chunk else none).map fun x => s.walk (x.sideMem access).1 va access (x.sideMem access).2 with
  | some (.hole a) => .fault (.noSuchMemory a)
  | _ =>
    whenCore t (fun s =>
      match s.faultable xfer chunk with
      | none => s
      | some x =>
        let n : Need := ⟨va, (x.sideMem access).1, access, (x.sideMem access).2⟩
        match s.walk n.pd va access n.mem with
        | .fails kind level entry => s.raiseFault x chunk n kind level entry
        | _ =>
          if walkError then (s.draw 7).2.raiseFault x chunk n 5 ((s.draw 7).1 % 5) ⟨4, 0, 0⟩ else s) s

/-- R301: resume: the walk is taken again; one that fails again raises a new fault. -/
def State.resume (s : State) (x : Xfer) (f : FaultRec) : State :=
  let access := if f.access = 3 then 0 else f.access
  match s.walk f.pd f.va access f.mem with
  | .fails kind level entry => s.raiseFault { x with fault := none } f.chunk ⟨f.va, f.pd, access, f.mem⟩ kind level entry
  | _ => s.resumed x

/-- R301: the owner's answer. -/
def State.respond (s : State) (v : Nat) : State :=
  match s.faulted (bits v 23 8) with
  | none => s
  | some (x, f) => if bits v 1 0 = 1 then s.resume x f else (s.abandon x 1).emit 0x7004

/-- FAULT_RESUME (R301): a write of 0x2704.06. -/
def execFaultResume (t : Nat) (p : Path) (v : BitVec 32) : State → Result :=
  whenCore t fun s => s.controlledNum p 0x270406 v.toNat fun s => s.respond v.toNat

/-- FAULT_ABANDON (R301): a write of 0x2704.06. -/
def execFaultAbandon (t : Nat) (p : Path) (v : BitVec 32) : State → Result :=
  whenCore t fun s => s.controlledNum p 0x270406 v.toNat fun s => s.respond v.toNat

/-- R302: a fault at its deadline. -/
def State.missDeadline (s : State) (x : Xfer) : State := ((s.abandon x 1).incr 0x270404).emit 0x7003

/-- FAULT_DEADLINE (R302). -/
def execFaultDeadline (t : Nat) : State → Result :=
  whenCore t fun s =>
    (s.xfer.active.filter fun x => x.fault.any fun f => decide (f.deadline ≤ s.now)).foldl State.missDeadline s

/-- R308: the host is gone: the pending faults of host-owned domains are abandoned. -/
def State.hostFaults (s : State) : State := s.abandonAll (fun x => x.fault.any (·.host)) 7

/-- R478: the host moves the ring's consumer index; the records before it are released. -/
def State.consumeFaults (s : State) (v : Nat) : State :=
  s.onXfer fun x => { x with ringCons := v % 64, ringCount := x.ringCount - min x.ringCount ((v % 64 + 64 - x.ringCons) % 64) }

/-- FAULT_RING_CONSUMER_WRITE (R478): a write in BAR1. -/
def execFaultRingConsumerWrite (t : Nat) (v : BitVec 32) : State → Result :=
  whenCore t fun s => s.consumeFaults v.toNat

/-! ### Invalidation (R297) -/

/-- R297: the cached entries of the domain and range at 0x2703 are gone, and the invalidation runs. -/
def State.invalidate (s : State) : State :=
  (s.dropCached (s.obj 0x270301) (s.obj 0x270302) (s.obj 0x270303)).onXfer fun x => { x with invalidating := true }

/-- INVALIDATE (R297): a write of 0x2703.04. -/
def execInvalidate (t : Nat) (p : Path) (v : Nat) : State → Result :=
  whenCore t fun s => s.controlledNum p 0x270304 v fun s => if v = 1 then s.invalidate else s

/-- INVALIDATION_COMPLETED (R297): no chunk holds a translation from an invalidated entry. -/
def execInvalidationCompleted (t : Nat) : State → Result :=
  whenCore t fun s =>
    if s.xfer.invalidating then (s.onXfer fun x => { x with invalidating := false }).emit 0x7006 else s

/-! ### Transfers of a job -/

/-- The bytes of a transfer's values. -/
def payload (g : Grain) : Nat := ceilDiv (g.count * g.elem.bits) 8

/-- R289: two copies merge: small, together at most 4,096 B with those already merged, contiguous on both sides. -/
def merges (a b : Xfer) (total : Nat) (fence : Bool) : Bool :=
  let dense := fun (x : Xfer) => x.src.span == payload x.src && x.dst.span == payload x.dst
  a.kind == .copy && b.kind == .copy && !fence && decide (payload a.src < 4096) && decide (payload b.src < 4096) &&
    decide (total + payload b.src ≤ 4096) && a.src.mem == b.src.mem && a.dst.mem == b.dst.mem && a.src.pd == b.src.pd &&
    a.dst.pd == b.dst.pd && a.engine == b.engine && dense a && dense b && b.src.base == a.src.base + payload a.src &&
    b.dst.base == a.dst.base + payload a.dst

/-- A transfer of a job from its definition. -/
def xferOf (all : List Loaded) (xid rid job : Nat) (t : TransferDef) : Option Xfer :=
  match all[t.src]?, all[t.dst]? with
  | some a, some b =>
    let list := match t.list with
      | .none => XferList.none
      | .index d => match all[d]? with
        | some l => .index l.g
        | none => .none
      | .blocks a n => .blocks a n
    some { xid := xid, engine := t.engine % 16, rid := rid, job := job, kind := t.kind, src := a.g, dst := b.g, list := list
           chans := t.chans, fenced := t.fence }
  | _, _ => none

/-- A job's transfers start, in list order; merges are counted. -/
def State.startXfers (s : State) (all : List Loaded) (rid job : Nat) : Option (Xfer × Nat) → List TransferDef → State
  | _, [] => s
  | prev, t :: ts =>
    match xferOf all s.xfer.xid rid job t with
    | none => s.startXfers all rid job none ts
    | some x =>
      let m := prev.any fun p => merges p.1 x p.2 t.fence
      let y := { x with merged := m }
      let total := if m then (prev.map (·.2)).getD 0 + payload x.src else payload x.src
      let s1 := (s.onXfer fun z => { z with xid := z.xid + 1
                                            active := if y.chunks = 0 then z.active else z.active ++ [y] }).incr 0x270003 (b2n m)
      (if y.chunks = 0 then s1 else s1.request256 y).startXfers all rid job (some (x, total)) ts

/-- The transfers of a running job are all over. -/
def State.xfersDone (s : State) (rid : Nat) : Bool := !(s.xfer.active.any (·.rid == rid))

end Sys2Proof.Machine
end

