-- ==== Sys2Proof/Machine/Ledger.lean ====
section
/-! DEFINITION. The ledger: ceiling, lane costs in time, alternatives (R8, R12, R13, R494, R623) and the checks of an image at its
load (R14, R331). Times of costs are in sixths of a nanosecond, in which every clock's cycle is whole. -/
namespace Sys2Proof.Machine

/-- R8: the admission ceiling of a period. -/
def ceilingOf (period : Nat) : Nat := 92 * period / 100

/-- R12, R492: a cycle count of a lane in sixths of a nanosecond: FCLK at 1.2 GHz or 600 MHz, CCLK at 1 GHz, nanoseconds on
lane 12. -/
def laneTime (reduced : Bool) (lane cycles : Nat) : Nat :=
  if lane ≤ 10 then cycles * (if reduced then 10 else 5) else cycles * 6

/-- The lanes (Table: Ledger lanes). -/
def lanes : List Nat := List.range 13

/-- The time a job costs on a lane. -/
def jobTime (reduced : Bool) (e : JobEntry) (lane : Nat) : Nat := laneTime reduced lane (nth e.costs lane)

/-- R17: a job's largest single-lane cost, in whole nanoseconds. -/
def largestCost (reduced : Bool) (e : JobEntry) : Nat := ceilDiv ((lanes.map (jobTime reduced e)).foldl max 0) 6

/-- The job uses a lane. -/
def usesLane (e : JobEntry) (lane : Nat) : Bool := nth e.costs lane != 0

/-- R11: a pinned job runs in a tick. -/
def pinnedAt (e : JobEntry) (tick : Nat) : Bool := e.pinned && e.period != 0 && tick % e.period == e.phase

/-- R13: an alternative covers a period in a mode. -/
def covers (a : Alternative) (period : Nat) (reduced : Bool) : Bool :=
  decide (a.pmin ≤ period) && decide (period ≤ a.pmax) && a.reduced == reduced

/-- R61, R494: the lowest-numbered alternative that covers. -/
def findAlternative (im : Image) (period : Nat) (reduced : Bool) : Option Nat :=
  (im.alts.take 4).findIdx? fun a => covers a period reduced

/-- R53, R623: a period from 60 Hz to 480 Hz. -/
def rateInRange (period : Nat) : Bool := decide (2083333 ≤ period) && decide (period ≤ 16666666)

/-- R494: Reduced is in force or a fallback keeps the Run alternative. -/
def State.reduced (s : State) : Bool := s.power.mode == .reduced

/-- R61, R623: an alternative of the present mode covers a period; without an image every rate from 60 to 480 Hz counts. In
Reduced without an alternative of its own the Run alternative stays (R494). -/
def State.covered (s : State) (period : Nat) : Bool :=
  match s.head.image with
  | none => rateInRange period
  | some im => (findAlternative im period s.reduced).isSome

/-- R61, R494: the alternative for a period in a mode. -/
def State.pickAlternative (s : State) (period : Nat) (reduced : Bool) : State :=
  match s.head.image with
  | none => s.onTick fun x => { x with alt := 0 }
  | some im =>
    match findAlternative im period reduced with
    | some n => s.onTick fun x => { x with alt := n }
    | none => s

/-- The least common multiple of the periods of pinned jobs. -/
def hyperperiod (js : List JobEntry) : Nat := (js.filter (·.pinned)).foldl (fun a e => Nat.lcm a (max e.period 1)) 1

/-- R14: in no tick do the pinned jobs of an alternative exceed the ceiling on a lane. -/
def pinnedFit (a : Alternative) : Bool :=
  let cap := 6 * ceilingOf a.p
  (List.range (hyperperiod a.jobs)).all fun t =>
    lanes.all fun l => decide ((((a.jobs.filter fun e => pinnedAt e t).map fun e => jobTime a.reduced e l).sum) ≤ cap)

/-- R14: an alternative's ledger fits its ceiling; costs and bounds are those of its P (notes/assumptions/33.md). -/
def alternativeOk (a : Alternative) : Bool :=
  pinnedFit a && a.jobs.all fun e => decide (e.finish ≤ ceilingOf a.p)

/-- The model slot that a job names. -/
def jobSlot (k : JobKind) : Option Nat :=
  match k with
  | .mac n => some n
  | _ => none

/-- R334: the jobs of an image name slots it fills. -/
def slotsNamed (im : Image) : Bool :=
  im.alts.all fun a => a.jobs.all fun e => (jobSlot e.kind).all fun n => im.slots.any (·.slot == n)

/-- R331: the image's signature verifies under an image-signing key in force and its sections match. -/
def State.imageSigned (s : State) (im : Image) : Bool :=
  im.sectionsOk && im.signer != 0 && s.boot.keysInForce.any fun e => decide (e.1 ≤ 3) && e.2 == im.signer

/-- R14, R331, R574: the image is accepted. Before the first accepted edge no period is in force, and none is asked. -/
def State.imageOk (s : State) (im : Image) : Bool :=
  s.imageSigned im && im.alts.all alternativeOk && slotsNamed im && !(im.needsDram && s.boot.dramMiB == 0) &&
    (s.tick.period == 0 || (im.alts.take 4).any fun a => covers a s.tick.period s.reduced)

end Sys2Proof.Machine
end

