-- ==== Sys2Proof/Machine/Prep.lean ====
section
/-! DEFINITION. Pre-processing: the exact definitions of the stages (R194–R205), augmentation and its generator G (R207–R212,
R239–R241), the rough-out bound (R213, R214, R220), and the ends of pass and tokeniser jobs. -/
namespace Sys2Proof.Machine

/-! ### The stages (R194–R204) -/

/-- W16: a b-bit code left-justified in 16 bits. -/
def toW16 (b x : Nat) : Nat := x * 2 ^ (16 - b)

/-- R215: a pass intermediate stores W16 − 32,768. -/
def toIntermediate (w : Nat) : Int := (w : Int) - 32768

/-- R215: and reads it back. -/
def ofIntermediate (i : Int) : Nat := (i + 32768).toNat

/-- R198: the sample and fraction of a bilinear or bicubic position, xs in 1/65,536 pixel. -/
def splitPosition (xs : Int) : Int × Nat :=
  let p := xs - 32768
  (p / 65536, ((p % 65536) / 256).toNat)

/-- R198: the bilinear weights on samples i and i + 1. -/
def bilinearWeights (f : Nat) : List Int := [256 - f, f]

/-- R198: a Keys cubic weight with a = −0.5 at distance n/256 (0 ≤ n ≤ 512), in Q1.14 rounded to nearest. -/
def keysWeight (n : Int) : Int :=
  let num := if n ≤ 256 then 3 * n ^ 3 - 1280 * n ^ 2 + 33554432
    else -(n ^ 3) + 1280 * n ^ 2 - 524288 * n + 67108864
  roundAway (num * 16384) 33554432

/-- The list with its first greatest entry increased. -/
def adjustLargest (d : Int) (ws : List Int) : List Int :=
  match ws.findIdx? fun w => ws.all fun v => decide (v ≤ w) with
  | some i => ws.set i (ws.getD i 0 + d)
  | none => ws

/-- R198: the four bicubic weights on samples i − 1 to i + 2; they sum to 16,384. -/
def bicubicWeights (f : Nat) : List Int :=
  let ws := [keysWeight (f + 256), keysWeight f, keysWeight (256 - f), keysWeight (512 - f)]
  adjustLargest (16384 - ws.sum) ws

/-- R198: the weighted sum over both axes; b is 16 for bilinear and 28 for bicubic. -/
def sampleSum (b : Nat) (wx wy : List Int) (samples : List (List Int)) : Int :=
  let rows := List.zipWith (fun (w : Int) (row : List Int) => w * (List.zipWith (· * ·) wx row).sum) wy samples
  clamp 0 65535 ((rows.sum + 2 ^ (b - 1)) / 2 ^ b)

/-- R199: the index a border mode reads for position i of a size w: none takes the fill value. -/
def borderIndex (mode w : Nat) (i : Int) : Option Nat :=
  if 0 ≤ i ∧ i < w then some i.toNat
  else if mode = 1 then some (clamp 0 (w - 1) i).toNat
  else if mode = 2 then
    let j := if i < 0 then -i else 2 * ((w : Int) - 1) - i
    some (clamp 0 (w - 1) j).toNat
  else none

/-- R200: pre-decimation averages 2 × 2 input pixels, rounding a half up. -/
def decimate (a b c d : Nat) : Nat := (a + b + c + d + 2) / 4

/-- R201: a missing colour sample is the mean of its nearest same-colour neighbours. -/
def demosaicMean (ns : List Nat) : Nat := (ns.sum + ns.length / 2) / ns.length

/-- R201: the colour of a Bayer pixel under a CFA pattern: 0 red, 1 green, 2 blue. -/
def cfaColour (pattern x y : Nat) : Nat :=
  let dx := if pattern = 1 ∨ pattern = 3 then 1 else 0
  let dy := if pattern = 2 ∨ pattern = 3 then 1 else 0
  (x + dx) % 2 + (y + dy) % 2

/-- R203: one row of the colour matrix: coefficients in Q4.12, offset in W16 LSB. -/
def matrixRow (m : List Int) (o : Int) (x : List Int) : Int :=
  clamp 0 65535 (((List.zipWith (· * ·) m x).sum + 2048) / 4096 + o)

/-- R204: the normaliser: y = (x − μ) × s in binary32. -/
def normalise (x mean : Nat) (scale : Nat) : Nat := fmul (fofInt ((x : Int) - mean)) scale

/-- R204: the output conversion of a binary32 value to FP16, BF16 or INT8, and whether it saturated. -/
def outputConvert (el : Elem) (y : Nat) : Nat × Bool := convert el y

/-- R222: a source coordinate scaled by actual over declared size. -/
def scaleSource (x actual declared : Nat) : Nat × Nat := (x * actual, declared)

/-! ### The generator (R239–R241) -/

/-- R239: G: key, sample index, operation and draw to a word. -/
def genWord (key : BitVec 64) (n : BitVec 48) (o j : BitVec 8) : BitVec 32 :=
  let k0 := key.extractLsb' 0 32
  let k1 := key.extractLsb' 32 32
  let x0 : BitVec 32 := n.extractLsb' 0 32
  let x1 : BitVec 32 := ((n.extractLsb' 32 16).zeroExtend 32 <<< 16) ||| (o.zeroExtend 32 <<< 8) ||| j.zeroExtend 32
  let round := fun (x : BitVec 32 × BitVec 32) (k : BitVec 32) (r : Nat) =>
    let a := x.1 + x.2 + k + 0x9E3779B9#32
    (a, x.2.rotateLeft r ^^^ a)
  let x := round (round (round (round (x0, x1) k0 7) k1 13) k0 19) k1 25
  x.1 + x.2

/-- R240: both test vectors come out right. -/
def generatorTest : Bool :=
  genWord 0 0 0 0 == 0xB8CD4E1C#32 && genWord 0x0123456789ABCDEF#64 0x000100000005#48 4 0 == 0x80662D62#32

/-- R207: the draws of an operation. -/
def opDraws (o : Nat) : Nat := if o = 6 ∨ o = 0x0A then 2 else if o = 0x0B then 3 else 1

/-- R207: the draws of the operations enabled in a mask. -/
def maskDraws (mask : Nat) : Nat :=
  (((List.range 12).filter fun o => 1 ≤ o && mask.testBit o).map opDraws).sum

/-- R208: a ranged parameter: lo + (hi − lo) × u in binary32, u = (w >> 8) × 2^−24. -/
def rangedParameter (lo hi : Nat) (w : BitVec 32) : Nat :=
  fadd lo (fmul (fadd hi (fneg lo)) (packIeee fp32 false ⟨(w.toNat / 256 : Nat), -24⟩))

/-- R207: a flip draw: p as round(p × 65,536). -/
def flips (p : Nat) (w : BitVec 32) : Bool := decide (bits w.toNat 31 16 < p)

/-- R207: the quarter turns of a draw. -/
def quarterTurns (w : BitVec 32) : Nat := bits w.toNat 31 30

/-- R241: the device's generator failed its self-test. -/
def State.generatorBad (s : State) : Bool := s.boot.generatorBad

/-! ### Passes -/

/-- The key of an object of a pass. -/
def passKey (p u : Nat) : Nat := 0x262000 + 256 * p + u

/-- What the image says of a pass. -/
def State.passImage (s : State) (p : Nat) : Option PassImage :=
  match s.head.image with
  | none => none
  | some im => (im.passes.find? fun x => x.1 == p).map (·.2)

/-- R221: the objects of a pass that take effect for jobs admitted after the write. -/
def passAtAdmission (p : Nat) : List Nat := ([0x04, 0x05] ++ (List.range 24).map (· + 7)).map (passKey p)

/-- R221: a job of the pass is admitted under the requested values. -/
def State.passAdopt (s : State) (p : Nat) : State :=
  (passAtAdmission p).foldl (fun s k => s.setActual (tset s.actual k (s.obj k))) s

/-- A pass object's value in force. -/
def State.passValue (s : State) (p u : Nat) : Nat := tget s.actual (passKey p u) (s.obj (passKey p u))

/-- R203, R214: the largest row sum of the matrix's magnitudes, × 4,096. -/
def State.matrixGain (s : State) (p : Nat) : Nat :=
  let row := fun (i : Nat) => ((List.range 3).map fun j => (signed 16 (s.passValue p (0x0C + 3 * i + j))).natAbs).sum
  max (row 0) (max (row 1) (row 2))

/-- R210: the sample index of the pass's next unit. -/
def State.sampleIndex (s : State) (p : Nat) : Nat := (s.passValue p 0x05 + s.obj (passKey p 0x06)) % 2 ^ 48

/-- R207, R208, R210: a unit is taken by a pass: its sample index, and the words its draws use with source 1. -/
def State.passAdmit (s : State) (p : Nat) (r : Run) : State × Run :=
  let s1 := s.passAdopt p
  let n := s1.sampleIndex p
  let s2 := (s1.setObj (passKey p 0x21) n).incr (passKey p 0x06)
  let s3 := if s2.cfg (passKey p 0x03) = 1 ∧ s2.generatorBad = false then
    s2.incr 0x260403 (maskDraws (s2.passValue p 0x07)) else s2
  let s4 := if n = 0 ∧ s1.obj (passKey p 0x06) ≠ 0 then s3.emit 0x6007 else s3
  (s4, { r with gain := s4.matrixGain p, aug := s4.cfg (passKey p 0x03), meta_ := r.meta_.map fun m => { m with sindex := if s4.cfg (passKey p 0x03) = 1 then n else 0 } })

/-! ### The rough-out bound (R213, R214, R220) -/

/-- R213: the row of a junction temperature in 0.1 °C. -/
def roughRow (junction : Int) : Nat := if junction ≤ 250 then 0 else if junction ≤ 850 then 1 else if junction ≤ 1100 then 2 else 3

/-- R213: the bound e of a band, row × 2 + column. -/
def roughBound (band : Nat) : Nat := nth [2, 3, 3, 4, 4, 6, 6, 8] band

/-- R213: the band of a junction temperature and of VDD_CORE in 0.1 mV. -/
def roughBand (junction : Int) (core : Nat) : Nat := 2 * roughRow junction + b2n (decide (core < 735))

/-- R220: the band of this instant. -/
def State.bandNow (s : State) : Nat := roughBand s.power.hottest (s.power.supplies.getD 0 0)

/-- R220: an accepted edge samples junction temperature and VDD_CORE; a change of band raises 0x6004. -/
def State.edgeBand (s : State) : State :=
  let b := s.bandNow
  let s' := (((s.setObj 0x260101 b).setObj 0x260102 (roughBound b)).setObj 0x260103 (pattern 16 s.power.hottest)).setObj
    0x260104 (s.power.supplies.getD 0 0)
  if b = s.obj 0x260101 then s' else s'.emit 0x6004

/-- R214: a bound m / 2^k after a gain a / 2^j and an error e. -/
def boundStep (b : Nat × Nat) (a j e : Nat) : Nat × Nat := (b.1 * a + e * 2 ^ (b.2 + j), b.2 + j)

/-- R214: the bound after sampling; nearest sampling has no error of its own (notes/assumptions/28.md). -/
def sampleBound (k : Sampling) (b : Nat × Nat) (e : Nat) : Nat × Nat :=
  match k with
  | .bilinear => boundStep b 1 0 e
  | .bicubic => boundStep b 25 4 e
  | _ => b

/-- R214: the bound after a pass. -/
def passBound (im : PassImage) (b : Nat × Nat) (gain e : Nat) : Nat × Nat :=
  let x := sampleBound im.sampling b e
  if im.colour then boundStep x gain 12 e else x

/-- R216: the pass has no rough-out stage. -/
def exactPass (im : PassImage) : Bool := im.sampling != .bilinear && im.sampling != .bicubic && !im.colour

/-- The job works on a further band of a unit that an earlier job of the same pass took. -/
def State.furtherBand (s : State) (p : Nat) (e : JobEntry) : Bool :=
  e.producers.any fun j => (s.jobEntry j).any fun x => x.kind == .pass p

/-- R214, R216: the record of a pass's output; the band taken first has set it for a further one. -/
def State.passMeta (s : State) (p : Nat) (im : PassImage) (r : Run) (m : UnitMeta) : UnitMeta :=
  if s.furtherBand p r.entry then m else
  let e := if r.onHost then 0 else max r.band (roughBound (s.obj 0x260101))
  let b := passBound im m.carried r.gain e
  { m with carried := b, ebound := ceilDiv b.1 (2 ^ b.2), exact := r.onHost || exactPass im }

/-- R197, R204: what a pass counts over its pixels. -/
def State.passCounts (s : State) (p : Nat) (x : PassReport) : State :=
  let s1 := ((s.incr 0x260002 x.pixels).incr 0x260003 x.fp16Sat).incr 0x260006 x.behind
  if 0 < x.fp16Sat then s1.emitLimited second 0x6003 0xFFFF 0 p else s1

/-- R211, R241: the augmentation of the unit could not be applied. -/
def State.augmentFails (s : State) (r : Run) (x : PassReport) : Bool :=
  (r.aug == 2 && x.paramBlockMissing) || (r.aug == 1 && s.generatorBad)

/-- R194–R222: the end of a picture job of a pass. -/
def State.passJob (s : State) (p : Nat) (r : Run) (x : PassReport) : State × JobEnd :=
  match s.passImage p with
  | none => (s, .invalid r.meta_)
  | some im =>
    if x.formatOk = false then ((s.incr 0x260005).emit 0x6002, .invalid r.meta_)
    else
      let m := r.meta_.map fun m => s.passMeta p im r m
      let s1 := (s.passCounts p x).incr (passKey p 0x20)
      let s2 := match m with
        | some m => s1.setObj (passKey p 0x22) (m.ebound % 2 ^ 16)
        | none => s1
      if s2.augmentFails r x then
        (if r.aug = 2 then (s2.incr 0x260004).emit 0x6001 else s2, .invalid m)
      else (s2, { meta_ := m })

/-! ### Tokeniser jobs (R205) -/

/-- The tokeniser of a stream. -/
def State.tokeniser (s : State) (n : Nat) : Option Tokeniser :=
  match s.head.image with
  | none => none
  | some im => (im.tokenisers.find? fun e => e.1 == n).map (·.2)

/-- Block mean removal is enabled in the image. -/
def State.removesMean (s : State) : Bool := s.head.image.any (·.removeMean)

/-- R205: one block gives one row of tokens. -/
def State.tokeniseBlock (s : State) (job n : Nat) (u : CapturedUnit) : State :=
  match s.tokeniser n with
  | none => s
  | some k =>
    let m := if s.removesMean then blockMean u.samples else 0
    let row := u.samples.map fun x => tokenOf k (x - m)
    let clamps := (row.filter (·.2)).length
    let s1 := ((s.incr 0x260201 row.length).incr 0x260202 clamps).send (.values job (row.map (·.1)))
    let s2 := s1.send (.metadata job { (u.metadata n) with mean := m, job := job }.pack)
    if 0 < clamps then s2.emitLimited second 0x6005 n 0 n else s2

/-- The units a running job holds in a stream. -/
def StreamSt.heldBy (x : StreamSt) (rid : Nat) : List CapturedUnit :=
  x.pool.filterMap fun b =>
    match b with
    | .held r u => if r = rid then some u else none
    | _ => none

/-- R205: the end of a tokeniser job: every block it holds gives its row, the streams in order. -/
def State.tokeniseJob (s : State) (r : Run) : State × JobEnd :=
  (s.streams.foldl (fun a e => (e.2.heldBy r.rid).foldl (fun a u => a.tokeniseBlock r.entry.id e.1 u) a) s,
    { meta_ := r.meta_ })

end Sys2Proof.Machine
end

