-- ==== Sys2Proof/Machine/Random.lean ====
section
/-! DEFINITION. The noise source, stochastic work and the token sampler (R227–R238, R244–R247), and the commands RESEED and
HEALTH_WINDOW. -/
namespace Sys2Proof.Machine

/-! ### Lanes and reseeds (R227–R229) -/

/-- The 32-bit components of a lane state; a component below its minimum is replaced (R227). -/
def seedLane (ws : List (BitVec 32)) : BitVec 128 :=
  let c := fun (i : Fin 4) =>
    let w := ws.getD i.val 0
    if w.toNat < Config.laneMinimum i then Config.laneConstant i else w
  (c 3 ++ c 2 ++ c 1 ++ c 0 : BitVec (32 + 32 + 32 + 32))

/-- R228: one lane takes 128 conditioned bits, in lane order. -/
def NoiseSt.reseedNext (x : NoiseSt) : NoiseSt :=
  if x.pool.length < 4 then x
  else { x with lanes := tset x.lanes x.next (seedLane (x.pool.take 4)), next := (x.next + 1) % 32, pool := x.pool.drop 4 }

/-- VDD_CORE is good. -/
def State.coreRails (s : State) : Bool := s.power.coreEn && s.power.railsOk

/-- R228: a reseed takes the next lane while the source is ready and conditioned bits stand in the pool. -/
def State.reseed (s : State) : State :=
  if s.noise.state = 1 ∧ 4 ≤ s.noise.pool.length then (s.onNoise NoiseSt.reseedNext).incr 0x260302 else s

/-- RESEED (R228). -/
def execReseed (t : Nat) : State → Result :=
  whenPowered t fun s => if s.coreRails then s.reseed else s

/-- The longest run of equal bits. -/
def longestRun : List Bool → Nat → Nat
  | [], _ => 0
  | [_], n => n + 1
  | a :: b :: r, n => if a = b then longestRun (b :: r) (n + 1) else max (n + 1) (longestRun (b :: r) 0)

/-- The bits of a window. -/
def windowBits (raw : BitVec 1024) : List Bool := (List.range 1024).map raw.getLsbD

/-- R229: a window passes the repetition and the proportion test. -/
def windowPasses (raw : BitVec 1024) : Bool :=
  let bs := windowBits raw
  let ones := bs.count true
  decide (longestRun bs 0 < 40) && decide (410 ≤ ones) && decide (ones ≤ 614)

/-- R228: 512 raw bits are conditioned into 256 bits with the compression function of SHA-256. -/
def condition (raw : BitVec 512) : List (BitVec 32) :=
  shaCompress shaInit ((List.range 16).map fun i => raw.extractLsb' (32 * i) 32)

/-- R229: a passed window gives 512 conditioned bits; the pool keeps 4,096 (notes/assumptions/34.md). -/
def State.passWindow (s : State) (raw : BitVec 1024) : State :=
  (s.onNoise fun x => { x with
    pool := (x.pool ++ condition (raw.extractLsb' 0 512) ++ condition (raw.extractLsb' 512 512)).take 128
    fails := 0, passes := x.passes + 1 }).incr 0x260304 512

/-- R229: filling: every lane is reseeded when 4,096 conditioned bits have been collected. -/
def State.fillLanes (s : State) : State :=
  if s.noise.state = 0 ∧ 128 ≤ s.noise.pool.length then
    ((List.range 32).foldl (fun s _ => (s.onNoise NoiseSt.reseedNext).incr 0x260302) s).onNoise fun x =>
      { x with state := 1, passes := 0, fails := 0 }
  else s

/-- R229: the transitions of the noise source after a window. -/
def State.noiseStep (s : State) : State :=
  if s.noise.state = 1 ∧ 8 ≤ s.noise.fails then (s.onNoise fun x => { x with state := 2, passes := 0 }).emit 0x6008
  else if s.noise.state = 2 ∧ 64 ≤ s.noise.passes then (s.onNoise fun x => { x with state := 1, fails := 0 }).emit 0x6009
  else s.fillLanes

/-- R229: one raw window. -/
def State.healthWindow (s : State) (raw : BitVec 1024) : State :=
  (if windowPasses raw then s.passWindow raw
   else (s.onNoise fun x => { x with fails := x.fails + 1, passes := 0 }).incr 0x260303).noiseStep

/-- HEALTH_WINDOW (R229). -/
def execHealthWindow (t : Nat) (raw : BitVec 1024) : State → Result :=
  whenPowered t fun s => if s.coreRails then s.healthWindow raw else s

/-- R229: VDD_CORE is removed. -/
def State.noiseLost (s : State) : State := s.onNoise fun _ => {}

/-- A lane word of a tile group; which of the group's lanes serves is open (R319). -/
def State.laneWord (s : State) (group : Nat) : BitVec 32 × State :=
  let d := s.draw 8
  let lane := 16 * group + d.1 % 16
  let r := Config.laneStep (tget d.2.noise.lanes lane 0)
  (r.1, d.2.onNoise fun x => { x with lanes := tset x.lanes lane r.2 })

/-! ### The sampler (R235–R238) -/

/-- R235: a score takes part. -/
def eligible (v : Nat) : Bool := !(isNan v) && v != 0xFF800000

/-- R235: element a goes before element b: a greater value, or an equal one at the lower index. -/
def before (a b : Nat × Nat) : Bool := flt b.2 a.2 || (!(flt a.2 b.2) && decide (a.1 < b.1))

/-- R235: the k largest; all when k is 0. -/
def topK (k : Nat) (xs : List (Nat × Nat)) : List (Nat × Nat) :=
  if k = 0 then xs else xs.filter fun x => decide ((xs.filter fun y => before y x).length < k)

/-- R235: the index of the greatest. -/
def bestOf (xs : List (Nat × Nat)) : Option Nat := (xs.find? fun x => xs.all fun y => !(before y x)).map (·.1)

/-- R235: each element gets its Gumbel value scaled by the temperature. -/
def State.perturb (s : State) (group tau : Nat) : List (Nat × Nat) → List (Nat × Nat) × State
  | [] => ([], s)
  | x :: r =>
    let w := s.laneWord group
    let g := toFp32 .fp16 (Config.gumbel (w.1.extractLsb' 0 10)).toNat
    let q := w.2.perturb group tau r
    ((x.1, fadd x.2 (fmul tau g)) :: q.1, q.2)

/-- R235: one token from its scores; none when no score remains. -/
def State.sampleToken (s : State) (group tau k : Nat) (t : SampleTask) : Option Nat × State :=
  let xs := topK k ((t.scores.zipIdx.map fun p => (p.2, p.1.toNat)).filter fun x => eligible x.2)
  if tau % 2 ^ 31 = 0 then (bestOf xs, s)
  else
    let q := s.perturb group tau xs
    (bestOf q.1, q.2)

/-- R235: the tokens of a job, in order. -/
def State.sampleAll (s : State) (group tau k : Nat) : List SampleTask → List (Option Nat) × State
  | [] => ([], s)
  | t :: r =>
    let a := s.sampleToken group tau k t
    let b := a.2.sampleAll group tau k r
    (a.1 :: b.1, b.2)

/-! ### Exact arithmetic of the tiles (R317, R318, R232, R233) -/

/-- R317: an integer pass sums its exact products. -/
def macInteger (a b : List Int) : Int := (List.zipWith (· * ·) a b).sum

/-- R317: partial sums of passes are added in the drain, saturating; and whether one saturated. -/
def drainAdd (acc x : Int) : Int × Bool := (sat32 (acc + x), sat32 (acc + x) != acc + x)

/-- R318: groups of exact sums with their exponents, added to an FP32 accumulator in ascending k. -/
def macScaled (groups : List (Int × Int)) : Nat := groups.foldl (fun acc g => fadd acc (dequantise g.1 g.2)) 0

/-- R318: a floating pass: exact products added in ascending k with round-to-nearest-even. -/
def macFloat (a b : List Nat) : Nat := (List.zipWith fmul a b).foldl fadd 0

/-! ### The end of a model job -/

/-- The sampler's objects of a slot. -/
def samplerKey (slot u : Nat) : Nat := 0x264000 + 256 * slot + u

/-- R234, R237: temperature and k under which a job of a slot is admitted. -/
def State.macAdmit (s : State) (slot : Nat) (r : Run) : Run :=
  { r with sampler := (s.obj (samplerKey slot 0x01), s.obj (samplerKey slot 0x02)) }

/-- The tile group of a job: 0 for MAC_A, 1 for MAC_B. -/
def macGroup (e : JobEntry) : Nat := if nth e.costs 10 ≠ 0 then 1 else 0

/-- R230: a job that drew lane words while the source is not ready is counted and its outputs are marked. -/
def State.degradedDraw (s : State) (drew : Bool) (m : Option UnitMeta) : State × Option UnitMeta :=
  if drew ∧ s.noise.state ≠ 1 then (s.incr 0x260305, m.map fun m => { m with ndeg := true }) else (s, m)

/-- R255, R258, R317: what a model job counts. -/
def State.macCounts (s : State) (x : MacReport) : State :=
  let s1 := ((s.incr 0x280004 x.passes).incr 0x280005 x.accSat).incr 0x27100E x.convSat
  (if 0 < x.accSat then s1.emitLimited second 0x8007 0xFFFF 0 0 else s1).badGroups x.badScales

/-- R317–R319, R230, R235, R236: the end of a model job. -/
def State.macJob (s : State) (slot : Nat) (r : Run) (x : MacReport) : State × JobEnd :=
  let p := (s.macCounts x).sampleAll (macGroup r.entry) r.sampler.1 r.sampler.2 x.samples
  let toks := p.1.filterMap id
  let s1 := if x.samples = [] then p.2
    else (p.2.incr (samplerKey slot 0x05) toks.length).send (.values r.entry.id (toks.map fun (n : Nat) => (n : Int)))
  let drew := x.drewNoise || (!x.samples.isEmpty && r.sampler.1 % 2 ^ 31 != 0)
  let d := s1.degradedDraw drew r.meta_
  if p.1.any Option.isNone then ((d.1.incr (samplerKey slot 0x06)).emit 0x600B, .invalid d.2)
  else (d.1, { meta_ := d.2 })

end Sys2Proof.Machine
end

