-- ==== Sys2Proof/Machine/Compute.lean ====
section
/-! DEFINITION. SRAM errors, the loading of pipeline images and model slots, and an image's coming into force (R329–R336,
R348, R488), with their commands. -/
namespace Sys2Proof.Machine

/-! ### SRAM errors (R330, R335) -/

/-- The slots of a table that lie in the slab of an address. -/
def markSlab (pa : Nat) (slots : Table Slot) : Table Slot :=
  slots.map fun e => (e.1, if e.2.state = 2 ∧ e.2.slabs.testBit (pa / 2 ^ 22) then { e.2 with failNext := true } else e.2)

/-- R335: resident slots in the slab of an uncorrectable word fail at the next edge. -/
def State.slabFails (s : State) (pa : Nat) : State := s.onComp fun c => { c with slots := markSlab pa c.slots }

/-- R330: the scrubber reads a word in which bits are wrong: one is corrected, two are not. -/
def State.scrubWord (s : State) (addr errors : Nat) : State :=
  if errors = 0 then s
  else if errors = 1 then (s.incr 0x280006).emitLimited second 0x8006 0xFFFF 0 0
  else ((s.onComp fun c => { c with bad := (addr / 8 * 8) :: c.bad.filter (· != addr / 8 * 8) }).metBadWord addr).slabFails addr

/-- SRAM_SCRUB (R330): the operand is the number of wrong bits of the word read. -/
def execSramScrub (t addr errors : Nat) : State → Result :=
  whenPowered t fun s => if s.coreRails ∧ addr < sramSize then s.scrubWord addr errors else s

/-- R335: what an accepted edge does to the slots: a slot with an uncorrectable word fails. -/
def State.edgeSlots (s : State) : State :=
  s.onComp fun c => { c with slots := c.slots.map fun e =>
    (e.1, if e.2.failNext then { e.2 with state := 3, failNext := false } else e.2) }

/-! ### Loading (R331–R334) -/

/-- R333: a resident slot of the image in force with a digest. -/
def State.residentWith (s : State) (digest : Nat) : Option Slot :=
  (s.comp.slots.find? fun e => e.2.state == 2 && e.2.digest == digest).map (·.2)

/-- R333: a slot of a new image: kept where its weights are resident, else loading. -/
def State.slotStart (s : State) (x : SlotImage) : Slot :=
  match s.residentWith x.digest with
  | some y => { y with failNext := false, reload := false }
  | none => { state := 1, slabs := x.slabs, bytes := x.bytes, want := x.digest }

/-- A table from a list of pairs. -/
def tableOf {α : Type} (l : List (Nat × α)) : Table α := l.foldl (fun m e => tset m e.1 e.2) []

/-- The slabs that slots use. -/
def slabsOf (slots : Table Slot) : Nat := slots.foldl (fun a e => a ||| e.2.slabs) 0

/-- R333: the slabs that the old image leaves free are too few: one that a loading slot is placed in is in use. -/
def State.slabsTooFew (s : State) (slots : Table Slot) : Bool :=
  slabsOf s.comp.slots &&& slabsOf (slots.filter fun e => e.2.state == 1) != 0

/-- R14, R331, R332: a load that has begun ends with its image refused. -/
def State.refuseImage (s : State) : State :=
  (((s.emit 0x8002).onHead fun h => { h with imgState := 2 }).incr 0x280104).emit 0x100A

/-- R332, R333: an accepted image is verified and its slots load. A newer load takes the place of one in progress. -/
def State.startLoad (s : State) (im : Image) (bank : Nat) : State :=
  let slots := tableOf (im.slots.map fun x => (x.slot, s.slotStart x))
  (s.onHead fun h => { h with
    loading := some { img := im, bank := bank, slots := slots, tooFew := s.slabsTooFew slots }, imgState := 1 }).emit 0x8002

/-- R14, R331, R332: an image is loaded; `none` is an empty or unreadable place. Whether it was accepted. -/
def State.loadImage (s : State) (im : Option Image) (bank : Nat) : State × Bool :=
  match im with
  | some im => if s.imageOk im then (s.startLoad im bank, true) else (s.refuseImage, false)
  | none => (s.refuseImage, false)

/-- IMAGE_LOAD_FROM_NOR (R332): a write of 0x2801.01. -/
def execImageLoadFromNor (t : Nat) (p : Path) (v : Nat) : State → Result :=
  whenCore t fun s => s.controlledNum p 0x280101 v fun s =>
    (s.loadImage (if v = 1 then s.boot.imageA else s.boot.imageB) v).1

/-- The key of an object of a slot. -/
def slotKey (n u : Nat) : Nat := 0x282000 + 256 * n + u

/-- R330: the words of a slot's slabs are written whole, so that none of them has an error any more. -/
def State.healSlabs (s : State) (x : Slot) : State :=
  s.onComp fun c => { c with bad := c.bad.filter fun w => !(x.slabs.testBit (w / 2 ^ 22)) }

/-- R334: a slot's weights have been written and hashed. -/
def State.hashed (s : State) (n digest : Nat) (x : Slot) : Slot × State :=
  let s1 := (s.healSlabs x).incr (slotKey n 0x05)
  if digest = x.want then
    ({ x with state := 2, digest := digest, reload := false }, if x.reload then s1.emit 0x8004 n else s1)
  else ({ x with state := 3, digest := digest, reload := false }, (s1.incr (slotKey n 0x06)).emit 0x8003 n)

/-- A slot is being written into its slabs. -/
def Slot.loads (x : Slot) : Bool := x.state == 1 || x.reload

/-- R334, R335: the hash of a loading slot ends: one of the image in force, or one of the image that loads, which waits while
slabs are too few. -/
def State.slotHash (s : State) (n digest : Nat) : State :=
  let x := tget s.comp.slots n {}
  if x.loads then
    let r := s.hashed n digest x
    r.2.onComp fun c => { c with slots := tset c.slots n r.1 }
  else match s.head.loading with
    | none => s
    | some l =>
      let y := tget l.slots n {}
      if y.loads ∧ (l.tooFew = false ∨ l.stopped) then
        let r := s.hashed n digest y
        r.2.onHead fun h => { h with loading := some { l with slots := tset l.slots n r.1 } }
      else s

/-- SLOT_HASH_COMPLETE (R334, R335). -/
def execSlotHashComplete (t : Nat) (n : Fin 16) (digest : Nat) : State → Result :=
  whenCore t fun s => s.slotHash n digest

/-- R335: the reload of a failed slot. -/
def State.reloadSlot (s : State) (n : Nat) : State :=
  if (tget s.comp.slots n {}).state = 3 then
    s.onComp fun c => { c with slots := tset c.slots n { tget c.slots n {} with reload := true } }
  else match s.head.loading with
    | some l => s.onHead fun h => { h with loading := some { l with slots := tset l.slots n { tget l.slots n {} with reload := true } } }
    | none => s

/-- SLOT_RELOAD (R335): a write of 0x2820+s.08. -/
def execSlotReload (t : Nat) (p : Path) (n : Fin 16) (v : Nat) : State → Result :=
  whenCore t fun s => s.controlledNum p (slotKey n 0x08) v fun s => s.reloadSlot n

/-! ### An image comes into force (R332, R333, R488) -/

/-- R332: the slots are resident, no carry-over stands and no job runs. -/
def State.imageReady (s : State) (l : Loading) : Bool :=
  l.slots.all (fun e => e.2.state == 2) && s.head.running.isEmpty && (!l.tooFew || l.stopped || s.head.image.isNone)

/-- R323: the channels of an image, every credit free. -/
def imageChannels (im : Image) : Table Channel :=
  tableOf (im.channels.map fun c => (c.chan, { depth := c.depth, free := c.depth, producer := c.producer, consumer := c.consumer }))

/-- R488: an object whose default is "image" takes the image's value; the first image after a start leaves the stored values of
its own objects in force. -/
def State.takeImageObjects (s : State) (im : Image) : State :=
  let keep := s.dict.restored && s.obj 0x200403 == im.id % 2 ^ 32
  let s1 := im.objects.foldl (fun s e =>
    if (objectRow e.1).any (·.image) && !(keep && (tfind s.od e.1).isSome) then (s.setObj e.1 e.2).adopt e.1 e.2 else s) s
  s1.onDict fun d => { d with restored := false }

/-- R342: the multi-chip objects of an image. -/
def State.takeChips (s : State) (im : Image) : State := (s.setObj 0x280601 im.multiChip).setObj 0x280602 im.chips

/-- R332: from this edge channels, tokens, slots, contexts and ledger are those of the new image. -/
def State.imageInForce (s : State) (l : Loading) : State :=
  let s1 := s.onHead fun h => { h with image := some l.img, loading := none, imgState := 0, bank := l.bank, metas := [], status := [] }
  let s2 := s1.onComp fun c => { c with channels := imageChannels l.img, slots := l.slots }
  let s3 := s2.onCodec fun _ => {}
  (((s3.takeImageObjects l.img).takeChips l.img).pickAlternative s.tick.period s.reduced).emit 0x8001

end Sys2Proof.Machine
end

