-- ==== Sys2Proof/Machine/Headstock.lean ====
section
/-! DEFINITION. The Headstock: the ends of jobs, overruns and aborts, admission at an accepted edge, and host-assist stages
(R8–R39, R96–R99). -/
namespace Sys2Proof.Machine

/-! ### The end of a job (R24, R325, R327, R341) -/

/-- The output status of the last run of a job. -/
def State.jobStatus (s : State) (j : Nat) : Nat := tget s.head.status j 0

/-- When the engine of a job began it: as reported, else at its release (R10). -/
def Run.beganAt (r : Run) : Nat := r.began.getD (r.at_ + 2000)

/-- R30: the busy and stall time of a job in this tick, on each lane it uses (notes/assumptions/35.md). -/
def State.holdLanes (s : State) (r : Run) : State :=
  let held := s.now - max s.head.tickFrom r.beganAt
  s.onHead fun h => { h with busy := (lanes.filter (usesLane r.entry)).foldl (fun m l => tset m l (held + tget m l 0)) h.busy }

/-- R338–R341: the record of a job's command-queue entry. -/
def State.entryRecord (s : State) (r : Run) (qstatus event out : Nat) : State :=
  match r.demand.bind (·.queue) with
  | none => s
  | some (q, tag, seq, complete) =>
    if qstatus ≠ 0 then s.refuseEntry q event r.entry.id seq tag qstatus
    else if complete then s.postCompletion q event r.entry.id seq tag 0 out
    else s

/-- The channels on which a job sends by itself, not by its transfers. -/
def ownChannels (e : JobEntry) : List Nat := e.channels.filter fun c => !(e.transfers.any fun t => t.chans.contains c)

/-- R24, R325, R327: a job's tokens at its end: data or poison, then end of job. -/
def State.endTokens (s : State) (r : Run) (status reason : Nat) (data : Bool) : State :=
  let own := ownChannels r.entry
  let s1 := if reason = 0 then s.announce own r.entry.id r.tick status data
    else s.poisonAll own r.entry.id r.tick reason
  s1.announce (r.entry.channels.filter fun c => !(own.contains c)) r.entry.id r.tick status false

/-- What a job consumed was late or invalid (R24). -/
def State.consumed (s : State) (r : Run) (toks : List Tok) : Bool × Bool :=
  (toks.any (·.status == 1) || r.entry.producers.any fun p => s.jobStatus p == 1,
   toks.any (fun k => k.kind == 1 || k.status == 2) || r.entry.producers.any fun p => s.jobStatus p == 2)

/-- A running job ends: its tokens, its output with its status and metadata record, its buffers, its queue entry's record. -/
def State.endRun (s : State) (r : Run) (e : JobEnd) (reason qstatus event : Nat) : State :=
  let c := s.consume r.entry.id
  let k := c.1.consumed r c.2
  let st := outputStatus (r.overran || k.1) (e.bad || r.badIn || k.2)
  let m := e.meta_.map fun m => { m with job := r.entry.id, tick := r.tick % 2 ^ 32, status := max st m.status }
  let s1 := c.1.onHead fun h => { h with
    running := h.running.filter fun x => x.rid != r.rid
    status := tset h.status r.entry.id st
    metas := match m with
      | some m => tset h.metas r.entry.id m
      | none => h.metas }
  let s2 := match m with
    | some m => s1.send (.metadata r.entry.id m.pack)
    | none => s1
  let s3 := (s2.endTokens r st reason (decide (0 < e.data))).send (.output r.entry.id st r.tick r.takeover)
  ((if r.entry.window then s3.rewaitUnits r.rid else s3.releaseUnits r.rid).holdLanes r).entryRecord r qstatus event st

/-! ### Overruns and aborts (R20–R27, R34, R36) -/

/-- R26: what the engines have counted for a job by now: cycles per cause 1 to 6, free values (notes/assumptions/36.md). -/
def State.drawStalls (s : State) : Nat → List Nat × State
  | 0 => ([], s)
  | n + 1 =>
    let d := s.draw 9
    let r := d.2.drawStalls n
    (d.1 % 2 ^ 32 :: r.1, r.2)

/-- R25: cycles not counted before go to the chip-wide totals. -/
def State.addStalls (s : State) (old new : List Nat) : State :=
  (List.range 6).foldl (fun s i => s.incr (0x220401 + i) (nth new i - nth old i)) s

/-- R26: the cause with the most cycles, the lower of equal ones; 0 without any. -/
def dominantCause (stalls : List Nat) : Nat :=
  let m := stalls.foldl max 0
  if m = 0 then 0 else ((stalls.findIdx? (· == m)).map (· + 1)).getD 0

/-- R27: the busy time of a job at an instant, elapsed since its engine began it less stalled, in sixths of a nanosecond,
exceeds its largest lane cost (notes/assumptions/65.md). -/
def State.breaches (s : State) (r : Run) (stalls : List Nat) (at_ : Nat) : Bool :=
  let busy := 6 * (at_ - r.beganAt) - laneTime s.reduced 0 stalls.sum
  !r.onHost && !r.breached && decide ((lanes.map (jobTime s.reduced r.entry)).foldl max 0 < busy)

/-- R27: a ledger breach. -/
def State.breach (s : State) : State := ((s.incr 0x220303).setObj 0x220306 0).emit 0x1006

/-- R26: the cycles per cause of an event record: cause c at bytes 4c to 4c + 3. -/
def stallArg (stalls : List Nat) : Nat := packFields ((List.range 6).map fun i => (nth stalls i % 2 ^ 32, 32 * (i + 1)))

/-- R20, R26, R27: a job overruns at an edge: the evidence, and its outputs will be late. When its engine began it is a free
value unless its completion has said it. -/
def State.overrun (s : State) (r : Run) (edge : Nat) : State × Run :=
  let d := s.drawStalls 6
  let w := d.2.draw 13
  let r1 := { r with overran := true, began := some (r.began.getD (r.at_ + 2000 + w.1)) }
  let b := w.2.breaches r1 d.1 edge
  let s1 := (((((w.2.addStalls r.stalls d.1).incr 0x220301).setObj 0x220305 r.entry.id).setObj 0x220304 r.tick).setObj 0x220306
    (dominantCause d.1)).emit 0x1001 0xFFFF (stallArg d.1)
  (if b then s1.breach else s1, { r1 with stalls := d.1, breached := r.breached || b })

/-- A running job replaced. -/
def State.setRun (s : State) (r : Run) : State :=
  s.onHead fun h => { h with running := h.running.map fun x => if x.rid = r.rid then r else x }

/-- R32: a host result that has not arrived counts toward its stage's late results. -/
def State.hostResult (s : State) (r : Run) (late : Bool) : State :=
  match r.entry.hostAlt with
  | none => s
  | some n =>
    if r.onHost then s.onHead fun h =>
      let x := tget h.stages n {}
      { h with stages := tset h.stages n { x with late := if late then x.late + 1 else 0 } }
    else s

/-- R20, R34: the running jobs that have not overrun before are judged at an edge, accepted or expected. -/
def State.judgeRunning (s : State) (edge : Nat) : State :=
  (s.head.running.filter (!·.overran)).foldl (fun s r =>
    let p := s.overrun r edge
    (p.1.setRun p.2).hostResult r true) s

/-- What an aborted job leaves in its engine's context (R161, R190). -/
def State.abortContext (s : State) (k : JobKind) : State :=
  match k with
  | .h264 c => s.h264Abort c
  | .encode e => s.encAbort e
  | _ => s

/-- R22, R311, R327: a job is aborted: event 0x1002, poison with reason 3, outputs invalid. -/
def State.abortRun (s : State) (r : Run) : State :=
  let s1 := ((s.incr 0x220302).emit 0x1002).abortContext r.entry.kind
  ((s1.abandonAll (fun x => x.rid == r.rid) 3).endRun r (.invalid r.meta_) 3 0 0x1002)

/-- R22: the jobs that overran before are aborted at an accepted edge. -/
def State.abortOverruns (s : State) : State := (s.head.running.filter (·.overran)).foldl State.abortRun s

/-- R36: the jobs on MAC_B are aborted. -/
def State.abortMacB (s : State) : State := (s.head.running.filter fun r => usesLane r.entry 10).foldl State.abortRun s

/-- R500, R515: every running job is aborted. -/
def State.abortRunning (s : State) : State := s.head.running.foldl State.abortRun s

/-- R20, R22: the judgement of an accepted edge. -/
def State.edgeJudge (s : State) : State := (s.abortOverruns.judgeRunning s.now).onHead fun h => { h with endedLate := [] }

/-! ### Drops and deferrals (R18, R39) -/

/-- A candidate of an admission (R15). -/
structure Candidate where
  entry  : JobEntry
  count  : Nat := 0
  pinned : Bool := false
  demand : Option Demand := none
deriving DecidableEq, Repr

/-- R18: a job is dropped: event 0x1004, poison with reason 2 on its channels, status invalid, completion status 6. -/
def State.dropJob (s : State) (c : Candidate) : State :=
  let s1 := ((s.incr 0x220203).emit 0x1004).poisonAll c.entry.channels c.entry.id s.tick.count 2
  let s2 := (s1.onHead fun h => { h with status := tset h.status c.entry.id 2 }).send
    (.output c.entry.id 2 s.tick.count s.red.takeover)
  match c.demand.bind (·.queue) with
  | some (q, tag, seq, _) => s2.refuseEntry q 0x1004 c.entry.id seq tag 6
  | none => s2

/-- R18: a candidate waits for the next admission. -/
def State.deferJob (s : State) (c : Candidate) : State :=
  (s.onHead fun h => { h with deferred := h.deferred ++ [⟨c.entry.id, c.count + 1, c.demand⟩] }).incr 0x220202

/-- A failed model slot drops its jobs (R334). -/
def State.slotFailed (s : State) (e : JobEntry) : Bool :=
  (jobSlot e.kind).any fun n => (tget s.comp.slots n {}).state == 3

/-- R18: a candidate that does not fit; a pinned one raises 0x100C as well. -/
def State.notAdmitted (s : State) (c : Candidate) : State :=
  let s1 := if c.pinned then (s.incr 0x220204).emit 0x100C else s
  if !(s.slotFailed c.entry) && !c.entry.drops && decide (c.count < c.entry.maxDefers) then s1.deferJob c else s1.dropJob c

/-! ### Host-assist stages (R28–R38) -/

/-- A stage. -/
def State.stage (s : State) (n : Nat) : Stage := tget s.head.stages n {}

/-- The state with a stage set. -/
def State.setStage (s : State) (n : Nat) (x : Stage) : State := s.onHead fun h => { h with stages := tset h.stages n x }

/-- R28: the host rings within its liveness time. -/
def State.hostAlive (s : State) : Bool :=
  s.boot.host == 2 && s.boot.rungAt.any fun i => decide (s.now ≤ i + s.cfg 0x220508 * msec)

/-- R28: a stage is host-eligible. -/
def State.hostEligible (s : State) (n : Nat) : Bool := (s.stage n).cost.isSome && s.hostAlive

/-- The jobs of a stage in the alternative in force. -/
def State.stageJobs (s : State) (n : Nat) : List JobEntry := s.jobs.filter fun e => e.hostAlt == some n

/-- The occupancy of a lane in the last tick, in 0.01 % of the ceiling (R30). -/
def State.occupied (s : State) (l : Nat) : Nat := tget s.head.occupancy l 0

/-- R30: the occupancies of the tick that ends, from what completed and what still runs. -/
def State.edgeOccupancy (s : State) : State :=
  let s1 := s.head.running.foldl State.holdLanes s
  s1.onHead fun h => { h with
    occupancy := if s.tick.ceiling = 0 then []
      else lanes.map fun l => (l, min 0xFFFF (tget h.busy l 0 * 10000 / s.tick.ceiling))
    busy := [], tickFrom := s.now }

/-- R30: a lane that the stage uses is occupied at the high threshold. -/
def State.stageAbove (s : State) (n : Nat) : Bool :=
  (s.stageJobs n).any fun e => lanes.any fun l => usesLane e l && decide (s.cfg 0x220501 ≤ s.occupied l)

/-- The device costs of a stage on a lane, in 0.01 % of the ceiling. -/
def State.stageShare (s : State) (n l : Nat) : Nat :=
  ceilDiv (((s.stageJobs n).map fun e => jobTime s.reduced e l).sum * 10000) (6 * max s.tick.ceiling 1)

/-- R31: with the stage's device costs added, every lane it would use stays at the low threshold. -/
def State.stageBelow (s : State) (n : Nat) : Bool :=
  lanes.all fun l => !((s.stageJobs n).any fun e => usesLane e l) ||
    decide (s.occupied l + s.stageShare n l ≤ s.cfg 0x220504)

/-- R31: the stage's device jobs fit in the tick beside its pinned jobs. -/
def State.stageFits (s : State) (n : Nat) : Bool :=
  let js := (s.jobs.filter fun e => pinnedAt e s.tick.count && e.hostAlt != some n) ++ s.stageJobs n
  lanes.all fun l => decide ((js.map fun e => jobTime s.reduced e l).sum ≤ 6 * s.tick.ceiling)

/-- R30, R31: the consecutive ticks of a stage. -/
def State.countStage (s : State) (n : Nat) : Stage :=
  let x := s.stage n
  { x with above := if s.stageAbove n then x.above + 1 else 0, below := if s.stageBelow n then x.below + 1 else 0 }

/-- The stage is barred from the host (R32). -/
def State.barred (s : State) (n : Nat) : Bool := decide (s.tick.count < (s.stage n).barUntil)

/-- R29–R31: the side a stage should be on. -/
def State.wantsHost (s : State) (n : Nat) : Bool :=
  let x := s.stage n
  if s.barred n then false
  else match s.cfg (0x220601 + n) with
    | 1 => false
    | 2 => true
    | _ =>
      if x.onHost then
        !(decide (s.cfg 0x220505 ≤ x.below) && decide ((x.lastMove.getD 0) + s.cfg 0x220506 ≤ s.tick.count) && s.stageFits n)
      else decide (s.cfg 0x220502 ≤ x.above) || decide (s.cfg 0x220503 ≤ x.deferrals)

/-- The H.264 contexts that a stage decodes. -/
def State.stageContexts (s : State) (n : Nat) : List Nat :=
  (s.stageJobs n).filterMap fun e => match e.kind with
    | .h264 c => some c
    | _ => none

/-- R33, R164: a stage changes sides; the contexts of the side it leaves discard what they hold. -/
def State.moveStage (s : State) (n : Nat) (host : Bool) : State :=
  let s1 := s.setStage n { s.stage n with onHost := host, moveTo := none, lastMove := some s.tick.count, above := 0, below := 0,
                                          deferrals := 0 }
  ((s1.stageContexts n).foldl (fun s c => s.setH264 c { sps := (s.h264 c).sps }) s1).emit (if host then 0x1007 else 0x1008)

/-- The job begins a frame: it takes units. -/
def startsFrame (e : JobEntry) : Bool := !e.entries.isEmpty

/-- R38: the host is gone: its jobs in flight are invalid, and the stage is back on the device. -/
def State.stageLost (s : State) (n : Nat) : State :=
  let s1 := (s.head.running.filter fun r => r.onHost && r.entry.hostAlt == some n).foldl
    (fun s r => s.endRun r (.invalid r.meta_) 7 0 0) s
  (s1.stageContexts n).foldl (fun s c => s.enterResync c) (s1.moveStage n false)

/-- R29–R33, R38: what an accepted edge decides for a stage. A stage without a job that begins a frame moves at once. -/
def State.edgeStage (s : State) (n : Nat) : State :=
  let s1 := s.setStage n (s.countStage n)
  let x := s1.stage n
  if x.onHost && !s1.hostEligible n then s1.stageLost n
  else
    let forced := x.onHost && decide (s1.cfg 0x220507 ≤ x.late)
    let s2 := if forced then
        (s1.setStage n { x with late := 0, barUntil := s1.tick.count + s1.cfg 0x220506 }).emit 0x1009
      else s1
    let host := s2.hostEligible n && s2.wantsHost n
    if host = x.onHost then s2.setStage n { s2.stage n with moveTo := none }
    else if (s2.stageJobs n).any startsFrame then s2.setStage n { s2.stage n with moveTo := some host }
    else s2.moveStage n host

/-- Every stage with jobs at an accepted edge. -/
def State.edgeStages (s : State) : State :=
  (List.range 32).foldl (fun s n =>
    if (s.stageJobs n).isEmpty ∧ (s.stage n).onHost = false ∧ (s.stage n).cost = none then s else s.edgeStage n) s

/-- R33: the next unit of a decode job's stream begins with an IDR picture; other stages carry no state between frames. -/
def State.cleanStart (s : State) (e : JobEntry) : Bool :=
  match e.kind with
  | .h264 _ => e.entries.all fun x => (oldestWaiting (s.stream x.1).pool 0).any fun p => p.2.idr
  | _ => true

/-- R33: a move takes effect with the frame that the job begins. -/
def State.moveBefore (s : State) (e : JobEntry) : State :=
  match e.hostAlt with
  | none => s
  | some n =>
    match (s.stage n).moveTo with
    | some host => if startsFrame e && s.cleanStart e then s.moveStage n host else s
    | none => s

/-- The job runs on the host. -/
def State.runsOnHost (s : State) (e : JobEntry) : Bool := e.hostAlt.any fun n => (s.stage n).onHost

/-- A job's entry on the side it runs on: on the host it costs only the stage's registered time on lane 12 (R28). -/
def State.sideEntry (s : State) (e : JobEntry) : JobEntry :=
  if s.runsOnHost e then
    { e with costs := List.replicate 12 0 ++ [(e.hostAlt.bind fun n => (s.stage n).cost).getD (nth e.costs 12)] }
  else e

/-! ### Stage entries (R96–R99, R172) -/

/-- The metadata record a job's output carries: of its run in this tick, else of its last. -/
def State.metaOf (s : State) (j : Nat) : Option UnitMeta :=
  match s.head.running.find? (·.entry.id == j) with
  | some r => r.meta_
  | none => tfind s.head.metas j

/-- R43, R95: the oldest of records, with the worst status. -/
def State.oldestMeta (s : State) (ms : List UnitMeta) : Option UnitMeta :=
  (s.oldest (ms.map (·.stamp))).bind fun x =>
    (ms.find? (·.stamp == x)).map fun m => { m with status := ms.foldl (fun a m => max a m.status) 0 }

/-- R172: the newest announced picture of a stream. -/
def State.newestPicture (s : State) (n : Nat) : Option UnitMeta :=
  let ms := (s.head.metas.filter fun e => e.2.stream == n && (s.jobEntry e.1).any fun x => jobDecodes x.kind).map (·.2)
  ms.foldl (fun a m => match a with
    | none => some m
    | some x => if x.useq < m.useq then some m else some x) none

/-- The decode context of a job. -/
def contextOf (k : JobKind) : Option Nat :=
  match k with
  | .h264 c => some c
  | _ => none

/-- R97, R98: the entry found nothing to deliver. -/
def State.entryEmpty (s : State) (n : Nat) : State := s.incr (streamKey n 0x1C)

/-- R96, R97: an entry takes its unit, or tests data that a producer derived from one; the record of what it took. -/
def State.takeEntry (s : State) (e : JobEntry) (rid : Nat) (x : Nat × Nat) : State × Option UnitMeta :=
  match (e.producers.filterMap s.metaOf).find? (·.stream == x.1) with
  | some m =>
    let s1 := s.observeAge x.1 x.2 m.stamp
    if s1.fresh x.1 m.stamp then (s1, some m) else ((s1.staleDrop x.1 x.2).entryEmpty x.1, none)
  | none =>
    if e.window then
      let p := s.takeWindow x.1 x.2 rid
      match p.2 with
      | some us => (p.1, p.1.oldestMeta (us.map fun u => u.metadata x.1))
      | none => (p.1.entryEmpty x.1, none)
    else
      let p := s.takeUnit x.1 x.2 rid (contextOf e.kind) ((s.stream x.1).pool.length)
      match p.2 with
      | some u => (p.1, some (u.metadata x.1))
      | none => (p.1.entryEmpty x.1, none)

/-- The entries of a job, in order; whether every one was served. -/
def State.takeEntries (s : State) (e : JobEntry) (rid : Nat) : List (Nat × Nat) → State × List UnitMeta × Bool
  | [] => (s, [], true)
  | x :: xs =>
    let p := s.takeEntry e rid x
    let r := p.1.takeEntries e rid xs
    (r.1, p.2.toList ++ r.2.1, p.2.isSome && r.2.2)

/-! ### Admission (R15–R17) -/

/-- What an admission has sold so far: the time on each lane in sixths of a nanosecond, the jobs admitted, the sum of R17, and
the stages of which a job was deferred. -/
structure Sold where
  used  : List Nat := []
  ids   : List Nat := []
  extra : Nat := 0
  deferredStages : List Nat := []
deriving DecidableEq, Repr

/-- Time sold to a job. -/
def Sold.add (a : Sold) (reduced : Bool) (e : JobEntry) : Sold :=
  { a with used := lanes.map fun l => nth a.used l + jobTime reduced e l }

/-- R16: a producer has already completed. -/
def State.jobEnded (s : State) (j : Nat) : Bool :=
  (tfind s.head.status j).isSome && !(s.head.running.any fun r => r.entry.id == j)

/-- R334: a job's model slot is resident. -/
def State.slotReady (s : State) (e : JobEntry) : Bool :=
  (jobSlot e.kind).all fun n => (tget s.comp.slots n {}).state == 2

/-- R16, R17: a candidate fits. -/
def State.fits (s : State) (a : Sold) (c : Candidate) (e : JobEntry) : Bool :=
  lanes.all (fun l => decide (nth a.used l + jobTime s.reduced e l ≤ 6 * s.tick.ceiling)) &&
    e.producers.all (fun p => a.ids.contains p || s.jobEnded p) &&
    decide (e.finish + (if c.demand.isSome then a.extra else 0) ≤ s.tick.ceiling) && s.slotReady e

/-- R385, Table: Roles: the role whose jobs are admitted: in Disputed the one held at entry. -/
def State.workRole (s : State) : Role := if s.red.role = .disputed then s.red.entered else s.red.role

/-- R385: a role other than Single and Active takes only INGEST-lane and CTRL-lane jobs. -/
def State.roleTakes (s : State) (e : JobEntry) : Bool :=
  s.workRole == .single || s.workRole == .active || lanes.all fun l => l == 0 || l == 11 || !(usesLane e l)

/-- R336, R504: a job's model slot is still loading. -/
def State.slotLoading (s : State) (e : JobEntry) : Bool :=
  (jobSlot e.kind).any fun n => (tget s.comp.slots n {}).state == 1

/-- R385, R494, R504: the job may be a candidate: in Reduced no job on MAC_B is one, and none whose slot is loading. -/
def State.candidate (s : State) (e : JobEntry) : Bool :=
  s.roleTakes e && !(s.reduced && usesLane e 10) && !(s.slotLoading e)

/-- R166: a further job of a rejected JPEG image is not run. -/
def State.rejectedImage (s : State) (e : JobEntry) : Bool :=
  match e.kind with
  | .jpeg c => (s.jpegCtx c).rejected && !(startsFrame e)
  | _ => false

/-- R511: the window of a re-score, from t_arm − 200 ms on, has been overwritten in the ring of 256 frames. -/
def State.windowLost (s : State) (arm : Stamp) : Bool :=
  decide (256 ≤ s.power.ring.length) &&
  match s.power.ring.getLast? with
  | none => false
  | some f =>
    match s.age f.stamp, s.age arm with
    | some a, some b => decide (a < b + 200 * msec)
    | none, _ => false
    | some _, none => true

/-- R511: what the admission of the re-score job finds of the window of its phrase. -/
def State.admitRescore (s : State) : State :=
  s.onPower fun p => { p with phrase := p.phrase.map fun x => { x with overwritten := s.windowLost x.arm } }

/-- R180: the first encode job of a picture names the rate-control job of its context as a producer. -/
def State.startsPicture (s : State) (e : Nat) (j : JobEntry) : Bool :=
  j.producers.any fun p => (s.jobEntry p).any fun x => x.kind == .rateControl e

/-- What admission sets up in the engine of a job (R172, R208, R237, R511); a JPEG image begins with a clear context. -/
def State.admitContext (s : State) (r : Run) : State × Run :=
  match r.entry.kind with
  | .jpeg c => (if startsFrame r.entry then s.setJpeg c {} else s, r)
  | .pass p => if s.furtherBand p r.entry then (s, r) else s.passAdmit p r
  | .encode e =>
    let source := ((s.encImage e).map (·.source)).getD 0
    let s1 := if (s.enc e).coding ∧ s.startsPicture e r.entry = false then s else s.encAdmit e source (s.newestPicture source)
    (s1, { r with meta_ := (s1.enc e).src })
  | .mac n => (s, s.macAdmit n r)
  | .rescore => (s.admitRescore, r)
  | _ => (s, r)

/-- R263, R279: an admitted job loads its descriptors and starts its transfers; one that fails a check ends at once. -/
def State.startDescriptors (s : State) (r : Run) : State :=
  if r.entry.descs = [] then s
  else
    let p := s.loadDescriptors r.entry ((r.demand.map (·.descs)).getD []) ((r.demand.map (·.pd)).getD 0)
    if p.2.2 then p.1.startXfers p.2.1 r.rid r.entry.id none r.entry.transfers
    else p.1.endRun r (.invalid r.meta_) 5 7 (p.1.obj 0x271009)

/-- R10, R16, R95: a job is admitted and released. -/
def State.admitJob (s : State) (c : Candidate) (e : JobEntry) : State :=
  let rid := s.head.rid
  let s1 := (s.onHead fun h => { h with rid := rid + 1 }).incr 0x220201
  let p := s1.takeEntries e rid e.entries
  let m := p.1.oldestMeta (if e.entries = [] then e.producers.filterMap p.1.metaOf else p.2.1)
  let r0 : Run := { rid := rid, entry := e, tick := s.tick.count, at_ := s.now, onHost := s.runsOnHost c.entry
                    takeover := s.red.takeover, demand := c.demand, meta_ := m, edge := some s.stamp, band := roughBound s.bandNow }
  if p.2.2 = false then (p.1.onHead fun h => { h with running := h.running ++ [r0] }).endRun r0 (.invalid m) 4 0 0
  else if s.rejectedImage e then (p.1.onHead fun h => { h with running := h.running ++ [r0] }).endRun r0 (.invalid m) 0 0 0
  else
    let q := p.1.admitContext r0
    (q.1.onHead fun h => { h with running := h.running ++ [q.2] }).startDescriptors q.2

/-- R15–R18, R39: one candidate. -/
def State.consider (x : State × Sold) (c : Candidate) : State × Sold :=
  let s := x.1.moveBefore c.entry
  let e := s.sideEntry c.entry
  if s.slotFailed e = false ∧ s.fits x.2 c e then
    let a := { x.2.add s.reduced e with
      ids := e.id :: x.2.ids
      extra := x.2.extra + if c.demand.isSome then largestCost s.reduced e else 0 }
    (s.admitJob c e, a)
  else
    (s.notAdmitted c, { x.2 with deferredStages := x.2.deferredStages ++ e.hostAlt.toList })

/-- R21, R23: the carry-over reservations of jobs that overran and whose outputs are not invalid. -/
def State.carryOver (s : State) : Sold :=
  (s.head.running.filter fun r => r.overran && !r.badIn).foldl (fun a r => a.add s.reduced r.entry) {}

/-- R15: pinned jobs whose phase matches, in ledger order. -/
def State.pinnedCandidates (s : State) : List Candidate :=
  (s.jobs.filter fun e => pinnedAt e s.tick.count && s.candidate e).map fun e => { entry := e, pinned := true }

/-- The candidates among deferred jobs, and those that stay as they are. -/
def State.deferredCandidates (s : State) : List Candidate :=
  s.head.deferred.filterMap fun d => (s.jobEntry d.job).bind fun e =>
    if s.candidate e then some { entry := e, count := d.count, pinned := d.demand.isNone, demand := d.demand } else none

/-- The priority of a demand: its ledger entry's, or 0 for the re-score job of a phrase (R511). -/
def Candidate.priority (c : Candidate) : Nat := if c.demand.any (·.urgent) then 0 else c.entry.priority

/-- A demand before another: by priority, then by arrival (R15). -/
def insertDemand (c : Candidate × Nat) : List (Candidate × Nat) → List (Candidate × Nat)
  | [] => [c]
  | d :: r =>
    if c.1.priority < d.1.priority ∨ (c.1.priority = d.1.priority ∧ c.2 < d.2) then c :: d :: r
    else d :: insertDemand c r

/-- R15: demand jobs by priority, then by arrival. -/
def State.demandCandidates (s : State) : List Candidate :=
  let cs := s.head.demand.filterMap fun d => (s.jobEntry d.job).bind fun e =>
    if s.candidate e then some (({ entry := e, demand := some d } : Candidate), d.arrival) else none
  (cs.foldr insertDemand []).map (·.1)

/-- A job that waits is named by an entry in force that may not be a candidate now. -/
def State.waitsOn (s : State) (j : Nat) : Bool := (s.jobEntry j).any fun e => !(s.candidate e)

/-- R65: jobs that wait and whose ID is absent from the alternative in force are dropped. -/
def State.dropAbsent (s : State) : State :=
  let ds := (s.head.deferred.map fun d => (d.job, d.demand)) ++ s.head.demand.map fun d => (d.job, some d)
  (ds.filter fun d => (s.jobEntry d.1).isNone).foldl (fun s d =>
    s.dropJob { entry := { id := d.1, pinned := d.2.isNone }, demand := d.2 }) s

/-- R30: the consecutive ticks in which a job of a stage was deferred. -/
def State.countDeferrals (s : State) (ns : List Nat) : State :=
  s.onHead fun h => { h with stages := h.stages.map fun e =>
    (e.1, { e.2 with deferrals := if ns.contains e.1 then e.2.deferrals + 1 else 0 }) }

/-- R15: the admission of an accepted edge. -/
def State.admission (s : State) : State :=
  let cs := s.pinnedCandidates ++ s.deferredCandidates ++ s.demandCandidates
  let s1 := s.dropAbsent.onHead fun h => { h with
    deferred := h.deferred.filter fun d => s.waitsOn d.job
    demand := h.demand.filter fun d => s.waitsOn d.job }
  let r := cs.foldl State.consider (s1, s.carryOver)
  r.1.countDeferrals r.2.deferredStages

/-- R15, R339: a demand request. -/
def State.demandJob (s : State) (job : Nat) (queue : Option (Nat × Nat × Nat × Bool)) (descs : List (Nat × Option Nat))
    (pd : Nat) (urgent : Bool := false) : State :=
  s.onHead fun h => { h with
    demand := h.demand ++ [{ job := job, arrival := h.arrival, queue := queue, descs := descs, pd := pd, urgent := urgent }]
    arrival := h.arrival + 1 }

/-- R332, R333: what an accepted edge does to an image that loads. -/
def State.edgeImage (s : State) : State :=
  match s.head.loading with
  | none => s
  | some l =>
    if s.imageReady l then s.imageInForce l
    else if l.tooFew ∧ l.stopped = false ∧ s.head.image.isSome then
      let s1 := (s.onHead fun h => { h with
        loading := some { l with stopped := true }, demand := [], deferred := []
        running := h.running.map fun r => { r with badIn := true } }).emit 0x800A
      (s.head.demand.foldl (fun s d => s.dropJob { entry := (s.jobEntry d.job).getD { id := d.job, pinned := false }, demand := some d }) s1)
    else s

/-- HOST_ASSIST_STAGE_REGISTERED (R28): the runtime declares a stage's host cost. -/
def execHostAssistStageRegistered (t : Nat) (stage : Fin 32) (cost : Nat) : State → Result :=
  whenCore t fun s => s.setStage stage { s.stage stage with cost := some cost }

end Sys2Proof.Machine
end

