-- ==== Sys2Proof/Machine/Queues.lean ====
section
/-! DEFINITION. The command queues (R337–R341, R345, R349, R385, R477): doorbells, control, and one meaning per opcode. An entry
command takes the entry at the head of what its queue has fetched; an entry of another opcode stays (notes/assumptions/37.md). -/
namespace Sys2Proof.Machine

/-! ### The entry (R338) -/

/-- R338: fields of an entry. -/
def entryOpcode (v : Nat) : Nat := bits v 63 56
def entryJob (v : Nat) : Nat := bits v 47 32
def entrySeq (v : Nat) : Nat := bits v 31 16
def entryTag (v : Nat) : Nat := bits v 399 384
def entryPd (v : Nat) : Nat := bits v 15 12
def entryStream (v : Nat) : Nat := bits v 11 8
def entryDescs (v : Nat) : List Nat := [bits v 127 80, bits v 191 144, bits v 255 208]

/-- R338: every res field of an entry is zero. -/
def entryReserved (v : Nat) : Bool :=
  bits v 479 448 == 0 && bits v 415 409 == 0 && bits v 335 320 == 0 && bits v 207 192 == 0 && bits v 143 128 == 0 &&
    bits v 79 64 == 0 && bits v 51 48 == 0

/-- R340: status 2 does not apply. -/
def entryFormatOk (v : Nat) : Bool :=
  entryReserved v && (entryDescs v).all (fun a => a % 64 == 0) && (!(v.testBit 52) || bits v 383 336 % 64 == 0) &&
    decide (1 ≤ entryOpcode v) && decide (entryOpcode v ≤ 5) &&
    (if entryOpcode v = 3 then bits v 7 0 == 1 || bits v 7 0 == 2 else bits v 7 0 == 0)

/-- R340: the CRC of an entry is right. -/
def entryCrcOk (v : Nat) : Bool := (crc32c (leBytes 60 v)).toNat == bits v 511 480

/-- The entry names an address (R340: the domain test). -/
def entryNames (v : Nat) : Bool := (entryDescs v).any (· != 0) || v.testBit 52

/-! ### Doorbell and control (R337, R340, R477) -/

/-- R340: a sequence or format error halts a queue. -/
def State.haltQueue (s : State) (q : Nat) : State := (s.setQueue q { s.queue q with state := 2 }).emit 0x8009 q

/-- R337, R477: the tail moves and the entries behind the old one are fetched; a tail that is not below the ring's size halts
the queue with status 2. -/
def State.doorbell (s : State) (q tail : Nat) (entries : List Bits512) : State :=
  let x := s.queue q
  let n := max (s.ringSize q) 1
  if s.ringSize q ≤ tail then
    if x.state = 1 then
      (if s.completionRoom q then s.refuseEntry q 0x8008 0 x.expect 0 2
       else ((s.incr (queueKey q 0x08)).setObj (queueKey q 0x09) 2).emit 0x8008 q).haltQueue q
    else s
  else
    let new := (List.range ((tail + n - x.tail % n) % n)).map fun i => (entries.getD i 0, s.stamp)
    s.setQueue q { x with tail := tail, fetched := x.fetched ++ new }

/-- QUEUE_DOORBELL (R337, R477): a write in BAR1; `entries` are the ring's bytes from the old tail on. -/
def execQueueDoorbell (t : Nat) (q : Fin 16) (tail : BitVec 32) (entries : List Bits512) : State → Result :=
  whenCore t fun s => s.doorbell q tail.toNat entries

/-- R337: a queue is enabled or disabled; only a reset ends a halt. -/
def State.switchQueue (s : State) (q on : Nat) : State :=
  let x := s.queue q
  (s.setObj (queueKey q 0x04) on).setQueue q { x with state := if x.state = 2 then 2 else on }

/-- QUEUE_ENABLE (R337): a write of 1 to 0x2810+q.04; only 2 ends a halt. -/
def execQueueEnable (t : Nat) (p : Path) (q : Fin 16) : State → Result :=
  whenCore t fun s => s.controlledNum p (queueKey q 0x04) 1 fun s => s.switchQueue q 1

/-- QUEUE_DISABLE (R337, R349): a write of 0 to 0x2810+q.04; accepted entries run on. -/
def execQueueDisable (t : Nat) (p : Path) (q : Fin 16) : State → Result :=
  whenCore t fun s => s.controlledNum p (queueKey q 0x04) 0 fun s => s.switchQueue q 0

/-- R340: a reset empties the ring, expects SEQ 0 and restarts the queue. -/
def State.resetQueue (s : State) (q : Nat) : State :=
  let x := s.queue q
  (s.setObj (queueKey q 0x04) 2).setQueue q
    { x with state := 1, expect := 0, head := x.tail, fetched := [], fence := none, fenceRec := none }

/-- QUEUE_RESET (R340): a write of 2 to 0x2810+q.04. -/
def execQueueReset (t : Nat) (p : Path) (q : Fin 16) : State → Result :=
  whenCore t fun s => s.controlledNum p (queueKey q 0x04) 2 fun s => s.resetQueue q

/-- R477: the host releases records up to its completion head; never more than were written. -/
def State.releaseRecords (s : State) (q v : Nat) : State :=
  let x := s.queue q
  let n := max (s.ringSize q) 1
  if s.ringSize q ≤ v then s
  else
    let d := (v + n - x.compHead % n) % n
    if d ≤ x.compUsed then s.setQueue q { x with compHead := v, compUsed := x.compUsed - d } else s

/-- COMPLETION_HEAD_WRITE (R477): a write in BAR1. -/
def execCompletionHeadWrite (t : Nat) (q : Fin 16) (v : BitVec 32) : State → Result :=
  whenCore t fun s => s.releaseRecords q v.toNat

/-! ### Taking an entry -/

/-- The queue may take its next entry: it runs, no fence holds it, and a record has room (R339, R477). -/
def State.entryReady (s : State) (q : Nat) : Option (Nat × Stamp) :=
  let x := s.queue q
  if x.state = 1 ∧ x.fence = none ∧ s.completionRoom q then x.fetched.head?.map fun e => (e.1.toNat, e.2) else none

/-- The head entry leaves the queue and takes its place in the SEQ order. -/
def State.passEntry (s : State) (q : Nat) : State :=
  let x := s.queue q
  s.setQueue q { x with fetched := x.fetched.drop 1, head := (x.head + 1) % max (s.ringSize q) 1, expect := (x.expect + 1) % 2 ^ 16 }

/-- R340: the first completion status that refuses an entry whatever its opcode: CRC, format, sequence; 0 for none. -/
def State.entryStatus (s : State) (q v : Nat) : Nat :=
  if entryCrcOk v = false then 1
  else if entryFormatOk v = false then 2
  else if entrySeq v ≠ (s.queue q).expect then 3
  else 0

/-- R340: the domain of an entry's addresses is host-owned. -/
def State.entryDomainOk (s : State) (v : Nat) : Bool := !(entryNames v) || (s.cfg (0x270501 + entryPd v)).testBit 1

/-- R340: an entry is refused; a format or sequence error halts the queue. -/
def State.refuse512 (s : State) (q v status : Nat) : State :=
  let s1 := (s.passEntry q).refuseEntry q 0x8008 (entryJob v) (entrySeq v) (entryTag v) status
  if status = 2 ∨ status = 3 then s1.haltQueue q else s1

/-- R339, R340: a queue takes its next entry when it has an opcode: refused, or accepted with its effect. -/
def State.takeEntry512 (s : State) (q op : Nat) (status : State → Nat → Nat) (eff : State → Nat → Stamp → State) : State :=
  match s.entryReady q with
  | none => s
  | some (v, at_) =>
    let st := s.entryStatus q v
    if st ≠ 0 then s.refuse512 q v st
    else if entryOpcode v ≠ op then s
    else if v.testBit 54 ∧ s.outstanding q ≠ 0 then s
    else
      let st := status s v
      if st ≠ 0 then s.refuse512 q v st
      else eff ((s.passEntry q).incr (queueKey q 0x07)) v at_

/-- R341: an entry that asks for a completion gets one. -/
def State.entryDone (s : State) (q v event out : Nat) : State :=
  if v.testBit 55 then s.postCompletion q event (entryJob v) (entrySeq v) (entryTag v) 0 out else s

/-- R19, R339: the job is a demand job of the alternative in force. -/
def State.demandKnown (s : State) (j : Nat) : Bool := (s.jobEntry j).any fun e => !e.pinned

/-- R19, R340, R385: the statuses of a RUN_JOB entry. -/
def State.runJobStatus (s : State) (v : Nat) : Nat :=
  if s.demandKnown (entryJob v) = false then 4
  else if s.entryDomainOk v = false then 5
  else if s.workRole ≠ .single ∧ s.workRole ≠ .active then 6
  else 0

/-- RUN_JOB (R339): `descs` are the bytes of the descriptors that lie in host memory, in the order of DESC0 to DESC2. -/
def execRunJob (t : Nat) (q : Fin 16) (descs : List Bits512) : State → Result :=
  whenCore t fun s => s.takeEntry512 q 1 State.runJobStatus fun s v _ =>
    s.demandJob (entryJob v) (some (q, entryTag v, entrySeq v, v.testBit 55))
      ((entryDescs v).zipIdx.map fun e => (e.1, (descs[e.2]?).map BitVec.toNat)) (entryPd v)

/-- R339, R340: the statuses of a SUBMIT_UNIT entry. -/
def State.submitStatus (s : State) (q v : Nat) : Nat :=
  let x := s.stream (entryStream v)
  if s.entryDomainOk v = false ∨ x.kind ≠ 7 ∨ x.addr ≠ q then 5 else 0

/-- The entry at the head of a queue is a SUBMIT_UNIT that nothing refuses before its descriptor is checked, and no fence holds. -/
def State.unitDue (s : State) (q : Nat) : Option Nat :=
  match s.entryReady q with
  | none => none
  | some (v, _) =>
    if s.entryStatus q v = 0 ∧ entryOpcode v = 2 ∧ !(v.testBit 54 && s.outstanding q != 0) ∧ s.submitStatus q v = 0 then some v
    else none

/-- R85, R86, R339: the unit that DESC0 describes is delivered; one that is not captured ends its entry with invalid output. -/
def State.submit (s : State) (q desc : Nat) (formatOk : Bool) : State :=
  s.takeEntry512 q 2 (fun s v => s.submitStatus q v) fun s v at_ =>
    let n := entryStream v
    let bytes := (s.unitDescriptor (entryPd v) (bits v 127 80) desc).g.span
    let s1 := s.deliver n bytes [] formatOk (if v.testBit 53 then some (bits v 319 256) else none) at_
    s1.entryDone q v 0 (if s1.obj (streamKey n 0x0E) = s.obj (streamKey n 0x0E) then 2 else 0)

/-- SUBMIT_UNIT (R85, R86, R263, R339, R340): `desc` is the bytes of the descriptor at DESC0 when it lies in host memory,
`formatOk` that the unit passes R88's check. -/
def execSubmitUnit (t : Nat) (q : Fin 16) (desc : Bits512) (formatOk : Bool) : State → Result :=
  whenCore t fun s =>
    match s.unitDue q with
    | none => s.submit q desc.toNat formatOk
    | some v =>
      let e := s.unitError (entryPd v) (bits v 127 80) desc.toNat
      let s1 := s.checkUnit (entryPd v) (bits v 127 80) desc.toNat
      if e = 0 then s1.submit q desc.toNat formatOk
      else (s1.passEntry q).refuseEntry q e (entryJob v) (entrySeq v) (entryTag v) 7

/-- R109: the unit of a SUBMIT_UNIT entry whose data still move at a detachment is dropped and counted as aborted. -/
def State.dropMoving (s : State) (q : Nat) : State :=
  match s.unitDue q with
  | none => s
  | some v => (((s.passEntry q).incr (queueKey q 0x07)).incr (streamKey (entryStream v) 0x1B)).entryDone q v 0 2

/-- R340: an entry that only names addresses. -/
def State.plainStatus (s : State) (v : Nat) : Nat := if s.entryDomainOk v then 0 else 5

/-- R339: a fence holds the later entries; its record comes when it is met. -/
def State.setFence (s : State) (q v : Nat) (f : Fence) : State :=
  s.setQueue q { s.queue q with fence := some f
                                fenceRec := if v.testBit 55 then some (entryJob v, entryTag v, entrySeq v) else none }

/-- The head entry of a queue is a FENCE of a kind, or is refused whatever it is. -/
def State.fenceKind (s : State) (q kind : Nat) : Bool :=
  match s.entryReady q with
  | some (v, _) => entryOpcode v != 3 || bits v 7 0 == kind || s.entryStatus q v != 0
  | none => true

/-- FENCE, kind write (R339). -/
def execFenceWrite (t : Nat) (q : Fin 16) : State → Result :=
  whenCore t fun s =>
    if s.fenceKind q 1 then s.takeEntry512 q 3 State.plainStatus fun s v _ => s.setFence q v .writes else s

/-- FENCE, kind token (R339). -/
def execFenceToken (t : Nat) (q : Fin 16) : State → Result :=
  whenCore t fun s =>
    if s.fenceKind q 2 then s.takeEntry512 q 3 State.plainStatus fun s v _ =>
      s.setFence q v (.tokens (bits v 408 400) ((s.chan (bits v 408 400)).sent + bits v 447 416))
    else s

/-- NOP (R339). -/
def execNop (t : Nat) (q : Fin 16) : State → Result :=
  whenCore t fun s => s.takeEntry512 q 4 State.plainStatus fun s v _ => s.entryDone q v 0 0

/-- LOAD_IMAGE (R332, R339): `img` is the image that DESC0 describes. -/
def execLoadImage (t : Nat) (q : Fin 16) (img : Image) : State → Result :=
  whenCore t fun s => s.takeEntry512 q 5 State.plainStatus fun s v _ =>
    let r := s.loadImage (if bits v 127 80 = 0 then none else some img) 0
    r.1.entryDone q v (if r.2 then 0 else 0x100A) 0

end Sys2Proof.Machine
end

