-- ==== Sys2Proof/Machine/Link.lean ====
section
/-! DEFINITION. The Spindle Link's port states, training, frame reception, retry, and remote requests (R352–R381), with their
commands. The commands that move roles stand in Redundancy.lean. -/
namespace Sys2Proof.Machine

/-! ### Port states (R358, R366) -/

/-- A port enters a state. -/
def State.portTo (s : State) (k st : Nat) : State := s.onPort k fun p => { p with state := st, since := s.now }

/-- The TRAIN block of a lane: STAMP, RETURN, HOLD (R356, R359). -/
def State.trainContent (s : State) (lane ret : Nat) (lock aligned : Bool) : Nat :=
  packFields [(lane, 54), (s.link.id, 52), (b2n lock, 51), (b2n aligned, 50), (s.now % 2 ^ 16, 34), (ret % 2 ^ 16, 18)]

/-- TRAIN on all lanes. -/
def State.sendTrain (s : State) (k : Nat) : State :=
  [0, 1, 2, 3].foldl (fun s l => s.block k typeTrain (s.trainContent l 0 false false)) s

/-- R358: a port enters a state in which it trains. -/
def State.trainIn (s : State) (k st : Nat) : State :=
  let s1 := s.onPort k fun p => { p with lanes := [], locked := false, aligned := false, trained := false, latSum := 0, latN := 0 }
  (s1.portTo k st).sendTrain k

/-- R358: a port starts to train. -/
def State.startTrain (s : State) (k : Nat) : State := s.trainIn k 1

/-- R347: a slice group loses a peer's data. -/
def State.sliceLost (s : State) : State := if s.obj 0x280601 = 2 then s.emit 0x800C else s

/-- R402: a partial epoch is discarded. -/
def State.discardPartial (s : State) : State :=
  if s.red.partialSegs = [] then s
  else ((s.onRed fun r => { r with partialSegs := [] }).incr 0x291109).emit 0x9013

/-- R366, R375, R402: a port goes down: buffers and held chunks are discarded, the transfers with tags on it end with reason 7. -/
def State.portGoesDown (s : State) (k : Nat) : State :=
  let xids := (s.link.tags.filter (·.port == k)).map (·.xid)
  let s1 := (s.onPort k fun p => { p with replay := [], waiting := [], accums := [], nakSent := false, credits := [0, 0, 0, 0] }).portTo k 0
  let s2 := s1.abandonAll (fun x => xids.contains x.xid) 7
  ((s2.onLink fun l => { l with tags := l.tags.filter (·.port != k) }).incr (portKey k 0x09)).emit 0x9003 k |>.sliceLost.discardPartial

/-- R358: at an entry to Watch or Retained-off, or at a reset, a port sends BYE three times and stops driving. -/
def State.stopPort (s : State) (reason k : Nat) : State :=
  if (s.port k).state = 0 then s
  else
    let c := packFields [(s.link.id, 54), (s.originTtl, 52), (reason, 48)]
    (((s.block k typeBye c).block k typeBye c).block k typeBye c).portGoesDown k

/-- Both ports stop; the reason is 0 for a power mode, 1 for a reset. -/
def State.stopPorts (s : State) (reason : Nat) : State := portNos.foldl (fun s k => s.stopPort reason k) s

/-- PORT_TRAIN_START (R358). -/
def execPortTrainStart (t : Nat) (k : Fin 2) : State → Result :=
  whenCore t fun s =>
    if (s.port k).state = 0 ∧ s.portUsed k ∧ (s.port k).since + 10 * msec ≤ s.now then s.startTrain k else s

/-- R359: a TRAIN block: the neighbour's state, and a latency sample once it has lock; it is answered on its lane. -/
def State.takeTrain (s : State) (k c : Nat) : State :=
  let lock := c.testBit 51
  let d := (s.now + 3 * 2 ^ 16 - bits c 33 18 - bits c 17 2) % 2 ^ 16 / 2
  let s1 := s.onPort k fun p => { p with
    lanes := if p.lanes.contains (bits c 55 54) then p.lanes else p.lanes ++ [bits c 55 54]
    locked := lock, aligned := c.testBit 50
    latSum := if lock ∧ p.latN < 256 then p.latSum + d else p.latSum
    latN := if lock ∧ p.latN < 256 then p.latN + 1 else p.latN }
  let p := s1.port k
  ((if 0 < p.latN then s1.setObj (portKey k 0x03) (p.latSum / p.latN) else s1).block k typeTrain
    (s1.trainContent (bits c 55 54) (bits c 49 34) true (p.lanes.length == 4)))

/-- TRAIN (R359). -/
def execTrain (t : Nat) (k : Fin 2) (c : BitVec 56) : State → Result :=
  whenCore t fun s => if (s.port k).state = 1 ∨ (s.port k).state = 4 then s.takeTrain k c.toNat else s

/-- The ledger ID of the image in force; 0 without one. -/
def State.ledgerId (s : State) : Nat := ((s.head.image.map (·.ledgerId)).getD 0) % 2 ^ 32

/-- R381: what an IDENT exchange brings into force. -/
def State.adoptLink (s : State) : State :=
  s.onLink fun l => { l with
    group := s.obj 0x290002, topology := s.obj 0x290003
    windows := (List.range 12).map fun i => (0x290301 + i, s.obj (0x290301 + i)) }

/-- R360: the IDENT payload. -/
def State.identPayload (s : State) (k : Nat) : List Byte :=
  leBytes 32 (packFields [(s.link.id, 0), (k, 8), (s.link.group, 16), (s.link.topology, 24), (s.obj 0x200002 % 2 ^ 16, 32),
    (s.ledgerId, 64), (s.obj 0x280601, 96), (Config.serial.toNat, 128)])

/-- R360: an IDENT frame goes out; it belongs to no SEQ order before the port is UP. -/
def State.sendIdent (s : State) (k : Nat) : State :=
  let s1 := s.adoptLink
  let i : FrameInfo := { op := 0x20, tc := 3, dst := s1.neighbour k, src := s1.link.id }
  s1.send (.frame k (s1.newFrame i (s1.identPayload k)))

/-- R361: the device's image changed: the exchange is repeated on each UP port. -/
def State.repeatIdent (s : State) : State := (portNos.filter fun k => (s.port k).isUp).foldl State.sendIdent s

/-- R359: the mean latency of a port is at most 1,000 ns. -/
def Port.latencyOk (p : Port) : Bool := decide (p.latSum ≤ 1000 * p.latN)

/-- R355, R358: the lanes are in step: the lane map and polarity that training found are free values, and IDENT goes out. -/
def State.trained (s : State) (k : Nat) : State :=
  let a := s.draw 10
  let b := a.2.draw 10
  let s1 := (b.2.setObj (portKey k 0x0B) (a.1 % 256)).setObj (portKey k 0x0C) (b.1 % 16)
  (if (s.port k).state = 1 then s1.portTo k 2 else s1.onPort k fun p => { p with trained := true }).sendIdent k

/-- TRAINING_COMPLETE (R358, R359). -/
def execTrainingComplete (t : Nat) (k : Fin 2) : State → Result :=
  whenCore t fun s =>
    let p := s.port k
    if (p.state = 1 ∨ p.state = 4) ∧ p.locked ∧ p.aligned ∧ p.latencyOk then s.trained k else s

/-- TRAIN_TIMEOUT (R358). -/
def execTrainTimeout (t : Nat) (k : Fin 2) : State → Result :=
  whenCore t fun s => if (s.port k).state = 1 ∧ (s.port k).since + 2 * msec ≤ s.now then s.portTo k 0 else s

/-- R360: the checks of an IDENT payload. -/
def State.identOk (s : State) (k v : Nat) : Bool :=
  bits v 23 16 == s.link.group && bits v 31 24 == s.link.topology && bits v 7 0 != s.link.id && bits v 7 0 == s.neighbour k

/-- R363: the credits at the entry to UP: all that the receiver grants, but for those of the frames that are replayed. -/
def Port.freshCredits (p : Port) : List Nat :=
  (List.range 4).map fun tc => nth grantedCredits tc - (p.replay.filter fun f => (frameInfo f).tc == tc).length

/-- R358, R361, R363: a port comes up, fresh or from a retrain. -/
def State.portUp (s : State) (k v : Nat) : State :=
  let again := (s.port k).state == 4
  let s1 := (s.onPort k fun p => { p with
    state := 3, since := s.now, trained := false, stuck := 0, errors := []
    credits := p.freshCredits
    txSeq := if again then p.txSeq else 0, rxSeq := if again then p.rxSeq else 0, replayAt := s.now }).setObj
      (portKey k 0x02) (bits v 7 0)
  let s2 := (s1.port k).replay.foldl (fun s f => s.send (.frame k f)) s1
  (s2.emit 0x9001 k).pumpAll k

/-- R361: the refusal of TC1 follows the ledger IDs of the exchange. -/
def State.judgeLedger (s : State) (k v : Nat) : State :=
  let bad := bits v 95 64 != s.ledgerId
  let s1 := s.onPort k fun p => { p with tc1Refused := bad }
  if bad then s1.emit 0x9005 k else s1

/-- R358, R360, R361: an IDENT frame. A port that is UP repeats the exchange. -/
def State.takeIdent (s : State) (k v : Nat) : State :=
  let s1 := s.adoptLink
  let st := (s1.port k).state
  if s1.identOk k v then
    let s2 := if st = 3 then (s1.setObj (portKey k 0x02) (bits v 7 0)) else s1.portUp k v
    s2.judgeLedger k v
  else
    let s2 := s1.emit 0x9004 k (bits v 7 0)
    if st = 2 then s2.portTo k 5 else s2

/-- IDENT_TIMEOUT (R358). -/
def execIdentTimeout (t : Nat) (k : Fin 2) : State → Result :=
  whenCore t fun s =>
    if (s.port k).state = 2 ∧ (s.port k).since + 100000 ≤ s.now then
      (s.emit 0x9004 k (s.obj (portKey k 0x02))).portTo k 5 else s

/-- REFUSED_TIMEOUT (R358). -/
def execRefusedTimeout (t : Nat) (k : Fin 2) : State → Result :=
  whenCore t fun s => if (s.port k).state = 5 ∧ (s.port k).since + second ≤ s.now then s.startTrain k else s

/-- R358: 16 block errors within 1,024 slots of 4.125 ns, or 8 replays without progress. -/
def Port.failing (p : Port) (now : Nat) : Bool :=
  decide (8 ≤ p.stuck) || decide (16 ≤ (p.errors.filter fun i => decide (now ≤ i + 4224)).length)

/-- PORT_RETRAIN (R358). -/
def execPortRetrain (t : Nat) (k : Fin 2) : State → Result :=
  whenCore t fun s =>
    if (s.port k).isUp ∧ (s.port k).failing s.now then
      (((s.onPort k fun p => { p with leftUp := s.now }).trainIn k 4).incr (portKey k 0x08)).emit 0x9002 k
    else s

/-! ### Retry (R356, R363, R364) -/

/-- The frames of the replay buffer behind a SEQ; all of them when it is not there. -/
def afterSeq (seq : Nat) (l : List LinkFrame) : List LinkFrame :=
  match l.findIdx? (fun f => (frameInfo f).seq == seq) with
  | some i => l.drop (i + 1)
  | none => l

/-- R363, R364: an acknowledgement and returned credits. -/
def State.takeAck (s : State) (k c : Nat) : State :=
  let p := s.port k
  let rest := afterSeq (bits c 53 42) p.replay
  let progress := decide (rest.length < p.replay.length)
  let back := [bits c 41 34, bits c 33 26, bits c 25 18, bits c 17 10]
  (s.setPort k { p with
    replay := rest, stuck := if progress then 0 else p.stuck, replayAt := if progress then s.now else p.replayAt
    credits := (List.range 4).map fun i => min (nth grantedCredits i) (nth p.credits i + nth back i) }).pumpAll k

/-- ACK (R364). -/
def execAck (t : Nat) (k : Fin 2) (c : BitVec 56) : State → Result :=
  whenCore t fun s => if (s.port k).isUp ∧ bits c.toNat 55 54 = 0 then s.takeAck k c.toNat else s

/-- R364: one replay from the oldest unacknowledged frame. -/
def State.replay (s : State) (k : Nat) : State :=
  let s1 := (s.onPort k fun p => { p with stuck := p.stuck + 1, replayAt := s.now }).incr (portKey k 0x07)
  (s1.port k).replay.foldl (fun s f => s.send (.frame k f)) s1

/-- NAK (R364). -/
def execNak (t : Nat) (k : Fin 2) (c : BitVec 56) : State → Result :=
  whenCore t fun s => if (s.port k).isUp ∧ bits c.toNat 55 54 = 1 then s.replay k else s

/-- REPLAY_TIMEOUT (R364). -/
def execReplayTimeout (t : Nat) (k : Fin 2) : State → Result :=
  whenCore t fun s =>
    let p := s.port k
    if p.isUp ∧ !p.replay.isEmpty ∧ p.replayAt + 4000 ≤ s.now then s.replay k else s

/-- R364: one NAK with the expected SEQ. -/
def State.nak (s : State) (k : Nat) : State :=
  let p := s.port k
  if p.nakSent then s
  else (s.setPort k { p with nakSent := true }).block k typeLink (linkContent 1 p.rxSeq [0, 0, 0, 0])

/-- R356, R364: a block error; one inside a frame damages it. -/
def State.blockError (s : State) (k : Nat) (inFrame : Bool) : State :=
  let s1 := (s.onPort k fun p => { p with errors := (s.now :: p.errors).take 16 }).incr (portKey k 0x0A)
  if inFrame then (s1.onPort k fun p => { p with badFrame := true }).nak k else s1

/-- BLOCK_ERROR (R356). -/
def execBlockError (t : Nat) (k : Fin 2) (inFrame : Bool) : State → Result :=
  whenCore t fun s => if (s.port k).isUp then s.blockError k inFrame else s

/-! ### Receiving a frame (R354, R362, R364, R370) -/

/-- The class of an operation. -/
def opClass (op : Nat) : Option Nat :=
  if 1 ≤ op ∧ op ≤ 7 then some 1
  else if op = 0x10 ∨ op = 0x12 ∨ op = 0x13 then some 0
  else if op = 0x11 then some 2
  else if op = 0x20 then some 3
  else none

/-- R362: the reserved bits of an operation's ARG. -/
def argOk (op arg : Nat) : Bool :=
  match op with
  | 0x02 => decide (arg < 16)
  | 0x03 => decide (arg < 512)
  | 0x04 => decide (arg < 4)
  | 0x05 => decide (arg < 4)
  | 0x06 => decide (arg < 512)
  | 0x01 => arg == 0
  | 0x07 => arg == 0
  | 0x12 => arg == 0
  | 0x20 => arg == 0
  | 0x10 => decide (arg < 256)
  | 0x11 => arg % 512 == 0
  | 0x13 => decide (arg < 3)
  | _ => true

/-- R362: the format of a frame. -/
def frameOk (f : LinkFrame) : Bool :=
  let i := frameInfo f
  opClass i.op == some i.tc && i.res == 0 && argOk i.op i.arg && decide (i.len ≤ 32) && (i.tc == 1 || i.tag == 0) &&
    f.payload.length == 8 * i.len

/-- R363, R364: an accepted frame is acknowledged and its buffer's credit returns. -/
def State.acknowledge (s : State) (k seq tc : Nat) : State :=
  s.block k typeLink (linkContent 0 seq ((List.range 4).map fun c => b2n (c == tc)))

/-- R364: the receiver's judgement of a frame: whether it is accepted. -/
def State.acceptFrame (s : State) (k : Nat) (f : LinkFrame) : State × Bool :=
  let p := s.port k
  let i := frameInfo f
  if f.crcOk = false ∨ p.badFrame then
    ((((s.setPort k { p with badFrame := false }).incr (portKey k 0x06)).emitLimited second 0x9009 k 0 k).nak k, false)
  else if i.seq ≠ p.rxSeq then (s, false)
  else
    let s1 := (s.setPort k { p with rxSeq := (p.rxSeq + 1) % 4096, nakSent := false }).incr (portKey k 0x05)
    let s2 := s1.acknowledge k i.seq i.tc
    if frameOk f then (s2, true) else (s2.incr (portKey k 0x0A), false)

/-- R370: the answer to a TC1 request that cannot go on. -/
def State.unreachable (s : State) (i : FrameInfo) : State :=
  if i.op = 1 ∨ i.op = 2 ∨ i.op = 3 then s.sendFrame { op := 7, tc := 1, dst := i.src, src := s.link.id, tag := i.tag } [] else s

/-- R354, R370: a frame for another member goes out on the other port. -/
def State.forward (s : State) (k : Nat) (f : LinkFrame) : State :=
  let i := frameInfo f
  let o := 1 - k
  if (s.port o).isUp ∧ i.ttl ≠ 0 then (s.queueFrame o (withInfo f { i with ttl := i.ttl - 1 })).incr (portKey o 0x0D)
  else s.unreachable i

/-- A frame arrives on a port: accepted and its own, it acts; accepted and another's, it goes on. One with a reserved OP is
discarded and acknowledged (R362). -/
def State.receive (s : State) (k op : Nat) (f : LinkFrame) (act : State → FrameInfo → State) : State :=
  let i := frameInfo f
  if (s.port k).isUp ∧ (i.op = op ∨ f.crcOk = false ∨ (opClass i.op).isNone) then
    let a := s.acceptFrame k f
    if a.2 = false then a.1
    else if i.dst ≠ s.link.id then a.1.forward k f
    else act a.1 i
  else s

/-! ### Remote requests at their destination (R361, R368, R369) -/

/-- A window's base, length and access in force. -/
def State.window (s : State) (w : Nat) : Nat × Nat × Nat :=
  (tget s.link.windows (0x290301 + w) 0, tget s.link.windows (0x290305 + w) 0, tget s.link.windows (0x290309 + w) 0)

/-- R369: every byte of a request lies in a window with the permission bits. -/
def State.inWindow (s : State) (k addr n perm : Nat) : Bool :=
  !(s.port k).tc1Refused && [0, 1, 2, 3].any fun w =>
    let x := s.window w
    decide (x.1 ≤ addr) && decide (addr + n ≤ x.1 + x.2.1) && (x.2.2 &&& perm) == perm

/-- The memory of a physical address that a request names: SRAM and its window, else LPDDR5 (notes/assumptions/39.md). -/
def addrMem (addr : Nat) : Nat := if addr < sramSize + windowSize then 0 else 1

/-- An answer to a request. -/
def State.answerRequest (s : State) (i : FrameInfo) (op status : Nat) (data : List Byte) : State :=
  s.sendFrame { op := op, tc := 1, dst := i.src, src := s.link.id, tag := i.tag, arg := status } data

/-- R369: a request outside the windows: status 2, event 0x900A, counted. -/
def State.refuseRequest (s : State) (i : FrameInfo) (op status : Nat) : State :=
  ((s.incr 0x29030D).emit 0x900A).answerRequest i op status []

/-- WRITE at its destination. -/
def State.takeWrite (s : State) (k : Nat) (f : LinkFrame) (i : FrameInfo) : State :=
  if s.inWindow k i.addr f.payload.length 2 then
    (s.writeBytes (addrMem i.addr) i.addr f.payload).answerRequest i 5 0 []
  else s.refuseRequest i 5 2

/-- No memory stands where an accepted request reads or writes. -/
def State.requestHole (s : State) (k op perm : Nat) (f : LinkFrame) (n : Nat) : Option Nat :=
  let i := frameInfo f
  if s.coreOn ∧ (s.port k).isUp ∧ i.op = op ∧ f.crcOk ∧ i.dst = s.link.id ∧ s.inWindow k i.addr n perm then
    ((List.range n).map (i.addr + ·)).find? fun a => s.hole (addrMem i.addr) a
  else none

/-- WRITE (R368, R369). -/
def execWrite (t : Nat) (k : Fin 2) (f : LinkFrame) (s : State) : Result :=
  match s.requestHole k 1 2 f f.payload.length with
  | some a => .fault (.noSuchMemory a)
  | none => whenCore t (fun s => s.receive k 1 f fun s i => s.takeWrite k f i) s

/-- The elements of an ACCUM frame: their addresses and values. -/
def accumElements (f : LinkFrame) : List (Nat × Nat) :=
  let i := frameInfo f
  let n := max (ceilDiv ((elemOf (i.arg % 16)).getD .int8).bits 8) 1
  (List.range (f.payload.length / n)).map fun j => (i.addr + j * n, leAt f.payload (j * n) n)

/-- Contributions to each address, in order. -/
def byAddress (es : List (Nat × Nat)) : List (Nat × List Nat) :=
  es.foldl (fun acc e =>
    match acc.findIdx? (fun x => x.1 == e.1) with
    | some i => acc.set i (e.1, (acc.getD i (0, [])).2 ++ [e.2])
    | none => acc ++ [(e.1, [e.2])]) []

/-- R268, R304: the held frames of a chunk are applied. -/
def State.applyAccums (s : State) (el : Elem) (es : List (Nat × Nat)) : State :=
  let n := max (ceilDiv el.bits 8) 1
  let new := (byAddress es).map fun e =>
    (e.1, accumulate el (leNat (s.readBytes (addrMem e.1) e.1 n)) e.2)
  (new.foldl (fun s e => (s.writeBytes (addrMem e.1) e.1 (leBytes n e.2.1)).incr 0x27100E (b2n e.2.2)) s).incr 0x27100C

/-- R368: the chunk is complete: it is read whole, and applied unless a word is uncorrectable. -/
def State.completeAccum (s : State) (k : Nat) (ecc : Bool) (fs : List LinkFrame) : State :=
  let es := fs.flatMap accumElements
  let el := ((fs.head?.bind fun f => elemOf ((frameInfo f).arg % 16))).getD .int8
  let bad := es.find? fun e => s.badWord (addrMem e.1) e.1
  let s1 := s.onPort k fun p => { p with accums := p.accums.filter fun f => !(fs.contains f) }
  let answer := fun (st : Nat) (s : State) => fs.foldl (fun s f => s.answerRequest (frameInfo f) 5 st []) s
  match bad with
  | some e => answer 1 ((s1.metBadWord e.1).slabFails e.1)
  | none => if ecc then answer 1 s1 else answer 0 (s1.applyAccums el es)

/-- R368, R369: an ACCUM frame at its destination: refused, or held until LASTC; at most 16 are held. -/
def State.takeAccum (s : State) (k : Nat) (f : LinkFrame) (ecc : Bool) (i : FrameInfo) : State :=
  let el := (elemOf (i.arg % 16)).getD .int8
  if s.inWindow k i.addr f.payload.length 3 = false then s.refuseRequest i 5 2
  else if (elemOf (i.arg % 16)).isNone ∨ el.accumulates = 0 then s.refuseRequest i 5 3
  else
    let s1 := s.onPort k fun p => { p with accums := p.accums ++ [f] }
    let held := (s1.port k).accums.filter fun g => (frameInfo g).src == i.src
    if i.last ∨ 16 ≤ held.length then s1.completeAccum k ecc held else s1

/-- ACCUM (R368). `ecc` says that a word of the chunk outside SRAM's known errors is uncorrectable. -/
def execAccum (t : Nat) (k : Fin 2) (f : LinkFrame) (ecc : Bool) (s : State) : Result :=
  match s.requestHole k 2 3 f f.payload.length with
  | some a => .fault (.noSuchMemory a)
  | none => whenCore t (fun s => s.receive k 2 f fun s i => s.takeAccum k f ecc i) s

/-- READ_REQ at its destination. -/
def State.takeRead (s : State) (k : Nat) (ecc : Bool) (i : FrameInfo) : State :=
  let n := i.arg % 512
  if 256 < n ∨ s.inWindow k i.addr n 1 = false then s.refuseRequest i 4 2
  else
    match ((List.range n).map (i.addr + ·)).find? fun a => s.badWord (addrMem i.addr) a with
    | some a => ((s.metBadWord a).slabFails a).answerRequest i 4 1 []
    | none => if ecc then s.answerRequest i 4 1 [] else s.answerRequest i 4 0 (s.readBytes (addrMem i.addr) i.addr n)

/-- READ_REQ (R367, R369). -/
def execReadReq (t : Nat) (k : Fin 2) (f : LinkFrame) (ecc : Bool) (s : State) : Result :=
  match s.requestHole k 3 1 f ((frameInfo f).arg % 512) with
  | some a => .fault (.noSuchMemory a)
  | none => whenCore t (fun s => s.receive k 3 f fun s i => s.takeRead k ecc i) s

/-! ### Answers at the origin (R367, R370) -/

/-- R283, R367: an answer returns its tag; one with a bad status ends the transfer. -/
def State.takeAnswer (s : State) (k tag reason : Nat) (ok : Bool) : State :=
  match s.link.tags.find? (fun e => e.port == k && e.tag == tag) with
  | none => s
  | some e =>
    let s1 := s.onLink fun l => { l with tags := l.tags.filter fun x => !(x.port == k && x.tag == tag) }
    if ok then s1 else s1.abandonAll (fun x => x.xid == e.xid) reason

/-- READ_DATA (R367): its bytes reach the chunk with CHUNK_VISIBLE. -/
def execReadData (t : Nat) (k : Fin 2) (f : LinkFrame) : State → Result :=
  whenCore t fun s => s.receive k 4 f fun s i => s.takeAnswer k i.tag 6 (i.arg % 4 == 0)

/-- WRITE_ACK (R367). -/
def execWriteAck (t : Nat) (k : Fin 2) (f : LinkFrame) : State → Result :=
  whenCore t fun s => s.receive k 5 f fun s i => s.takeAnswer k i.tag 6 (i.arg % 4 == 0)

/-- UNREACH (R370). -/
def execUnreach (t : Nat) (k : Fin 2) (f : LinkFrame) : State → Result :=
  whenCore t fun s => s.receive k 7 f fun s i => (s.takeAnswer k i.tag 7 false).emit 0x900B

/-- R324: a token's fields. -/
def Tok.ofBits (v : Nat) : Tok :=
  { crc := if v.testBit 5 then some (bits v 127 96) else none, tick := bits v 95 64, index := bits v 63 32, job := bits v 31 16
    reason := bits v 15 12, status := bits v 9 8, kind := bits v 7 6 }

/-- TOKEN (R361, R368): refused with TC1, it is answered as a request outside the windows. -/
def execToken (t : Nat) (k : Fin 2) (f : LinkFrame) : State → Result :=
  whenCore t fun s => s.receive k 6 f fun s i =>
    if (s.port k).tc1Refused then s.refuseRequest i 5 2
    else s.sendTok (i.arg % 512) (Tok.ofBits (leNat (f.payload.take 16)))

end Sys2Proof.Machine
end

