-- ==== Sys2Proof/Machine/Warm.lean ====
section
/-! DEFINITION. Warm state (R398): what an epoch holds, and how it is read back. The spec names the records; their bytes are laid
out here (notes/assumptions/40.md). -/
namespace Sys2Proof.Machine

/-! ### Bytes -/

/-- A record behind its length. -/
def warmRecord (bs : List Byte) : List Byte := leBytes 4 bs.length ++ bs

/-- The first n records. -/
def warmRecords : Nat → List Byte → List (List Byte)
  | 0, _ => []
  | n + 1, bs => (bs.drop 4).take (leAt bs 0 4) :: warmRecords n (bs.drop (4 + leAt bs 0 4))

/-- The n-th record. -/
def warmPart (n : Nat) (bs : List Byte) : List Byte := (warmRecords (n + 1) bs).getD n []

/-- Numbers as 8-byte words. -/
def wordBytes (ns : List Nat) : List Byte := ns.flatMap (leBytes 8)

/-- The n-th 8-byte word. -/
def wordAt (bs : List Byte) (n : Nat) : Nat := leAt bs (8 * n) 8

/-! ### Configuration -/

/-- The journalled objects that hold a value, with its bytes. -/
def State.configEntries (s : State) : List (Nat × List Byte) :=
  let held := fun (k : Nat) => isJournalled k && objAccess k == some .rw
  (s.od.filter fun e => held e.1).map fun e => (e.1, leBytes (objWidth e.1 / 8) e.2)

/-- The bytes of the Configuration record behind its JSEQ. -/
def configBytes (es : List (Nat × List Byte)) : List Byte :=
  es.flatMap fun e => leBytes 4 e.1 ++ leBytes 4 e.2.length ++ e.2

/-- The entries of a Configuration record; the first argument bounds their number. -/
def readConfig : Nat → List Byte → List (Nat × List Byte)
  | 0, _ => []
  | n + 1, bs =>
    if bs.isEmpty then []
    else (leAt bs 0 4, (bs.drop 8).take (leAt bs 4 4)) :: readConfig n (bs.drop (8 + leAt bs 4 4))

/-- The entries of the Configuration record of an epoch. -/
def epochConfig (data : List Byte) : List (Nat × List Byte) :=
  let bs := (warmPart 0 data).drop 4
  readConfig bs.length bs

/-! ### Output cursors -/

/-- A frame's QP and bits, when there is one. -/
def pairWords : Option (Nat × Nat) → List Nat
  | some (q, b) => [1, q, b]
  | none => [0, 0, 0]

/-- See `pairWords`. -/
def pairAt (bs : List Byte) (n : Nat) : Option (Nat × Nat) :=
  if wordAt bs n = 1 then some (wordAt bs (n + 1), wordAt bs (n + 2)) else none

/-- The cursors: 16 TPDOs, reports, two encode contexts of nine words, 32 passes. -/
def State.cursorWords (s : State) : List Nat :=
  ((List.range 16).map fun n => tget s.net.tpdoSeq n 0) ++ [s.net.reportSeq] ++
    ((List.range 2).flatMap fun e =>
      let x := s.enc e
      [x.rtpSeq, x.rtpTs, s.obj (encKey e 0x1B)] ++ pairWords x.lastI ++ pairWords x.lastP) ++
    (List.range 32).map fun p => s.obj (passKey p 0x06)

/-- The image's per-tick maximum of a cursor. -/
def State.cursorMax (s : State) (i : Nat) : Nat := nth ((s.head.image.map (·.cursorMax)).getD []) i

/-- R406 step 4: the cursors of an epoch, advanced by so many ticks. -/
def State.restoreCursors (s : State) (bs : List Byte) (ticks : Nat) : State :=
  let s1 := s.onNet fun n => { n with
    tpdoSeq := (List.range 16).map fun t => (t, (wordAt bs t + ticks * s.cursorMax 0) % 16)
    reportSeq := (wordAt bs 16 + ticks * s.cursorMax 1) % 2 ^ 32 }
  let s2 := (List.range 2).foldl (fun s e =>
    let b := 17 + 9 * e
    (s.setEnc e { s.enc e with
      rtpSeq := (wordAt bs b + ticks * s.cursorMax 2) % 2 ^ 16, rtpTs := wordAt bs (b + 1)
      lastI := pairAt bs (b + 3), lastP := pairAt bs (b + 6) }).setObj (encKey e 0x1B) (wordAt bs (b + 2))) s1
  (List.range 32).foldl (fun s p => s.setObj (passKey p 0x06) ((wordAt bs (35 + p) + ticks * s.cursorMax 3) % 2 ^ 64)) s2

/-! ### The other records -/

/-- Ledger ID and the defer counts of pinned DEFER jobs. -/
def State.ledgerWords (s : State) : List Nat :=
  s.ledgerId :: (s.head.deferred.filter fun d => d.demand.isNone).flatMap fun d => [d.job, d.count]

/-- The pinned deferred jobs of a record. -/
def deferredOf (bs : List Byte) : List Deferred :=
  (List.range ((bs.length / 8 - 1) / 2)).map fun i => ⟨wordAt bs (2 * i + 1), wordAt bs (2 * i + 2), none⟩

/-- Slot states and weight digests: 40 bytes for each slot. -/
def State.slotBytes (s : State) : List Byte :=
  (List.range 16).flatMap fun n =>
    let x := tget s.comp.slots n {}
    leBytes 8 x.state ++ leBytes 32 x.digest

/-- R401, R386: every slot that a record gives as resident is resident here with the same digest. -/
def State.slotsMatch (s : State) (bs : List Byte) : Bool :=
  (List.range 16).all fun n =>
    let x := tget s.comp.slots n {}
    leAt bs (40 * n) 8 != 2 || (x.state == 2 && x.digest == leAt bs (40 * n + 8) 32)

/-- The lifetime counters under the serial. -/
def State.lifetimeWords (s : State) : List Nat :=
  let l := s.lifetimeNow
  [Config.serial.toNat, l.powerOn, l.count, l.ticks, l.cycles, l.hot, l.expiries, l.pfails, l.first]

/-- The model state that the image names. -/
def State.modelBytes (s : State) : List Byte :=
  ((s.head.image.map (·.modelState)).getD []).flatMap fun r => memReadN s.sram r.1 r.2

/-- R398: the warm-state area as of this instant, in whole 8-byte words. -/
def State.warmState (s : State) : List Byte :=
  padPayload (warmRecord (leBytes 4 s.red.issued ++ configBytes s.configEntries) ++ warmRecord (wordBytes s.cursorWords) ++
    warmRecord (wordBytes s.ledgerWords) ++ warmRecord s.slotBytes ++
    warmRecord (leBytes 4 s.log.nextSeq ++ leBytes 4 s.log.shavSeq) ++ warmRecord (wordBytes s.lifetimeWords) ++
    warmRecord s.modelBytes)

/-- The model state of an epoch goes back to where the image names it. -/
def restoreRegions (bs : List Byte) : List (Nat × Nat) → List Host.Cell → List Host.Cell
  | [], m => m
  | r :: rs, m => restoreRegions (bs.drop r.2) rs (memWriteN m r.1 (bs.take r.2))

/-- R406 steps 3 to 5: the committed epoch is restored; its cursors advance by the accepted edges since its own. -/
def State.restoreEpoch (s : State) (e : Epoch) : State :=
  let s1 := s.restoreCursors (warmPart 1 e.data) (s.tick.count + 1 - e.ownTick)
  let s2 := s1.onHead fun h => { h with
    deferred := deferredOf (warmPart 2 e.data) ++ h.deferred.filter fun d => d.demand.isSome }
  let s3 := s2.setSram (restoreRegions (warmPart 6 e.data) ((s.head.image.map (·.modelState)).getD []) s2.sram)
  let s4 := (((s.head.image.map (·.contexts)).getD []).map (·.1)).foldl (fun s c => s.enterResync c) s3
  (List.range 2).foldl (fun s n => s.setEnc n { s.enc n with idrNext := true }) s4

/-! ### Segments (R399, R400) -/

/-- The data of a segment's number: 65,536 B at most. -/
def segmentData (data : List Byte) (n : Nat) : List Byte := (data.drop (65536 * n)).take 65536

/-- R399: the 32 B header of a segment. -/
def segmentHeader (data : List Byte) (offset epoch seg nseg ledger : Nat) : List Byte :=
  let body := packFields [((crc32c data).toNat, 192), (data.length, 160), (epoch % 2 ^ 64, 96), (offset, 48), (seg, 40), (nseg, 32),
    (ledger, 0)]
  leBytes 28 body ++ leBytes 4 (crc32c (leBytes 28 body)).toNat

/-- R399: the frames that carry a segment: ADDR, LAST and payload; the header first. -/
def segmentFrames (data : List Byte) (header : List Byte) : List (Nat × Bool × List Byte) :=
  (0, true, header) :: (List.range (ceilDiv data.length 256)).map fun i => (256 * i, false, (data.drop (256 * i)).take 256)

/-- R400: the 64 B commit record. -/
def commitRecord (e : Epoch) (ledger nseg origin : Nat) : List Byte :=
  let body := packFields [(sha256 e.data, 224), (e.number % 2 ^ 64, 160), (ledger, 128), (e.tick % 2 ^ 32, 96), (e.data.length, 64),
    (e.jseq, 32), (nseg, 24), (origin, 16)]
  leBytes 60 body ++ leBytes 4 (crc32c (leBytes 60 body)).toNat

end Sys2Proof.Machine
end

