-- ==== Sys2Proof/Machine/Redundancy.lean ====
section
/-! DEFINITION. Heartbeats, peers, roles, the interlock, the journal and epochs, takeover and reconciliation (R372–R420), with their
commands and those link commands that may move a role. -/
namespace Sys2Proof.Machine

/-! ### Eligibility and roles (R384–R389) -/

/-- Pair-standby is in force (R382, R383). -/
def State.pair (s : State) : Bool := s.red.config == 1

/-- The peer of a pair. -/
def State.mate (s : State) : Peer := s.peer s.pairPeer

/-- R386: the device is eligible to be active. An Active without a committed epoch keeps its eligibility
(notes/assumptions/41.md). -/
def State.eligible (s : State) : Bool :=
  s.net.nmt == .operational && decide (s.obj 0x291003 ≤ 1) &&
    match s.red.committed with
    | some e => s.slotsMatch (warmPart 3 e.data)
    | none => s.red.role == .starting || s.red.role == .active

/-- R389: the epoch that a ROLE block shows. -/
def State.shownEpoch (s : State) : Nat :=
  match s.red.role with
  | .syncing => (s.red.committed.map (·.number)).getD 0
  | .tailstock => (s.red.committed.map (·.number)).getD 0
  | .active => s.red.captured
  | _ => 0

/-- R383, R384: the role that blocks and 0x2910.04 show: every member of a replicate or slice group is active. -/
def State.roleCode (s : State) : Nat := if 2 ≤ s.red.config then 5 else s.red.role.code

/-- R389: the content of a ROLE block. -/
def State.roleContent (s : State) (reason : Nat) : Nat :=
  packFields [(s.link.id, 54), (s.originTtl, 52), (s.roleCode, 48), (s.shownEpoch % 2 ^ 32, 16), (reason, 12),
    (b2n (s.obj 0x291003 == 1), 11), (b2n s.eligible, 10), (b2n s.red.roleOut, 9), (b2n s.red.peerIn, 8)]

/-- R387: the role changes: a ROLE block and event 0x9010. -/
def State.roleTo (s : State) (r : Role) (reason : Nat) : State :=
  let s1 := (s.onRed fun x => { x with role := r, since := s.now }).onLink fun l => { l with roleRepeat := 2, roleReason := reason }
  (s1.blockUp typeRole (s1.roleContent reason)).emit 0x9010

/-- R391: ROLE_OUT is asserted. -/
def State.claim (s : State) : State :=
  if s.red.roleOut then s else s.onRed fun x => { x with roleOut := true, roleOutAt := s.now }

/-- R391: ROLE_OUT is deasserted, and the gate closes with it. -/
def State.unclaim (s : State) : State := s.onRed fun x => { x with roleOut := false, gate := false }

/-- R404: a device that becomes active numbers its epochs behind the highest number it has received. -/
def State.numberEpochs (s : State) : State := s.onRed fun x => { x with captured := max x.captured x.highest }

/-- R387: the device becomes active. Its journal goes on behind the last JSEQ it applied. -/
def State.becomeActive (s : State) (reason : Nat) : State :=
  (s.numberEpochs.onRed fun x => { x with
    issued := max x.issued x.applied, queue := [], handover := 0, peerHandedOver := false, open_ := none }).roleTo .active reason

/-- R387: Starting, with the peer active or its ROLE line asserted. -/
def State.startJoins (s : State) : State :=
  if s.pair ∧ s.red.role = .starting ∧ ((s.mate.seen ∧ (s.mate.role = 4 ∨ s.mate.role = 5)) ∨ s.red.peerIn) then s.roleTo .syncing 1
  else s

/-- R401, R484: an epoch is refused, or an entry that fails a check counts as one. -/
def State.refuseEpoch (s : State) (leave : Bool) : State :=
  let s1 := ((s.incr 0x291108).emit 0x9012).sendFrame { op := 0x13, tc := 0, dst := s.pairPeer, src := s.link.id, arg := 2 }
    (leBytes 16 (packFields [((s.red.committed.map (·.number)).getD 0 % 2 ^ 64, 64), (s.red.applied, 32)]))
  if leave ∧ s.red.role = .tailstock then s1.roleTo .syncing 1 else s1

/-! ### IDENT (R360, R387) -/

/-- IDENT (R360): a Tailstock whose port refuses TC1 becomes Syncing. -/
def execIdent (t : Nat) (k : Fin 2) (payload : IdentPayload) : State → Result :=
  whenCore t fun s =>
    let st := (s.port k).state
    if st = 2 ∨ st = 3 ∨ (st = 4 ∧ (s.port k).trained) then
      let s1 := s.takeIdent k (leNat (payload.take 32))
      if s1.pair ∧ s1.red.role = .tailstock ∧ (s1.port k).tc1Refused then s1.roleTo .syncing 1 else s1
    else s

/-- RETRAIN_TIMEOUT (R358, R366): 2.5 ms after leaving UP. -/
def execRetrainTimeout (t : Nat) (k : Fin 2) : State → Result :=
  whenCore t fun s => if (s.port k).state = 4 ∧ (s.port k).leftUp + 2500000 ≤ s.now then s.portGoesDown k else s

/-! ### Blocks from peers (R372–R374, R389) -/

/-- R372: the block is of another member; it goes out on the other port while its TTL allows. -/
def State.passBlock (s : State) (k type c : Nat) : State :=
  let o := 1 - k
  if bits c 53 52 ≠ 0 ∧ (s.port o).isUp then s.block o type (c - 2 ^ 52) else s

/-- The origin of a block. -/
def originOf (c : Nat) : Nat := bits c 55 54

/-- R373: every peer of the group has been seen. -/
def State.groupSeen (s : State) : Bool := s.peerNos.all fun p => let x := s.peer p; x.seen && !x.lost && !x.departed

/-- R373: the group is complete, event 0x9008; a loss ends that. -/
def State.judgeGroup (s : State) : State :=
  let all := s.groupSeen && decide (1 < s.link.group)
  let s1 := s.onLink fun l => { l with complete := all }
  if all ∧ s.link.complete = false then s1.emit 0x9008 else s1

/-- R372, R373: a heartbeat of a peer; one that came by the other route counts no second time. -/
def State.takeHeartbeat (s : State) (c : Nat) : State :=
  let p := originOf c
  let x := s.peer p
  if x.hbCount = some (bits c 41 26) then s
  else
    ((s.setPeer p { x with
      seen := true, heard := true, lastHb := s.now, misses := 0, lost := false, departed := false, hbCount := some (bits c 41 26)
      role := bits c 51 48 }).judgeGroup).startJoins

/-- HEARTBEAT (R372). -/
def execHeartbeat (t : Nat) (k : Fin 2) (c : BitVec 56) : State → Result :=
  whenCore t fun s =>
    if (s.port k).isUp ∧ originOf c.toNat ≠ s.link.id then (s.takeHeartbeat c.toNat).passBlock k typeHeartbeat c.toNat else s

/-- R389: the peer's role, priority and hand-over. -/
def State.takeRole (s : State) (c : Nat) : State :=
  let p := originOf c
  (s.setPeer p { s.peer p with
    seen := true, role := bits c 51 48, lastRole := some c }).onRed (fun r => { r with
      peerHandedOver := (r.peerHandedOver || (bits c 15 12 == 4)) && !(bits c 51 48 == 5) }) |>.startJoins

/-- ROLE (R389): a reserved REASON or res bits that are not zero are a block error. -/
def execRole (t : Nat) (k : Fin 2) (c : BitVec 56) : State → Result :=
  whenCore t fun s =>
    if (s.port k).isUp then
      if 5 < bits c.toNat 15 12 ∨ bits c.toNat 7 0 ≠ 0 then s.blockError k false
      else if originOf c.toNat ≠ s.link.id then (s.takeRole c.toNat).passBlock k typeRole c.toNat
      else s
    else s

/-- R374: the own accepted edge nearest to an instant: the last one or the next, and its tick number. -/
def State.nearestEdge (s : State) (i : Int) : Int × Nat :=
  let e := (s.tick.lastEdge.getD 0 : Int)
  if 2 * (i - e) ≤ s.tick.period then (e, s.tick.count) else (e + s.tick.period, s.tick.count + 1)

/-- R374, R408: the edge skew to a neighbour, and the tick number its edge maps to. -/
def State.takeTick (s : State) (k c : Nat) : State :=
  let p := originOf c
  let edge := (s.now : Int) - s.obj (portKey k 0x03) - bits c 23 0
  let own := s.nearestEdge edge
  let skew := (edge - own.1).natAbs
  let s1 := ((s.onPort k fun x => { x with skew := skew }).setPeer p { s.peer p with lastTick := some (bits c 53 24, own.2) })
  let worst := max (s1.port 0).skew (s1.port 1).skew
  let s2 := s1.setObj 0x280604 worst
  if s.cfg 0x280603 * 1000 < worst then s2.emit 0x800B else s2

/-- TICK (R374): a block from a neighbour. -/
def execTick (t : Nat) (k : Fin 2) (c : BitVec 56) : State → Result :=
  whenCore t fun s =>
    if (s.port k).isUp ∧ originOf c.toNat ≠ s.link.id ∧ s.tick.lastEdge.isSome then s.takeTick k c.toNat else s

/-- R366, R373, R402: a member has departed: event 0x9007, once for each departure. -/
def State.departs (s : State) (p : Nat) : State :=
  if (s.peer p).departed then s
  else
    let s1 := (s.setPeer p { s.peer p with departed := true, lost := false, lostAt := s.now }).emit 0x9007
    (s1.onLink fun l => { l with complete := false }).discardPartial

/-- BYE (R358, R366, R372): the sender's port goes down; another member's BYE only passes. -/
def execBye (t : Nat) (k : Fin 2) (c : BitVec 56) : State → Result :=
  whenCore t fun s =>
    let p := originOf c.toNat
    if (s.port k).isUp ∧ p ≠ s.link.id then
      let s1 := (s.departs p).passBlock k typeBye c.toNat
      if p = s.neighbour k then s1.portGoesDown k else s1
    else s

/-! ### Reconciliation (R410, R411) -/

/-- The CAN partner with a node-ID. -/
def State.partnerAt (s : State) (node : Nat) : Option Partner := s.net.partners.find? (·.node == node)

/-- R438: the consumer time of a node at 0x1016, in ms. -/
def State.consumerTime (s : State) (node : Nat) : Option Nat :=
  ((List.range 16).map fun i => s.cfg (0x101601 + i)).findSome? fun v =>
    if bits v 22 16 = node ∧ bits v 15 0 ≠ 0 then some (bits v 15 0) else none

/-- R438: the timeout of a partner; a configured one without an entry at 0x1016 has that of a learned one
(notes/assumptions/42.md). -/
def State.partnerTimeout (s : State) (p : Partner) : Nat :=
  match s.consumerTime p.node with
  | some ms => ms * msec
  | none => max (3 * p.period) (s.cfg 0x2E0405 * msec)

/-- R411: a heartbeat of the peer node came within its timeout. -/
def State.present (s : State) (p : Partner) : Bool := p.heard && decide (s.now < p.heardAt + s.partnerTimeout p)

/-- R410, R411: the row that holds for a live peer; 0 when none does. -/
def State.aliveRow (s : State) (role : Nat) (pin : Bool) (can : Option Partner) (node : Nat) : Nat :=
  let active := role == 4 || role == 5
  if active ≠ pin then 5
  else if node = 0 then (if active then 1 else 2)
  else if can.all (fun p => !(s.present p)) then 6
  else if active then (if can.any (·.state == 5) then 1 else if role = 5 then 9 else 0)
  else 2

/-- Table: Reconciliation: the row that holds for the peer. -/
def State.rowNow (s : State) : Nat :=
  let x := s.mate
  let node := s.cfg 0x291009
  let can := s.partnerAt node
  if !x.seen then 0
  else if x.departed then (if s.red.peerIn then 7 else 4)
  else if x.lost then
    if s.red.peerIn then 7
    else if node ≠ 0 ∧ can.any (fun p => p.heard && decide (x.lostAt < p.heardAt)) then 8
    else 3
  else s.aliveRow x.role s.red.peerIn can node

/-- A row of agreement. -/
def agrees (row : Nat) : Bool := decide (1 ≤ row) && decide (row ≤ 4)

/-- R410: the row of this heartbeat instant; what holds keeps its time. -/
def State.reconcile (s : State) : State :=
  let row := s.rowNow
  let s1 := s.onRed fun r => { r with
    row := row, rowAt := if row = r.row then r.rowAt else s.now
    agreeAt := if agrees row && agrees r.row then r.agreeAt else s.now }
  if row = 0 then s1 else s1.setObj 0x291209 row

/-- R405: the takeover conditions; the reason of the promotion. A hand-over stands for a departure (R409). -/
def State.takeoverReason (s : State) : Option Nat :=
  if s.pair ∧ s.red.role = .tailstock ∧ s.eligible then
    match s.red.row with
    | 3 => some 2
    | 4 => some 3
    | 2 => if s.red.peerHandedOver then some 3 else none
    | _ => none
  else none

/-- R406: the committed epoch is restored, and the first accepted edge resumes its outputs (R407). -/
def State.restore (s : State) : State :=
  match s.red.committed with
  | none => s
  | some e => (s.onRed fun r => { r with got := [], gap := false, loadConfig := false, restored := true }).restoreEpoch e

/-- R405, R406: a Tailstock promotes. -/
def State.promote (s : State) : State :=
  match s.takeoverReason with
  | none => s
  | some reason => (s.claim.roleTo .promoting reason).restore

/-! ### Heartbeat instants (R372, R373) -/

/-- R372: the SEEN mask: heartbeats of the last 3 ms. -/
def State.seenMask (s : State) : Nat :=
  ((List.range 4).map fun p => if (s.peer p).seen ∧ s.now < (s.peer p).lastHb + 3 * msec ∧ p ≠ s.link.id then 2 ^ p else 0).sum

/-- R372: the HEARTBEAT block. -/
def State.heartbeatContent (s : State) : Nat :=
  packFields [(s.link.id, 54), (s.originTtl, 52), (s.roleCode, 48), (s.seenMask, 44),
    (b2n (s.port 0).isUp + 2 * b2n (s.port 1).isUp, 42), (s.link.hbCount % 2 ^ 16, 26)]

/-- R373: the third miss: the peer is lost. A Syncing device does not promote (R405). -/
def State.losePeer (s : State) (p : Nat) : State :=
  let s1 := (s.setPeer p { s.peer p with lost := true, lostAt := s.now, heard := false, misses := 3 }).emit 0x9006
  let s2 := (s1.onLink fun l => { l with complete := false }).discardPartial
  if s.pair ∧ s.red.role = .syncing then s2.emit 0x9018 else s2

/-- R373: a period ends for a peer. -/
def State.endPeriod (s : State) (p : Nat) : State :=
  let x := s.peer p
  if !x.seen || x.lost || x.departed then s
  else if x.heard then s.setPeer p { x with heard := false, misses := 0 }
  else if x.misses + 1 < 3 then s.setPeer p { x with misses := x.misses + 1 }
  else s.losePeer p

/-- R372: HEARTBEAT blocks, unless the role keeper lapsed (R392), and the repeats of the last ROLE block. -/
def State.sendHeartbeats (s : State) : State :=
  if s.red.lapsed then s
  else
    let s1 := (s.blockUp typeHeartbeat s.heartbeatContent).onLink fun l => { l with hbCount := (l.hbCount + 1) % 2 ^ 16 }
    if 0 < s.link.roleRepeat then
      (s1.blockUp typeRole (s1.roleContent s.link.roleReason)).onLink fun l => { l with roleRepeat := l.roleRepeat - 1 }
    else s1

/-- HEARTBEAT_INSTANT (R372, R373, R405, R410): every 1 ms. -/
def execHeartbeatInstant (t : Nat) : State → Result :=
  whenCore t fun s =>
    if s.link.hbAt + 999000 ≤ s.now then
      let s1 := ((s.onLink fun l => { l with hbAt := s.now }).sendHeartbeats)
      let s2 := s1.peerNos.foldl State.endPeriod s1
      if s2.pair then s2.reconcile.promote else s2
    else s

/-! ### Journal and epochs at the Tailstock (R394–R402) -/

/-- The 24-byte entries of a JOURNAL frame. -/
def journalEntries : Nat → List Byte → List (JEntry × Bool)
  | 0, _ => []
  | n + 1, bs => JEntry.unpack bs :: journalEntries n (bs.drop 24)

/-- The JSEQ of the last entry received, or applied. -/
def RedSt.lastJseq (r : RedSt) : Nat := ((r.got.getLast?).map (·.jseq)).getD r.applied

/-- R396: one entry received. Each is kept until it is applied; a Syncing device keeps it for the epoch to come
(notes/assumptions/43.md). -/
def State.takeEntry24 (s : State) (e : JEntry × Bool) : State :=
  let last := s.red.lastJseq
  if e.2 = false then s.refuseEpoch true
  else if e.1.jseq ≠ last ∧ newer e.1.jseq last = false then s
  else if e.1.jseq = last ∧ s.red.got = [] then s
  else if s.red.role = .tailstock ∧ s.red.gap = false ∧ e.1.jseq ≠ last ∧ e.1.jseq ≠ (last + 1) % 2 ^ 32 then
    ((s.onRed fun r => { r with gap := true }).incr 0x29110D).emit 0x9017
  else s.onRed fun r => { r with got := r.got ++ [e.1] }

/-- JOURNAL (R395, R396): its entries wait for the next accepted edge. -/
def execJournal (t : Nat) (k : Fin 2) (f : LinkFrame) : State → Result :=
  whenCore t fun s => s.receive k 0x10 f fun s i =>
    if s.pair ∧ s.journalOnly then (journalEntries (i.arg % 256) f.payload).foldl State.takeEntry24 s else s

/-- R399: the fields of a segment header, and whether its HCRC is right. -/
def headerSegment (bs : List Byte) : Segment × Bool :=
  let v := leNat (bs.take 32)
  ({ seg := bits v 47 40, nseg := bits v 39 32, epoch := bits v 159 96, offset := bits v 95 48, len := bits v 191 160
     dcrc := bits v 223 192, ledger := bits v 31 0 },
   (crc32c (bs.take 28)).toNat == bits v 255 224)

/-- R402, R404: a segment begins; one of a higher epoch discards the partial epoch. -/
def State.takeHeader (s : State) (bs : List Byte) : State :=
  let h := headerSegment bs
  if h.2 = false then s
  else
    let s1 := if s.red.partialSegs.any (fun g => decide (g.epoch < h.1.epoch)) then s.discardPartial else s
    s1.onRed fun r => { r with partialSegs := r.partialSegs ++ [h.1], highest := max r.highest h.1.epoch }

/-- The data of a frame joins the last segment begun. -/
def addToLast (addr : Nat) (bs : List Byte) : List Segment → List Segment
  | [] => []
  | [g] => [{ g with data := g.data ++ [(addr, bs)] }]
  | g :: r => g :: addToLast addr bs r

/-- SNAPSHOT (R399): ARG [9] tells a header from data. -/
def execSnapshot (t : Nat) (k : Fin 2) (f : LinkFrame) : State → Result :=
  whenCore t fun s => s.receive k 0x11 f fun s i =>
    if s.pair ∧ s.journalOnly then
      if i.arg.testBit 9 then s.takeHeader f.payload
      else s.onRed fun r => { r with partialSegs := addToLast i.addr f.payload r.partialSegs }
    else s

/-- The bytes of a segment, or none when a part is missing or its DCRC is wrong. -/
def segmentBytes (g : Segment) : Option (List Byte) :=
  let bs := (g.data.flatMap (·.2)).take g.len
  let inOrder := (g.data.zipIdx.all fun e => e.1.1 == 256 * e.2)
  if inOrder ∧ bs.length = g.len ∧ (crc32c bs).toNat = g.dcrc then some bs else none

/-- R401: the data of an epoch whose segments all arrived whole, in OFFSET order. -/
def State.epochData (s : State) (epoch nseg : Nat) : Option (List Byte) :=
  let gs := s.red.partialSegs.filter (·.epoch == epoch)
  ((List.range nseg).map fun n =>
    ((gs.filter fun g => g.seg == n && g.nseg == nseg && g.offset == 65536 * n).getLast?).bind segmentBytes).foldl
      (fun a d => match a, d with
        | some a, some d => some (a ++ d)
        | _, _ => none) (some [])

/-- The ledger ID of the segments of an epoch. -/
def State.segmentsLedger (s : State) (epoch ledger : Nat) : Bool :=
  (s.red.partialSegs.filter (·.epoch == epoch)).all (·.ledger == ledger)

/-- R408: the own tick of the active's tick, by the last TICK block; without one, the own tick now. -/
def State.mapTick (s : State) (tick : Nat) : Nat :=
  match s.mate.lastTick with
  | some (p, own) => own - (p + 2 ^ 30 - tick % 2 ^ 30) % 2 ^ 30
  | none => s.tick.count

/-- R401: an epoch is committed. -/
def State.commitEpoch (s : State) (e : Epoch) : State :=
  let s1 := s.onRed fun r => { r with committed := some e, loadConfig := true, gap := false, partialSegs := [] }
  let s2 := ((((s1.setObj 0x291105 (e.number % 2 ^ 64)).setObj 0x291106 e.jseq).incr 0x291107).emit 0x9011).sendFrame
    { op := 0x13, tc := 0, dst := s.pairPeer, src := s.link.id, arg := 1 }
    (leBytes 16 (packFields [(e.number % 2 ^ 64, 64), (s.red.applied, 32)]))
  if s.red.role = .syncing then s2.roleTo .tailstock 1 else s2

/-- R401: the checks of a COMMIT frame. A wrong ledger ID or slot digest changes the role (R387). -/
def State.takeCommit (s : State) (bs : List Byte) : State :=
  let v := leNat (bs.take 64)
  let number := bits v 223 160
  let fresh := s.red.committed.all fun e => decide (e.number < number)
  let s0 := s.onRed fun r => { r with
    highest := max r.highest number, partialSegs := r.partialSegs.filter fun g => g.epoch != number }
  if (crc32c (bs.take 60)).toNat ≠ bits v 511 480 then s0.refuseEpoch false
  else if bits v 159 128 ≠ s.ledgerId ∨ s.segmentsLedger number s.ledgerId = false then s0.refuseEpoch true
  else match s.epochData number (bits v 31 24) with
    | none => s0.refuseEpoch false
    | some data =>
      if sha256 data ≠ bits v 479 224 ∨ fresh = false ∨ data.length ≠ bits v 95 64 then s0.refuseEpoch false
      else if s.slotsMatch (warmPart 3 data) = false then s0.refuseEpoch true
      else s0.commitEpoch ⟨number, bits v 63 32, bits v 127 96, s.mapTick (bits v 127 96), data⟩

/-- COMMIT (R400, R401). -/
def execCommit (t : Nat) (k : Fin 2) (f : LinkFrame) : State → Result :=
  whenCore t fun s => s.receive k 0x12 f fun s _ => if s.pair ∧ s.journalOnly then s.takeCommit f.payload else s

/-! ### Epochs at the active (R396, R398–R403) -/

/-- R398: at an accepted edge, before admission, the warm-state area of an active of a pair is written. -/
def State.edgeWarm (s : State) : State :=
  if s.pair ∧ s.red.role = .active then
    s.onRed fun r => { r with area := s.warmState, areaTick := s.tick.count, areaJseq := r.issued, areaAt := s.now }
  else s

/-- R399: one segment goes out. -/
def State.sendSegment (s : State) (e : Epoch) (nseg n : Nat) : State :=
  let data := segmentData e.data n
  (segmentFrames data (segmentHeader data (65536 * n) e.number n nseg s.ledgerId)).foldl (fun s f =>
    s.sendFrame { op := 0x11, tc := 2, dst := s.pairPeer, src := s.link.id, addr := f.1
                  arg := packFields [(e.number % 2 ^ 16, 16), (n % 64, 10), (b2n f.2.1, 9)] } f.2.2) s

/-- R399, R400: an epoch goes out, and its commit record behind it. -/
def State.sendEpoch (s : State) (e : Epoch) : State :=
  let n := ceilDiv e.data.length 65536
  ((List.range n).foldl (fun s i => s.sendSegment e n i) s).sendFrame
    { op := 0x12, tc := 0, dst := s.pairPeer, src := s.link.id } (commitRecord e s.ledgerId n s.link.id)

/-- R398, R399, R404: the area is captured as the next epoch; it is sent while the peer is Syncing or Tailstock. -/
def State.captureEpoch (s : State) : State :=
  let n := s.red.captured + 1
  let e : Epoch := ⟨n, s.red.areaJseq, s.red.areaTick, s.red.areaTick, s.red.area⟩
  let s1 := (s.onRed fun r => { r with captured := n, capturedAt := r.areaAt }).send (.warmState n)
  if s.mate.seen ∧ (s.mate.role = 2 ∨ s.mate.role = 3) then (s1.onRed fun r => { r with open_ := some e }).sendEpoch e else s1

/-- R398, R403: an epoch is skipped or abandoned. -/
def State.loseEpoch (s : State) : State := (s.incr 0x291109).emit 0x9013

/-- R401, R409: the peer's answer to an epoch. -/
def State.epochAnswer (s : State) (number : Nat) (ok : Bool) : State :=
  match s.red.open_ with
  | none => s
  | some e =>
    if ok then
      if e.number = number then
        (((s.onRed fun r => { r with
          open_ := none, committed := some e, handover := if r.handover = 2 then 3 else r.handover }).setObj 0x291105 (number % 2 ^ 64)).setObj
            0x291106 e.jseq).setObj 0x29110C ((s.now - s.red.capturedAt) / 1000) |>.incr 0x291107
      else s
    else (s.onRed fun r => { r with open_ := none, handover := if r.handover = 2 then 0 else r.handover }).incr 0x291108

/-- REPL_ACK (R396, R401): ARG [1:0] is 0 for the journal, 1 committed, 2 refused. -/
def execReplAck (t : Nat) (k : Fin 2) (f : LinkFrame) : State → Result :=
  whenCore t fun s => s.receive k 0x13 f fun s i =>
    if s.pair ∧ s.red.role = .active then
      let v := leNat (f.payload.take 16)
      match i.arg % 4 with
      | 0 => s.onRed fun r => { r with applied := bits v 63 32 }
      | 1 => s.epochAnswer (bits v 127 64) true
      | _ => s.epochAnswer (bits v 127 64) false
    else s

/-- EPOCH_ABANDONED (R403). -/
def execEpochAbandoned (t : Nat) : State → Result :=
  whenCore t fun s =>
    if s.red.open_.isSome ∧ s.red.capturedAt + 50 * msec ≤ s.now then
      (s.onRed fun r => { r with open_ := none, handover := if r.handover = 2 then 0 else r.handover }).loseEpoch
    else s

/-! ### Switch-over and takeover at an accepted edge (R407–R409) -/

/-- R387, R409: an active that is no longer eligible hands over to a Tailstock. -/
def State.mustHandOver (s : State) : Bool :=
  s.red.handover == 0 && !s.eligible && s.mate.seen && !s.mate.lost && !s.mate.departed && s.mate.role == 3

/-- R409: what an accepted edge does to a switch-over: the extra epoch, or the hand-over. -/
def State.edgeHandover (s : State) : State :=
  if s.pair ∧ s.red.role = .active then
    if s.red.handover = 3 then ((s.unclaim).onRed fun r => { r with handover := 0 }).roleTo .syncing 4
    else if s.red.handover = 1 ∨ s.mustHandOver then (s.onRed fun r => { r with handover := 2 }).captureEpoch
    else s
  else s

/-- R408: the lost ticks of a takeover, and whether the last one of the peer is uncertain. -/
def State.lostTicks (s : State) (e : Epoch) : Nat × Nat :=
  match s.mate.lastTick with
  | some (_, own) => (s.tick.count - own - 1, 1)
  | none => (s.tick.count - e.ownTick, 0)

/-- R407, R408: the first accepted edge after a promotion: the takeover tick and its evidence. -/
def State.edgeTakeover (s : State) : State :=
  let s0 := s.onRed fun r => { r with takeover := false }
  match s.red.restored && s.red.role == .active, s.red.committed with
  | true, some e =>
    let l := s.lostTicks e
    (((((((s0.onRed fun r => { r with takeover := true, restored := false }).incr 0x291201).setObj 0x291202 (s.tick.count % 2 ^ 64)).setObj
      0x291203 ((s.mate.lastTick.map (·.1)).getD 0)).setObj 0x291204 (l.1 % 2 ^ 32)).setObj 0x291205 l.2).setObj 0x291206
        (e.number % 2 ^ 64)).setObj 0x291207 s.red.applied |>.emit 0x9014
  | _, _ => s0

/-! ### Roles by time and by lines (R387, R388, R391, R392) -/

/-- R388: the device has the highest claim priority among the members seen. -/
def State.topPriority (s : State) : Bool :=
  s.peerNos.all fun p =>
    let x := s.peer p
    let prefer := s.obj 0x291003 == 1
    let theirs := (x.lastRole.getD 0).testBit 11
    !x.seen || x.lost || x.departed || (prefer && !theirs) || (prefer == theirs && decide (s.link.id < p))

/-- START_WAIT_EXPIRY (R387, R388). -/
def execStartWaitExpiry (t : Nat) : State → Result :=
  whenCore t fun s =>
    if s.pair ∧ s.red.role = .starting ∧ s.red.since + s.cfg 0x291006 * msec ≤ s.now ∧ s.eligible ∧ s.red.peerIn = false ∧ s.topPriority then
      s.claim.becomeActive 1
    else s

/-- PROMOTION_COMPLETE (R387, R406): with the gate open. -/
def execPromotionComplete (t : Nat) : State → Result :=
  whenCore t fun s => if s.red.role = .promoting ∧ s.red.gate then s.becomeActive 1 else s

/-- R387, R410: the entry to Disputed: emergency, count and event 0x9015 with the row. -/
def State.enterDisputed (s : State) : State :=
  (((s.onRed fun r => { r with entered := r.role }).roleTo .disputed 1).incr 0x291208).emitArg 0x9015 0xFFFF s.red.row s.red.row true 0xFF09

/-- PROMOTION_GATE_TIMEOUT (R387): 100 µs after ROLE_OUT asserts. -/
def execPromotionGateTimeout (t : Nat) : State → Result :=
  whenCore t fun s =>
    if s.red.role = .promoting ∧ s.red.gate = false ∧ s.red.roleOutAt + 100000 ≤ s.now then s.unclaim.enterDisputed else s

/-- The roles from which a Disputed row leads to Disputed. -/
def disputable (r : Role) : Bool := r == .starting || r == .syncing || r == .tailstock || r == .active

/-- DISPUTED_ENTERED (R387, R410). -/
def execDisputedEntered (t : Nat) : State → Result :=
  whenCore t fun s =>
    if s.pair ∧ disputable s.red.role ∧ 5 ≤ s.red.row ∧ s.red.rowAt + s.cfg 0x291007 * msec ≤ s.now then s.enterDisputed else s

/-- R387: a Disputed state is resolved. -/
def State.resolve (s : State) (reason : Nat) : State :=
  let s1 := s.emit 0x9016
  if s.red.roleOut then s1.roleTo .active reason
  else if s.red.committed.isSome then s1.roleTo .tailstock reason
  else s1.roleTo .syncing reason

/-- DISPUTED_RESOLVED (R387). -/
def execDisputedResolved (t : Nat) : State → Result :=
  whenCore t fun s =>
    if s.red.role = .disputed ∧ agrees s.red.row ∧ s.red.agreeAt + s.cfg 0x291008 * msec ≤ s.now then s.resolve 1 else s

/-- SWITCH_OVER_COMMAND (R409): role command 1; check 7 of R470 asks for an active whose peer is Tailstock. -/
def execSwitchOverCommand (t : Nat) (p : Path) : State → Result :=
  whenCore t fun s => s.controlledNum p 0x291005 1 fun s =>
    s.onRed fun r => { r with handover := if r.handover = 0 then 1 else r.handover }

/-- RESOLVE (R387): role command 2 in Disputed. -/
def execResolve (t : Nat) (p : Path) : State → Result :=
  whenCore t fun s => s.controlledNum p 0x291005 2 fun s => s.resolve 5

/-- FORCE_ACTIVE (R387): role command 3 in Disputed. -/
def execForceActive (t : Nat) (p : Path) : State → Result :=
  whenCore t fun s => s.controlledNum p 0x291005 3 fun s => (s.claim.becomeActive 5).restore

/-- FORCE_STANDBY (R387): role command 4 in Disputed. -/
def execForceStandby (t : Nat) (p : Path) : State → Result :=
  whenCore t fun s => s.controlledNum p 0x291005 4 fun s => s.unclaim.roleTo .syncing 5

/-- R387: the requested role takes the device out of service or back. -/
def State.requestRole (s : State) (v : Nat) : State :=
  let s1 := s.request 0x291003 v
  if s.pair = false then s1
  else if v = 3 then (if s.red.role = .outOfService then s1 else s1.unclaim.roleTo .outOfService 1)
  else if s.red.role = .outOfService then s1.roleTo .syncing 1
  else s1

/-- REQUESTED_ROLE_WRITE (R387). -/
def execRequestedRoleWrite (t : Nat) (p : Path) (v : Nat) : State → Result :=
  whenCore t fun s => s.controlledNum p 0x291003 v fun s => s.requestRole v

/-- PEER_ROLE_IN_CHANGE (R391): an assertion closes the gate. -/
def execPeerRoleInChange (t : Nat) (level : Bool) : State → Result :=
  whenPowered t fun s =>
    if level = s.red.peerIn then s
    else (s.onRed fun r => { r with peerIn := level, peerInAt := s.now, gate := r.gate && !level }).startJoins

/-- GATE_OPEN (R391). -/
def execGateOpen (t : Nat) : State → Result :=
  whenPowered t fun s =>
    if s.red.roleOut ∧ s.red.peerIn = false ∧ s.red.peerInAt + 1000 ≤ s.now then s.onRed fun r => { r with gate := true } else s

/-- INTERLOCK_CONFLICT (R391): the hardware deasserts ROLE_OUT of the higher peer ID. -/
def execInterlockConflict (t : Nat) : State → Result :=
  whenPowered t fun s =>
    if s.red.roleOut ∧ s.red.peerIn ∧ max s.red.roleOutAt s.red.peerInAt + 1000 ≤ s.now ∧ s.pairPeer < s.link.id then
      s.unclaim.emit 0x901A
    else s

/-- R392: ROLE_OUT deasserts and no heartbeats are sent. -/
def State.dropRole (s : State) : State := (s.unclaim).onRed fun r => { r with lapsed := true }

/-- ROLE_KEEPER_LAPSE (R392): 2 ms without a refresh by control core 0. -/
def execRoleKeeperLapse (t : Nat) : State → Result :=
  whenPowered t fun s => if s.red.keeperRuns = false ∧ s.red.keeperAt + 2 * msec ≤ s.now then s.dropRole else s

/-- The role keeper follows control core 0: it stops when the core halts and is refreshed when it runs again. -/
def State.keeper (s : State) (runs : Bool) : State :=
  if runs = s.red.keeperRuns then s
  else s.onRed fun r => { r with keeperRuns := runs, keeperAt := s.now, lapsed := r.lapsed && !runs }

end Sys2Proof.Machine
end

