-- ==== Sys2Proof/Machine/Retained.lean ====
section
/-! DEFINITION. The retained copies in NOR, stores and restore marks, and what a restore applies (R481–R488, R568–R571). A copy is
held as the values of its entries; its bytes are never seen by a command. -/
namespace Sys2Proof.Machine

/-! ### The copies (R568, R569) -/

/-- R620: the copy that holds the newest valid sequence number: 0, 1, or none. -/
def State.newestCopy (s : State) : Option Nat :=
  match s.boot.copy0, s.boot.copy1 with
  | some a, some b => if newer b.seq a.seq then some 1 else some 0
  | some _, none => some 0
  | none, some _ => some 1
  | none, none => none

/-- A copy. -/
def State.copyAt (s : State) (n : Nat) : Option Retained := if n = 0 then s.boot.copy0 else s.boot.copy1

/-- The state with a copy set. -/
def State.setCopy (s : State) (n : Nat) (c : Option Retained) : State :=
  s.onBoot fun b => if n = 0 then { b with copy0 := c } else { b with copy1 := c }

/-- The newest valid copy. -/
def State.newest (s : State) : Option Retained := s.newestCopy.bind s.copyAt

/-! ### Firmware (R564) -/

/-- The firmware bank of a number: 0 A, 1 B. -/
def State.fwBank (s : State) (n : Nat) : FwBank := if n = 0 then s.boot.bankA else s.boot.bankB

/-- 0x2000.05: the version of the firmware that runs. -/
def State.firmwareVersion (s : State) : Nat := ((s.fwBank s.boot.running).info.map (·.version)).getD 0

/-! ### Stores (R481–R483) -/

/-- The set of a key: 1 the communication set, 2 the application set, as bits of a mask (Table: Dictionary map). -/
def storeSet (k : Nat) : Nat := if inCommunication (k / 256) then 1 else 2

/-- The sets of a subindex of 0x1010 and 0x1011. -/
def setsOf (sub : Nat) : Nat := if sub = 2 then 1 else if sub = 3 then 2 else 3

/-- A key lies in sets. -/
def inSets (sets k : Nat) : Bool := isStored k && (storeSet k &&& sets) != 0

/-- The restore marks that name a set: bits 0 to 2 for 0x1011.01 to .03. -/
def marksNaming (set : Nat) : Nat := if set = 1 then 3 else 5

/-- R481: the values that a partial store carries over: not those of a set whose mark has been applied. -/
def State.carried (s : State) (sets : Nat) : Table Nat :=
  match s.newest with
  | none => []
  | some c => c.entries.filter fun e =>
      (storeSet e.1 &&& sets) == 0 && ((c.marks &&& marksNaming (storeSet e.1)) &&& (7 - s.boot.marks)) == 0

/-- Tables of distinct keys joined. -/
def joinTables (a b : Table Nat) : Table Nat := b.foldl (fun m e => tset m e.1 e.2) a

/-- R481: the snapshot of a store. -/
def State.storeSnapshot (s : State) (sets : Nat) : Table Nat :=
  joinTables (s.carried sets) (s.od.filter fun e => inSets sets e.1)

/-- The copy that a store writes: the one that does not hold the newest valid sequence number. -/
def State.storeTarget (s : State) : Nat := match s.newestCopy with
  | some 0 => 1
  | _ => 0

/-- R483, R562: the erase of a retained copy's 512 KiB; it holds no valid sequence number until its store ends. -/
def State.eraseCopy (s : State) (n : Nat) : State := (s.setCopy n none).countErases (2 + 8 * n) 8

/-- R568: the sequence number of a copy; 0xFFFF_FFFF while it is unwritten. -/
def copySeq (c : Option Retained) : Nat := (c.map (·.seq)).getD 0xFFFFFFFF

/-- R481, R486: a store begins with its snapshot. -/
def State.beginStore (s : State) (p : Path) (key : Nat) (snap : Table Nat) (marks : Nat) (isMark : Bool) (lss : Option Nat) : State :=
  (s.eraseCopy s.storeTarget).onDict fun d => { d with
    store := some { path := p, key := key, snap := snap, marks := marks, copy := s.storeTarget, isMark := isMark, lss := lss } }

/-- The image ID in force. -/
def State.imageId (s : State) : Nat := (s.head.image.map (·.id)).getD 0 % 2 ^ 32

/-- R568, R481: the copy that a store writes. -/
def State.storedCopy (s : State) (x : StoreSt) : Retained :=
  { seq := nextSeq ((s.newest.map (·.seq)).getD 0xFFFFFFFE), imageId := s.imageId, marks := x.marks, train := s.boot.trainGood
    entries := x.snap }

/-- R471, R481: a write whose answer waits counts when it is answered. -/
def State.storeAnswer (s : State) (x : StoreSt) (code : Nat) : State :=
  match x.lss with
  | some c => s.send (.lss c 0x17 (if code = 0 then 0 else 2))
  | none => if code = 0 then s.acceptWrite x.path x.key [] else s.refuse x.path x.key code

/-- R481: the copy is written and verified. -/
def State.storeWritten (s : State) (x : StoreSt) : State :=
  let c := s.storedCopy x
  (((s.setCopy x.copy (some c)).setObj 0x200402 c.seq).setObj 0x200403 c.imageId).incr 0x200404 |>.setObj 0x200401 1

/-- R481–R483: a store ends: the second store of a mark follows its first; a bad read-back leaves its copy invalid and the other untouched. -/
def State.endStore (s : State) (x : StoreSt) (ok : Bool) : State :=
  let s0 := s.onDict fun d => { d with store := none }
  if ok = false then ((s0.setObj 0x200401 2).emit 0xD041).storeAnswer x abortHardware
  else
    let s1 := s0.storeWritten x
    if x.isMark then
      if x.second then ((s1.onBoot fun b => { b with marks := x.marks }).emit 0xD042).storeAnswer x 0
      else (s1.eraseCopy s1.storeTarget).onDict fun d => { d with store := some { x with second := true, copy := s1.storeTarget } }
    else (s1.emit 0xD040).storeAnswer x 0

/-- R483: a store stops; its copy is without a valid sequence number. -/
def State.dropStore (s : State) : State :=
  match s.dict.store with
  | none => s
  | some x => (s.setCopy x.copy none).onDict fun d => { d with store := none }

/-- R483: PWRFAIL_N stops a store: event 0xD043, and the hardware error on a path that is still served. -/
def State.storePowerFails (s : State) : State :=
  match s.dict.store with
  | none => s
  | some x =>
    let s1 := (s.dropStore.setObj 0x200401 3).emit 0xD043
    if x.lss.isSome ∨ s1.served x.path then s1.storeAnswer x abortHardware else s1

/-- A write that is answered when its work ends (R470, R481). -/
def State.controlledLater (s : State) (p : Path) (k : Nat) (data : List Byte) (eff : State → State) : State :=
  if s.served p then
    let e := s.writeError p k data
    if e = 0 then eff s else s.refuse p k e
  else s

/-- R481: a store is asked for through 0x1010. -/
def State.askStore (s : State) (p : Path) (sub : Nat) (data : List Byte) : State :=
  s.controlledLater p (0x101000 + sub) data fun s =>
    s.beginStore p (0x101000 + sub) (s.storeSnapshot (setsOf sub)) s.boot.marks false none

/-- R482: a restore is asked for through 0x1011. -/
def State.askRestore (s : State) (p : Path) (sub : Nat) (data : List Byte) : State :=
  s.controlledLater p (0x101100 + sub) data fun s =>
    s.beginStore p (0x101100 + sub) ((s.newest.map (·.entries)).getD []) (s.boot.marks ||| 2 ^ (sub - 1)) true none

/-- STORE (R481): a write of "save" to 0x1010.01–.03. -/
def execStore (t : Nat) (p : Path) (sub v : Nat) : State → Result :=
  whenCore t fun s => s.askStore p sub (leBytes 4 v)

/-- RESTORE_DEFAULTS (R482): a write of "load" to 0x1011.01–.03 marks ranges in both copies. -/
def execRestoreDefaults (t : Nat) (p : Path) (sub v : Nat) : State → Result :=
  whenCore t fun s => s.askRestore p sub (leBytes 4 v)

/-! ### Restore (R459, R470, R482, R488, R570) -/

/-- Objects of sets take their defaults. -/
def State.toDefaults (s : State) (sets : Nat) : State := s.setOd (s.od.filter fun e => !(inSets sets e.1))

/-- R570: one entry, checked against the values already applied; whether it was skipped. -/
def State.restoreEntry (s : State) (sets : Nat) (e : Nat × Nat) : State × Bool :=
  if storeSet e.1 &&& sets = 0 then (s, false)
  else if isStored e.1 ∧ s.valueOk e.1 (leBytes (objWidth e.1 / 8) e.2) then (s.setObj e.1 e.2, false)
  else (s.incr 0x2F0404, true)

/-- R570: the entries in ascending order; whether any was skipped. -/
def State.restoreEntries (s : State) (sets : Nat) : List (Nat × Nat) → State × Bool
  | [] => (s, false)
  | e :: r =>
    let a := s.restoreEntry sets e
    let b := a.1.restoreEntries sets r
    (b.1, a.2 || b.2)

/-- The sets that pending marks name. -/
def markedSets (marks : Nat) : Nat :=
  (if marks.testBit 0 then 3 else 0) ||| (if marks.testBit 1 then 1 else 0) ||| (if marks.testBit 2 then 2 else 0)

/-- R570 steps 1 to 3 over sets, from a copy; whether an entry was skipped. -/
def State.restoreSets (s : State) (sets : Nat) (c : Option Retained) : State × Bool :=
  let r := (s.toDefaults sets).restoreEntries sets ((c.map (·.entries)).getD [])
  (r.1.toDefaults (sets &&& markedSets s.boot.marks), r.2)

/-- R482, R570: a start selects a copy and applies it and every mark: events 0xD004 to 0xD006. -/
def State.restoreAll (s : State) : State :=
  let s1 := s.onBoot fun b => { b with selected := s.newestCopy.getD 0xFF, marks := (s.newest.map (·.marks)).getD 0 }
  let s2 := (match s.boot.copy0, s.boot.copy1 with
    | some _, some _ => s1
    | none, none => s1.emit 0xD005
    | _, _ => s1.emit 0xD004)
  let r := s2.restoreSets 3 s.newest
  let s3 := ((r.1.setObj 0x200402 (copySeq s.newest)).setObj 0x200403 ((s.newest.map (·.imageId)).getD 0)).onBoot
    fun b => { b with marks := 0 }
  let s4 := s3.onDict fun d => { d with restored := true }
  if r.2 then s4.emit 0xD006 else s4

/-- R482: what a reset communication leaves of the marks: .01 becomes .03. -/
def marksAfterCommunication (marks : Nat) : Nat := (if marks.testBit 0 ∨ marks.testBit 2 then 4 else 0)

/-- R482, R570: a reset communication reloads the communication set from the copy that R569 selects. -/
def State.restoreCommunication (s : State) : State :=
  (s.restoreSets 1 s.newest).1.onBoot fun b => { b with marks := marksAfterCommunication b.marks }

/-- STORE_COMPLETE's end of the store in progress. -/
def State.storeCompletes (s : State) (ok : Bool) : State :=
  match s.dict.store with
  | some x => s.endStore x ok
  | none => s

end Sys2Proof.Machine
end

