-- ==== Sys2Proof/Machine/Network.lean ====
section
/-! DEFINITION. The field network: NMT, heartbeats and duplicates, PDO transmission, emergencies on the bus, CAN partners, records over
CAN, bus errors (R421–R441, R450–R453), with their commands. RPDO stands in Dictionary.lean, reset node in Boot.lean. -/
namespace Sys2Proof.Machine

/-- A controller changed. -/
def State.onCtrl (s : State) (c : Nat) (f : Ctrl → Ctrl) : State := s.setCtrl c (f (s.ctrl c))

/-- The key of an object of a controller. -/
def ctrlKey (c u : Nat) : Nat := 0x2E0100 + 256 * c + u

/-- The controller runs CANopen (R421). -/
def Ctrl.canopen (k : Ctrl) : Bool := k.mode == 1 || k.mode == 2

/-- The controller hears the bus: CANopen, and neither in bus-off nor held off. -/
def Ctrl.hears (k : Ctrl) : Bool := k.canopen && k.err != 2 && k.err != 4

/-- 0x2E0n.07: the error state. -/
def Ctrl.errorCode (k : Ctrl) : Nat := if k.err = 4 ∨ k.err = 2 then k.err else if k.silenced then 3 else k.err

/-! ### NMT (R423–R425) -/

/-- R424: emergencies that wait are discarded when they are not served; the one on the bus ends. -/
def Ctrl.dropQueue (k : Ctrl) : Ctrl := { k with emcy := if k.sending then k.emcy.take 1 else [] }

/-- R423: the NMT state changes, event 0xA001. -/
def State.toNmt (s : State) (x : Nmt) : State :=
  if x = s.net.nmt then s
  else
    let s1 := s.onNet fun n => { n with nmt := x }
    let s2 := if x = .stopped ∨ x = .initialisation then ctrlNos.foldl (fun s c => s.onCtrl c Ctrl.dropQueue) s1 else s1
    s2.emit 0xA001

/-- R423, R434: an NMT command that a controller hears, addressed to its node-ID or to 0. -/
def State.addressed (s : State) (c node : Nat) : Bool :=
  let k := s.ctrl c
  k.hears && k.node != 0xFF && (node == 0 || node == k.node)

/-- R423: start remote node. -/
def State.nmtStart (s : State) : State :=
  if s.net.nmt = .preOperational ∨ s.net.nmt = .stopped then s.toNmt .operational else s

/-- R423: stop remote node. -/
def State.nmtStop (s : State) : State :=
  if s.net.nmt = .preOperational ∨ s.net.nmt = .operational then s.toNmt .stopped else s

/-- R423: enter pre-operational. -/
def State.nmtPreOp (s : State) : State :=
  if s.net.nmt = .operational ∨ s.net.nmt = .stopped then s.toNmt .preOperational else s

/-- R501, R502: an NMT command in Watch is kept and wakes the device. -/
def State.nmtInWatch (s : State) (c node cs : Nat) : State :=
  if s.addressed c node then s.wakeFrame c 0 [BitVec.ofNat 8 cs, BitVec.ofNat 8 node] else s

/-- An NMT command: of the control cores while they run, else of the always-on core. -/
def nmtCommand (t c node cs : Nat) (f : State → State) : State → Result :=
  whenPowered t fun s =>
    if s.coreOn then (if s.addressed c node then f s else s) else s.nmtInWatch c node cs

/-- START_REMOTE_NODE (R423). -/
def execStartRemoteNode (t : Nat) (c : Fin 2) (node : Nat) : State → Result :=
  nmtCommand t c node 1 State.nmtStart

/-- STOP_REMOTE_NODE (R423). -/
def execStopRemoteNode (t : Nat) (c : Fin 2) (node : Nat) : State → Result :=
  nmtCommand t c node 2 State.nmtStop

/-- ENTER_PRE_OPERATIONAL (R423). -/
def execEnterPreOperational (t : Nat) (c : Fin 2) (node : Nat) : State → Result :=
  nmtCommand t c node 0x80 State.nmtPreOp

/-! ### The listen and the boot-up (R423, R433) -/

/-- R421, R433, R434, R453: at a reset communication or a start a controller takes its mode, node-ID and bit rates, and listens; what
held it off is over. -/
def State.startCtrl (s : State) (c : Nat) : State :=
  s.onCtrl c fun k => { k with
    mode := s.obj (ctrlKey c 0x01), node := s.obj (ctrlKey c 0x03), nominal := s.obj (ctrlKey c 0x05), bitrate := s.obj (ctrlKey c 0x06)
    err := if k.err = 4 then 0 else k.err, dup := false, booted := false
    listenFrom := if s.obj (ctrlKey c 0x01) = 0 then none else some s.now }

/-- The boot-up message of a controller. -/
def State.sendBootUp (s : State) (c : Nat) : State :=
  let k := s.ctrl c
  if k.sends then (s.setCtrl c { k with booted := true, hbAt := s.now }).send (.can c (0x700 + k.node) [0]) else s

/-- R423: start-up and every listen are complete: boot-up messages, and pre-operational. -/
def State.leaveInitialisation (s : State) : State :=
  if s.net.nmt = .initialisation ∧ ctrlNos.all (fun c => (s.ctrl c).listenFrom.isNone) then
    let s1 := (s.sendBootUp 0).sendBootUp 1
    let s2 := if s.boot.msPreop = 0 then s1.onBoot fun b => { b with msPreop := max 1 ((s.now - b.releasedAt) / msec) } else s1
    s2.toNmt .preOperational
  else s

/-- DUPLICATE_LISTEN_END (R433): a silence ends when the new listen found no duplicate. -/
def execDuplicateListenEnd (t : Nat) (c : Fin 2) : State → Result :=
  whenCore t fun s =>
    if (s.ctrl c).listenFrom.any (fun i => decide (i + s.obj 0x2E0404 * msec ≤ s.now)) then
      (s.onCtrl c fun k => { k with listenFrom := none, silenced := k.dup }).leaveInitialisation
    else s

/-- R433: a duplicate silences a controller; it is counted and reported at the onset of a silence. -/
def State.silence (s : State) (c : Nat) : State :=
  let k := s.ctrl c
  let s1 := s.setCtrl c { k with dup := true, silenced := true, emcy := [], sending := false }
  if k.silenced then s1 else (s1.incr (ctrlKey c 0x0D)).emit 0xA003

/-- DUPLICATE (R433): a frame with the controller's own heartbeat or emergency COB-ID that it did not send. -/
def execDuplicate (t : Nat) (c : Fin 2) (cob : Nat) : State → Result :=
  whenCore t fun s =>
    let k := s.ctrl c
    if k.hears ∧ k.node ≠ 0xFF ∧ (cob = 0x700 + k.node ∨ cob = 0x080 + k.node) then s.silence c else s

/-- HEARTBEAT_PRODUCTION (R425): every 0x1017 ms on a controller that has sent its boot-up message; in Watch the always-on core
sends it (R501). -/
def execHeartbeatProduction (t : Nat) (c : Fin 2) : State → Result :=
  whenPowered t fun s =>
    let k := s.ctrl c
    let ms := s.cfg 0x101700
    if k.sends ∧ k.booted ∧ ms ≠ 0 ∧ k.hbAt + ms * msec ≤ s.now ∧ s.net.nmt ≠ .initialisation then
      (s.setCtrl c { k with hbAt := s.now }).send (.can c (0x700 + k.node) [BitVec.ofNat 8 s.net.nmt.code])
    else s

/-! ### Partners (R438, R439) -/

/-- The nodes of configured partners: those of 0x1016, and the peer node-ID at 0x2910.09. -/
def State.configuredNodes (s : State) : List Nat :=
  let ns := ((List.range 16).map fun i => s.cfg (0x101601 + i)).filterMap fun v =>
    if bits v 22 16 ≠ 0 ∧ bits v 15 0 ≠ 0 then some (bits v 22 16) else none
  let peer := s.cfg 0x291009
  (if peer ≠ 0 ∧ !(ns.contains peer) then ns ++ [peer] else ns).eraseDups

/-- R438: a configured partner always holds an entry: the table of 32 gives up a learned one for it. -/
def makeRoom (ps : List Partner) : List Partner :=
  if ps.length < 32 then ps
  else if ps.any fun p => !p.configured && p.lost then dropFirst (fun p => !p.configured && p.lost) ps
  else dropLast' (fun p => !p.configured) ps

/-- R438: one configured node. -/
def State.configurePartner (s : State) (node : Nat) : State :=
  s.onNet fun n =>
    if n.partners.any (·.node == node) then
      { n with partners := n.partners.map fun p => if p.node = node then { p with configured := true } else p }
    else { n with partners := makeRoom n.partners ++
                    [{ node := node, ctrl := 0, configured := true, heard := false, heardAt := s.now, heardDev := 0 }] }

/-- R438: the configured partners follow 0x1016 and 0x2910.09; one that is configured no longer stays as a learned one. -/
def State.syncPartners (s : State) : State :=
  let ns := s.configuredNodes
  let s1 := s.onNet fun n => { n with
    partners := (n.partners.map fun p => if ns.contains p.node then p else { p with configured := false }).filter fun p =>
      p.configured || p.heard }
  ns.foldl State.configurePartner s1

/-- An entry answers to a node heard on a controller. -/
def Partner.isNode (p : Partner) (c node : Nat) : Bool := p.node == node && (p.configured || p.ctrl == c)

/-- The oldest lost learned entry. -/
def oldestLost (ps : List Partner) : Option Partner :=
  (ps.filter fun p => !p.configured && p.lost).foldl (fun a p => match a with
    | none => some p
    | some q => if p.lostAt < q.lostAt then some p else some q) none

/-- R438, R439: a stranger heard twice within 10 s is learned when an entry is free or can be. -/
def State.learn (s : State) (c node state since : Nat) : State :=
  let p : Partner := { node := node, ctrl := c, configured := false, period := s.now - since, heardAt := s.now, heardDev := s.time.dev
                       state := state }
  let put := fun (ps : List Partner) => (s.onNet fun n => { n with
    partners := ps ++ [p], strangers := n.strangers.filter fun x => !(x.1 == node && x.2.1 == c) }).emit 0xA009
  if s.net.partners.length < 32 then put s.net.partners
  else match oldestLost s.net.partners with
    | some q => put (dropFirst (· == q) s.net.partners)
    | none => s.emitLimited (60 * second) 0xA00C 0xFFFF 0 0

/-- R438: a node that holds no entry is heard. -/
def State.hearStranger (s : State) (c node state : Nat) : State :=
  let s1 := s.onNet fun n => { n with
    strangers := (node, c, s.now) :: n.strangers.filter fun x => !(x.1 == node && x.2.1 == c) }
  match s.net.strangers.find? (fun x => x.1 == node && x.2.1 == c) with
  | some x => if s.now ≤ x.2.2 + 10 * second then s1.learn c node state x.2.2 else s1
  | none => s1

/-- R438, R439: a node is heard; a partner that was lost is alive again. -/
def State.hear (s : State) (c node state : Nat) (boot : Bool) : State :=
  match s.net.partners.find? (·.isNode c node) with
  | none => s.hearStranger c node state
  | some p =>
    let q := { p with
      ctrl := c, heard := true, lost := false, heardAt := s.now, heardDev := s.time.dev, state := state, relearn := boot
      period := if boot ∨ p.relearn ∨ p.heard = false then p.period else s.now - p.heardAt }
    let s1 := s.onNet fun n => { n with partners := n.partners.map fun x => if x = p then q else x }
    if boot then (if p.heard then s1.emit 0xA00B else s1)
    else if p.lost then s1.emit 0xA009 else s1

/-- PARTNER_HEARTBEAT (R438, R439, R450): COB-ID 0x701 to 0x77F with a state byte. -/
def execPartnerHeartbeat (t : Nat) (c : Fin 2) (node state : Nat) : State → Result :=
  whenCore t fun s => if (s.ctrl c).hears ∧ 1 ≤ node ∧ node ≤ 127 then s.hear c node state false else s

/-- BOOT_UP (R439): a heartbeat frame with state 0. -/
def execBootUp (t : Nat) (c : Fin 2) (node : Nat) : State → Result :=
  whenCore t fun s => if (s.ctrl c).hears ∧ 1 ≤ node ∧ node ≤ 127 then s.hear c node 0 true else s

/-- R439: a partner is lost: event 0xA00A; for a configured one an emergency with EEC 0x8130. -/
def State.losePartner (s : State) (p : Partner) : State :=
  (s.onNet fun n => { n with partners := n.partners.map fun x => if x = p then { x with lost := true, lostAt := s.now } else x }).emitArg
    0xA00A 0xFFFF p.node p.node p.configured 0x8130

/-- PARTNER_LOST (R439). -/
def execPartnerLost (t : Nat) (c : Fin 2) (node : Nat) : State → Result :=
  whenCore t fun s =>
    match s.net.partners.find? (·.isNode c node) with
    | some p => if p.lost = false ∧ p.heardAt + s.partnerTimeout p ≤ s.now then s.losePartner p else s
    | none => s

/-- PARTNER_FORGET (R439): a lost learned partner is removed after 0x2E04.06. -/
def execPartnerForget (t : Nat) (c : Fin 2) (node : Nat) : State → Result :=
  whenCore t fun s =>
    match s.net.partners.find? (·.isNode c node) with
    | some p =>
      if p.lost ∧ p.configured = false ∧ p.lostAt + s.cfg 0x2E0406 * second ≤ s.now then
        s.onNet fun n => { n with partners := dropFirst (· == p) n.partners }
      else s
    | none => s

/-! ### PDO transmission (R427–R429) -/

/-- The key of a communication object of a TPDO. -/
def tpdoKey (n u : Nat) : Nat := 0x180000 + 256 * n + u

/-- R428: the TPDO maps a plant-output object. -/
def State.isPlantTpdo (s : State) (n : Nat) : Bool := s.head.image.any fun im => im.plantTpdos.contains n

/-- A frame to every controller that sends. -/
def State.canAll (s : State) (cob : Nat) (data : List Byte) : State :=
  (ctrlNos.filter fun c => (s.ctrl c).sends).foldl (fun s c => s.send (.can c cob data)) s

/-- R428: a TPDO with its data leaves on each controller that sends; one that maps a plant output carries its status byte first and
passes the gate. -/
def State.transmitTpdo (s : State) (n : Nat) (data : List Byte) : State :=
  let cob := s.cfg (tpdoKey n 0x01)
  if cob.testBit 31 ∨ ctrlNos.all (fun c => !(s.ctrl c).sends) then s
  else if s.isPlantTpdo n then
    if s.gateOpen = false then s.gateDrop
    else
      let q := (tget s.net.tpdoSeq n 0 + 1) % 16
      let b := 16 * q + leAt data 0 1 % 16
      ((s.onNet fun x => { x with tpdoSeq := tset x.tpdoSeq n q, tpdoAt := tset x.tpdoAt n s.now }).setObj (0x2E0A01 + n) b).canAll
        (cob % 2 ^ 11) (BitVec.ofNat 8 b :: data.drop 1)
  else (s.onNet fun x => { x with tpdoAt := tset x.tpdoAt n s.now }).canAll (cob % 2 ^ 11) data

/-- R427: the inhibit time of a TPDO, in 100 µs, has passed. -/
def State.tpdoFree (s : State) (n : Nat) : Bool :=
  (tfind s.net.tpdoAt n).all fun i => decide (i + s.cfg (tpdoKey n 0x03) * 100000 ≤ s.now)

/-- An event-driven TPDO goes out with the data it holds. -/
def State.tpdoNow (s : State) (n : Nat) : State :=
  (s.onNet fun x => { x with tpdoWait := x.tpdoWait.filter (· != n) }).transmitTpdo n (tget s.net.tpdoData n [])

/-- R427, R429: a TPDO's data is built: an event-driven one is queued at once, or waits for its inhibit time; a synchronous one
waits for its SYNC. -/
def State.tpdoBuilt (s : State) (n : Nat) (data : List Byte) : State :=
  let s1 := s.onNet fun x => { x with tpdoData := tset x.tpdoData n data }
  if s.net.nmt ≠ .operational ∨ s.cfg (tpdoKey n 0x02) ≤ 240 then s1
  else if s.tpdoFree n then s1.tpdoNow n
  else s1.onNet fun x => { x with tpdoWait := x.tpdoWait.filter (· != n) ++ [n] }

/-- SYNC (R425, R427): synchronous TPDOs of type k leave at every k-th SYNC. -/
def execSync (t : Nat) (c : Fin 2) : State → Result :=
  whenCore t fun s =>
    if (s.ctrl c).hears ∧ s.net.nmt = .operational then
      let s1 := s.onNet fun n => { n with syncs := n.syncs + 1 }
      (List.range 16).foldl (fun s n =>
        let k := s.cfg (tpdoKey n 0x02)
        if 1 ≤ k ∧ k ≤ 240 ∧ s.net.syncs % k = 0 ∧ (tfind s.net.tpdoData n).isSome then s.transmitTpdo n (tget s.net.tpdoData n []) else s) s1
    else s

/-- TPDO_EVENT_TIMER (R427): the event timer of a TPDO, in ms, or the inhibit time that a built one waits for has expired. -/
def execTpdoEventTimer (t : Nat) (n : Fin 16) : State → Result :=
  whenCore t fun s =>
    let ms := s.cfg (tpdoKey n 0x05)
    let timer := ms ≠ 0 ∧ (tfind s.net.tpdoAt n).any fun i => decide (i + ms * msec ≤ s.now)
    if s.net.nmt = .operational ∧ 254 ≤ s.cfg (tpdoKey n 0x02) ∧ s.tpdoFree n ∧ (s.net.tpdoWait.contains n ∨ timer) then s.tpdoNow n else s

/-! ### Emergencies on the bus (R430, R432) -/

/-- EMERGENCY_INHIBIT_EXPIRY (R430): the next message of the queue may go. Trips go out in Watch too (R501). -/
def execEmergencyInhibitExpiry (t : Nat) (c : Fin 2) : State → Result :=
  whenPowered t fun s => s.startEmcy c

/-- EMERGENCY_FRAME_SENT (R430): the message on the bus is out. -/
def execEmergencyFrameSent (t : Nat) (c : Fin 2) : State → Result :=
  whenPowered t fun s =>
    let k := s.ctrl c
    if k.sending then
      ((s.setCtrl c { k with emcy := k.emcy.drop 1, sending := false }).onNet fun n =>
        { n with emcySent := (n.emcySent + 1) % 2 ^ 32 }).startEmcy c
    else s

/-! ### Records over CAN (R436, R437, R452) -/

/-- R436: the record channel of a COB-ID. -/
def State.recordChannel (s : State) (cob : Nat) : Option Nat :=
  if cob = 0 then none
  else (List.range 256).find? fun r => s.cfg (if r < 128 then 0x2E4001 + r else 0x2E4101 + (r - 128)) == cob

/-- The stream bound to a record channel of a controller (R74). -/
def State.canStream (s : State) (c r : Nat) : Option Nat :=
  s.boundTo fun k a => k == 5 && bits a 3 0 == c && bits a 15 8 == r

/-- The record in progress on a channel. -/
def State.recordBuf (s : State) (c r : Nat) : Option RecordBuf := s.net.records.find? fun x => x.ctrl == c && x.chan == r

/-- The records of the other channels. -/
def State.forgetRecord (s : State) (c r : Nat) : State :=
  s.onNet fun n => { n with records := n.records.filter fun x => !(x.ctrl == c && x.chan == r) }

/-- R437: a record is dropped: counted, event 0xA00E. -/
def State.dropRecord (s : State) (c r : Nat) : State := ((s.forgetRecord c r).incr 0x2E4202).emit 0xA00E

/-- R437: the last fragment: the record is complete, or its length does not match. -/
def State.endRecord (s : State) (x : RecordBuf) : State :=
  if x.data.length = x.len then
    match s.canStream x.ctrl x.chan with
    | some n => (s.forgetRecord x.ctrl x.chan).deliver n x.data.length x.data true none
    | none => s.forgetRecord x.ctrl x.chan
  else s.dropRecord x.ctrl x.chan

/-- A fragment joins its record. -/
def State.joinRecord (s : State) (x : RecordBuf) (last : Bool) (bs : List Byte) : State :=
  let y := { x with data := x.data ++ bs, next := x.next + 1 }
  let s1 := (s.forgetRecord x.ctrl x.chan).onNet fun n => { n with records := n.records ++ [y] }
  if last then s1.endRecord y else if y.len < y.data.length then s1.dropRecord x.ctrl x.chan else s1

/-- R87, R436: the first fragment of a record: its length is checked before anything is held. -/
def State.firstFragment (s : State) (c r : Nat) (last : Bool) (data : List Byte) : State :=
  let len := if leAt data 2 2 = 0 then 65536 else leAt data 2 2
  let s1 := if (s.recordBuf c r).isSome then s.dropRecord c r else s
  match s1.canStream c r with
  | none => s1
  | some n =>
    if (s1.stream n).limits.unit < len then (s1.incr (streamKey n 0x12)).emit 0x3004 n
    else s1.joinRecord { chan := r, ctrl := c, len := len, next := 0, data := [], since := s.now } last (data.drop 4)

/-- R437: a later fragment. -/
def State.nextFragment (s : State) (c r index : Nat) (last : Bool) (data : List Byte) : State :=
  match s.recordBuf c r with
  | none => s
  | some x => if index = x.next then s.joinRecord x last (data.drop 2) else s.dropRecord c r

/-- CAN_RECORD_FRAGMENT (R436, R437). -/
def execCanRecordFragment (t : Nat) (c : Fin 2) (cob : Nat) (data : List Byte) : State → Result :=
  whenCore t fun s =>
    if (s.ctrl c).hears then
      match s.recordChannel cob with
      | none => s
      | some r =>
        let h := leAt data 0 2
        if h.testBit 15 ∧ bits h 13 0 = 0 then s.firstFragment c r (h.testBit 14) data
        else s.nextFragment c r (bits h 13 0) (h.testBit 14) data
    else s

/-- RECORD_REASSEMBLY_TIMEOUT (R437). -/
def execRecordReassemblyTimeout (t : Nat) (c : Fin 2) (chan : Nat) : State → Result :=
  whenCore t fun s =>
    match s.recordBuf c chan with
    | some x => if x.since + s.cfg 0x2E4201 * msec ≤ s.now then s.dropRecord c chan else s
    | none => s

/-! ### Reset communication (R423, R452, R483, R487) -/

/-- R423: the communication objects are reloaded, records in progress are dropped, transfers end, and the controllers listen. -/
def State.resetCommunication (s : State) : State :=
  let s1 := s.net.records.foldl (fun s x => s.dropRecord x.ctrl x.chan) s
  let s2 := (s1.onDict fun d => { d with sel := none, window := [], wlen := 0, resetComm := false }).restoreCommunication
  let s3 := s2.setInForce (joinTables (s2.inForce.filter fun e => !(inCommunication (e.1 / 256))) (s2.od.filter fun e => inCommunication (e.1 / 256)))
  let s4 := (((s3.toNmt .initialisation).startCtrl 0).startCtrl 1).syncPartners
  s4.leaveInitialisation

/-- R423, R483: reset communication; it waits for the end of a store. -/
def State.nmtResetComm (s : State) : State :=
  if s.dict.store.isSome then s.onDict fun d => { d with resetComm := true } else s.resetCommunication

/-- RESET_COMMUNICATION (R423); one that comes during a store waits for its end (R483). -/
def execResetCommunication (t : Nat) (c : Fin 2) (node : Nat) : State → Result :=
  nmtCommand t c node 0x82 State.nmtResetComm

/-! ### Bus errors and bus load (R440, R441) -/

/-- ERROR_PASSIVE (R440). -/
def execErrorPassive (t : Nat) (c : Fin 2) : State → Result :=
  whenCore t fun s => if (s.ctrl c).canopen ∧ (s.ctrl c).err = 0 then (s.onCtrl c fun k => { k with err := 1 }).emit 0xA004 else s

/-- R440: the entry to bus-off: queued frames are discarded, the delay doubles within 10 s, and the eighth within 60 s holds the
controller off. -/
def State.enterBusOff (s : State) (c : Nat) : State :=
  let k := s.ctrl c
  let recent := s.now :: k.busOffs.filter fun i => decide (s.now < i + 60 * second)
  let factor := if k.busOffs.head?.any (fun i => decide (s.now ≤ i + 10 * second)) then min 16 (2 * k.factor) else 1
  let held := decide (8 ≤ recent.length)
  let s1 := (s.setCtrl c { k with
    err := if held then 4 else 2, busOffs := recent, factor := factor, emcy := [], sending := false }).emit 0xA005
  if held then s1.emit 0xA007 else s1

/-- BUS_OFF (R440). -/
def execBusOff (t : Nat) (c : Fin 2) : State → Result :=
  whenCore t fun s => if (s.ctrl c).hears then s.enterBusOff c else s

/-- BUS_OFF_RECOVERY (R440): the recovery delay at 0x2E0n.0A, doubled as it has been, has passed. -/
def execBusOffRecovery (t : Nat) (c : Fin 2) : State → Result :=
  whenCore t fun s =>
    let k := s.ctrl c
    if k.err = 2 ∧ (k.busOffs.head?.getD 0) + s.cfg (ctrlKey c 0x0A) * k.factor * msec ≤ s.now then
      (s.setCtrl c { k with err := 0 }).emit 0xA006
    else s

/-- RELEASE_HELD_OFF_CONTROLLER (R440): a write of 1 to 0x2E0n.0B. -/
def execReleaseHeldOffController (t : Nat) (p : Path) (c : Fin 2) (v : Nat) : State → Result :=
  whenCore t fun s => s.controlledNum p (ctrlKey c 0x0B) v fun s =>
    s.onCtrl c fun k => if k.err = 4 then { k with err := 0 } else k

/-- BUS_LOAD_WINDOW (R441): the load of 100 ms in 0.01 %, and the busiest identifier outside the own tables. -/
def execBusLoadWindow (t : Nat) (c : Fin 2) (load busiest : Nat) : State → Result :=
  whenCore t fun s =>
    let s1 := ((s.setObj (ctrlKey c 0x08) (load % 2 ^ 16)).setObj (ctrlKey c 0x09) (busiest % 2 ^ 16)).observe 8 c load
    if s.cfg 0x2E0407 < load then s1.emitLimited second 0xA008 0xFFFF 0 c else s1

/-- STORE_COMPLETE (R481–R483): the read-back of a store, and what waited for its end. -/
def State.storeEnds (s : State) (ok : Bool) : State :=
  let s1 := s.storeCompletes ok
  if s1.dict.store = none ∧ s1.dict.resetComm then s1.resetCommunication else s1

end Sys2Proof.Machine
end

