-- ==== Sys2Proof/Machine/Lss.lean ====
section
/-! DEFINITION. LSS under CiA 305 (R434, R435, R453), with its commands. The command specifiers and error codes are those of CiA 305
(notes/assumptions/44.md). -/
namespace Sys2Proof.Machine

/-- R426, R434, R463: a part of the LSS address of a controller: vendor, product, revision, serial. -/
def State.lssPart (s : State) (c n : Nat) : Nat :=
  match n with
  | 0 => 0x00544846
  | 1 => 0x00004216
  | 2 => 0x4201 * 2 ^ 16 + bits s.firmwareVersion 31 24
  | _ => Config.serial.toNat % 2 ^ 31 + 2 ^ 31 * c

/-- A controller that runs CANopen hears LSS commands; its answer does not wait for silence to end (R433). -/
def State.whenLss (s : State) (c : Nat) (f : State → State) : State := if (s.ctrl c).hears then f s else s

/-- A service of the configuration state. -/
def State.whenConfig (s : State) (c : Nat) (f : State → State) : State := s.whenLss c fun s => if (s.ctrl c).lssConfig then f s else s

/-- SWITCH_STATE_GLOBAL (R434). -/
def execSwitchStateGlobal (t : Nat) (c : Fin 2) (config : Bool) : State → Result :=
  whenCore t fun s => s.whenLss c fun s => s.onCtrl c fun k => { k with lssConfig := config }

/-- SWITCH_STATE_SELECTIVE (R434): the four parts of an LSS address. -/
def execSwitchStateSelective (t : Nat) (c : Fin 2) (addr : List Nat) : State → Result :=
  whenCore t fun s => s.whenLss c fun s =>
    if addr = (List.range 4).map (s.lssPart c) then (s.onCtrl c fun k => { k with lssConfig := true }).send (.lss c 0x44 0) else s

/-- R434: a node-ID that LSS may assign. -/
def lssNodeOk (v : Nat) : Bool := (decide (1 ≤ v) && decide (v ≤ 127)) || v == 0xFF

/-- CONFIGURE_NODE_ID (R433, R434, R453): it waits for the next reset communication, and ends a silence. -/
def execConfigureNodeId (t : Nat) (c : Fin 2) (v : Nat) : State → Result :=
  whenCore t fun s => s.whenConfig c fun s =>
    if lssNodeOk v then
      (((s.setObj (ctrlKey c 0x03) v).onCtrl c fun k => { k with silenced := false }).emit 0xA002).send (.lss c 0x11 0)
    else s.send (.lss c 0x11 1)

/-- The bit rates of the table indices 0 to 4. -/
def lssRates : List Nat := [1000000, 800000, 500000, 250000, 125000]

/-- CONFIGURE_BIT_TIMING (R434): another index is answered with error code 1. -/
def execConfigureBitTiming (t : Nat) (c : Fin 2) (v : Nat) : State → Result :=
  whenCore t fun s => s.whenConfig c fun s =>
    match lssRates[v]? with
    | some r => (s.onCtrl c fun k => { k with lssPending := some r }).send (.lss c 0x13 0)
    | none => s.send (.lss c 0x13 1)

/-- ACTIVATE_BIT_TIMING (R434). -/
def execActivateBitTiming (t : Nat) (c : Fin 2) : State → Result :=
  whenCore t fun s => s.whenConfig c fun s =>
    match (s.ctrl c).lssPending with
    | some r => (s.onCtrl c fun k => { k with nominal := r, lssPending := none }).setObj (ctrlKey c 0x05) r
    | none => s

/-- R434: node-ID and bit rate go to retained state beside what the newest copy holds. -/
def State.lssSnapshot (s : State) (c : Nat) : Table Nat :=
  let es := (s.newest.map (·.entries)).getD []
  tset (tset es (ctrlKey c 0x03) (s.obj (ctrlKey c 0x03))) (ctrlKey c 0x05) ((s.ctrl c).lssPending.getD (s.obj (ctrlKey c 0x05)))

/-- STORE_CONFIGURATION (R434, R483): answered when the store ends; refused while another runs. -/
def execStoreConfiguration (t : Nat) (c : Fin 2) : State → Result :=
  whenCore t fun s => s.whenConfig c fun s =>
    if s.dict.store.isSome ∨ s.log.pfail then s.send (.lss c 0x17 2)
    else s.beginStore .can 0x101002 (s.lssSnapshot c) s.boot.marks false (some c)

/-- INQUIRE_IDENTITY (R434): one part of the LSS address. -/
def execInquireIdentity (t : Nat) (c : Fin 2) (part : Fin 4) : State → Result :=
  whenCore t fun s => s.whenConfig c fun s => s.send (.lss c (0x5A + part) (s.lssPart c part))

/-- INQUIRE_NODE_ID (R434): the node-ID in force. -/
def execInquireNodeId (t : Nat) (c : Fin 2) : State → Result :=
  whenCore t fun s => s.whenConfig c fun s => s.send (.lss c 0x5E (s.ctrl c).node)

/-- IDENTIFY_REMOTE_SLAVE (R434): vendor and product equal, revision and serial in their ranges. -/
def execIdentifyRemoteSlave (t : Nat) (c : Fin 2) (vendor product revLo revHi serLo serHi : Nat) : State → Result :=
  whenCore t fun s => s.whenLss c fun s =>
    if vendor = s.lssPart c 0 ∧ product = s.lssPart c 1 ∧ revLo ≤ s.lssPart c 2 ∧ s.lssPart c 2 ≤ revHi ∧ serLo ≤ s.lssPart c 3 ∧
        s.lssPart c 3 ≤ serHi then s.send (.lss c 0x4F 0)
    else s

/-- IDENTIFY_NON_CONFIGURED_SLAVE (R434). -/
def execIdentifyNonConfiguredSlave (t : Nat) (c : Fin 2) : State → Result :=
  whenCore t fun s => s.whenLss c fun s => if (s.ctrl c).node = 0xFF then s.send (.lss c 0x50 0) else s

/-- R434: a scan step that the address matches: the part's bits from `check` up; the last bit moves on, and behind the last part the
slave is in the configuration state. -/
def State.scanStep (s : State) (c id check sub next : Nat) : State :=
  let k := s.ctrl c
  if check = 128 then (s.setCtrl c { k with fastPos := 0 }).send (.lss c 0x4F 0)
  else if sub = k.fastPos ∧ check < 32 ∧ id / 2 ^ check = s.lssPart c sub / 2 ^ check then
    (if check = 0 then s.setCtrl c { k with fastPos := next, lssConfig := decide (next < sub) } else s).send (.lss c 0x4F 0)
  else s

/-- FASTSCAN (R434): answered by a controller without a node-ID that is in the waiting state. -/
def execFastscan (t : Nat) (c : Fin 2) (id bitCheck sub next : Nat) : State → Result :=
  whenCore t fun s => s.whenLss c fun s =>
    if (s.ctrl c).node = 0xFF ∧ (s.ctrl c).lssConfig = false then s.scanStep c id bitCheck sub next else s

end Sys2Proof.Machine
end

