-- ==== Sys2Proof/Machine/Ethernet.lean ====
section
/-! DEFINITION. PLCA on the 10BASE-T1S port, ARP and ICMP (R442–R445, R455), with their commands. -/
namespace Sys2Proof.Machine

/-! ### PLCA (R442, R444) -/

/-- R442: PLCA is enabled: the ID at 0x2E06.01 is not 255. -/
def State.plcaOn (s : State) : Bool := s.cfg 0x2E0601 != 255

/-- PLCA_STATUS_CHANGE (R442, R455). -/
def execPlcaStatusChange (t : Nat) (ok : Bool) : State → Result :=
  whenCore t fun s =>
    if s.plcaOn ∧ ok ≠ s.net.plcaOk then (s.onNet fun n => { n with plcaOk := ok }).emit (if ok then 0xA011 else 0xA010) else s

/-- Instants within the last second, with this one. -/
def State.lastSecond (s : State) (l : List Nat) : List Nat := s.now :: l.filter fun i => decide (s.now ≤ i + second)

/-- R444: four errored transmissions in a TO that is not the own one, within 1 s. -/
def State.erroredIn (s : State) (k : Nat) : State :=
  let l := s.lastSecond (tget s.net.plcaErrs k [])
  let s1 := s.onNet fun n => { n with plcaErrs := tset n.plcaErrs k (l.take 4) }
  if 4 ≤ l.length ∧ k ≠ s.cfg 0x2E0601 then (s1.setObj 0x2E0608 (k % 256)).emitLimited (60 * second) 0xA012 0xFFFF 0 0 else s1

/-- ERRORED_TRANSMISSION (R444). -/
def execErroredTransmission (t opp : Nat) : State → Result := whenCore t fun s => if s.plcaOn then s.erroredIn opp else s

/-- COLLISION (R444): the frame retries; its sixteenth collision drops it. -/
def execCollision (t : Nat) : State → Result :=
  whenCore t fun s =>
    let s1 := (s.incr 0x2E0607).onNet fun n => { n with collisions := n.collisions + 1 }
    if 16 ≤ s1.net.collisions then ((s1.onNet fun n => { n with collisions := 0 }).incr 0x2E060A).emit 0xA014 else s1

/-- TRANSMIT_LIMIT (R444): after 20 ms of continuous transmission the transmitter stops; the frame on the wire is over. -/
def execTransmitLimit (t : Nat) : State → Result :=
  whenCore t fun s => s.onNet fun n => { n with txStopped := true, collisions := 0 }

/-- CARRIER_IN_OWN_TO (R444): twice within 1 s. -/
def execCarrierInOwnTo (t : Nat) : State → Result :=
  whenCore t fun s =>
    if s.plcaOn then
      let l := s.lastSecond s.net.carriers
      let s1 := s.onNet fun n => { n with carriers := l.take 2 }
      if 2 ≤ l.length then (s1.setObj 0x2E0609 1).emit 0xA013 else s1
    else s

/-! ### IPv4 (R445) -/

/-- The IPv4 address of an interface. -/
def State.ownAddress (s : State) (i : Nat) : Nat := s.cfg (0x2E0701 + i)

/-- A frame leaves on the 10BASE-T1S port: its transmitter runs again. -/
def State.transmitUdp (s : State) (o : Out) : State := (s.onNet fun n => { n with txStopped := false }).send o

/-- R445: a broadcast frame on an interface, and whether it is dropped: beyond 1,000 in the second that the first of them began. -/
def State.broadcast (s : State) (i : Nat) : State × Bool :=
  let x := tget s.net.broadcasts i (s.now, 0)
  let y := if s.now < x.1 + second then (x.1, x.2 + 1) else (s.now, 1)
  let s1 := s.onNet fun n => { n with broadcasts := tset n.broadcasts i y }
  if 1000 < y.2 then ((s1.incr 0x2E070D).emitLimited second 0xA015 0xFFFF 0 0, true) else (s1, false)

/-- R445: an ARP packet: another MAC address that claims the own address is reported; a request for the own address is answered. -/
def State.takeArp (s : State) (i sender senderMac target : Nat) (asks : Bool) : State :=
  let own := s.ownAddress i
  let s1 := if own ≠ 0 ∧ sender = own ∧ senderMac ≠ (if h : i < 3 then (Config.macAddress ⟨i, h⟩).toNat else 0) then
    s.emitLimited (60 * second) 0xA016 0xFFFF 0 0 else s
  if asks ∧ own ≠ 0 ∧ target = own then s1.transmitUdp (.arpReply i sender) else s1

/-- ARP (R445): a request is a broadcast. -/
def execArp (t : Nat) (iface : Fin 3) (asks : Bool) (sender senderMac target : Nat) : State → Result :=
  whenCore t fun s =>
    let b := if asks then s.broadcast iface else (s, false)
    if b.2 then b.1 else b.1.takeArp iface sender senderMac target asks

/-- ICMP_ECHO (R445): a request to the own address is answered with its data. -/
def execIcmpEcho (t : Nat) (iface : Fin 3) (src dst : Nat) (data : List Byte) : State → Result :=
  whenCore t fun s =>
    if s.ownAddress iface ≠ 0 ∧ dst = s.ownAddress iface then s.transmitUdp (.icmpReply iface src data) else s

end Sys2Proof.Machine
end

