-- ==== Sys2Proof/Machine/Power.lean ====
section
/-! DEFINITION. Power modes, low-power commands, the spotter and the pre-roll ring, wakes, thermal levels and sensors (R492–R524, R593,
R609, R619), with their commands. A wake's full start and the hand-over of held frames stand in Wakeup.lean. -/
namespace Sys2Proof.Machine

/-! ### The working mode (R493–R496) -/

/-- R493, R495: Reduced is asked for, by the request or by thermal level 1. -/
def State.wantsReduced (s : State) : Bool := s.obj 0x2A0001 == 1 || s.power.thermal == 1

/-- R496: a return to Run counts from the end of what asked for Reduced. -/
def State.noteReturn (s : State) : State :=
  s.onPower fun p => { p with
    toRun := if p.mode = .reduced ∧ s.obj 0x2A0001 = 0 ∧ p.thermal = 0 then some (p.toRun.getD s.now) else none }

/-- R499: the mode in force changes: event 0xB001. -/
def State.modeTo (s : State) (m : Mode) : State :=
  let s1 := if s.working then s.emit 0xB001 else s
  let s2 := (s1.onPower fun p => { p with mode := m, toRun := none }).incr 0x2A0005
  if s.working then s2 else s2.emit 0xB001

/-- R495: the next accepted edge enters Reduced. -/
def State.entersReduced (s : State) : Bool := s.power.mode == .run && s.wantsReduced

/-- R496: the next accepted edge returns to Run. -/
def State.returnsToRun (s : State) : Bool :=
  s.power.mode == .reduced && s.power.toRun.any fun i => decide (i + 100000 ≤ s.now)

/-- R494: an alternative of the image in force for Reduced covers the period. -/
def State.hasReduced (s : State) : Bool :=
  match s.head.image with
  | some im => (findAlternative im s.tick.period true).isSome
  | none => true

/-- R494–R496: the working mode at an accepted edge, and its alternative. -/
def State.edgeMode (s : State) : State :=
  if s.entersReduced then
    let s1 := s.modeTo .reduced
    let s2 := if s1.hasReduced then s1 else s1.emit 0xB00B
    (s2.pickAlternative s2.tick.period true).noteReturn
  else if s.returnsToRun then
    let s1 := s.modeTo .run
    s1.pickAlternative s1.tick.period false
  else s

/-- WORKING_MODE_REQUEST (R493): a write of 0x2A00.01. -/
def execWorkingModeRequest (t : Nat) (p : Path) (v : Nat) : State → Result :=
  whenCore t fun s => s.controlledNum p 0x2A0001 v fun s => (s.request 0x2A0001 v).noteReturn

/-! ### Low-power commands (R497, R499, R522) -/

/-- R499, R522: a low-power command; Watch is taken only where none stands, Retained-off takes the place of Watch. -/
def State.lowPower (s : State) (v : Nat) : State :=
  if v = 3 then s.onPower fun p => { p with command := 3, deferring := none }
  else if s.working ∧ s.power.command = 0 then s.onPower fun p => { p with command := 2, deferring := none, deferred := false }
  else s

/-- WATCH_COMMAND (R497): a write of 2 to 0x2A00.03. -/
def execWatchCommand (t : Nat) (p : Path) : State → Result :=
  whenCore t fun s => s.controlledNum p 0x2A0003 2 fun s => s.lowPower 2

/-- RETAINED_OFF_COMMAND (R497, R505): a write of 3 to 0x2A00.03. -/
def execRetainedOffCommand (t : Nat) (p : Path) : State → Result :=
  whenCore t fun s => s.controlledNum p 0x2A0003 3 fun s => s.lowPower 3

/-- R510: the maximum deferral at 0x2A10.05 has elapsed. -/
def State.deferralOver (s : State) : Bool :=
  s.power.deferring.any fun i => decide (i + s.obj 0x2A1005 * msec ≤ s.now)

/-- DEFERRAL_TIMEOUT (R510): the deferral ends; the next accepted edge enters Watch. -/
def execDeferralTimeout (t : Nat) : State → Result :=
  whenPowered t fun s => if s.deferralOver then s.onPower fun p => { p with deferring := none, deferred := true } else s

/-- R510: a wake phrase drops a command that is deferred: event 0xB003. -/
def State.dropDeferred (s : State) : State :=
  if s.power.command = 2 ∧ s.power.deferring.isSome then
    (s.onPower fun p => { p with command := 0, deferring := none, deferred := false }).emit 0xB003
  else s

/-- What an accepted edge does about a low-power mode: nothing, an entry to Watch, or an entry to Retained-off. -/
inductive Entry where
  | stay | watch | off
deriving DecidableEq, Repr

/-- R499, R500, R510, R517, R522: what enters at an accepted edge. A store in progress is waited for. -/
def State.entry (s : State) : Entry :=
  if s.dict.store.isSome then .stay
  else if s.power.command = 3 then .off
  else if 2 ≤ s.power.thermal then .watch
  else if s.power.command = 2 ∧ (!s.power.armed ∨ s.power.deferred ∨ s.deferralOver) then .watch
  else .stay

/-- R510: a deferral begins at an accepted edge: event 0xB002. -/
def State.edgeDefer (s : State) : State :=
  if s.entry = .stay ∧ s.power.command = 2 ∧ s.power.armed ∧ s.power.deferring = none ∧ s.dict.store.isNone then
    ((s.onPower fun p => { p with deferring := some s.now }).incr 0x2A100A).emit 0xB002
  else s

/-! ### Entry to Watch and Retained-off (R500, R505) -/

/-- R500: units that wait in a pool in SRAM are lost with it and counted (notes/assumptions/45.md). -/
def State.loseUnits (s : State) (n : Nat) : State :=
  let x := s.stream n
  if x.limits.mem = 0 then
    let d := dropWaiting x.pool
    (s.onStream n fun x => { x with pool := d.1 }).incr (streamKey n 0x1B) d.2
  else s

/-- R498, R507: the slabs of 4 MiB that keep their contents. -/
def retained (mask a : Nat) : Bool := mask.testBit (a / 2 ^ 22)

/-- R492, R498: the SRAM that is not retained loses its contents; they read as after a power-on (notes/assumptions/5.md). -/
def State.loseSram (s : State) (mask : Nat) : State :=
  (s.setSram (s.sram.filter fun c => retained mask c.1)).onComp fun c => { c with bad := c.bad.filter (retained mask) }

/-- R546: the watchdogs of the control cores stop. -/
def State.stopDogs (s : State) : State := (List.range 4).foldl (fun s k => s.setDog k { s.dog k with state := 3 }) s

/-- R549: a lifetime entry, and with Retained-off the erase-count table; a power fail stops it (notes/assumptions/46.md). -/
def State.entryRecords (s : State) (off : Bool) : State :=
  if s.log.pfail then s
  else
    let s1 := s.appendLifetime true
    if off then s1.writeEraseTable true else s1

/-- R500: what every low-power mode stops. -/
def State.stopWork (s : State) : State :=
  let s1 := s.abortRunning.stopChucks
  let s2 := (List.range 16).foldl State.loseUnits s1
  let s3 := ([0, 1].foldl State.encRestart s2).onXfer fun x => { x with tlb := [] }
  (s3.stopPorts 0).dropRole.stopDogs.noiseLost

/-- R500: the entry to Watch (notes/assumptions/47.md). -/
def State.enterWatch (s : State) : State :=
  let s1 := s.stopWork.entryRecords false
  let commanded := s.power.command = 2
  (((s1.modeTo .watch).incr 0x2A0007).loseSram (s.cfg 0x2A0201)).onPower fun p => { p with
    coreEn := false, railsOk := false, wakeAt := none, retryAt := none, admitFrom := none, command := 0, deferring := none
    deferred := false, thermalWatch := !commanded, spotterDecides := p.armed || p.spotterDecides }

/-- R505: the entry to Retained-off: the fault log is flushed, everything but the backup rail and the wake logic loses power, the
ALARM pins are low. -/
def State.enterOff (s : State) : State :=
  let s1 := ((if s.log.pfail then s else s.flushAll none).stopWork.entryRecords true).modeTo .retainedOff
  ((s1.setSram []).setDram []).onAlarm (fun a => { a with pins := 0 }) |>.onPower fun p => { p with
    coreEn := false, sramEn := false, railsOk := false, wakeAt := none, retryAt := none, admitFrom := none, command := 0
    deferring := none, deferred := false, thermalWatch := false }

/-! ### The exit from Watch (R504, R520) -/

/-- R504: CORE_EN asserts for an exit at this instant. -/
def State.startExit (s : State) : State :=
  s.onPower fun p => { p with coreEn := true, wakeAt := some s.now, railsOk := false, retryAt := none }

/-- R336, R504: a slot whose slabs were not all retained loads and hashes again. -/
def State.reloadLost (mask : Nat) (x : Slot) : Slot :=
  if x.state = 0 ∨ (List.range 32).all (fun b => !(x.slabs.testBit b) || mask.testBit b) then x
  else { x with state := 1, reload := false, failNext := false }

/-- R504, R520: the cores resume: watchdogs restart, the role starts anew, lost slots load. -/
def State.resumeCores (s : State) : State :=
  let mask := s.cfg 0x2A0201
  let s1 := s.onPower fun p => { p with railsOk := true, admitFrom := p.wakeAt.map (· + 4200000) }
  let s2 := (List.range 4).foldl State.dogRestart s1
  let s3 := s2.onComp fun c => { c with slots := c.slots.map fun e => (e.1, State.reloadLost mask e.2) }
  let s4 := s3.onHead fun h => { h with loading := h.loading.map fun l =>
    { l with slots := l.slots.map fun e => (e.1, State.reloadLost mask e.2) } }
  let s5 := s4.onRed fun r => { r with lapsed := !r.keeperRuns }
  if s5.pair then (s5.roleTo .starting 1).startJoins else s5

/-- RAILS_NOT_GOOD (R504): 2.5 ms after the wake. -/
def execRailsNotGood (t : Nat) : State → Result :=
  whenPowered t fun s =>
    if s.power.coreEn ∧ s.power.railsOk = false ∧ s.power.wakeAt.any (fun w => decide (w + 2500000 ≤ s.now)) then
      (s.onPower fun p => { p with coreEn := false, retryAt := some (s.now + 10 * msec) }).emit 0xB00A
    else s

/-- WAKE_RETRY (R504): 10 ms after the rails failed; the retry is the instant w of its own attempt. -/
def execWakeRetry (t : Nat) : State → Result :=
  whenPowered t fun s => if s.power.retryAt.any (fun i => decide (i ≤ s.now)) then s.startExit else s

/-- R504: an accepted edge ends Watch: the cores have resumed, the noise source is ready, and w + 4.2 ms has passed. -/
def State.exitsWatch (s : State) : Bool :=
  s.power.mode == .watch && s.coreOn && s.noise.state == 1 && s.power.admitFrom.any fun i => decide (i < s.now)

/-- R493, R504, R509: the mode after Watch; a spotter armed at this edge decides its phrase. -/
def State.leaveWatch (s : State) : State :=
  let m := if s.wantsReduced then Mode.reduced else Mode.run
  let s1 := (s.onPower fun p => { p with
    wakeAt := none, admitFrom := none, thermalWatch := false, spotterDecides := p.armed }).modeTo m
  let s2 := if m = .reduced ∧ s1.hasReduced = false then s1.emit 0xB00B else s1
  (s2.pickAlternative s2.tick.period (m == .reduced)).noteReturn

/-! ### CAN frames in Watch (R502) -/

/-- R502: a frame with the SDO or USDO server COB-ID of the controller, or with a wake COB-ID. -/
def State.wakesOn (s : State) (c cob : Nat) : Bool :=
  let k := s.ctrl c
  k.hears && ((k.node != 0xFF && cob == 0x600 + k.node) ||
    (cob != 0 && [4, 5, 6, 7].any fun u => s.cfg (0x2A0100 + u) == cob))

/-- CAN_WAKE_FRAME (R502): the always-on core serves the bus while the control cores do not run. -/
def execCanWakeFrame (t : Nat) (c : Fin 2) (cob : Nat) (data : List Byte) : State → Result :=
  whenPowered t fun s =>
    if s.power.mode = .watch ∧ s.coreOn = false ∧ s.wakesOn c cob then s.wakeFrame c cob data else s

/-! ### The spotter (R506–R511, R521) -/

/-- R506: a wake stream is named and bound to a TDM source. -/
def State.wakeStream (s : State) : Bool :=
  let n := s.cfg 0x2A1001
  decide (n < 16) && (s.stream n).kind == 2

/-- R507: the pre-roll ring takes a frame of 160 samples. -/
def State.takeFrame (s : State) (samples : List (BitVec 16)) : State :=
  s.onPower fun p => { p with ring := (({ stamp := s.stamp, samples := samples.take 160 } : PreRoll) :: p.ring).take 256
                              frameNo := p.frameNo + 1 }

/-- R508, R509: the spotter arms as its score reaches the threshold; a phrase that arms in Watch is the spotter's. -/
def State.armSpotter (s : State) (prev score : Nat) : State :=
  if s.power.armed = false ∧ prev < s.cfg 0x2A1003 ∧ s.cfg 0x2A1003 ≤ score then
    s.onPower fun p => { p with armed := true, arm := some s.stamp, spotterDecides := p.mode == .watch }
  else s

/-- R511: a spotter-decided detection requests the re-score job of the image in force. -/
def State.requestRescore (s : State) (woke : Bool) : State :=
  let s1 := s.onPower fun p => { p with phrase := some { arm := p.arm.getD s.stamp, det := s.stamp, woke := woke } }
  match s.head.image.bind (·.rescoreJob) with
  | some j => if (s.jobEntry j).isSome then s1.demandJob j none [] 0 true else s1
  | none => s1

/-- R508, R510, R511: a detection: reported, a deferred command drops, the phrase is re-scored, the device wakes. -/
def State.detect (s : State) : State :=
  let woke := s.power.mode = .watch ∧ s.flag 0x2A0101 0 ∧ s.power.thermal < 2 ∧ s.power.wakeAt = none
  let s1 := (((s.onPower fun p => { p with armed := false, lastDetection := some s.stamp }).incr 0x2A1007).emit 0xB005).dropDeferred
  (if s.power.spotterDecides then s1.requestRescore woke else s1).wakeCause 0

/-- R508, R521: a new score. -/
def State.scoreFrame (s : State) (score : Nat) : State :=
  let prev := s.power.score
  let s1 := (s.onPower fun p => { p with score := score }).armSpotter prev score
  if s1.power.armed ∧ prev < s.cfg 0x2A1004 ∧ s.cfg 0x2A1004 ≤ score then s1.detect
  else if score < s.cfg 0x2A1003 then s1.onPower fun p => { p with armed := false }
  else s1

/-- SPOTTER_FRAME_END (R507, R508): every 10 ms in every mode but Retained-off. -/
def execSpotterFrameEnd (t : Nat) (score : BitVec 16) (samples : List (BitVec 16)) : State → Result :=
  whenPowered t fun s => if s.wakeStream then (s.takeFrame samples).scoreFrame score.toNat else s

/-! ### Sensors and thermal levels (R513–R515, R609, R619) -/

/-- Table: Thermal levels: the level after a reading, in 0.1 °C, for the ordered grade. -/
def thermalLevel (xa : Bool) (old : Nat) (h : Int) : Nat :=
  let in1 := if xa then decide (1100 < h) else decide (1120 ≤ h)
  let out1 := decide (h ≤ if xa then 1050 else 1070)
  let in2 := decide ((if xa then 1280 else 1200) ≤ h)
  let out2 := decide (h ≤ if xa then 1230 else 1150)
  if in2 ∨ (old = 2 ∧ !out2) then 2
  else if in1 ∨ (1 ≤ old ∧ !out1) then 1
  else 0

/-- R493: the level that forces a mode other than the request. -/
def State.forcingLevel (s : State) : Nat :=
  if s.power.thermal = 2 then 2 else if s.power.thermal = 1 ∧ s.obj 0x2A0001 = 0 then 1 else 0

/-- R499, R513: the thermal level follows the hottest junction; a thermal Watch ends below level 2. -/
def State.thermalTo (s : State) (v : Nat) : State :=
  if v = s.power.thermal then s
  else
    let s1 := ((s.onPower fun p => { p with thermal := v }).emit 0xB009).noteReturn
    if s1.power.mode = .watch ∧ s1.power.thermalWatch ∧ v < 2 ∧ s1.power.wakeAt = none then s1.startExit else s1

/-- Errors that a port has counted. -/
def State.portErrors (s : State) (k : Nat) : Nat := s.obj (portKey k 0x06) + s.obj (portKey k 0x0A)

/-- R525: source 7: the errors of the millisecond on a port. -/
def State.observeLink (s : State) (k : Nat) : State :=
  let n := s.portErrors k
  (s.observe 7 (k + 1) ((n : Int) - tget s.health.linkErrors k 0)).onHealth fun h => { h with linkErrors := tset h.linkErrors k n }

/-- Values of a list observed at a source, by their places. -/
def State.observeAll (s : State) (source i : Nat) (vs : List Int) : State :=
  (vs.zipIdx i).foldl (fun s x => s.observe source x.2 x.1) s

/-- R525: sources 5 to 7 sample every 1 ms; the monitors are not powered in Watch (R501). -/
def State.observeSensors (s : State) : State :=
  if s.coreRails then
    let s1 := (s.observeAll 5 0 s.power.junctions).observe 5 0xFF s.power.hottest
    let s2 := s1.observeAll 6 0 (s.power.supplies.map Int.ofNat)
    (s2.observeLink 0).observeLink 1
  else s

/-- R523: a millisecond in which a level forces a mode. -/
def State.countForced (s : State) : State :=
  if s.forcingLevel = 0 then s else s.onPower fun p => { p with forcedMs := p.forcedMs + 1 }

/-- The hottest of readings. -/
def hottestOf (js : List Int) : Int :=
  match js with
  | [] => 250
  | j :: r => r.foldl max j

/-- THERMAL_SAMPLE (R513, R525, R548, R619): the readings of one millisecond. -/
def execThermalSample (t : Nat) (r : Readings) : State → Result :=
  whenPowered t fun s =>
    let h := hottestOf r.junctions
    let s1 := s.onPower fun p => { p with junctions := r.junctions, supplies := r.supplies, vbat := r.vbat, hottest := h }
    (((s1.thermalTo (thermalLevel (Config.grade == 1) s1.power.thermal h)).countForced).lifetimeSample h).observeSensors

/-- THERMAL_TRIP (R515, R614): the comparator holds the device in reset until a power cycle. -/
def execThermalTrip (t : Nat) : State → Result :=
  whenPowered t fun s =>
    (s.unclaim.onAlarm fun a => { a with pins := 0 }).onPower (fun p => { p with
      trip := true, tripSticky := true, coreEn := false, railsOk := false }) |>.onBoot fun b => { b with on := false }

end Sys2Proof.Machine
end

