-- ==== Sys2Proof/Machine/Health.lean ====
section
/-! DEFINITION. The commands of monitors, freeze, power fail, watchdogs and lifetime (R525–R559). Those after which a reset node may
follow stand in Boot.lean. -/
namespace Sys2Proof.Machine

/-! ### Monitors (R527) -/

/-- The key of a monitor's control. -/
def monitorKey (m : Nat) : Nat := 0x2B100A + 256 * m

/-- R527: a monitor's control: 1 snapshot, 2 snapshot and clear, 3 clear. -/
def State.monitorControl (s : State) (m v : Nat) : State :=
  let x := s.monitor m
  let y := if v = 3 then x else x.snapshot s.time.dev
  s.setMonitor m (if v = 1 then y else y.clear)

/-- MONITOR_SNAPSHOT (R527). -/
def execMonitorSnapshot (t : Nat) (p : Path) (m : Fin 48) : State → Result :=
  whenCore t fun s => s.controlledNum p (monitorKey m) 1 fun s => s.monitorControl m 1

/-- MONITOR_SNAPSHOT_AND_CLEAR (R527). -/
def execMonitorSnapshotAndClear (t : Nat) (p : Path) (m : Fin 48) : State → Result :=
  whenCore t fun s => s.controlledNum p (monitorKey m) 2 fun s => s.monitorControl m 2

/-- MONITOR_CLEAR (R527). -/
def execMonitorClear (t : Nat) (p : Path) (m : Fin 48) : State → Result :=
  whenCore t fun s => s.controlledNum p (monitorKey m) 3 fun s => s.monitorControl m 3

/-! ### Freeze (R537) -/

/-- R537: a freeze: wrap erases are suspended, event 0xC012; while frozen the timer restarts. -/
def State.freeze (s : State) : State :=
  if s.log.frozen.isSome then s.onLog fun l => { l with frozen := some s.now }
  else (s.onLog fun l => { l with frozen := some s.now, frozenDev := s.time.dev }).emit 0xC012

/-- R537: a release by command, event 0xC013. -/
def State.releaseFreeze (s : State) : State :=
  if s.log.frozen.isSome then (s.onLog fun l => { l with frozen := none }).emit 0xC013 else s

/-- FREEZE (R537): a write of 1 to 0x2C01.01. -/
def execFreeze (t : Nat) (p : Path) : State → Result :=
  whenCore t fun s => s.controlledNum p 0x2C0101 1 State.freeze

/-- FREEZE_RELEASE (R537): a write of 2 to 0x2C01.01. -/
def execFreezeRelease (t : Nat) (p : Path) : State → Result :=
  whenCore t fun s => s.controlledNum p 0x2C0101 2 State.releaseFreeze

/-- FREEZE_TIMEOUT (R537): 0x2C01.03 since the last freeze write. -/
def execFreezeTimeout (t : Nat) : State → Result :=
  whenPowered t fun s =>
    if s.log.frozen.any (fun i => decide (i + s.cfg 0x2C0103 * second ≤ s.now)) then s.thaw 2 else s

/-! ### Power fail (R538–R540) -/

/-- R538: the sequence of a power fail: its record, the end of a store, the flush. -/
def State.powerFails (s : State) : State :=
  let left := s.log.unflushed.length - 128
  let s1 := s.onLog fun l => { l with pfail := true, pfHighAt := none }
  let s2 := s1.onHealth fun h => { h with live := { h.live with pfails := (h.live.pfails + 1) % 2 ^ 32 } }
  (s2.emit 0xC018 0xFFFF (s2.powerFailArg left)).storePowerFails.powerFailFlush

/-- PWRFAIL_N_ASSERTED (R538, R540): low for 1 µs; until power is restored a new assertion runs no second sequence. -/
def execPwrfailAsserted (t : Nat) : State → Result :=
  whenPowered t fun s => if s.log.pfail then s.onLog fun l => { l with pfHighAt := none } else s.powerFails

/-- PWRFAIL_N_DEASSERTED (R540): the 100 ms begin. -/
def execPwrfailDeasserted (t : Nat) : State → Result :=
  whenPowered t fun s => if s.log.pfail then s.onLog fun l => { l with pfHighAt := some s.now } else s

/-- POWER_RESTORED (R540): PWRFAIL_N has been high for 100 ms: event 0xC019, and NOR work resumes. -/
def execPowerRestored (t : Nat) : State → Result :=
  whenPowered t fun s =>
    if s.log.pfail ∧ s.log.pfHighAt.any (fun i => decide (i + 100 * msec ≤ s.now)) then
      ((s.onLog fun l => { l with pfail := false, pfHighAt := none }).emit 0xC019).eraseAhead
    else s

/-! ### Watchdogs (R544–R546, R553) -/

/-- The core runs: a control core with the core rails, the always-on core with its domain. -/
def State.coreRuns (s : State) (k : Nat) : Bool := s.coreOn || k == 4

/-- R392: what the halt of core 0 does to the role keeper. -/
def State.coreHalts (s : State) (k : Nat) : State := if k = 0 then s.keeper false else s

/-- R545: a watchdog expires and its core halts. -/
def State.dogHalts (s : State) (k reason pc : Nat) : State := (s.dogExpires k reason pc).coreHalts k

/-- WATCHDOG_SERVICE (R544): an early one expires the watchdog; the program counter that it captures is a free value. -/
def execWatchdogService (t : Nat) (k : Fin 5) : State → Result :=
  whenPowered t fun s =>
    if s.coreRuns k ∧ (s.dog k).state = 0 then
      if s.now < (s.dog k).last + dogOpen k then (s.draw 11).2.dogHalts k 2 (s.draw 11).1
      else s.setDog k { s.dog k with last := s.now, lastDev := s.time.dev }
    else s

/-- WATCHDOG_EXPIRY (R545): the timeout passed without a service. -/
def execWatchdogExpiry (t : Nat) (k : Fin 5) (pc : BitVec 32) : State → Result :=
  whenPowered t fun s =>
    if s.coreRuns k ∧ (s.dog k).state = 0 ∧ (s.dog k).last + dogTimeout k ≤ s.now then s.dogHalts k 1 pc.toNat else s

/-- R580: debug access is granted. -/
def State.debugOpen (s : State) : Bool := s.boot.lockLevel == 0 || (s.boot.lockLevel == 1 && s.boot.unlocked)

/-- R546: a debugger halts a core; its watchdog freezes. -/
def State.debugHalt (s : State) (k : Nat) : State :=
  let s1 := s.onHealth fun h => { h with halted := if h.halted.contains k then h.halted else k :: h.halted }
  (if (s1.dog k).state = 0 then s1.setDog k { s1.dog k with state := 1 } else s1).coreHalts k

/-- DEBUG_HALT (R546, R580): a refused access raises 0xD013 at most once per second. -/
def execDebugHalt (t : Nat) (k : Fin 5) : State → Result :=
  whenPowered t fun s => if s.debugOpen then s.debugHalt k else s.emitLimited second 0xD013 0xFFFF 0 0

/-- R546: a debugger resumes a core. -/
def State.debugResume (s : State) (k : Nat) : State :=
  if s.health.halted.contains k then
    let s1 := s.onHealth fun h => { h with halted := h.halted.filter (· != k) }
    let s2 := if (s1.dog k).state = 1 then s1.dogRestart k else s1
    if k = 0 ∧ (s2.dog 0).state = 0 then s2.keeper true else s2
  else s

/-! ### Lifetime (R549) -/

/-- LIFETIME_ENTRY (R549): every 600 s. -/
def execLifetimeEntry (t : Nat) (writeOk : Bool) : State → Result :=
  whenPowered t fun s =>
    if s.log.pfail = false ∧ s.health.entryAt + 600 * second ≤ s.now then s.appendLifetime writeOk else s

/-- ERASE_COUNT_WRITE (R549): every 24 h. -/
def execEraseCountWrite (t : Nat) (writeOk : Bool) : State → Result :=
  whenPowered t fun s =>
    if s.log.pfail = false ∧ s.health.eraseAt + 86400 * second ≤ s.now then s.writeEraseTable writeOk else s

end Sys2Proof.Machine
end

