-- ==== Sys2Proof/Machine/TickSource.lean ====
section
/-! DEFINITION. The tick source: sources and their edges, the measurement of TICK_IN, losses, holdover and switch-overs (R52–R63, R622),
with the commands that accept no edge. Those that accept one stand in Edge.lean. -/
namespace Sys2Proof.Machine

/-! ### Periods and grids (R52) -/

/-- R52: the period of a rate in 0.001 Hz. -/
def periodOf (rate : Nat) : Nat := 10 ^ 12 / rate

/-- R52: the instant of the next edge of the internal source. -/
def TickSt.internalEdge (x : TickSt) : Nat := x.startAt + x.edgeNo * 10 ^ 12 / x.nominal

/-- R52: edge k of a TAI second at whole hertz, from the second. -/
def gridOffset (hz k : Nat) : Nat := (2 * k * 10 ^ 9 + hz) / (2 * hz)

/-- R52: the first PTP-derived grid instant at or after a device time. -/
def gridAfter (hz phase v : Nat) : Nat :=
  let w := v - phase
  let sec := w / second * second
  let k := w % second * hz / 10 ^ 9
  let g := if w % second ≤ gridOffset hz k then gridOffset hz k else gridOffset hz (k + 1)
  if v ≤ phase then phase else sec + g + phase

/-- R52: the device time of the next PTP-derived edge. -/
def TickSt.ptpEdge (x : TickSt) : Nat := gridAfter (max 1 (x.nominal / 1000)) x.phase x.gridFrom

/-- The tolerance of the acceptance window of a period. -/
def tolerance (period : Nat) : Nat := 5 * period / 1000

/-- The last accepted edge; before the first one, this instant. -/
def State.lastEdge (s : State) : Nat := s.tick.lastEdge.getD s.now

/-- The tick source has been started (R572) and its edges are accepted. -/
def State.ticking (s : State) : Bool := s.boot.state == 2 || s.boot.state == 3

/-! ### Start and requests (R54, R58, R622) -/

/-- R622: a source begins before the first accepted edge: TICK_IN in acquire, internal with its edge 0 now, PTP-derived with the
grid from now on. -/
def State.beginSource (s : State) : State :=
  s.onTick fun x => { x with
    source := TickSource.ofCode (s.obj 0x230201), nominal := s.obj 0x230204, phase := s.obj 0x230209, state := .acquire
    startAt := s.now, edgeNo := 0, gridFrom := s.time.dev, acquireAt := s.now }

/-- R572, R622: start step 3: the tick source starts with the tick count at zero. -/
def State.startTick (s : State) : State := (s.onTick fun _ => {}).beginSource

/-- R622: before the first accepted edge a change of source or rate is adopted at once, and the source begins anew. -/
def State.tickRequest (s : State) (k v : Nat) : State :=
  let s1 := s.request k v
  if s.tick.started then s1 else s1.beginSource

/-- TICK_SOURCE_REQUEST (R52, R58, R460): a write of 0x2302.01. After the first accepted edge the change is adopted at the next one
(notes/assumptions/48.md). -/
def execTickSourceRequest (t : Nat) (p : Path) (v : Nat) : State → Result :=
  whenCore t fun s => s.controlledNum p 0x230201 v fun s => s.tickRequest 0x230201 v

/-- NOMINAL_RATE_REQUEST (R54, R460): a write of 0x2302.04. -/
def execNominalRateRequest (t : Nat) (p : Path) (v : Nat) : State → Result :=
  whenCore t fun s => s.controlledNum p 0x230204 v fun s => s.tickRequest 0x230204 v

/-! ### The measurement of TICK_IN (R55, R57, R62) -/

/-- R55: the threshold below which an interval is a glitch. -/
def State.glitchLimit (s : State) : Nat := (if s.tick.period = 0 then 2083333 else s.tick.period) / 2

/-- R55: an edge is a glitch. -/
def State.isGlitch (s : State) : Bool := s.tick.lastIn.any fun i => decide (s.now - i < s.glitchLimit)

/-- R55: a glitch is counted and reported. -/
def State.glitch (s : State) : State := (s.incr 0x23020B).emitLimited second 0x2007 0xFFFF 0 0

/-- R57: a non-glitch edge enters the measurement of the last four intervals. -/
def State.measureEdge (s : State) : State :=
  match s.tick.lastIn with
  | none => s.onTick fun x => { x with lastIn := some s.now, skip := false }
  | some i =>
    (s.onTick fun x => { x with
      lastIn := some s.now, skip := false
      intervals := if x.skip then [] else (x.intervals ++ [s.now - i]).drop (x.intervals.length - 3) }).setObj 0x23020A
        ((s.now - i) % 2 ^ 32)

/-- R57: four intervals that lie within 0.5 % of their mean give their period. -/
def qualified (l : List Nat) : Option Nat :=
  let m := l.sum
  if l.length = 4 ∧ l.all (fun x => decide (200 * ((4 * x : Nat) - (m : Int)).natAbs ≤ m)) then some (m / 4) else none

/-- R61, R62: measurement starts again from the next edge. -/
def TickSt.remeasure (x : TickSt) : TickSt := { x with intervals := [], skip := true }

/-- R62: a rate is refused: 0x2005 outside 60 Hz to 480 Hz, else 0x2006. -/
def State.refuseRate (s : State) (period : Nat) : State :=
  ((s.onTick TickSt.remeasure).incr 0x23020F).emit (if rateInRange period then 0x2006 else 0x2005)

/-- R58: a qualified period may become the period in force. -/
def State.rateUsable (s : State) (period : Nat) : Bool := rateInRange period && s.covered period

/-! ### Losses, holdover and switch-overs (R58–R63) -/

/-- R60: the generator's period: the mean of the last 16 accepted periods, rounded; the period in force with fewer. -/
def TickSt.holdoverPeriod (x : TickSt) : Nat :=
  if x.periods.length < 16 then x.period else (2 * x.periods.sum + 16) / 32

/-- R58, R60: the input is lost: holdover, event 0x2001. -/
def State.loseInput (s : State) : State :=
  ((s.onTick fun x => { x with
    state := .holdover, holdoverAt := s.now, genPeriod := x.holdoverPeriod, genNominal := false
    genNext := some (s.lastEdge + 2 * x.holdoverPeriod) }).incr 0x23020D).emit 0x2001

/-- TICK_INPUT_LOST (R58): 1.5 × Pl since the last accepted edge. -/
def execTickInputLost (t : Nat) : State → Result :=
  whenPowered t fun s =>
    if s.tick.source = .tickIn ∧ s.tick.state = .locked ∧ s.tick.switch = none ∧
        2 * s.lastEdge + 3 * s.tick.period ≤ 2 * s.now then s.loseInput
    else s

/-- TICK_HOLDOVER_LIMIT (R58, R61, R63): 0x2302.06 in holdover; during a switch-over the state stays. -/
def execTickHoldoverLimit (t : Nat) : State → Result :=
  whenPowered t fun s =>
    if s.tick.state = .holdover ∧ s.tick.switch = none ∧ s.tick.holdoverAt + s.cfg 0x230206 * second ≤ s.now then
      (s.onTick fun x => { x with state := .freeRun }).emit 0x2002
    else s

/-- R61: a switch-over begins: the generator stops at once. -/
def State.startSwitch (s : State) (goal : TickSource) (period : Nat) (fromQualification : Bool) : State :=
  s.onTick fun x => { x with
    genNext := none, held := none
    switch := some { goal := goal, period := period, pl := x.period, qualAt := s.now, was := x.state
                     fromQualification := fromQualification }
    startAt := if goal = .internal then s.lastEdge + x.period else x.startAt
    edgeNo := if goal = .internal then 0 else x.edgeNo
    gridFrom := if goal = .ptpDerived then s.time.dev + (s.lastEdge + x.period - s.now) else x.gridFrom }

/-- R61: the first instant of the generator's own grid later than now. -/
def State.gridResumes (s : State) : Nat :=
  let p := max 1 s.tick.period
  s.lastEdge + ((s.now - s.lastEdge) / p + 1) * p

/-- R61: a switch-over is abandoned: the generator resumes, event 0x2011; a locked state becomes holdover as on a loss. -/
def State.abandonSwitch (s : State) (x : SwitchOver) : State :=
  let s1 := s.onTick fun y => { y.remeasure with
    switch := none, genPeriod := y.period, genNext := some s.gridResumes
    state := if x.was = .locked then .holdover else x.was
    holdoverAt := if x.was = .locked then s.now else y.holdoverAt }
  (if x.was = .locked then (s1.incr 0x23020D).emit 0x2001 else s1).emit 0x2011

/-- R61: the instant at which a switch-over without an edge is abandoned, doubled. -/
def State.switchLimit (s : State) (x : SwitchOver) : Nat := max (2 * s.lastEdge + 3 * x.pl) (2 * x.qualAt + 3 * x.period)

/-- SWITCH_OVER_ABANDONED (R61). -/
def execSwitchOverAbandoned (t : Nat) : State → Result :=
  whenPowered t fun s =>
    match s.tick.switch with
    | some x => if s.switchLimit x ≤ 2 * s.now then s.abandonSwitch x else s
    | none => s

/-! ### Expected edges without an accepted one (R34, R59, R61) -/

/-- R59, R61: the expected edge has passed: outside a switch-over its window has closed, in one its instant has come. -/
def State.edgePassed (s : State) : Bool :=
  match s.tick.switch with
  | some x => x.goal != .internal && decide (s.lastEdge + (s.tick.passed + 1) * x.pl ≤ s.now)
  | none => s.tick.passed == 0 && s.tick.source != .internal && decide (s.lastEdge + s.tick.period + tolerance s.tick.period ≤ s.now)

/-- R34, R59: event 0x100B and its count, and the judgement, at the expected edge, of the running jobs and of those that ended
behind it. -/
def State.passEdge (s : State) : State :=
  let edge := if s.tick.switch.isSome then s.now else s.lastEdge + s.tick.period
  let s1 := ((s.onTick fun x => { x with passed := x.passed + 1 }).incr 0x220005).emit 0x100B
  let s2 := s.head.endedLate.foldl (fun s r => (s.overrun r edge).1) s1
  (s2.judgeRunning edge).onHead fun h => { h with endedLate := [] }

/-- WINDOW_CLOSE (R59, R501): in Watch no admission is expected. -/
def execWindowClose (t : Nat) : State → Result :=
  whenPowered t fun s => if s.working ∧ s.tick.started ∧ s.edgePassed then s.passEdge else s

end Sys2Proof.Machine
end

