-- ==== Sys2Proof/Machine/Firmware.lean ====
section
/-! DEFINITION. Firmware banks, boot header, trial and update, the debug lock and key blocks (R563–R567, R580, R581), with their
commands but for UPDATE_COMMIT, which stands in Boot.lean. -/
namespace Sys2Proof.Machine

/-! ### Boot header (R563) -/

/-- R563: the copy in use is copy 1. -/
def BootSt.secondInUse (b : BootSt) : Bool :=
  match b.header0, b.header1 with
  | some a, some c => newer c.seq a.seq
  | none, some _ => true
  | _, none => false

/-- R563: the header in use. Without a valid copy bank A is preferred (notes/assumptions/49.md). -/
def BootSt.header (b : BootSt) : BootHeader :=
  ((if b.secondInUse then b.header1 else b.header0).getD ⟨0xFFFFFFFE, 0, false, 0⟩)

/-- R563: an update writes the older copy under the next sequence number. -/
def BootSt.putHeader (b : BootSt) (h : BootHeader) : BootSt :=
  let n := { h with seq := nextSeq b.header.seq }
  if b.secondInUse ∨ b.header0.isNone then { b with header0 := some n } else { b with header1 := some n }

/-! ### Verification (R564) -/

/-- R564: what the check of a bank's content finds, from shipped content or from the pages written. -/
def FwBank.content (b : FwBank) : Option FwInfo :=
  match b.info with
  | some i => some i
  | none => (Config.firmware b.pages).map fun x => ⟨x.1, x.2.1, x.2.2.1, x.2.2.2⟩

/-- R564: the bank of a number passes. -/
def BootSt.passes (b : BootSt) (n : Nat) : Bool :=
  ((if n = 0 then b.bankA else b.bankB).content).any fun i => b.rootKeys.contains i.signer && decide (b.security ≤ i.security)

/-- R564: the bank that runs: the preferred one, else the other. -/
def BootSt.bankToRun (b : BootSt) : Option Nat :=
  let p := b.header.preferred
  if b.passes p then some p else if b.passes (1 - p) then some (1 - p) else none

/-- R565: the third trial boot without confirmation reverts; a trial boot is counted. The Bool says that it reverts. -/
def BootSt.trialBoot (b : BootSt) : BootSt × Bool :=
  let h := b.header
  if h.trial then
    if 3 ≤ h.trials then (b.putHeader { h with preferred := 1 - h.preferred, trial := false, trials := 0 }, true)
    else (b.putHeader { h with trials := h.trials + 1 }, false)
  else (b, false)

/-- R565: the running trial firmware is confirmed: event 0xD00B. -/
def State.confirmFirmware (s : State) : State :=
  let h := s.boot.header
  if h.trial ∧ s.boot.running = h.preferred then
    let i := (if h.preferred = 0 then s.boot.bankA else s.boot.bankB).content
    (s.onBoot fun b => { b.putHeader { h with trial := false, trials := 0 } with
      security := match i with
        | some i => if i.raisesMin then max b.security i.security else b.security
        | none => b.security }).emit 0xD00B
  else s

/-- CONFIRM_FIRMWARE (R565): a write of 1 to 0x2F01.05. -/
def execConfirmFirmware (t : Nat) (p : Path) (v : Nat) : State → Result :=
  whenCore t fun s => s.controlledNum p 0x2F0105 v State.confirmFirmware

/-! ### Update (R567) -/

/-- The bank that does not run; in recovery the one that is not preferred. -/
def State.spareBank (s : State) : Nat := 1 - s.boot.running % 2

/-- The state with the spare bank set. -/
def State.setSpare (s : State) (x : FwBank) : State :=
  s.onBoot fun b => if s.spareBank = 0 then { b with bankA := x, updating := 1 } else { b with bankB := x, updating := 1 }

/-- R567: 256 bytes are programmed at the offset, which advances; at offset 0 the bank is erased first. -/
def State.updateData (s : State) (data : List Byte) : State :=
  let o := s.obj 0x2F0201
  let x := s.fwBank s.spareBank
  let s1 := if o = 0 then s.countErases (32 + 48 * s.spareBank) 48 else s
  (s1.setSpare { info := none, pages := (if o = 0 then [] else x.pages) ++ [(o, data)] }).setObj 0x2F0201 ((o + 256) % 2 ^ 32)

/-- UPDATE_DATA (R567): a write of 0x2F02.02, also in recovery (R566). -/
def execUpdateData (t : Nat) (p : Path) (data : List Byte) : State → Result :=
  whenServed t fun s => s.controlled p 0x2F0202 data fun s => s.updateData data

/-- R567: the spare bank verifies. -/
def State.updateOk (s : State) : Bool := s.boot.passes s.spareBank

/-- R567: a verified bank becomes preferred on trial: event 0xD00D. -/
def State.updateCommit (s : State) : State :=
  (s.onBoot fun b => { b.putHeader { b.header with preferred := s.spareBank, trial := true, trials := 0 } with updating := 2 }).emit 0xD00D

/-- A write whose value is judged by what it asks for: a refusal is answered with the value-range error and has its own effect. -/
def State.judgedWrite (s : State) (p : Path) (k : Nat) (data : List Byte) (ok : Bool) (eff bad : State → State) : State :=
  if s.served p then
    let e := s.writeError p k data
    if e ≠ 0 then s.refuse p k e
    else if ok then eff (s.acceptWrite p k data)
    else bad (s.refuse p k abortValue)
  else s

/-! ### The debug lock (R580) -/

/-- R580: the message that a token signs. -/
def State.unlockMessage (s : State) : List Byte :=
  leBytes 8 Config.serial.toNat ++ leBytes 8 (Config.nonce s.boot.nonce).toNat

/-- R580, R581: a root key of 32 bytes that is fused and not revoked. -/
def State.rootKey (s : State) (key : List Byte) : Bool := s.boot.rootKeys.contains (sha256 key)

/-- UNLOCK (R580): a 96-byte token on JTAG. -/
def execUnlock (t : Nat) (tok : List Byte) : State → Result :=
  whenPowered t fun s =>
    if s.boot.lockLevel = 1 ∧ tok.length = 96 ∧ s.rootKey (tok.take 32) ∧
        Config.ed25519 (leNat (tok.take 32)) s.unlockMessage (tok.drop 32) then
      (s.onBoot fun b => { b with unlocked := true, nonce := b.nonce + 1 }).emit 0xD012
    else s

/-- R580: the lock level rises and never falls. -/
def State.raiseLock (s : State) (v : Nat) : State := s.onBoot fun b => { b with lockLevel := max b.lockLevel v }

/-- LOCK (R580): a write of 1 to 0x2F06.05. -/
def execLock (t : Nat) (p : Path) : State → Result :=
  whenCore t fun s => s.controlledNum p 0x2F0605 1 fun s => s.raiseLock 1

/-- SEAL (R580): a write of 2 to 0x2F06.05. -/
def execSealDevice (t : Nat) (p : Path) : State → Result :=
  whenCore t fun s => s.controlledNum p 0x2F0605 2 fun s => s.raiseLock 2

/-! ### Key blocks (R581) -/

/-- R581: a key block is accepted. -/
def State.keyBlockOk (s : State) (data : List Byte) : Bool :=
  let slot := leAt data 0 1
  decide (slot ≤ 3) && leAt data 1 3 == 0 && s.rootKey ((data.drop 40).take 32) &&
    Config.ed25519 (leNat ((data.drop 40).take 32)) (data.take 72) (data.drop 72) &&
    decide ((tget s.boot.keys slot (0, 0)).2 < leAt data 36 4)

/-- R581: an accepted block is written to the key sector: event 0xD014. -/
def State.takeKeyBlock (s : State) (data : List Byte) : State :=
  ((s.onBoot fun b => { b with keys := tset b.keys (leAt data 0 1) (leAt data 4 32, leAt data 36 4) }).incr 0x2F3002).emit 0xD014

/-- R581: a key block is judged. -/
def State.keyBlock (s : State) (p : Path) (data : List Byte) : State :=
  s.judgedWrite p 0x2F3001 data (s.keyBlockOk data) (fun s => s.takeKeyBlock data) fun s => s.incr 0x2F3003

/-- KEY_BLOCK (R581): a write of 0x2F30.01. -/
def execKeyBlock (t : Nat) (p : Path) (data : List Byte) : State → Result :=
  whenCore t fun s => s.keyBlock p data

end Sys2Proof.Machine
end

