-- ==== Sys2Proof/Machine/Time.lean ====
section
/-! DEFINITION. Device time and its discipline, the calendar and the RTC (R44–R51), and the commands that move them. -/
namespace Sys2Proof.Machine

/-! ### The calendar (R48) -/

/-- R48: the UTC offset and its origin: the master's while PTP is the source and the time base is locked, else the
requested one with the leap adjustment. -/
def State.utcChoice (s : State) : Int × Nat :=
  let own := s.cfgInt 0x230102 + s.time.leapAdj
  let ownOrigin := if s.time.leapAdj = 0 then 0 else 2
  match s.time.masterUtc with
  | some u => if (s.time.actual = 1 ∨ s.time.actual = 3) ∧ s.time.state = .locked then (u, 1) else (own, ownOrigin)
  | none => (own, ownOrigin)

/-- R48: the offset in force follows; a change raises 0x200F. -/
def State.updateUtc (s : State) : State :=
  let c := s.utcChoice
  let s' := s.onTime fun x => { x with utc := c.1, origin := c.2 }
  if c.1 = s.time.utc then s' else s'.emit 0x200F

/-! ### States of the time base (R44) -/

/-- R44: the runs of consecutive measurements restart. -/
def TimeSt.restartRuns (x : TimeSt) : TimeSt := { x with runIn := 0, runOut := 0, runStep := 0 }

/-- A change of time base state with its event. -/
def State.toBase (s : State) (b : BaseState) (code : Nat) : State :=
  ((s.onTime fun x => { x with state := b, runIn := 0, runOut := 0,
                               holdoverAt := if b = .holdover then s.now else x.holdoverAt }).emit code).updateUtc

/-- R44: a change of the actual time source restarts every run. -/
def State.setActualSource (s : State) (v : Nat) : State :=
  if v = s.time.actual then s else (s.onTime fun x => { x.restartRuns with actual := v }).updateUtc

/-- R44: the adopted request becomes the time source; none makes the time base free-running. -/
def State.adoptTimeSource (s : State) : State :=
  let r := s.cfg 0x230002
  if r = s.time.source then s
  else
    let s' := s.onTime fun x => { x with source := r, taiKnown := false, lastMeas := s.now, lastPps := x.dev
                                         state := if r = 0 then .freeRun else x.state
                                         freq := if r = 0 then 0 else x.freq }
    s'.setActualSource r

/-! ### Steps (R46, R47) -/

/-- The RTC takes device time (R50, R592). -/
def TimeSt.writeRtc (x : TimeSt) (now : Nat) : TimeSt :=
  { x with rtcSec := x.dev / second, rtcFrac := x.dev % second * 32768 / second, rtcAt := now, rtcValid := true,
           retentionLost := false, lastRtc := some now }

/-- R46: device time after a step by an amount; the measured PTP offset and the last second move with it. -/
def TimeSt.step (x : TimeSt) (amt : Int) (sets : Bool) : TimeSt :=
  { x with dev := ((x.dev : Int) + amt).toNat % 2 ^ 64, epoch := x.epoch + 1, steps := (x.steps + 1) % 2 ^ 32
           lastStep := amt, history := (amt :: x.history).take 15, pending := none, stepped := true, runStep := 0
           calendar := x.calendar || sets, ptpOff := x.ptpOff + amt, lastPps := x.lastPps + amt }

/-- R46, R47: a step takes effect: event 0x200C; a set-time write also writes the RTC (R50). -/
def State.takeStep (s : State) (p : PendingStep) : State :=
  match p with
  | .amount d sets => ((s.onTime fun x => x.step d sets).emit 0x200C).noteCalendar
  | .target v =>
    ((s.onTime fun x => (x.step ((v : Int) - x.dev) true).writeRtc s.now).emit 0x200C).noteCalendar

/-- R46, R622: a step that is due waits for the next accepted edge, replacing an earlier one; before the first accepted
edge of a start it takes effect at once, and the PTP grid runs on from the stepped time. -/
def State.stepDue (s : State) (p : PendingStep) : State :=
  if s.tick.started then s.onTime fun x => { x with pending := some p }
  else
    let s1 := s.takeStep p
    s1.onTick fun x => { x with gridFrom := s1.time.dev }

/-- R42, R46: what an accepted edge does to device time: a pending step takes effect. -/
def State.edgeStep (s : State) : State :=
  let s' := s.onTime fun x => { x with stepped := false }
  match s.time.pending with
  | none => s'
  | some p => s'.takeStep p

/-! ### Measurements (R44–R46) -/

/-- R45: the servo's correction, limited to ±500 ppm; the law of the servo is open (notes/assumptions/7.md). -/
def State.slew (s : State) (off : Int) : State :=
  (s.onTime fun x => { x with freq := clamp (-500000) 500000 (Config.servo s.free off) }).drew

/-- R44: the counts of consecutive measurements. -/
def TimeSt.count (x : TimeSt) (off : Int) (lock step now : Nat) : TimeSt :=
  let a := off.natAbs
  { x with offset := off, lastMeas := now
           runIn := if a ≤ lock then x.runIn + 1 else 0
           runOut := if 4 * lock < a then x.runOut + 1 else 0
           runStep := if step < a then x.runStep + 1 else 0 }

/-- Table: Time base state machine, on a measurement. -/
def State.baseTransition (s : State) : State :=
  match s.time.state with
  | .locked => if 4 ≤ s.time.runOut then s.toBase .freeRun 0x200B else s
  | _ => if 8 ≤ s.time.runIn then s.toBase .locked 0x2009 else s

/-- R44–R46: one measurement of device time minus the reference's. -/
def State.measure (s : State) (off : Int) (sets : Bool) : State :=
  let s1 := (s.onTime fun x => x.count off (s.cfg 0x230007) (s.cfg 0x230008) s.now).observe 9 0 off
  let s2 := s1.baseTransition
  if s.cfg 0x230008 < off.natAbs then
    if 2 ≤ s2.time.runStep then s2.stepDue (.amount (-off) sets) else s2
  else s2.slew off

/-! ### PTP measurements and PPS_IN (R44) -/

/-- R44, R449: a PTP offset measures when PTP serves alone, and gives the TAI second when it serves with PPS_IN. -/
def State.ptpMeasure (s : State) (off : Int) : State :=
  if s.time.source = 1 ∨ s.time.source = 3 then
    let s' := s.onTime fun x => { x with ptpOff := off, taiKnown := true }
    if s.time.actual = 1 then s'.measure off true else s'
  else s

/-- The whole second nearest a time in nanoseconds. -/
def nearestSecond (v : Int) : Int := (v + 500000000) / 1000000000 * 1000000000

/-- R605, R616: a pulse on TICK_IN or PPS_IN passes the pad: never below 50 ns, always from 100 ns, in between it may. -/
def State.padPasses (s : State) (pulse : Nat) : Bool × State :=
  if pulse < 50 then (false, s)
  else if 100 ≤ pulse then (true, s)
  else ((s.draw 1).1 % 2 == 1, (s.draw 1).2)

/-- R44: a PPS_IN edge on its polarity, corrected for the cable's delay. -/
def State.ppsEdge (s : State) : State :=
  let c := (s.time.dev : Int) - s.cfgInt 0x23000E
  if s.time.source = 2 then
    let sec := nearestSecond c
    (s.onTime fun x => { x with lastPps := sec }).measure (c - sec) false
  else if s.time.source = 3 then
    let p := c - s.time.ptpOff
    let sec := nearestSecond p
    if s.time.taiKnown = false ∨ 100000000 < (p - sec).natAbs then s.incr 0x23000F
    else ((s.onTime fun x => { x with lastPps := nearestSecond c }).setActualSource 3).measure (c - sec) true
  else s

/-- The third missed second is complete 3.100 s after the last edge's second (R44). -/
def State.ppsMissed (s : State) : Bool := decide (s.time.lastPps + 3100000000 ≤ (s.time.dev : Int))

/-! ### The commands -/

/-- SET_TIME (R47). -/
def execSetTime (t : Nat) (p : Path) (v : Nat) : State → Result :=
  whenCore t fun s => s.controlledNum p 0x230105 v fun s => s.stepDue (.target v)

/-- PPS_IN_EDGE (R44, R616). PPS_IN is measured in Watch too (R501). -/
def execPpsInEdge (t : Nat) (rising : Bool) (pulse : Nat) : State → Result :=
  whenPowered t fun s =>
    if rising = (s.cfg 0x23000D == 0) ∧ (s.padPasses pulse).1 then (s.padPasses pulse).2.ppsEdge
    else (s.padPasses pulse).2

/-- PPS_SECONDS_MISSED (R44). -/
def execPpsSecondsMissed (t : Nat) : State → Result :=
  whenPowered t fun s =>
    if s.ppsMissed then
      if s.time.source = 3 ∧ s.time.actual = 3 then s.setActualSource 1
      else if s.time.source = 2 ∧ s.time.state = .locked then s.toBase .holdover 0x200A
      else s
    else s

/-- TIME_BASE_HOLDOVER (R44). -/
def execTimeBaseHoldover (t : Nat) : State → Result :=
  whenPowered t fun s =>
    if s.time.state = .locked ∧ s.time.actual = 1 ∧ s.time.lastMeas + 3 * second ≤ s.now then
      s.toBase .holdover 0x200A
    else s

/-- TIME_BASE_FREE_RUN (R44). -/
def execTimeBaseFreeRun (t : Nat) : State → Result :=
  whenPowered t fun s =>
    if s.time.state = .holdover ∧ s.time.holdoverAt + s.cfg 0x230009 * second ≤ s.now then
      s.toBase .freeRun 0x200B
    else s

/-- The second of the UTC day under the offset in force. -/
def State.utcSecond (s : State) : Int := ((s.time.dev / second : Nat) - s.time.utc) % 86400

/-- R48: the end of the UTC day of a pending leap second (notes/assumptions/22.md). -/
def State.leapDue (s : State) : Bool :=
  (s.time.leapPending == 1 && s.utcSecond == 1) || (s.time.leapPending == -1 && s.utcSecond == 86399)

/-- LEAP_SECOND (R48). -/
def execLeapSecond (t : Nat) : State → Result :=
  whenPowered t fun s =>
    if s.leapDue then
      (s.onTime fun x => { x with leapAdj := x.leapAdj + x.leapPending, leapPending := 0 }).updateUtc
    else s

/-- RTC_WRITE (R50). -/
def execRtcWrite (t : Nat) : State → Result :=
  whenPowered t fun s =>
    if s.time.state = .locked ∧ s.time.lastRtc.all (fun i => decide (i + second ≤ s.now)) then s.onTime fun x => x.writeRtc s.now else s

/-- RETENTION_LOST (R592): the detector on the backup rail works in every mode. -/
def execRetentionLost (t : Nat) : State → Result :=
  always t fun s => s.onTime fun x => { x with retentionLost := true }

/-- R49: the RTC's count in 1/32,768 s at an instant. -/
def TimeSt.rtcNow (x : TimeSt) (now : Nat) : Nat :=
  x.rtcSec * 32768 + x.rtcFrac + (now - x.rtcAt) * 32768 / second

/-- R49, R592: device time at power-on from the RTC, or 0 with event 0x200E. -/
def State.loadRtc (s : State) : State :=
  if s.time.rtcValid ∧ ¬ s.time.retentionLost then
    s.onTime fun x => { x with dev := x.rtcNow s.now * second / 32768, rem := 0, calendar := true }
  else
    (s.onTime fun x => { x with dev := 0, rem := 0, calendar := false, rtcValid := false }).emit 0x200E

end Sys2Proof.Machine
end

