-- ==== Sys2Proof/Machine/Ptp.lean ====
section
/-! DEFINITION. The PTP port: Sync, Follow_Up, Announce, Delay_Req and Delay_Resp of a slave-only ordinary clock (R448,
R449). -/
namespace Sys2Proof.Machine

/-- R448: the message belongs to the domain and transport in force. -/
def State.ptpOurs (s : State) (h : PtpHeader) : Bool :=
  h.domain == s.cfg 0x2E0802 && h.transport == s.cfg 0x2E0801

/-- R448: a message with another transportSpecific is ignored and counted; one of another domain or transport is not for
this port. -/
def State.ptpMessage (s : State) (h : PtpHeader) (f : State → State) : State :=
  if s.ptpOurs h = false then s
  else if h.specific ≠ 0 then s.incr 0x2E0807
  else f s

/-- The message comes from the chosen master. -/
def State.fromMaster (s : State) (h : PtpHeader) : Bool := s.ptp.chosen == some h.clock

/-- R449: a Sync result gives one measurement once a mean path delay exists. `t1` is its origin, `t2` its reception. -/
def State.syncResult (s : State) (t1 t2 : Nat) : State :=
  let s := s.onPtp fun x => { x with last := some (t1, t2) }
  match s.ptp.delay with
  | none => s
  | some d => s.ptpMeasure ((t2 : Int) - ((t1 : Int) + d))

/-- PTP_SYNC (R448, R449): a one-step Sync is a result; a two-step Sync waits for its Follow_Up. -/
def execPtpSync (t : Nat) (h : PtpHeader) (twoStep : Bool) (origin : Nat) : State → Result :=
  whenCore t fun s => s.ptpMessage h fun s =>
    if s.fromMaster h then
      if twoStep then s.onPtp fun x => { x with waiting := some (h.seq, s.time.dev) }
      else s.syncResult origin s.time.dev
    else s

/-- PTP_FOLLOW_UP (R448): completes the two-step Sync of its sequence. -/
def execPtpFollowUp (t : Nat) (h : PtpHeader) (origin : Nat) : State → Result :=
  whenCore t fun s => s.ptpMessage h fun s =>
    match s.ptp.waiting with
    | some (q, t2) =>
      if s.fromMaster h ∧ q = h.seq then
        (s.onPtp fun x => { x with waiting := none }).syncResult origin t2
      else s
    | none => s

/-- The better of two masters: the lower rank, then the lower clock identity (R449: the default BMCA). -/
def betterMaster (a b : Master) : Master :=
  if a.ann.rank < b.ann.rank then a else if b.ann.rank < a.ann.rank then b else if a.clock ≤ b.clock then a else b

/-- The best of masters. -/
def bestMaster : List Master → Option Master
  | [] => none
  | m :: r =>
    match bestMaster r with
    | none => some m
    | some b => some (betterMaster m b)

/-- R448: an announce receipt timeout is 3 intervals. -/
def Master.expired (m : Master) (now : Nat) : Bool := decide (m.heardAt + 3 * 2 ^ m.ann.logInterval * second ≤ now)

/-- R449: currentUtcOffset and the leap flags of the chosen master. -/
def State.takeAnnounce (s : State) (a : Announce) : State :=
  (s.onTime fun x => { x with
    masterUtc := if a.utcValid then some a.utcOffset else none
    leapPending := if a.leap61 then 1 else if a.leap59 then -1 else 0 }).updateUtc

/-- R449: the best master is chosen; a change raises 0xA018. -/
def State.chooseMaster (s : State) : State :=
  match bestMaster s.ptp.masters with
  | none => s
  | some m =>
    let s := if s.ptp.chosen = some m.clock then s
      else ((s.onPtp fun x => { x with chosen := some m.clock, delay := none, waiting := none, last := none, req := none
                                       reqAt := s.now, logInterval := 0 }).incr 0x2E0806).emit 0xA018
    s.takeAnnounce m.ann

/-- PTP_ANNOUNCE (R449). -/
def execPtpAnnounce (t : Nat) (h : PtpHeader) (a : Announce) : State → Result :=
  whenCore t fun s => s.ptpMessage h fun s =>
    (s.onPtp fun x => { x with
      masters := ⟨h.clock, a, s.now⟩ :: x.masters.filter (fun m => m.clock != h.clock && !m.expired s.now) }).chooseMaster

/-- 2^n seconds in nanoseconds, n an integer. -/
def logSeconds (n : Int) : Nat := if 0 ≤ n then second * 2 ^ n.toNat else second / 2 ^ (-n).toNat

/-- PTP_DELAY_REQ (R449): sent to the master at its logMessageInterval. -/
def execPtpDelayReq (t : Nat) : State → Result :=
  whenCore t fun s =>
    if s.ptp.chosen.isSome ∧ s.ptp.reqAt ≤ s.now then
      (s.onPtp fun x => { x with req := some (x.reqSeq, s.time.dev), reqSeq := (x.reqSeq + 1) % 2 ^ 16
                                 reqAt := s.now + logSeconds x.logInterval }).send (.delayReq s.ptp.reqSeq)
    else s

/-- PTP_DELAY_RESP (R449): the mean of the two directions' delays. -/
def execPtpDelayResp (t : Nat) (h : PtpHeader) (received : Nat) (logInterval : Int) : State → Result :=
  whenCore t fun s => s.ptpMessage h fun s =>
    match s.ptp.req, s.ptp.last with
    | some (q, t3), some (t1, t2) =>
      if s.fromMaster h ∧ q = h.seq then
        let d := (((t2 : Int) - t1) + ((received : Int) - t3)) / 2
        s.onPtp fun x => { x with delay := some d.toNat, req := none, logInterval := logInterval }
      else s
    | _, _ => s

/-- PTP_MASTER_LOST (R449): every master has timed out; from then on there are no measurements. -/
def execPtpMasterLost (t : Nat) : State → Result :=
  whenCore t fun s =>
    if s.ptp.chosen.isSome ∧ s.ptp.masters.all (·.expired s.now) then
      (((s.onPtp fun x => { x with masters := [], chosen := none, delay := none, waiting := none, last := none
                                   req := none }).onTime fun x => { x with masterUtc := none }).updateUtc).emit 0xA019
    else s

end Sys2Proof.Machine
end

