-- ==== Sys2Proof/Machine/Boot.lean ====
section
/-! DEFINITION. Resets and the start sequence (R560–R587, R595, R624), with the commands that reset the device and those after which a reset
node may follow. A start runs as a whole within its command (notes/assumptions/50.md). -/
namespace Sys2Proof.Machine

/-! ### What a reset keeps (Table: Reset kinds) -/

/-- R560: the counters in NOR and staging of the recorder that a reset node clears; the freeze ends (R537). -/
def RecorderSt.resetNode (l : RecorderSt) : RecorderSt :=
  { l with shavCount := 0, staged := 0, drops := 0, flushes := 0, programErrors := 0, wrapped := 0, pfFlushes := 0, frozen := none
           frozenDev := 0, recent := [] }

/-- R534, R560: the recorder after a power-on or pin reset: the fault log in NOR, and SEQ behind its newest record. -/
def RecorderSt.powerOn (l : RecorderSt) : RecorderSt :=
  { firstLife := l.firstLife, firstRetired := l.firstRetired, ring := l.ring, retired := l.retired
    nextSeq := match newestRec l.inNor with
      | some r => (r.seq + 1) % 2 ^ 32
      | none => 0 }

/-- R560: the backup rail's RTC. -/
def TimeSt.powerOn (x : TimeSt) : TimeSt :=
  { rtcSec := x.rtcSec, rtcFrac := x.rtcFrac, rtcAt := x.rtcAt, rtcValid := x.rtcValid, retentionLost := x.retentionLost }

/-- R549, R550: the lifetime records in NOR; erase counts restart from their table. -/
def HealthSt.powerOn (h : HealthSt) : HealthSt :=
  { entry := h.entry, entrySeq := h.entrySeq, erases := h.eraseTable, eraseTable := h.eraseTable }

/-- What NOR, fuses and the key sector hold; the rest of the boot state begins anew. -/
def BootSt.again (b : BootSt) (env : StartEnv) (cause now : Nat) : BootSt :=
  { header0 := b.header0, header1 := b.header1, bankA := b.bankA, bankB := b.bankB, security := b.security, rootKeys := b.rootKeys
    copy0 := b.copy0, copy1 := b.copy1, imageA := b.imageA, imageB := b.imageB, keys := b.keys, keysInForce := b.keys.map fun e => (e.1, e.2.1)
    lockLevel := b.lockLevel, nonce := b.nonce, env := env, norMiB := env.norMiB, on := true, cause := cause, releasedAt := now
    generatorBad := !env.generatorOk }

/-- Codes 0 and 1: everything but the backup rail and NOR is cleared; the levels at the pins stay. -/
def State.clearAll (s : State) (env : StartEnv) (cause : Nat) : State :=
  { now := s.now, free := s.free, out := s.out, pending := s.pending
    time := s.time.powerOn, log := s.log.powerOn, health := s.health.powerOn, boot := s.boot.again env cause s.now
    link := { id := env.straps % 4 }, red := { peerIn := s.red.peerIn, peerInAt := s.red.peerInAt }
    power := { tripSticky := s.power.tripSticky, coreEn := true, sramEn := true, railsOk := true } }

/-- R559, R560: a watchdog after a reset node: its counter is cleared, its evidence stays, it runs. -/
def Watchdog.resetNode (d : Watchdog) (now dev : Nat) : Watchdog := { d with state := 0, expiries := 0, last := now, lastDev := dev }

/-- Codes 2 to 4: health after a reset node: the lifetime counters run on. -/
def State.healthAfterNode (s : State) : HealthSt :=
  { s.health with
    monitors := [], dogs := (List.range 5).map fun k => (k, (s.dog k).resetNode s.now s.time.dev)
    halted := [], resetPending := none, linkErrors := [], stallsAt := [] }

/-- R560: the wake stream's Chuck stays, with an empty pool. -/
def State.streamsAfterNode (s : State) : Table StreamSt :=
  (s.streams.filter fun e => s.isWake e.1).map fun e => (e.1, { e.2 with pool := e.2.pool.map fun _ => .free })

/-- R560: the counters of the guard domain. -/
def isAlarmCounter (k : Nat) : Bool :=
  decide (0x2400 ≤ k / 256) && decide (k / 256 ≤ 0x2457) && objAccess k == some .ro

/-- Codes 2 to 4: the always-on domain, the time base, the memories and the lifetime counters stay. -/
def State.clearNode (s : State) (env : StartEnv) (cause : Nat) : State :=
  { now := s.now, free := s.free, out := s.out, pending := s.pending
    od := s.od.filter fun e => isAlarmCounter e.1
    time := { s.time with steps := 0 }, alarm := s.alarm, log := s.log.resetNode, health := s.healthAfterNode
    streams := s.streamsAfterNode, sram := s.sram, dram := s.dram, comp := { bad := s.comp.bad }
    boot := { s.boot.again env cause s.now with
      unlocked := s.boot.unlocked, dramMiB := s.boot.dramMiB, training := s.boot.training, trainGood := s.boot.trainGood, eccOn := s.boot.eccOn }
    link := { id := env.straps % 4 }, red := { peerIn := s.red.peerIn, peerInAt := s.red.peerInAt }
    power := { s.power with
      mode := .run, toRun := none, command := 0, deferring := none, deferred := false, thermalWatch := false, wakeAt := none
      retryAt := none, admitFrom := none, coreEn := true, railsOk := true, phrase := none, forcedMs := 0 } }

/-! ### Recovery (R566) -/

/-- R566: neither bank passes, or the NOR's size is out of range: CAN0 as node 0x7F at 500 kbit/s, heartbeats every second. -/
def State.recovery (s : State) : State :=
  let s1 := (s.onBoot fun b => { b with state := 4, running := b.header.preferred }).onAlarm fun a => { a with pins := 0 }
  let s2 := (s1.adopt 0x101700 1000).onCtrl 0 fun _ => { mode := 1, node := 0x7F, nominal := 500000 }
  (s2.sendBootUp 0).onNet fun n => { n with nmt := .preOperational }

/-! ### The start sequence (R572–R577) -/

/-- R382: a configuration goes with a group size and the mode of the image that loads. -/
def configurationOk (code size mode : Nat) : Bool :=
  match code with
  | 0 => size == 1 && mode == 0
  | 1 => size == 2 && mode == 0
  | 2 => decide (2 ≤ size) && decide (size ≤ 4) && mode == 1
  | 3 => size == 2 && mode == 2
  | 4 => size == 4 && mode == 2
  | _ => false

/-- The multi-chip mode of the image that loads. -/
def State.loadingMode (s : State) : Nat := (s.head.loading.map (·.img.multiChip)).getD 0

/-- R382, R387: the group configuration takes effect; a device of a pair begins in Starting. -/
def State.startRole (s : State) : State :=
  let c := s.obj 0x291001
  let s1 := if configurationOk c (s.obj 0x290002) s.loadingMode then s.onRed fun r => { r with config := c, role := .single, since := s.now }
    else (s.onRed fun r => { r with config := 0, role := .single, since := s.now }).emit 0x901C
  if s1.pair then (s1.roleTo .starting 0).startJoins else s1

/-- R574: LPDDR5 is trained with the stored parameters, or fully; without success it stays unused. -/
def State.trainDram (s : State) : State :=
  let e := s.boot.env
  let stored := (s.newest.map (·.train)).getD false && e.dramSame && e.storedTrainingOk
  if stored then s.onBoot fun b => { b with training := 0, trainGood := true, dramMiB := e.dramMiB }
  else
    let s1 := s.emit 0xD007
    if e.fullTrainingOk then s1.onBoot fun b => { b with training := 1, trainGood := true, dramMiB := e.dramMiB }
    else (s1.onBoot fun b => { b with training := 1, trainGood := false, dramMiB := 0 }).emit 0xD008

/-- R575: inline ECC as requested takes 1/8 of the capacity; a change of setting discards the contents. -/
def State.startEcc (s : State) : State :=
  let on := s.obj 0x2F2001 == 1
  let size := if s.boot.dramMiB = 0 then 0 else if on then s.boot.env.dramMiB * 7 / 8 else s.boot.env.dramMiB
  let s1 := s.onBoot fun b => { b with eccOn := on, dramMiB := size }
  if on = s.boot.eccOn then s1 else s1.setDram []

/-- The image of a bank: 1 A, 2 B. -/
def State.bankImage (s : State) (n : Nat) : Option Image := if n = 1 then s.boot.imageA else s.boot.imageB

/-- R576: the requested image bank loads, or once the other one. -/
def State.startImage (s : State) : State :=
  let r := s.obj 0x2F0301
  if r = 0 then s.emit 0xD00A
  else
    let a := s.loadImage (s.bankImage r) r
    if a.2 then a.1
    else
      let b := (a.1.emit 0xD009).loadImage (s.bankImage (3 - r)) (3 - r)
      if b.2 then b.1 else b.1.emit 0xD00A

/-- R570, R622: the objects that units adopt at the start: those of time and tick, of communication and of the network. -/
def State.startAdopt (s : State) : State :=
  s.setInForce (s.od.filter fun e => inCommunication (e.1 / 256) || (decide (0x2300 ≤ e.1 / 256) && decide (e.1 / 256 ≤ 0x2302)))

/-- R527: restored monitor configurations take effect at the first accepted edge. -/
def State.startMonitors (s : State) : State :=
  s.onHealth fun h => { h with monitors := (List.range 48).map fun m => (m, { tget h.monitors m {} with dirty := true }) }

/-- R48: the UTC offset of a start is no change. -/
def State.startUtc (s : State) : State := let c := s.utcChoice; s.onTime fun x => { x with utc := c.1, origin := c.2 }

/-- R572 step 3: retained state is restored, the tick source starts, the alarm bank is committed unless the guard domain ran on
(R573). -/
def State.startStep3 (s : State) (guard : Bool) : State :=
  let s1 := (s.onBoot fun b => { b with state := 2 }).restoreAll.startAdopt.startMonitors
  let s2 := s1.adoptTimeSource.startUtc.startTick.syncPartners
  if guard then s2 else s2.startCommit

/-- R241, R572 steps 4 to 6: generator test, network, LPDDR5, image, role. -/
def State.startSteps (s : State) (guard : Bool) : State :=
  let s1 := if s.boot.generatorBad then (s.emit 0x600A).setObj 0x260402 1 else s
  let s2 := ((s1.startCtrl 0).startCtrl 1).leaveInitialisation
  (if guard then s2 else s2.trainDram).startEcc.startImage.startRole

/-- R564, R565, R572 step 2: the boot ROM chooses firmware, which runs the rest of the start; without any, recovery. -/
def State.bootRom (s : State) (guard : Bool) : State :=
  let tb := s.boot.trialBoot
  let s1 := s.onBoot fun _ => tb.1
  if s.boot.env.norMiB < 64 ∨ 512 < s.boot.env.norMiB then s1.recovery
  else
    match tb.1.bankToRun with
    | none => s1.recovery
    | some n =>
      let s2 := s1.onBoot fun b => { b with running := n }
      let s3 := if tb.2 then s2.emit 0xD00C else s2
      let s4 := if n = tb.1.header.preferred then s3 else s3.emit 0xD002
      (s4.startStep3 guard).startSteps guard

/-- R515: the trip that the backup rail recorded is reported, and its bit clears. -/
def State.reportTrip (s : State) : State :=
  if s.power.tripSticky then (s.onPower fun p => { p with tripSticky := false }).emit 0xB00D else s

/-- Resets 0 and 1: a full start (R560, R624, R49). -/
def State.fullStart (s : State) (env : StartEnv) (cause : Nat) : State :=
  (((s.dropStore.clearAll env cause).startLifetime.loadRtc.noteCalendar).reportTrip).bootRom false

/-- Resets 2 to 4: a reset node (R561). Its links say BYE, its ROLE_OUT deasserts. -/
def State.resetNode (s : State) (env : StartEnv) (cause : Nat) : State :=
  (((s.dropStore.stopPorts 1).unclaim).clearNode env cause).bootRom true

/-! ### The commands -/

/-- POWER_ON_RESET (R560, R597, R615). -/
def execPowerOnReset (t : Nat) (env : StartEnv) : State → Result := always t fun s => s.fullStart env 0

/-- PIN_RESET (R560, R613): a device that the thermal trip holds starts only with a power cycle (Table: Thermal levels). -/
def execPinReset (t : Nat) (env : StartEnv) : State → Result :=
  always t fun s => if s.power.trip then s else s.fullStart env 1

/-- R549, R561: the reset node of an NMT command, behind a lifetime entry. -/
def State.commandReset (s : State) (env : StartEnv) : State :=
  (if s.log.pfail then s else s.appendLifetime true).resetNode env 2

/-- RESET_NODE (R423, R561). -/
def execResetNode (t : Nat) (c : Fin 2) (node : Nat) (env : StartEnv) : State → Result :=
  nmtCommand t c node 0x81 fun s => s.commandReset env

/-- PARITY_ERROR (R551, R560): fatal event 0xC038 and a reset node. -/
def execParityError (t : Nat) (core : Fin 4) (env : StartEnv) : State → Result :=
  whenCore t fun s => ((s.incr 0x2D0601).emit 0xC038 core).resetNode env 4

/-- R545, R553: the reset node that a watchdog asked for follows once its record is flushed and no core is halted. -/
def State.pendingReset (s : State) : State :=
  if s.health.resetPending.isSome ∧ s.health.halted = [] ∧ !(s.log.unflushed.any fun e => e.rec_.sev != 0) then
    s.resetNode s.boot.env 3
  else s

/-- FLUSH (R532, R541): due, and NOR work is not stopped. -/
def execFlush (t : Nat) (programFailAt : Option Nat) : State → Result :=
  whenPowered t fun s => if s.flushDue ∧ s.log.pfail = false then (s.flushAll programFailAt).pendingReset else s

/-- DEBUG_RESUME (R546, R553). -/
def execDebugResume (t : Nat) (k : Fin 5) : State → Result := whenPowered t fun s => (s.debugResume k).pendingReset

/-- R566: a commit in recovery restarts the boot ROM. -/
def State.committed (s : State) : State :=
  if s.boot.state = 4 then (s.updateCommit.onNet fun n => { n with nmt := .initialisation }).bootRom false else s.updateCommit

/-- R566, R567: a write of 1 to 0x2F02.03 is judged. -/
def State.commitUpdate (s : State) (p : Path) (data : List Byte) : State :=
  s.judgedWrite p 0x2F0203 data s.updateOk State.committed fun s => s.onBoot fun b => { b with updating := 3 }

/-- UPDATE_COMMIT (R567). -/
def execUpdateCommit (t : Nat) (p : Path) (v : Nat) : State → Result := whenServed t fun s => s.commitUpdate p [BitVec.ofNat 8 v]

end Sys2Proof.Machine
end

