-- ==== Sys2Proof/Machine/Reads.lean ====
section
/-! DEFINITION. What an object reads (R457–R460, R489): the objects that show a unit's state, block by block; every other one reads its
requested value or its counter. -/
namespace Sys2Proof.Machine

/-- A code with a divergence bit. -/
def withBit (v n : Nat) (b : Bool) : Nat := v + b2n b * 2 ^ n

/-! ### Communication, identity, dictionary (R426, R463, R464, R468, R481, R482) -/

/-- 0x1000–0x1200. The serial of 0x1018.04 is CAN0's (R434). -/
def State.readComm (s : State) (i u : Nat) : Option Nat :=
  match i, u with
  | 0x1001, 0 => some s.errorRegister
  | 0x1003, _ => some (nth s.net.errHistory (u - 1))
  | 0x1010, _ => some 1
  | 0x1011, _ => some 1
  | 0x1018, _ => some (s.lssPart 0 (u - 1))
  | 0x1200, 1 => some (0x600 + (s.ctrl 0).node)
  | 0x1200, 2 => some (0x580 + (s.ctrl 0).node)
  | _, _ => none

/-- The divergence that is oldest, and among those of one instant the first (R468). -/
def oldestDivergence (l : List (Nat × Nat)) : Nat :=
  match l with
  | [] => 0
  | e :: r => (r.foldl (fun a b => if b.2 < a.2 then b else a) e).1

/-- 0x2000–0x2001. -/
def State.readDict (s : State) (i u : Nat) : Option Nat :=
  match i, u with
  | 0x2000, 3 => some Config.grade
  | 0x2000, 4 => some Config.serial.toNat
  | 0x2000, 5 => some s.firmwareVersion
  | 0x2000, 6 => some s.boot.running
  | 0x2000, 7 => some Config.romVersion.toNat
  | 0x2001, 1 => some s.divergent.length
  | 0x2001, 2 => some (oldestDivergence s.dict.divs)
  | _, _ => none

/-! ### Streams (R76, R89, R102, R111) -/

/-- 0x210n.0C without its divergence bit. -/
def StreamSt.code (x : StreamSt) : Nat :=
  if x.recut.isSome then 2 else if x.unconfigured then 3 else if x.kind = 0 then 0 else 1

/-- 0x2100–0x210F. -/
def State.readStream (s : State) (n u : Nat) : Option Nat :=
  let x := s.stream n
  let k := streamKey n 4
  match u with
  | 0x03 => some (withBit x.kind 7 (s.askedSource n != (x.kind, x.addr)))
  | 0x0C => some (withBit x.code 7 (s.askedLimits n != x.limits || s.obj k != s.cfg k))
  | _ => none

/-! ### Tick, ledger, time (R40, R72) -/

/-- 0x2200–0x2208. -/
def State.readTick (s : State) (i u : Nat) : Option Nat :=
  match i, u with
  | 0x2200, 1 => some (s.tick.count % 2 ^ 64)
  | 0x2200, 2 => some s.tick.period
  | 0x2200, 3 => some s.tick.ceiling
  | 0x2200, 4 => some (s.tick.period - s.tick.ceiling)
  | 0x2201, 1 => some s.ledgerId
  | 0x2201, 2 => some s.tick.alt
  | 0x2201, 4 => some s.jobs.length
  | 0x2207, _ =>
    let x := s.stage (u - 1)
    let r := s.obj (0x220600 + u)
    some (withBit (if x.onHost then 2 else 1) 7 (r != 0 && (r == 2) != x.onHost))
  | 0x2208, _ => some (s.occupied (u - 1))
  | _, _ => none

/-- 0x2300–0x2302. -/
def State.readTime (s : State) (i u : Nat) : Option Nat :=
  match i, u with
  | 0x2300, 0x01 => some s.time.dev
  | 0x2300, 0x03 => some (withBit s.time.actual 7 (s.obj 0x230002 != s.time.actual))
  | 0x2300, 0x04 => some s.time.state.code
  | 0x2300, 0x05 => some (pattern 32 s.time.offset)
  | 0x2300, 0x06 => some (pattern 32 s.time.freq)
  | 0x2300, 0x0A => some s.time.steps
  | 0x2300, 0x0B => some (s.time.epoch % 16)
  | 0x2300, 0x0C => some (pattern 64 s.time.lastStep)
  | 0x2301, 1 => some (s.time.dev / second)
  | 0x2301, 3 => some (pattern 16 s.time.utc)
  | 0x2301, 4 => some s.time.origin
  | 0x2301, 6 => some (b2n s.time.rtcValid + 2 * b2n s.time.retentionLost)
  | 0x2301, 7 => some (pattern 8 s.time.leapPending)
  | 0x2302, 2 => some (withBit s.tick.source.code 7 (s.obj 0x230201 != s.tick.source.code))
  | 0x2302, 3 => some s.tickState.code
  | 0x2302, 5 => some (withBit s.tick.nominal 31 (s.obj 0x230204 != s.tick.nominal))
  | _, _ => none

/-! ### Alarm path (R124, R134) -/

/-- Four flags as bits. -/
def flagBits (l : List Bool) : Nat := (l.zipIdx.map fun e => b2n e.1 * 2 ^ e.2).sum

/-- 0x2400–0x2457. -/
def State.readAlarm (s : State) (i u : Nat) : Option Nat :=
  match i, u with
  | 0x2400, 1 => some s.alarm.path
  | 0x2400, 2 => some s.alarm.pins.toNat
  | 0x2400, 3 => some s.alarm.conds.toNat
  | 0x2400, 4 => some s.alarm.latched.toNat
  | 0x2401, 3 => some (withBit (b2n s.alarm.refused) 7 s.banksDiffer)
  | 0x2401, 4 => some (bankCrc s.bk).toNat
  | 0x2401, 5 => some (bankCrc s.obj).toNat
  | _, 0x1A => if 0x2410 ≤ i then some (pattern 32 (s.tap (i - 0x2410)).value) else none
  | _, 0x1B =>
    if 0x2410 ≤ i then some (16 * flagBits (s.tap (i - 0x2410)).compare + flagBits (s.tap (i - 0x2410)).persisted) else none
  | _, _ => none

/-! ### Codecs, passes, generators (R167, R193, R226, R249) -/

/-- 0x2508+c. A context is idle without a stream or a parameter set, and unconfigured while its stream is. -/
def State.readContext (s : State) (c u : Nat) : Option Nat :=
  let x := s.h264 c
  let b := s.head.image.bind fun im => (im.contexts.find? (·.1 == c)).map (·.2)
  let n := (b.map (·.1)).getD 0xFF
  match u with
  | 0x01 => some n
  | 0x02 => some ((x.sps.map (·.profile)).getD 0)
  | 0x03 => some ((x.sps.map (·.level)).getD 0)
  | 0x04 => some ((x.sps.map (·.widthMb)).getD 0)
  | 0x05 => some ((x.sps.map (·.heightMb)).getD 0)
  | 0x0B => some (if b.isSome && (s.stream n).unconfigured then 3 else if x.resync then 2 else if x.sps.isSome then 1 else 0)
  | 0x0E => some ((b.map (·.2)).getD 0)
  | _ => none

/-- 0x2510+e. -/
def State.readEncoder (s : State) (e u : Nat) : Option Nat :=
  let i := s.encImage e
  match u with
  | 0x01 => some ((i.map (·.source)).getD 0xFF)
  | 0x0F => some ((i.map (·.sliceRows)).getD 0)
  | 0x1D => some (if (s.enc e).started then (i.map (·.level)).getD 0 else 0)
  | 0x1E => some (s.encState e)
  | 0x1F => some ((i.map (·.slotSize)).getD 0)
  | _ => none

/-- A job of a pass runs. -/
def State.passRuns (s : State) (p : Nat) : Bool := s.head.running.any fun r => r.entry.kind == .pass p

/-- R221: a requested value of a pass is not the one in force. -/
def State.passDiffers (s : State) (p : Nat) : Bool :=
  (passAtAdmission p).any fun k => s.obj k != tget s.actual k (s.obj k)

/-- 0x2620+p. The spec names no condition for the code 2. -/
def State.readPass (s : State) (p u : Nat) : Option Nat :=
  let i := s.passImage p
  match u with
  | 0x01 => some ((i.map (·.source)).getD 0xFF)
  | 0x02 => some (withBit (b2n (s.passRuns p)) 7 (s.passDiffers p))
  | 0x1F => some ((i.map (·.outType)).getD 0)
  | _ => none

/-- 0x2500–0x264F. -/
def State.readEngines (s : State) (i u : Nat) : Option Nat :=
  if 0x2508 ≤ i ∧ i ≤ 0x250F then s.readContext (i - 0x2508) u
  else if i = 0x2510 ∨ i = 0x2511 then s.readEncoder (i - 0x2510) u
  else if 0x2620 ≤ i ∧ i ≤ 0x263F then s.readPass (i - 0x2620) u
  else if i = 0x2600 ∧ u = 1 then some ((s.head.image.map (·.passes.length)).getD 0)
  else if i = 0x2603 ∧ u = 1 then some s.noise.state
  else none

/-! ### Transfers and compute (R314, R351) -/

/-- R325, R351: the channel that 0x2803.01 selects. -/
def State.readChannel (s : State) (u : Nat) : Option Nat :=
  let c := s.chan (s.obj 0x280301)
  match u with
  | 2 => some c.depth
  | 3 => some c.free
  | 4 => some (c.tokens.length % 2 ^ 16)
  | 5 => some (c.sent % 2 ^ 64)
  | 6 => some (c.poison % 2 ^ 32)
  | 7 => some c.producer
  | 8 => some c.consumer
  | _ => none

/-- R492: the tiles that are powered. -/
def State.tilesOn (s : State) : Nat :=
  match s.power.mode with
  | .run => 0xFF
  | .reduced => if s.power.toRun.isSome then 0xFF else 0x0F
  | _ => 0

/-- 0x2700–0x282F. The peaks of the tag pools are free values: the spec gives no use of tags by chunk (notes/assumptions/6.md). -/
def State.readMove (s : State) (i u : Nat) : Option Nat :=
  if i = 0x2701 ∧ 5 ≤ u then some (Config.freeValue (16 + u) s.free % 2 ^ 16)
  else if i = 0x2704 ∧ u = 2 then some (s.xfer.active.filter (·.fault.isSome)).length
  else if i = 0x2800 ∧ u = 2 then some s.tilesOn
  else if i = 0x2801 ∧ u = 2 then some s.head.imgState
  else if i = 0x2801 ∧ u = 3 then some s.imageId
  else if i = 0x2803 then s.readChannel u
  else if 0x2810 ≤ i ∧ i ≤ 0x281F ∧ u = 5 then some (s.queue (i - 0x2810)).state
  else if 0x2810 ≤ i ∧ i ≤ 0x281F ∧ u = 6 then some (s.queue (i - 0x2810)).head
  else if 0x2820 ≤ i ∧ i ≤ 0x282F then
    let x := s.slotShown (i - 0x2820)
    match u with
    | 1 => some x.state
    | 2 => some x.slabs
    | 3 => some x.bytes
    | _ => none
  else none

/-! ### Link and redundancy (R373, R380, R420) -/

/-- 0x2900.04: single, forming, complete, or partial once a member is lost or departed. -/
def State.groupCode (s : State) : Nat :=
  if s.link.group ≤ 1 then 0
  else if s.peerNos.any (fun p => (s.peer p).lost || (s.peer p).departed) then 3
  else if s.link.complete then 2
  else 1

/-- 0x2900–0x2912. -/
def State.readLink (s : State) (i u : Nat) : Option Nat :=
  match i, u with
  | 0x2900, 1 => some s.link.id
  | 0x2900, 4 => some s.groupCode
  | 0x2900, 5 => some s.seenMask
  | 0x2901, 1 => some (s.port 0).state
  | 0x2902, 1 => some (s.port 1).state
  | 0x2910, 0x02 => some (withBit s.red.config 7 (s.obj 0x291001 != s.red.config))
  | 0x2910, 0x04 => some s.roleCode
  | 0x2910, 0x0A => some (b2n s.red.roleOut + 2 * b2n s.red.peerIn + 4 * b2n s.gateOpen)
  | 0x2911, 0x01 => some s.red.issued
  | 0x2911, 0x02 => some s.red.applied
  | 0x2911, 0x04 => some s.red.queue.length
  | 0x2911, 0x0A => some s.red.area.length
  | 0x2911, 0x0B => some ((s.alternative.map (·.epoch)).getD 0)
  | _, _ => none

/-! ### Power and sensors (R493, R523, R619) -/

/-- 0x2A00–0x2A10. -/
def State.readPower (s : State) (i u : Nat) : Option Nat :=
  match i, u with
  | 0x2A00, 2 => some s.power.mode.code
  | 0x2A00, 4 => some s.forcingLevel
  | 0x2A03, 1 => some s.power.thermal
  | 0x2A03, 2 => some (pattern 16 s.power.hottest)
  | 0x2A03, 3 => some (s.power.forcedMs / 1000)
  | 0x2A10, 2 => some s.power.score
  | 0x2A08, 0x12 => some s.power.vbat
  | 0x2A08, 0x13 => some (s.boot.env.straps % 4)
  | 0x2A08, _ =>
    if u ≤ 8 then some (pattern 16 (s.power.junctions.getD (u - 1) 0)) else some (nth s.power.supplies (u - 9))
  | _, _ => none

/-! ### Health (R527, R536, R548, R559) -/

/-- 0x2B10+m. -/
def State.readMonitor (s : State) (m u : Nat) : Option Nat :=
  let x := s.monitor m
  match u with
  | 0x06 => some (x.count % 2 ^ 64)
  | 0x07 => some (pattern 32 x.min)
  | 0x08 => some (pattern 32 x.max)
  | 0x09 => some (pattern 32 x.last)
  | 0x0C => some (x.sCount % 2 ^ 64)
  | 0x0D => some (pattern 32 x.sMin)
  | 0x0E => some (pattern 32 x.sMax)
  | 0x10 => some x.sDev
  | _ => none

/-- R536: the records that ring sectors 1–511 hold, in order of writing. -/
def RecorderSt.ringRecs (l : RecorderSt) : List EventRec := l.ring.flatMap (·.2)

/-- 0x2C00–0x2C10. -/
def State.readLog (s : State) (i u : Nat) : Option Nat :=
  let l := s.log
  match i, u with
  | 0x2C00, 2 => some (l.staged % 2 ^ 64)
  | 0x2C00, 3 => some l.unflushed.length
  | 0x2C00, 4 => some (l.drops % 2 ^ 32)
  | 0x2C00, 5 => some (l.flushes % 2 ^ 32)
  | 0x2C00, 6 => some (l.programErrors % 2 ^ 32)
  | 0x2C00, 7 => some (l.wrapped % 2 ^ 32)
  | 0x2C00, 8 => some (l.pfFlushes % 2 ^ 32)
  | 0x2C00, 9 => some l.retired.length
  | 0x2C01, 2 => some (b2n l.frozen.isSome)
  | 0x2C01, 4 => some l.frozenDev
  | 0x2C02, 3 => some ((l.ringRecs.head?.map (·.seq)).getD 0)
  | 0x2C02, 4 => some ((l.ringRecs.getLast?.map (·.seq)).getD 0)
  | 0x2C02, 5 => some l.firstLife.length
  | 0x2C02, 6 => some l.ringRecs.length
  | 0x2C10, 2 => some ((l.shavings.head?.map (·.seq)).getD 0)
  | 0x2C10, 3 => some (l.shavCount % 2 ^ 64)
  | _, _ => none

/-- 0x2D01–0x2D11. -/
def State.readLife (s : State) (i u : Nat) : Option Nat :=
  let l := s.lifetimeNow
  let d := s.dog (i - 0x2D01)
  match i, u with
  | 0x2D10, 1 => some l.powerOn
  | 0x2D10, 2 => some l.count
  | 0x2D10, 3 => some l.ticks
  | 0x2D10, 4 => some l.cycles
  | 0x2D10, 5 => some l.hot
  | 0x2D10, 6 => some l.expiries
  | 0x2D10, 7 => some l.pfails
  | 0x2D10, 8 => some l.first
  | 0x2D10, 9 => some s.health.entryDev
  | 0x2D11, 2 => some (tget s.health.erases (s.obj 0x2D1101) 0 % 2 ^ 32)
  | 0x2D06, _ => none
  | 0x2D11, _ => none
  | 0x2D40, _ => none
  | _, 3 => some d.state
  | _, 4 => some (d.expiries % 2 ^ 32)
  | _, 5 => some d.pc
  | _, 6 => some d.capLast
  | _, 7 => some d.capAt
  | _, 8 => some d.reason
  | _, _ => none

/-! ### Network (R421–R449, R456) -/

/-- 0x2E05: the partner that 0x2E05.01 selects. -/
def State.readPartner (s : State) (u : Nat) : Option Nat :=
  match s.net.partners[s.obj 0x2E0501]?, u with
  | some p, 2 => some p.node
  | some p, 3 => some p.ctrl
  | some p, 4 => some (if p.lost then 2 else if p.heard then 1 else 0)
  | some p, 5 => some (p.period / msec)
  | some p, 6 => some (p.heardDev / msec % 2 ^ 32)
  | none, _ => if 2 ≤ u then some 0 else none
  | _, _ => none

/-- 0x2E08.03: listening without a master, slave once a path delay is known (R449). -/
def PtpSt.code (x : PtpSt) : Nat := if x.chosen.isNone then 0 else if x.delay.isNone then 1 else 2

/-- 0x2E01–0x2E09. -/
def State.readNet (s : State) (i u : Nat) : Option Nat :=
  match i, u with
  | 0x2E03, 2 => some s.net.emcySent
  | 0x2E03, 3 => some s.net.emcyDrops
  | 0x2E04, 1 => some s.net.nmt.code
  | 0x2E04, 8 => some s.net.partners.length
  | 0x2E05, _ => s.readPartner u
  | 0x2E06, 6 => some (b2n s.net.plcaOk)
  | 0x2E07, 0x0A => some (Config.macAddress 0).toNat
  | 0x2E07, 0x0B => some (Config.macAddress 1).toNat
  | 0x2E07, 0x0C => some (Config.macAddress 2).toNat
  | 0x2E08, 3 => some s.ptp.code
  | 0x2E08, 4 => some (s.ptp.chosen.getD 0)
  | 0x2E08, 5 => some (s.ptp.delay.getD 0)
  | _, _ =>
    if i = 0x2E01 ∨ i = 0x2E02 then
      let c := s.ctrl (i - 0x2E01)
      match u with
      | 2 => some (withBit c.mode 7 (s.obj (256 * i + 1) != c.mode))
      | 4 => some c.node
      | 7 => some c.errorCode
      | _ => none
    else none

/-! ### Start-up (R563–R581, R587) -/

/-- R562: the KiB of an image bank. -/
def State.imageBankKib (s : State) : Nat := (s.boot.norMiB / 2 - 20) * 1024

/-- 0x2F00–0x2F20. -/
def State.readBoot (s : State) (i u : Nat) : Option Nat :=
  let b := s.boot
  match i, u with
  | 0x2F00, 1 => some b.state
  | 0x2F00, 2 => some b.cause
  | 0x2F00, 3 => some b.msPreop
  | 0x2F00, 4 => some b.msFirst
  | 0x2F01, 1 => some b.header.preferred
  | 0x2F01, 2 => some (b2n b.header.trial)
  | 0x2F01, 3 => some b.header.trials
  | 0x2F01, 6 => some (((s.fwBank (1 - b.running)).content.map (·.version)).getD 0)
  | 0x2F01, 7 => some b.security
  | 0x2F02, 4 => some b.updating
  | 0x2F03, 2 => some (withBit s.head.bank 7 (s.obj 0x2F0301 != s.head.bank))
  | 0x2F03, 3 => some s.imageBankKib
  | 0x2F04, 1 => some b.selected
  | 0x2F04, 2 => some (copySeq b.copy0)
  | 0x2F04, 3 => some (copySeq b.copy1)
  | 0x2F04, 5 => some b.marks
  | 0x2F05, 1 => some b.host
  | 0x2F06, 1 => some b.lockLevel
  | 0x2F06, 3 => some (Config.nonce b.nonce).toNat
  | 0x2F20, 2 => some (withBit (b2n b.eccOn) 7 (s.obj 0x2F2001 != b2n b.eccOn))
  | 0x2F20, 3 => some b.dramMiB
  | 0x2F20, 4 => some b.training
  | _, _ => none

/-! ### The whole dictionary -/

/-- What a unit shows at an object, or none where the object holds its own value. -/
def State.readUnit (s : State) (k : Nat) : Option Nat :=
  let i := k / 256
  let u := k % 256
  match i / 256 with
  | 0x20 => s.readDict i u
  | 0x21 => s.readStream (i - 0x2100) u
  | 0x22 => s.readTick i u
  | 0x23 => s.readTime i u
  | 0x24 => s.readAlarm i u
  | 0x25 => s.readEngines i u
  | 0x26 => s.readEngines i u
  | 0x27 => s.readMove i u
  | 0x28 => s.readMove i u
  | 0x29 => s.readLink i u
  | 0x2A => s.readPower i u
  | 0x2B => if 0x2B10 ≤ i then s.readMonitor (i - 0x2B10) u else none
  | 0x2C => s.readLog i u
  | 0x2D => s.readLife i u
  | 0x2E => s.readNet i u
  | 0x2F => s.readBoot i u
  | _ => s.readComm i u

/-- The number an object reads. -/
def State.readNum (s : State) (k : Nat) : Nat := (s.readUnit k).getD (s.obj k)

/-- The ASCII bytes of 0x2000.01. -/
def partName : List Byte := [0x4F, 0x63, 0x74, 0x79, 0x73, 0x20, 0x5A, 0x77, 0x69, 0x6C, 0x69]

/-- The bytes of a timestamp, or zeros before there is one. -/
def stampBytes (x : Option Stamp) : List Byte := leBytes 16 ((x.map Stamp.pack).getD 0)

/-- The bytes of a string or domain object; none where no record stands behind it (R536). -/
def State.readDomain (s : State) (k : Nat) : Option (List Byte) :=
  let i := k / 256
  if k = 0x200001 then some partName
  else if i / 16 = 0x210 then some (stampBytes (s.stream (i - 0x2100)).lastStamp)
  else if k = 0x270405 then some (leBytes 32 ((s.xfer.last.map FaultRec.pack).getD 0))
  else if i = 0x2802 then some (leBytes 32 (tget s.boot.keysInForce (k % 256 - 1) 0))
  else if i / 16 = 0x282 then some (leBytes 32 (s.slotShown (i - 0x2820)).digest)
  else if k = 0x2A100B then some (stampBytes s.power.lastDetection)
  else if k = 0x2C0202 then (s.logRecord (s.obj 0x2C0201)).map EventRec.bytes
  else if k = 0x2C1005 then (s.log.shavings.find? (·.seq == s.obj 0x2C1004)).map EventRec.bytes
  else if i / 256 = 0x2B then some ((List.range 64).flatMap fun b => leBytes 4 (tget (s.monitor (i - 0x2B10)).sBins b 0))
  else some []

/-- R458: the value an object reads, as bytes; R536: none where its record has left the log. -/
def State.readObject (s : State) (k : Nat) : Option (List Byte) :=
  match objectRow k with
  | none => some [BitVec.ofNat 8 (highestSub (k / 256))]
  | some r => if r.type.numeric then some (leBytes r.type.size (s.readNum k)) else s.readDomain k

/-- R470: the abort code of a read by any path that reads. -/
def State.readError (s : State) (k : Nat) : Nat :=
  if s.boot.state = 4 ∧ recoveryServes (k / 256) = false then abortNoObject
  else if indexExists (k / 256) = false then abortNoObject
  else match objectRow k with
    | none => if k % 256 = 0 then 0 else abortNoSub
    | some r => if r.access = .wo then abortWriteOnly else if (s.readObject k).isNone then abortValue else 0

end Sys2Proof.Machine
end

