-- ==== Sys2Proof/Machine/Dictionary.lean ====
section
/-! DEFINITION. Writes of any object by any path and what each one does (R460, R467, R470–R475), RPDOs, UDP object access, the domain
port, divergences and the attachment of the host, with their commands. -/
namespace Sys2Proof.Machine

/-! ### What an accepted write does -/

/-- R48, R622: a time or tick object: adopted at once before the first accepted edge; a write of the UTC offset ends the leap
adjustment. -/
def State.writeTimed (s : State) (k v : Nat) : State :=
  if k = 0x230105 then s.stepDue (.target v)
  else if k = 0x230201 ∨ k = 0x230204 then s.tickRequest k v
  else
    let s0 := if k = 0x230102 then s.onTime fun x => { x with leapAdj := 0 } else s
    let s1 := s0.request k v
    if s.tick.started then s1
    else if k = 0x230209 then s1.onTick fun x => { x with phase := v }
    else if k = 0x230002 then s1.adoptTimeSource
    else if k = 0x230102 then s1.updateUtc
    else s1

/-- Alarm path (R120, R122). -/
def State.writeAlarm (s : State) (k v : Nat) : State :=
  if k = 0x240005 then s.clearLatches (BitVec.ofNat 64 v)
  else if k = 0x240101 then s.requestCommit
  else s.request k v

/-- Encode contexts and passes (R186, R210). -/
def State.writeEngine (s : State) (k v : Nat) : State :=
  let i := k / 256
  let u := k % 256
  if (i = 0x2510 ∨ i = 0x2511) ∧ u = 0x0E then s.forceIdr (i - 0x2510)
  else if 0x2620 ≤ i ∧ i ≤ 0x263F ∧ (u = 4 ∨ u = 5) then (s.request k v).setObj (passKey (i - 0x2620) 0x06) 0
  else s.request k v

/-- Translation, images, slots and queues (R297, R301, R332, R335, R337). -/
def State.writeMove (s : State) (k v : Nat) : State :=
  let i := k / 256
  if k = 0x270304 then (if v = 1 then s.invalidate else s)
  else if k = 0x270406 then s.respond v
  else if k = 0x280101 then (s.loadImage (s.bankImage v) v).1
  else if 0x2810 ≤ i ∧ i ≤ 0x281F ∧ k % 256 = 4 then (if v = 2 then s.resetQueue (i - 0x2810) else s.switchQueue (i - 0x2810) v)
  else if 0x2820 ≤ i ∧ i ≤ 0x282F then s.reloadSlot (i - 0x2820)
  else s.request k v

/-- R387: a role command. -/
def State.roleCommand (s : State) (v : Nat) : State :=
  match v with
  | 1 => s.onRed fun r => { r with handover := if r.handover = 0 then 1 else r.handover }
  | 2 => s.resolve 5
  | 3 => (s.claim.becomeActive 5).restore
  | _ => s.unclaim.roleTo .syncing 5

/-- Redundancy and power (R387, R493, R497). -/
def State.writeMode (s : State) (k v : Nat) : State :=
  if k = 0x291003 then s.requestRole v
  else if k = 0x291005 then s.roleCommand v
  else if k = 0x2A0001 then (s.request k v).noteReturn
  else if k = 0x2A0003 then s.lowPower v
  else s.request k v

/-- Monitors and the freeze (R527, R537). -/
def State.writeHealth (s : State) (k v : Nat) : State :=
  let i := k / 256
  let m := i - 0x2B10
  if k = 0x2C0101 then (if v = 1 then s.freeze else s.releaseFreeze)
  else if 0x2B10 ≤ i ∧ i ≤ 0x2B3F ∧ k % 256 = 0x0A then s.monitorControl m v
  else if 0x2B10 ≤ i ∧ i ≤ 0x2B3F ∧ k % 256 ≤ 5 then (s.request k v).setMonitor m { s.monitor m with dirty := true }
  else s.request k v

/-- Start-up (R565, R567, R579, R580). -/
def State.writeBoot (s : State) (k : Nat) (data : List Byte) : State :=
  let v := leNat data
  if k = 0x2F0105 then s.confirmFirmware
  else if k = 0x2F0202 then s.updateData data
  else if k = 0x2F0605 then s.raiseLock v
  else if k = 0x2F0502 then (s.request k v).onBoot fun b => { b with versionOk := true }
  else s.request k v

/-- The effect of an accepted write: the command that the object stands for, or its requested value. -/
def State.writeEffect (s : State) (k : Nat) (data : List Byte) : State :=
  let i := k / 256
  let v := leNat data
  match i / 256 with
  | 0x21 => if k % 256 = 0x1A then s.onStream (i - 0x2100) fun x => { x with ssrc := none } else s.request k v
  | 0x23 => s.writeTimed k v
  | 0x24 => s.writeAlarm k v
  | 0x25 => s.writeEngine k v
  | 0x26 => s.writeEngine k v
  | 0x27 => s.writeMove k v
  | 0x28 => s.writeMove k v
  | 0x29 => s.writeMode k v
  | 0x2A => s.writeMode k v
  | 0x2B => s.writeHealth k v
  | 0x2C => s.writeHealth k v
  | 0x2E =>
    if (i = 0x2E01 ∨ i = 0x2E02) ∧ k % 256 = 0x0B then s.onCtrl (i - 0x2E01) fun c => if c.err = 4 then { c with err := 0 } else c
    else s.request k v
  | 0x2F => s.writeBoot k data
  | _ => s.request k v

/-! ### A write by a path (R469–R472) -/

/-- What a write asks for holds: the bank to commit verifies, the key block is accepted (R567, R581). -/
def State.judgement (s : State) (k : Nat) (data : List Byte) : Bool :=
  if k = 0x2F0203 then s.updateOk else if k = 0x2F3001 then s.keyBlockOk data else true

/-- R470: the abort code that answers a write, 0 for success. -/
def State.writeCode (s : State) (p : Path) (k : Nat) (data : List Byte) : Nat :=
  let e := s.writeError p k data
  if e ≠ 0 then e else if s.judgement k data then 0 else abortValue

/-- A write of an object by a path: the checks, the answer, the effect. -/
def State.applyWrite (s : State) (p : Path) (k : Nat) (data : List Byte) : State :=
  if k / 256 = 0x1010 then s.askStore p (k % 256) data
  else if k / 256 = 0x1011 then s.askRestore p (k % 256) data
  else if k = 0x2F0203 then s.commitUpdate p data
  else if k = 0x2F3001 then s.keyBlock p data
  else s.controlled p k data fun s => s.writeEffect k data

/-- OBJECT_WRITE (R460, R470): also in recovery, for what it serves (R566). -/
def execObjectWrite (t : Nat) (p : Path) (key : Nat) (data : List Byte) : State → Result :=
  whenServed t fun s => s.applyWrite p key data

/-! ### RPDOs (R427, R429) -/

/-- The mapped objects of an RPDO with the bytes each one takes. -/
def splitMapping : List Nat → List Byte → List (Nat × List Byte)
  | [], _ => []
  | e :: r, bs => if e = 0 then [] else (e / 256, bs.take (e % 256 / 8)) :: splitMapping r (bs.drop (e % 256 / 8))

/-- The mapping of an RPDO. -/
def State.rpdoMapping (s : State) (n : Nat) : List Nat := (List.range 8).map fun u => s.cfg (0x160001 + 256 * n + u)

/-- R429: the objects are written; a refused RPDO counts once. -/
def State.takeRpdo (s : State) (n : Nat) (data : List Byte) : State :=
  let s1 := (splitMapping (s.rpdoMapping n) data).foldl (fun s e => s.applyWrite .rpdo e.1 e.2) s
  if s1.obj 0x2E0409 = s.obj 0x2E0409 then s1 else s1.setObj 0x2E0409 ((s.obj 0x2E0409 + 1) % 2 ^ 32)

/-- RPDO (R424, R429): ignored outside operational, and while its COB-ID is not valid. -/
def execRpdo (t : Nat) (c : Fin 2) (n : Fin 8) (data : List Byte) : State → Result :=
  whenCore t fun s =>
    if (s.ctrl c).hears ∧ s.net.nmt = .operational ∧ (s.cfg (0x140001 + 256 * n)).testBit 31 = false then s.takeRpdo n data else s

/-! ### UDP object access (R480) -/

/-- A CBOR head of a major type with an argument. -/
def cborNumber (major n : Nat) : List Byte :=
  let b := fun (ai : Nat) => BitVec.ofNat 8 (32 * major + ai)
  if n < 24 then [b n]
  else if n < 2 ^ 8 then b 24 :: (leBytes 1 n).reverse
  else if n < 2 ^ 16 then b 25 :: (leBytes 2 n).reverse
  else if n < 2 ^ 32 then b 26 :: (leBytes 4 n).reverse
  else b 27 :: (leBytes 8 n).reverse

/-- A request: its sequence, its object, and the value of a write. -/
structure UdpRequest where
  seq   : Nat
  key   : Nat
  value : Option (List Byte)
deriving DecidableEq, Repr

/-- The unsigned number at a key below a bound. -/
def fieldNum (fs : List (RecPath × Leaf)) (k bound : Nat) : Option Nat :=
  match fs.find? (fun f => f.1 == [some (.num k)]) with
  | some (_, .int v) => if 0 ≤ v ∧ v < bound then some v.toNat else none
  | _ => none

/-- The byte string at key 4. -/
def fieldBytes (fs : List (RecPath × Leaf)) : Option (List Byte) :=
  match fs.find? (fun f => f.1 == [some (.num 4)]) with
  | some (_, .bytes b) => some b
  | _ => none

/-- R480: the request that bytes spell: one definite-length map with the keys of its operation and no others. -/
def udpRequest (data : List Byte) : Option UdpRequest :=
  match cborRecord data with
  | none => none
  | some fs =>
    if bits (leAt data 0 1) 7 5 ≠ 5 then none
    else match fieldNum fs 0 (2 ^ 32), fieldNum fs 1 3, fieldNum fs 2 (2 ^ 16), fieldNum fs 3 (2 ^ 8), fieldBytes fs with
      | some q, some 1, some i, some u, none => if fs.length = 5 then some ⟨q, i * 256 + u, none⟩ else none
      | some q, some 2, some i, some u, some b => if fs.length = 6 then some ⟨q, i * 256 + u, some b⟩ else none
      | _, _, _, _, _ => none

/-- R480: the response: keys 0, 2, 3, 4 for a successful read, and 5. -/
def udpResponse (r : UdpRequest) (code : Nat) (value : Option (List Byte)) : List Byte :=
  let v := match value with
    | some b => cborNumber 0 4 ++ cborNumber 2 b.length ++ b
    | none => []
  cborNumber 5 (if value.isSome then 5 else 4) ++ cborNumber 0 0 ++ cborNumber 0 r.seq ++ cborNumber 0 2 ++ cborNumber 0 (r.key / 256) ++
    cborNumber 0 3 ++ cborNumber 0 (r.key % 256) ++ v ++ cborNumber 0 5 ++ cborNumber 0 code

/-- A request served: what it does, and its response. A refused read counts as a refusal of the path (R471). -/
def State.serveUdp (s : State) (r : UdpRequest) : State × List Byte :=
  match r.value with
  | some b => (s.applyWrite .udp r.key b, udpResponse r (s.writeCode .udp r.key b) none)
  | none =>
    let e := s.readError r.key
    if e = 0 then ((s.draw 12).2, udpResponse r 0 (s.readObject r.key)) else (s.refuse .udp r.key e, udpResponse r e none)

/-- R480: a request already served within the last second gets its response again. -/
def State.udpAgain (s : State) (src seq : Nat) : Option (List Byte) :=
  (s.dict.udp.find? fun e => e.1 == src && e.2.1 == seq && decide (s.now ≤ e.2.2.1 + second)).map (·.2.2.2)

/-- R480: a request from an allowed source. -/
def State.answerUdp (s : State) (src port : Nat) (r : UdpRequest) : State :=
  let from_ := src * 2 ^ 16 + port
  match s.udpAgain from_ r.seq with
  | some b => (s.incr 0x200308).transmitUdp (.udp 0 src port b)
  | none =>
    let a := s.serveUdp r
    (a.1.onDict fun d => { d with
      udp := (from_, r.seq, s.now, a.2) :: d.udp.filter fun e => decide (s.now ≤ e.2.2.1 + second) }).transmitUdp (.udp 0 src port a.2)

/-- UDP_OBJECT_ACCESS (R469, R480): a datagram to the port at 0x2003.02, from an address and a port. -/
def execUdpObjectAccess (t : Nat) (src port : Nat) (data : List Byte) : State → Result :=
  whenCore t fun s =>
    if s.cfg 0x200301 = 1 ∧ s.cfg 0x200302 ≠ 0 ∧ s.served .udp then
      match src != 0 && (List.range 4).any fun n => s.cfg (0x200303 + n) == src, udpRequest data with
      | true, some r => s.answerUdp src port r
      | _, _ => s.incr 0x200307
    else s

/-! ### Divergences and stores (R468, R481) -/

/-- DIVERGENCE_PERSISTED (R468): once for each divergence that has lasted for 0x2001.03. -/
def execDivergencePersisted (t : Nat) (key : Nat) : State → Result :=
  whenCore t fun s =>
    if s.dict.raised.contains key = false ∧ s.dict.divs.any fun e => e.1 == key && decide (e.2 + s.cfg 0x200103 * msec ≤ s.now) then
      ((s.onDict fun d => { d with raised := key :: d.raised }).incr 0x200104).emit 0xC040
    else s

/-- STORE_COMPLETE (R481–R483): the read-back of the copy ends. -/
def execStoreComplete (t : Nat) (readBackOk : Bool) : State → Result :=
  whenCore t fun s => if s.dict.store.isSome then s.storeEnds readBackOk else s

/-! ### The domain port (R474, R475) -/

/-- R475: the error of a selector write: reserved bits, no such object, or one that is no string and no domain. -/
def State.selectError (s : State) (v : Nat) : Nat :=
  let k := v / 256
  if v % 256 ≠ 0 then abortValue
  else if indexExists (k / 256) = false then abortNoObject
  else match objectRow k with
    | none => if k % 256 = 0 then abortLength else abortNoSub
    | some r => if r.type.numeric then abortLength else if r.access ≠ .wo ∧ (s.readDomain k).isNone then abortValue else 0

/-- The write size of a string or domain object. -/
def writeSize (k : Nat) : Nat := ((objectRow k).map (·.type.size)).getD 0

/-- R475: the selected object's value, or zeros for one that is written only, is copied to the 256 B data area. -/
def State.selectObject (s : State) (k : Nat) : State :=
  let b := if objAccess k = some .wo then List.replicate (writeSize k) 0 else (s.readDomain k).getD []
  s.onDict fun d => { d with sel := some k, window := b ++ List.replicate (256 - b.length) 0, wlen := b.length }

/-- DOMAIN_PORT_SELECT (R475): a write of the selector. A refused one leaves selection and copy. -/
def execDomainPortSelect (t : Nat) (v : BitVec 32) : State → Result :=
  whenCore t fun s =>
    let e := s.selectError v.toNat
    if e = 0 then s.selectObject (v.toNat / 256) else s.refuse .pcie (v.toNat / 256) e

/-- DOMAIN_PORT_COMMIT (R475): a write of the control word, the data area holding the operand's bytes where the host wrote it; the
commit takes the object's write size. -/
def execDomainPortCommit (t : Nat) (v : Nat) (data : List Byte) : State → Result :=
  whenCore t fun s =>
    let s1 := s.onDict fun d => { d with window := (data ++ d.window.drop data.length).take 256 }
    match s1.dict.sel with
    | none => s.refuse .pcie 0 (if v = 1 then abortNoObject else abortValue)
    | some k => if v = 1 then s1.applyWrite .pcie k (s1.dict.window.take (writeSize k)) else s1.refuse .pcie k abortValue

/-! ### The host (R28, R38, R109, R308, R490, R561, R579) -/

/-- LIVENESS_DOORBELL (R28, R579): a ring; the first one behind an accepted protocol version attaches the host: event 0xD010. -/
def execLivenessDoorbell (t : Nat) : State → Result :=
  whenCore t fun s =>
    let s1 := s.onBoot fun b => { b with rungAt := some s.now }
    if s.boot.host ≠ 2 ∧ s.boot.versionOk then ((s1.onBoot fun b => { b with host := 2 }).incr 0x2F0503).emit 0xD010 else s1

/-- R490: the domain port copy and the fault records that the host has not consumed are gone. -/
def State.dropHostCopies (s : State) : State :=
  (s.onDict fun d => { d with sel := none, window := [], wlen := 0 }).onXfer fun x => { x with
    ring := [], ringCons := x.ringProd, ringCount := 0 }

/-- R109, R308, R490, R579: an attached host is detached: event 0xD011, its faults are abandoned, its units that still move are
dropped. What its stages lose follows at the next edge (R38). -/
def State.detachHost (s : State) : State :=
  if s.boot.host = 2 then
    let s1 := (((s.onBoot fun b => { b with host := 3, versionOk := false, rungAt := none }).emit 0xD011).hostFaults).dropHostCopies
    (List.range 16).foldl State.dropMoving s1
  else s

/-- HOST_LIVENESS_LAPSE (R28, R38): 0x2205.08 since the last ring. -/
def execHostLivenessLapse (t : Nat) : State → Result :=
  whenPowered t fun s =>
    if s.boot.rungAt.any (fun i => decide (i + s.cfg 0x220508 * msec ≤ s.now)) then s.detachHost else s

/-- PCIE_RESET (R561): the endpoint alone is reset. -/
def execPcieReset (t : Nat) : State → Result :=
  whenPowered t fun s => ((s.detachHost.portDown 2).dropHostCopies).onBoot fun b => { b with versionOk := false, rungAt := none }

/-- PCIE_LINK_DOWN (R312, R579). -/
def execPcieLinkDown (t : Nat) : State → Result := whenPowered t fun s => s.detachHost.portDown 2

end Sys2Proof.Machine
end

