-- ==== Sys2Proof/Machine/Edge.lean ====
section
/-! DEFINITION. An accepted tick edge and everything it does (R8, R15, R20, R52–R62, R70, R374, R396, R401, R460, R495, R500, R504, R542,
R565, R572), with the commands that accept one. -/
namespace Sys2Proof.Machine

/-! ### The number of the edge (R42, R60, R548) -/

/-- R60: the last 16 accepted periods. -/
def TickSt.addPeriod (x : TickSt) (now : Nat) : List Nat :=
  match x.lastEdge with
  | none => x.periods
  | some e => (x.periods ++ [now - e]).drop (x.periods.length - 15)

/-- An accepted edge takes the next number; it is a tick of the device's life (R548). -/
def State.numberEdge (s : State) : State :=
  (s.onTick fun x => { x with
    started := true, count := (x.count + 1) % 2 ^ 64, periods := x.addPeriod s.now, lastEdge := some s.now, passed := 0 }).onHealth
      fun h => { h with live := { h.live with ticks := (h.live.ticks + 1) % 2 ^ 64 } }

/-! ### Adoption of rate, source and phase (R52–R61, R70, R73, R460) -/

/-- R70: the mode that this edge leaves: Reduced, or Run. -/
def State.willReduce (s : State) : Bool :=
  match s.power.mode with
  | .run => s.entersReduced
  | .reduced => !s.returnsToRun
  | _ => s.wantsReduced

/-- R61, R623: an alternative of a mode covers a period. -/
def State.coveredIn (s : State) (reduced : Bool) (period : Nat) : Bool :=
  match s.head.image with
  | none => rateInRange period
  | some im => (findAlternative im period reduced).isSome

/-- A nominal rate in force: of the generator that runs at it, or of the internal or the PTP-derived source (R54). -/
def State.takeNominal (s : State) (r : Nat) : State :=
  let p := periodOf r
  let s1 := s.onTick fun x => { x with nominal := r }
  if s.tick.genNext.isSome then
    if s.tick.genNominal then (s1.onTick fun x => { x with genPeriod := p }).incr 0x23020E else s1
  else match s.tick.source with
    | .tickIn => s1
    | .internal => (s1.onTick fun x => { x with period := p, startAt := s.now, edgeNo := 1 }).incr 0x23020E
    | .ptpDerived => (s1.onTick fun x => { x with period := p, gridFrom := s.time.dev + p }).incr 0x23020E

/-- R54, R70: the requested nominal rate is adopted when an alternative covers it; one that the mode change of this edge uncovers is
refused under R62. -/
def State.adoptNominal (s : State) : State :=
  let r := s.cfg 0x230204
  if r = s.tick.nominal then s
  else if s.coveredIn s.willReduce (periodOf r) then s.takeNominal r
  else if s.willReduce ≠ s.reduced ∧ s.coveredIn s.reduced (periodOf r) then (s.incr 0x23020F).emit 0x2006
  else s

/-- R58: TICK_IN becomes the source: the generator carries the tick at the period in force. -/
def State.sourceTickIn (s : State) : State :=
  (s.onTick fun x => { x with
    source := .tickIn, state := .holdover, holdoverAt := s.now, held := none, genPeriod := x.period, genNominal := false
    genNext := some (s.now + x.period) }).emit 0x2010

/-- R58, R61: a change to internal or PTP-derived begins a switch-over, or is held. -/
def State.sourceOwn (s : State) (goal : TickSource) : State :=
  let p := periodOf s.tick.nominal
  if s.coveredIn s.willReduce p then
    let s1 := s.startSwitch goal p false
    if goal = s.tick.source then s1 else s1.emit 0x2010
  else if s.tick.held = some goal then s
  else ((s.onTick fun x => { x with held := some goal }).incr 0x23020F).emit 0x2006

/-- R58, R61: the requested source. A source whose edges the generator carries since an abandoned switch-over is asked for anew. -/
def State.adoptSource (s : State) : State :=
  let goal := TickSource.ofCode (s.cfg 0x230201)
  if goal = s.tick.source ∧ (goal = .tickIn ∨ s.tick.genNext = none) then s.onTick fun x => { x with held := none }
  else if goal = .tickIn then s.sourceTickIn
  else s.sourceOwn goal

/-- R52, R73: a new phase offset applies from the first grid instant at least P after this edge. -/
def State.adoptPhase (s : State) : State :=
  let v := s.cfg 0x230209
  if v = s.tick.phase then s else s.onTick fun x => { x with phase := v, gridFrom := s.time.dev + x.period }

/-- R460: every unit adopts its requested values. -/
def State.adoptObjects (s : State) : State := ((s.setInForce s.od).syncPartners.adoptTimeSource).updateUtc

/-- The requests that the tick source adopts at an accepted edge. -/
def State.adoptTick (s : State) : State := s.adoptNominal.adoptSource.adoptPhase

/-- R46, R53: a pending step takes effect; the PTP-derived grid goes on at least P later in stepped time. -/
def State.edgeTime (s : State) : State :=
  let s1 := s.edgeStep
  if s.time.pending.isSome then s1.onTick fun x => { x with gridFrom := s1.time.dev + x.period } else s1

/-! ### The journal and the configuration of an epoch at the Tailstock (R396, R401, R484) -/

/-- An object that the Configuration record carries. -/
def isConfigKey (k : Nat) : Bool := isJournalled k && objAccess k == some .rw

/-- A value of the record takes the place of another. -/
def State.loadValue (s : State) (k : Nat) (data : List Byte) : State :=
  if s.obj k = leNat data then s else s.writeEffect k data

/-- R401: the Configuration record of the committed epoch becomes the device's own objects. -/
def State.loadConfig (s : State) (e : Epoch) : State :=
  let es := epochConfig e.data
  let absent := (s.od.map (·.1)).filter fun k => isConfigKey k && !(es.any fun x => x.1 == k)
  let s1 := absent.foldl (fun s k => s.loadValue k (leBytes (objWidth k / 8) (objectDefault k))) s
  (es.foldl (fun s x => if isConfigKey x.1 then s.loadValue x.1 x.2 else s) s1).onRed fun r => { r with
    loadConfig := false, applied := e.jseq, got := r.got.filter fun j => newer j.jseq e.jseq }

/-- Entries joined by their sequence number: key, JSEQ and value. -/
def joinPieces : List JEntry → List (Nat × Nat × List Byte)
  | [] => []
  | e :: r =>
    let v := leBytes e.len e.value
    match joinPieces r with
    | (k, j, bs) :: rest => if j = e.jseq ∧ k = e.key then (k, j, v ++ bs) :: rest else (e.key, e.jseq, v) :: (k, j, bs) :: rest
    | [] => [(e.key, e.jseq, v)]

/-- A value of more than 8 bytes whose last pieces are still to come. -/
def unfinished (w : Nat × Nat × List Byte) : Bool := decide (8 < writeSize w.1) && decide (w.2.2.length < writeSize w.1)

/-- R396, R484: journal writes applied in JSEQ order, each one above the last; the first that fails a check is refused. -/
def State.applyJournal (s : State) : List (Nat × Nat × List Byte) → State
  | [] => s
  | w :: r =>
    if s.red.role ≠ .tailstock ∨ (r = [] ∧ unfinished w) then s
    else if w.2.1 ≠ (s.red.applied + 1) % 2 ^ 32 then
      ((s.onRed fun x => { x with gap := true, got := [] }).incr 0x29110D).emit 0x9017
    else if s.writeCode .journal w.1 w.2.2 ≠ 0 then s.refuseEpoch true
    else ((s.applyWrite .journal w.1 w.2.2).onRed fun x => { x with
      applied := w.2.1, got := x.got.filter fun j => newer j.jseq w.2.1 }).applyJournal r

/-- R396: one REPL_ACK frame for the entries applied at this edge. -/
def State.ackJournal (s : State) : State :=
  s.sendFrame { op := 0x13, tc := 0, dst := s.pairPeer, src := s.link.id, arg := 0 }
    (leBytes 16 (packFields [((s.red.committed.map (·.number)).getD 0 % 2 ^ 64, 64), (s.red.applied, 32)]))

/-- What an accepted edge gives a Tailstock. -/
def State.edgeJournal (s : State) : State :=
  if s.pair ∧ s.red.role = .tailstock then
    let s1 := match s.red.loadConfig, s.red.committed with
      | true, some e => s.loadConfig e
      | _, _ => s
    if s1.red.gap ∨ s1.red.got = [] then s1
    else
      let s2 := s1.applyJournal (joinPieces s1.red.got)
      if s2.red.applied = s1.red.applied then s2 else s2.ackJournal
  else s

/-! ### Evidence of an edge (R525, R542, R572, R374) -/

/-- R525: sources 3, 4 and 10, for the tick that ends at this edge; `before` is the last edge. -/
def State.observeEdge (s : State) (before : Option Nat) : State :=
  let s1 := match before with
    | some e => s.observe 10 0 ((s.now : Int) - e)
    | none => s
  let s2 := lanes.foldl (fun s l => s.observe 3 l (s.occupied l)) s1
  let s3 := (List.range 6).foldl (fun s i =>
    s.observe 4 (i + 1) (((s.obj (0x220401 + i) + 2 ^ 64 - tget s.health.stallsAt (i + 1) 0) % 2 ^ 64 : Nat))) s2
  s3.onHealth fun h => { h with stallsAt := (List.range 6).map fun i => (i + 1, s3.obj (0x220401 + i)) }

/-- R542: the tick summary: the occupancy of 13 lanes, and the jobs that this edge admitted. -/
def State.tickSummary (s : State) (admitted : Nat) : State :=
  s.emit 0xC010 0xFFFF (packFields ((lanes.map fun l => (s.occupied l % 2 ^ 16, 16 * l)) ++ [(admitted % 2 ^ 16, 208)]))

/-- R572: start step 7: the device is ready at the first accepted edge with the image in force, or with none to come (R576). -/
def State.edgeReady (s : State) : State :=
  if s.boot.state = 2 ∧ (s.head.image.isSome ∨ s.head.loading = none) then
    s.onBoot fun b => { b with state := 3, msFirst := min 0xFFFF (max 1 ((s.now - b.releasedAt) / msec)) }
  else s

/-- R565, R572: the first accepted edge at which an image is in force: event 0xD001, and trial firmware confirms itself under policy
0. -/
def State.edgeComplete (s : State) : State :=
  if s.head.image.isSome ∧ s.boot.completed = false then
    let s1 := (s.onBoot fun b => { b with completed := true }).emit 0xD001
    if s1.cfg 0x2F0104 = 0 then s1.confirmFirmware else s1
  else s

/-- R374: TICK blocks on the UP ports, sent at once. -/
def State.sendTicks (s : State) : State :=
  s.blockUp typeTick (packFields [(s.link.id, 54), (s.tick.count % 2 ^ 30, 24)])

/-- R365, R395: the frames of the tick are counted anew. -/
def State.restartFrames (s : State) : State :=
  portNos.foldl (fun s k => (s.onPort k fun p => { p with tc0 := 0 }).pumpAll k) (s.onRed fun r => { r with framesInTick := 0 })

/-! ### The edge -/

/-- R572: at a start no image comes into force before the noise source is ready; its change repeats the IDENT exchange (R361). -/
def State.edgeLoad (s : State) : State :=
  if s.boot.state = 2 ∧ s.noise.state = 0 then s
  else
    let s1 := s.edgeImage
    if s1.head.image = s.head.image then s1 else s1.repeatIdent

/-- R398, R403: an epoch whose capture job was not admitted is skipped. -/
def State.skippedEpoch (s : State) : State :=
  if s.pair ∧ s.red.role = .active ∧ s.pinnedCandidates.any (fun c => c.entry.kind == .capture &&
      !(s.head.running.any fun r => r.entry.id == c.entry.id && r.tick == s.tick.count)) then s.loseEpoch
  else s

/-- R15, R333, R623: the admission; without an image there are no jobs. -/
def State.edgeAdmit (s : State) : State := s.admission.skippedEpoch

/-- R500, R505, R510, R516: a low-power mode is entered, or the edge admits and writes its summary. -/
def State.edgeWork (s : State) : State :=
  let s1 := s.edgeDefer
  match s1.entry with
  | .watch => s1.enterWatch
  | .off => s1.enterOff
  | .stay =>
    let s2 := s1.edgeAdmit
    s2.tickSummary (s2.obj 0x220201 - s1.obj 0x220201)

/-- R8, R494: the alternative and the ceiling of the period in force. -/
def State.edgeCeiling (s : State) : State :=
  (s.pickAlternative s.tick.period s.reduced).onTick fun x => { x with ceiling := ceilingOf x.period }

/-- R504, R516: the mode of this edge. -/
def State.edgeModes (s : State) (leaves : Bool) : State := if leaves then s.leaveWatch else s.edgeMode

/-- R20, R22, R36: the judgement of the running jobs, and the occupancy of the tick that ends. -/
def State.edgeEnds (s : State) : State := ((if s.entersReduced then s.abortMacB else s).edgeJudge).edgeOccupancy

/-- R406, R407, R409: what the edge gives the redundancy state ahead of admission. -/
def State.edgePair (s : State) : State := s.edgeWarm.edgeHandover.edgeTakeover

/-- The units that change at an accepted edge. -/
def State.edgeUnits (s : State) : State := s.edgeStreams.adoptMonitors.edgeBand.edgeTrips.edgeSlots.edgeLoad

/-- An accepted edge in a working mode, or the one that ends Watch. -/
def State.workingEdge (s : State) (rate : State → State) (leaves : Bool) (before : Option Nat) : State :=
  let s1 := (rate s.edgeEnds).edgeTime
  let s2 := s1.edgeJournal.adoptObjects.adoptTick
  let s3 := ((s2.edgeModes leaves).edgeUnits).edgeCeiling
  let s4 := ((s3.observeEdge before).edgePair).edgeStages
  let s5 := (s4.edgeReady.edgeComplete).edgeWork
  s5.sendTicks.restartFrames

/-- R501: an accepted edge in Watch is numbered; what the cores wrote after a wake is adopted. -/
def State.watchEdge (s : State) (rate : State → State) : State :=
  let s1 := (rate s).edgeTime
  if s1.coreOn then s1.adoptObjects.adoptTick else s1

/-- R61, R501, R504: an edge is accepted; `rate` is what its source does with it. -/
def State.acceptEdge (s : State) (rate : State → State) : State :=
  if s.power.mode = .watch ∧ s.exitsWatch = false then s.numberEdge.watchEdge rate
  else s.numberEdge.workingEdge rate s.exitsWatch s.tick.lastEdge

/-! ### Switch-over edges (R58, R61, R70) -/

/-- R61: the new source and its period are in force. -/
def State.finishSwitch (s : State) (x : SwitchOver) : State :=
  let s1 := (s.onTick fun y => { y with
    source := x.goal, state := .locked, period := x.period, switch := none, genNext := none, held := none
    edgeNo := if x.goal = .internal then 1 else y.edgeNo
    gridFrom := if x.goal = .ptpDerived then s.time.dev + 1 else y.gridFrom }).incr 0x23020E
  if x.fromQualification then
    s1.emit (if 200 * ((x.period : Int) - x.pl).natAbs ≤ x.pl then 0x2003 else 0x2004)
  else s1

/-- R61, R70: the switch-over edge: accepted, or refused because no alternative of the mode of this edge covers its period. -/
def State.switchEdge (s : State) (x : SwitchOver) : State :=
  if s.coveredIn s.willReduce x.period then s.acceptEdge fun s => s.finishSwitch x
  else (s.refuseRate x.period).abandonSwitch x

/-- R61: an edge of the new source that lies at least Pl after the last accepted edge. -/
def State.trySwitch (s : State) (goal : TickSource) : State :=
  match s.tick.switch with
  | some x => if x.goal = goal ∧ s.lastEdge + x.pl ≤ s.now then s.switchEdge x else s
  | none => s

/-! ### TICK_IN (R55–R58) -/

/-- R58: the first accepted edge of acquire. -/
def State.lockFirst (s : State) (period : Nat) : State :=
  (s.onTick fun x => { x with state := .locked, period := period }).incr 0x23020E

/-- The instant lies in the acceptance window. -/
def State.inWindow' (s : State) : Bool :=
  decide (((s.now : Int) - (s.lastEdge + s.tick.period : Nat)).natAbs ≤ tolerance s.tick.period)

/-- R56, R58: a non-glitch edge with TICK_IN as the source and no switch-over running. -/
def State.tickInEdge (s : State) : State :=
  match s.tick.state, qualified s.tick.intervals with
  | .locked, _ => if s.inWindow' then s.acceptEdge id else s.incr 0x23020C
  | _, none => s
  | .acquire, some p => if s.rateUsable p then s.acceptEdge fun s => s.lockFirst p else s.refuseRate p
  | _, some p => if s.rateUsable p then (s.startSwitch .tickIn p true).trySwitch .tickIn else s.refuseRate p

/-- R55–R58, R61: an edge on TICK_IN on its polarity. -/
def State.tickInPulse (s : State) : State :=
  if s.isGlitch then s.glitch
  else
    let s1 := s.measureEdge
    if s1.tick.source ≠ .tickIn then s1
    else if s1.tick.switch.isSome then s1.trySwitch .tickIn
    else s1.tickInEdge

/-- TICK_IN_EDGE (R52, R55–R58, R605, R616). -/
def execTickInEdge (t : Nat) (rising : Bool) (pulse : Nat) : State → Result :=
  whenPowered t fun s =>
    let p := s.padPasses pulse
    if s.ticking ∧ rising = (s.cfg 0x230208 == 0) ∧ p.1 then p.2.tickInPulse else p.2

/-! ### Internal and PTP-derived edges (R52, R53) -/

/-- The source itself gives the edges: no switch-over, and no generator that carries it. -/
def TickSt.ownEdges (x : TickSt) (goal : TickSource) : Bool := x.source == goal && x.switch.isNone && x.genNext.isNone

/-- The first accepted edge of a start is the first lock from acquire (R53, R72). -/
def State.ownRate (s : State) : State :=
  if s.tick.state = .acquire then s.lockFirst (periodOf s.tick.nominal) else s

/-- INTERNAL_EDGE (R52, R53). -/
def execInternalEdge (t : Nat) : State → Result :=
  whenPowered t fun s =>
    if s.ticking = false ∨ s.now < s.tick.internalEdge then s
    else if s.tick.ownEdges .internal then s.acceptEdge fun s => (s.onTick fun x => { x with edgeNo := x.edgeNo + 1 }).ownRate
    else s.trySwitch .internal

/-- PTP_DERIVED_EDGE (R52, R53, R68). -/
def execPtpDerivedEdge (t : Nat) : State → Result :=
  whenPowered t fun s =>
    if s.ticking = false ∨ s.time.dev < s.tick.ptpEdge then s
    else if s.tick.ownEdges .ptpDerived then s.acceptEdge fun s => (s.onTick fun x => { x with gridFrom := s.time.dev + 1 }).ownRate
    else s.trySwitch .ptpDerived

/-! ### The generator (R58, R60, R67) -/

/-- R54, R60: a generator edge: its period is in force, and the next edge follows it. -/
def State.generatorRate (s : State) : State :=
  s.onTick fun x => { x with period := x.genPeriod, genNext := x.genNext.map (· + x.genPeriod) }

/-- GENERATOR_EDGE (R58, R60, R67). -/
def execGeneratorEdge (t : Nat) : State → Result :=
  whenPowered t fun s =>
    if s.ticking ∧ s.tick.switch = none ∧ s.tick.genNext.any (fun i => decide (i ≤ s.now)) then s.acceptEdge State.generatorRate else s

/-- R58: the generator starts at the nominal rate in force: event 0x2002. -/
def State.startGenerator (s : State) : State :=
  let p := periodOf s.tick.nominal
  (s.onTick fun x => { x with state := .freeRun, genNominal := true, genPeriod := p, genNext := some s.now }).emit 0x2002

/-- ACQUIRE_TIMEOUT (R58, R72): 0x2302.07 without qualification; the generator's first edge falls at this instant. -/
def execAcquireTimeout (t : Nat) : State → Result :=
  whenPowered t fun s =>
    if s.ticking ∧ s.tick.source = .tickIn ∧ s.tick.state = .acquire ∧ s.tick.acquireAt + s.cfg 0x230207 * msec ≤ s.now then
      s.startGenerator.acceptEdge fun s => s.generatorRate.incr 0x23020E
    else s

end Sys2Proof.Machine
end

