-- ==== Sys2Proof/Machine/Jobs.lean ====
section
/-! DEFINITION. The end of a job that its engine reports: reports and TPDOs, the re-score, guard intrusions, late results (R9, R24–R27, R32,
R428, R429, R447, R509–R512), with the command JOB_COMPLETION. -/
namespace Sys2Proof.Machine

/-! ### Plant outputs that a job builds (R428, R429, R447) -/

/-- The tokens that wait on the channels a job consumes. -/
def State.waitingTokens (s : State) (j : Nat) : List Tok := (s.inputs j).flatMap fun c => (s.chan c).tokens

/-- R24: the output status of a job that ends now. -/
def State.endStatus (s : State) (r : Run) : Nat :=
  let k := s.consumed r (s.waitingTokens r.entry.id)
  outputStatus (r.overran || k.1) (r.badIn || k.2)

/-- R428: the tick state or the time base state of a timestamp is not locked. -/
def Stamp.notLocked (x : Stamp) : Bool := x.tickState != .locked || x.base != .locked

/-- R428: bits 3 to 0 of the status byte of a job's plant output. -/
def State.statusNibble (s : State) (r : Run) : Nat :=
  packFields [(b2n (r.outputStamp s.stamp).notLocked, 3), (b2n r.takeover, 2), (s.endStatus r, 0)]

/-- R428, R429: a TPDO is built; a plant output's first byte is its status. -/
def State.buildTpdo (s : State) (n : Nat) (r : Run) (data : List Byte) : State :=
  if s.isPlantTpdo n then s.tpdoBuilt n (BitVec.ofNat 8 (s.statusNibble r) :: data.drop 1) else s.tpdoBuilt n data

/-- R447: the map of a report; its body is the map that the image defines. -/
def State.reportBytes (s : State) (kind seq : Nat) (r : Run) (body : List Byte) : List Byte :=
  let x := r.outputStamp s.stamp
  let key := fun (n : Nat) => cborNumber 0 n
  cborNumber 5 8 ++ key 0 ++ cborNumber 0 kind ++ key 1 ++ cborNumber 2 8 ++ leBytes 8 Config.serial.toNat ++ key 2 ++ cborNumber 0 r.tick ++
    key 3 ++ cborNumber 2 16 ++ leBytes 16 x.pack ++ key 4 ++ cborNumber 0 (s.endStatus r) ++
    key 5 ++ cborNumber 0 (b2n r.takeover + 2 * b2n x.notLocked) ++ key 6 ++ cborNumber 0 seq ++ key 7 ++ body

/-- R424, R447: a report leaves in operational, through the gate. -/
def State.sendReport (s : State) (kind : Nat) (r : Run) (body : List Byte) : State :=
  if s.net.nmt ≠ .operational then s
  else if s.gateOpen = false then s.gateDrop
  else
    let q := (s.net.reportSeq + 1) % 2 ^ 32
    ((s.onNet fun n => { n with reportSeq := q }).incr 0x2E0904).transmitUdp
      (.udp 0 (s.cfg 0x2E0901) (s.cfg 0x2E0902) (s.reportBytes kind q r body))

/-! ### The wake phrase (R509–R512) -/

/-- R509, R510: the Run recogniser reaches the image's threshold. -/
def State.recogniserScore (s : State) (v : Nat) : State :=
  if s.head.image.any (fun im => decide (im.rescoreThreshold ≤ v)) then s.dropDeferred else s

/-- R512: what follows a phrase that woke the device and was not confirmed. -/
def State.phraseFails (s : State) (x : Phrase) : State := if x.woke ∧ s.cfg 0x2A1006 = 1 then s.lowPower 2 else s

/-- R511: the end of the re-score job; only a confirmed phrase has an output. -/
def State.rescoreJob (s : State) (r : Run) (v : Nat) : State × JobEnd :=
  match s.power.phrase with
  | none => (s, { data := 0, meta_ := r.meta_ })
  | some x =>
    let s1 := s.onPower fun p => { p with phrase := none }
    if x.overwritten then ((s1.emit 0xB008).phraseFails x, { data := 0, meta_ := r.meta_ })
    else if s.head.image.any (fun im => decide (im.rescoreThreshold ≤ v)) then
      ((s1.incr 0x2A1008).emit 0xB006, { meta_ := r.meta_ })
    else (((s1.incr 0x2A1009).emit 0xB007).phraseFails x, { data := 0, meta_ := r.meta_ })

/-! ### The engine's part -/

/-- A capture job copies the warm state of an active of a pair (R398). -/
def State.captureJob (s : State) : State := if s.pair ∧ s.red.role = .active then s.captureEpoch else s

/-- What the engine of a job did. A report of another kind than the job's is no more than its end. -/
def State.engineEnd (s : State) (r : Run) (w : Work) : State × JobEnd :=
  match r.entry.kind, w with
  | .jpeg c, .jpeg x => s.jpegJob c r x
  | .cbor, .record bs => s.recordJob (r.stream.getD 0xFF) r bs
  | .h264 c, .h264 x => s.h264Job c r x
  | .encode e, .encode x => s.encodeJob e r x
  | .rateControl e, .rateControl => s.rateControlJob e r
  | .pass p, .pass x => s.passJob p r x
  | .tokenise, .tokens => s.tokeniseJob r
  | .mac n, .mac x => s.macJob n r x
  | .mac _, .score v => (s.recogniserScore v, { meta_ := r.meta_ })
  | .rescore, .score v => s.rescoreJob r v
  | .rescore, _ => (s.onPower fun p => { p with phrase := none }, { data := 0, meta_ := r.meta_ })
  | .capture, _ => (s.captureJob, { meta_ := r.meta_ })
  | .transfer, _ => (s, { data := 0, meta_ := r.meta_ })
  | .report k, .report body => (s.sendReport k r body, { meta_ := r.meta_ })
  | .tpdo n, .tpdo data => (s.buildTpdo n r data, { meta_ := r.meta_ })
  | _, _ => (s, { meta_ := r.meta_ })

/-! ### Evidence of a completion (R9, R25, R27, R32, R34, R525) -/

/-- The job ends after the ceiling of the tick that admitted it. -/
def State.pastCeiling (s : State) (r : Run) : Bool := decide (r.at_ + s.tick.ceiling < s.now)

/-- R9: a guard intrusion is counted, and reported at most once per second. -/
def State.guardIntrusion (s : State) (r : Run) : State :=
  if !r.overran && s.pastCeiling r then (s.incr 0x220205).emitLimited second 0x1005 0xFFFF 0 0 else s

/-- R34: a job that ends behind the expected edge is still judged there should the window close without an edge. -/
def State.noteLate (s : State) (r : Run) : State :=
  if r.overran = false ∧ s.lastEdge + s.tick.period ≤ s.now then s.onHead fun h => { h with endedLate := h.endedLate ++ [r] } else s

/-- R25, R27: the engine's stall cycles join the totals; a late job that was busy beyond its cost is a breach. -/
def State.endStalls (s : State) (r : Run) (stalls : List Nat) : State :=
  let s1 := s.addStalls r.stalls stalls
  if r.overran && s1.breaches r stalls s.now then s1.breach else s1

/-- R32: the result of a host job; one that overran has been judged at its edge. -/
def State.endHost (s : State) (r : Run) : State := if r.overran then s else s.hostResult r (s.pastCeiling r)

/-- A running job ends with what its engine reports. -/
def State.completeJob (s : State) (r : Run) (x : JobReport) : State :=
  let r := { r with began := some (r.at_ + 2000 + x.waited) }
  let s1 := ((s.endStalls r x.stalls).endHost r).guardIntrusion r
  let s2 := (s1.noteLate { r with stalls := x.stalls }).observe 2 r.entry.id ((s.now : Int) - r.at_)
  let p := s2.engineEnd r x.work
  p.1.endRun r p.2 0 0 0

/-- JOB_COMPLETION (R24): the job with the ID that runs longest; not while its transfers run. -/
def execJobCompletion (t job : Nat) (r : JobReport) : State → Result :=
  whenCore t fun s =>
    match s.head.running.find? (·.entry.id == job) with
    | some x => if s.xfersDone x.rid then s.completeJob x r else s
    | none => s

end Sys2Proof.Machine
end

