-- ==== Sys2Proof/Machine/Wakeup.lean ====
section
/-! DEFINITION. The wakes that may end in a full start, and the end of an exit from Watch (R502–R505, R595, R617), with their commands. -/
namespace Sys2Proof.Machine

/-! ### The causes of the wake logic (R502, R505) -/

/-- R499, R502, R505, R593: an enabled cause in Retained-off raises SRAM_EN and CORE_EN. -/
def State.wakeOff (s : State) (n : Nat) : State :=
  if s.boot.on ∧ s.power.trip = false ∧ s.power.mode = .retainedOff ∧ s.flag 0x2A0101 n ∧ s.power.wakeAt = none then
    (s.onPower fun p => { p with coreEn := true, sramEn := true, wakeAt := some s.now, railsOk := false }).setObj 0x2A0006 n
  else s

/-- A cause of the wake logic, which runs in every mode. -/
def State.wakeLogic (s : State) (n : Nat) : State := if s.powered then s.wakeCause n else s.wakeOff n

/-- WAKE_N (R502, R505). -/
def execWakeN (t : Nat) : State → Result := always t fun s => s.wakeLogic 3

/-- R502: TAI seconds reach 0x2A01.03. In Retained-off the RTC counts on, and device time with it. -/
def State.wakeTimeReached (s : State) : Bool :=
  s.cfg 0x2A0103 != 0 && decide (s.cfg 0x2A0103 ≤ s.time.dev / second)

/-- RTC_WAKE_TIME (R502, R505). -/
def execRtcWakeTime (t : Nat) : State → Result := always t fun s => if s.wakeTimeReached then s.wakeLogic 4 else s

/-! ### The hand-over of held frames (R502) -/

/-- The object that an SDO frame names. -/
def sdoKey (data : List Byte) : Nat := leAt data 1 2 * 256 + leAt data 3 1

/-- R425, R502: an expedited SDO download that was held in Watch; any other SDO frame is the server's protocol alone. -/
def State.heldSdo (s : State) (data : List Byte) : State :=
  let c := leAt data 0 1
  if bits c 7 5 = 1 ∧ c.testBit 1 then
    let n := if c.testBit 0 then 4 - bits c 3 2 else ((objectRow (sdoKey data)).map (·.type.size)).getD 4
    s.applyWrite .can (sdoKey data) ((data.drop 4).take n)
  else s

/-- R423: an NMT command that was held in Watch. -/
def State.heldNmt (s : State) (data : List Byte) : State :=
  match leAt data 0 1 with
  | 0x01 => s.nmtStart
  | 0x02 => s.nmtStop
  | 0x80 => s.nmtPreOp
  | 0x81 => s.commandReset s.boot.env
  | 0x82 => s.nmtResetComm
  | _ => s

/-- A fragment of a record that was held in Watch. -/
def State.heldFragment (s : State) (c cob : Nat) (data : List Byte) : State :=
  match s.recordChannel cob with
  | none => s
  | some r =>
    let h := leAt data 0 2
    if h.testBit 15 ∧ bits h 13 0 = 0 then s.firstFragment c r (h.testBit 14) data else s.nextFragment c r (bits h 13 0) (h.testBit 14) data

/-- R502: control core 1 takes a frame that the always-on core held. -/
def State.takeHeld (s : State) (f : Nat × Nat × List Byte) : State :=
  if f.2.1 = 0 then s.heldNmt f.2.2
  else if f.2.1 = 0x600 + (s.ctrl f.1).node then s.heldSdo f.2.2
  else s.heldFragment f.1 f.2.1 f.2.2

/-- R502: the held frames in the order of arrival. -/
def State.handOver (s : State) : State :=
  s.net.watchFrames.foldl State.takeHeld (s.onNet fun n => { n with watchFrames := [] })

/-! ### Rails good (R504, R505, R595) -/

/-- R504: the rails came good behind a wake in Watch: the cores resume and take the held frames. -/
def State.railsInWatch (s : State) : State :=
  if s.power.coreEn ∧ s.power.railsOk = false ∧ s.power.wakeAt.isSome ∧ s.power.retryAt = none then s.resumeCores.handOver else s

/-- R505, R595: the rails came good behind a wake from Retained-off: a full start, then the cause and event 0xB004. -/
def State.railsInOff (s : State) : State :=
  if s.power.coreEn ∧ s.power.wakeAt.isSome then ((s.fullStart s.boot.env 1).setObj 0x2A0006 (s.obj 0x2A0006)).emit 0xB004 else s

/-- CORE_RAILS_GOOD (R504, R505). -/
def execCoreRailsGood (t : Nat) : State → Result :=
  always t fun s =>
    if s.power.mode = .watch ∧ s.powered then s.railsInWatch
    else if s.power.mode = .retainedOff ∧ s.boot.on then s.railsInOff
    else s

end Sys2Proof.Machine
end

