-- ==== Sys2Proof/Machine/Dispatch.lean ====
section
/-! DEFINITION. One arm for every command: a direct call of its meaning. -/
namespace Sys2Proof.Machine

def exec (i : Instr) (s : State) : Host.Outcome State Fault Refusal :=
  match i with
  | .tickInEdge t rising pulse => Sys2Proof.Machine.execTickInEdge t rising pulse s
  | .internalEdge t => Sys2Proof.Machine.execInternalEdge t s
  | .ptpDerivedEdge t => Sys2Proof.Machine.execPtpDerivedEdge t s
  | .generatorEdge t => Sys2Proof.Machine.execGeneratorEdge t s
  | .windowClose t => Sys2Proof.Machine.execWindowClose t s
  | .tickInputLost t => Sys2Proof.Machine.execTickInputLost t s
  | .tickHoldoverLimit t => Sys2Proof.Machine.execTickHoldoverLimit t s
  | .acquireTimeout t => Sys2Proof.Machine.execAcquireTimeout t s
  | .switchOverAbandoned t => Sys2Proof.Machine.execSwitchOverAbandoned t s
  | .tickSourceRequest t p v => Sys2Proof.Machine.execTickSourceRequest t p v s
  | .nominalRateRequest t p v => Sys2Proof.Machine.execNominalRateRequest t p v s
  | .jobCompletion t job r => Sys2Proof.Machine.execJobCompletion t job r s
  | .budgetCut t job concealed => Sys2Proof.Machine.execBudgetCut t job concealed s
  | .forceIdr t p e v => Sys2Proof.Machine.execForceIdr t p e v s
  | .setTime t p v => Sys2Proof.Machine.execSetTime t p v s
  | .ptpSync t h twoStep origin => Sys2Proof.Machine.execPtpSync t h twoStep origin s
  | .ppsInEdge t rising pulse => Sys2Proof.Machine.execPpsInEdge t rising pulse s
  | .ppsSecondsMissed t => Sys2Proof.Machine.execPpsSecondsMissed t s
  | .timeBaseHoldover t => Sys2Proof.Machine.execTimeBaseHoldover t s
  | .timeBaseFreeRun t => Sys2Proof.Machine.execTimeBaseFreeRun t s
  | .leapSecond t => Sys2Proof.Machine.execLeapSecond t s
  | .rtcWrite t => Sys2Proof.Machine.execRtcWrite t s
  | .ptpFollowUp t h origin => Sys2Proof.Machine.execPtpFollowUp t h origin s
  | .ptpAnnounce t h a => Sys2Proof.Machine.execPtpAnnounce t h a s
  | .ptpDelayResp t h received logInterval => Sys2Proof.Machine.execPtpDelayResp t h received logInterval s
  | .ptpDelayReq t => Sys2Proof.Machine.execPtpDelayReq t s
  | .ptpMasterLost t => Sys2Proof.Machine.execPtpMasterLost t s
  | .csi2FrameStart t rx vc => Sys2Proof.Machine.execCsi2FrameStart t rx vc s
  | .csi2LongPacket t rx vc dt bytes ecc crcOk lineGap => Sys2Proof.Machine.execCsi2LongPacket t rx vc dt bytes ecc crcOk lineGap s
  | .csi2FrameEnd t rx vc => Sys2Proof.Machine.execCsi2FrameEnd t rx vc s
  | .tdmFrame t port words bclkOk => Sys2Proof.Machine.execTdmFrame t port words bclkOk s
  | .spiTransaction t m c word => Sys2Proof.Machine.execSpiTransaction t m c word s
  | .drdyTimeout t m c => Sys2Proof.Machine.execDrdyTimeout t m c s
  | .rtpPacket t mac port ipv4 pkt => Sys2Proof.Machine.execRtpPacket t mac port ipv4 pkt s
  | .ssrcRelease t p n v => Sys2Proof.Machine.execSsrcRelease t p n v s
  | .udpRecordDatagram t iface port bytes => Sys2Proof.Machine.execUdpRecordDatagram t iface port bytes s
  | .sampleWord t tap raw => Sys2Proof.Machine.execSampleWord t tap raw s
  | .tapSilent t tap => Sys2Proof.Machine.execTapSilent t tap s
  | .clearLatches t p mask => Sys2Proof.Machine.execClearLatches t p mask s
  | .bankCommit t p v => Sys2Proof.Machine.execBankCommit t p v s
  | .bankSwap t => Sys2Proof.Machine.execBankSwap t s
  | .activeBankScrub t crc => Sys2Proof.Machine.execActiveBankScrub t crc s
  | .gclkFault t => Sys2Proof.Machine.execGclkFault t s
  | .reseed t => Sys2Proof.Machine.execReseed t s
  | .healthWindow t raw => Sys2Proof.Machine.execHealthWindow t raw s
  | .chunkVisible t xfer crcOk data => Sys2Proof.Machine.execChunkVisible t xfer crcOk data s
  | .translationFault t xfer chunk va access walkError => Sys2Proof.Machine.execTranslationFault t xfer chunk va access walkError s
  | .faultResume t p v => Sys2Proof.Machine.execFaultResume t p v s
  | .faultAbandon t p v => Sys2Proof.Machine.execFaultAbandon t p v s
  | .faultDeadline t => Sys2Proof.Machine.execFaultDeadline t s
  | .invalidate t p v => Sys2Proof.Machine.execInvalidate t p v s
  | .invalidationCompleted t => Sys2Proof.Machine.execInvalidationCompleted t s
  | .sramScrub t addr errors => Sys2Proof.Machine.execSramScrub t addr errors s
  | .imageLoadFromNor t p v => Sys2Proof.Machine.execImageLoadFromNor t p v s
  | .slotHashComplete t slot digest => Sys2Proof.Machine.execSlotHashComplete t slot digest s
  | .slotReload t p slot v => Sys2Proof.Machine.execSlotReload t p slot v s
  | .queueDoorbell t q tail entries => Sys2Proof.Machine.execQueueDoorbell t q tail entries s
  | .queueEnable t p q => Sys2Proof.Machine.execQueueEnable t p q s
  | .queueDisable t p q => Sys2Proof.Machine.execQueueDisable t p q s
  | .queueReset t p q => Sys2Proof.Machine.execQueueReset t p q s
  | .completionHeadWrite t q v => Sys2Proof.Machine.execCompletionHeadWrite t q v s
  | .runJob t q descs => Sys2Proof.Machine.execRunJob t q descs s
  | .submitUnit t q desc formatOk => Sys2Proof.Machine.execSubmitUnit t q desc formatOk s
  | .fenceWrite t q => Sys2Proof.Machine.execFenceWrite t q s
  | .fenceToken t q => Sys2Proof.Machine.execFenceToken t q s
  | .nop t q => Sys2Proof.Machine.execNop t q s
  | .loadImage t q img => Sys2Proof.Machine.execLoadImage t q img s
  | .portTrainStart t k => Sys2Proof.Machine.execPortTrainStart t k s
  | .train t k c => Sys2Proof.Machine.execTrain t k c s
  | .trainingComplete t k => Sys2Proof.Machine.execTrainingComplete t k s
  | .trainTimeout t k => Sys2Proof.Machine.execTrainTimeout t k s
  | .ident t k payload => Sys2Proof.Machine.execIdent t k payload s
  | .identTimeout t k => Sys2Proof.Machine.execIdentTimeout t k s
  | .refusedTimeout t k => Sys2Proof.Machine.execRefusedTimeout t k s
  | .portRetrain t k => Sys2Proof.Machine.execPortRetrain t k s
  | .retrainTimeout t k => Sys2Proof.Machine.execRetrainTimeout t k s
  | .ack t k c => Sys2Proof.Machine.execAck t k c s
  | .nak t k c => Sys2Proof.Machine.execNak t k c s
  | .replayTimeout t k => Sys2Proof.Machine.execReplayTimeout t k s
  | .blockError t k inFrame => Sys2Proof.Machine.execBlockError t k inFrame s
  | .heartbeatInstant t => Sys2Proof.Machine.execHeartbeatInstant t s
  | .heartbeat t k c => Sys2Proof.Machine.execHeartbeat t k c s
  | .role t k c => Sys2Proof.Machine.execRole t k c s
  | .tick t k c => Sys2Proof.Machine.execTick t k c s
  | .bye t k c => Sys2Proof.Machine.execBye t k c s
  | .write t k f => Sys2Proof.Machine.execWrite t k f s
  | .accum t k f ecc => Sys2Proof.Machine.execAccum t k f ecc s
  | .readReq t k f ecc => Sys2Proof.Machine.execReadReq t k f ecc s
  | .readData t k f => Sys2Proof.Machine.execReadData t k f s
  | .writeAck t k f => Sys2Proof.Machine.execWriteAck t k f s
  | .token t k f => Sys2Proof.Machine.execToken t k f s
  | .unreach t k f => Sys2Proof.Machine.execUnreach t k f s
  | .journal t k f => Sys2Proof.Machine.execJournal t k f s
  | .snapshot t k f => Sys2Proof.Machine.execSnapshot t k f s
  | .commit t k f => Sys2Proof.Machine.execCommit t k f s
  | .replAck t k f => Sys2Proof.Machine.execReplAck t k f s
  | .epochAbandoned t => Sys2Proof.Machine.execEpochAbandoned t s
  | .startWaitExpiry t => Sys2Proof.Machine.execStartWaitExpiry t s
  | .promotionComplete t => Sys2Proof.Machine.execPromotionComplete t s
  | .promotionGateTimeout t => Sys2Proof.Machine.execPromotionGateTimeout t s
  | .disputedEntered t => Sys2Proof.Machine.execDisputedEntered t s
  | .disputedResolved t => Sys2Proof.Machine.execDisputedResolved t s
  | .switchOverCommand t p => Sys2Proof.Machine.execSwitchOverCommand t p s
  | .resolve t p => Sys2Proof.Machine.execResolve t p s
  | .forceActive t p => Sys2Proof.Machine.execForceActive t p s
  | .forceStandby t p => Sys2Proof.Machine.execForceStandby t p s
  | .requestedRoleWrite t p v => Sys2Proof.Machine.execRequestedRoleWrite t p v s
  | .peerRoleInChange t level => Sys2Proof.Machine.execPeerRoleInChange t level s
  | .gateOpen t => Sys2Proof.Machine.execGateOpen t s
  | .interlockConflict t => Sys2Proof.Machine.execInterlockConflict t s
  | .roleKeeperLapse t => Sys2Proof.Machine.execRoleKeeperLapse t s
  | .startRemoteNode t c node => Sys2Proof.Machine.execStartRemoteNode t c node s
  | .stopRemoteNode t c node => Sys2Proof.Machine.execStopRemoteNode t c node s
  | .enterPreOperational t c node => Sys2Proof.Machine.execEnterPreOperational t c node s
  | .resetCommunication t c node => Sys2Proof.Machine.execResetCommunication t c node s
  | .resetNode t c node env => Sys2Proof.Machine.execResetNode t c node env s
  | .duplicateListenEnd t c => Sys2Proof.Machine.execDuplicateListenEnd t c s
  | .duplicate t c cob => Sys2Proof.Machine.execDuplicate t c cob s
  | .heartbeatProduction t c => Sys2Proof.Machine.execHeartbeatProduction t c s
  | .partnerHeartbeat t c node state => Sys2Proof.Machine.execPartnerHeartbeat t c node state s
  | .bootUp t c node => Sys2Proof.Machine.execBootUp t c node s
  | .partnerLost t c node => Sys2Proof.Machine.execPartnerLost t c node s
  | .partnerForget t c node => Sys2Proof.Machine.execPartnerForget t c node s
  | .sync t c => Sys2Proof.Machine.execSync t c s
  | .rpdo t c n data => Sys2Proof.Machine.execRpdo t c n data s
  | .canRecordFragment t c cob data => Sys2Proof.Machine.execCanRecordFragment t c cob data s
  | .recordReassemblyTimeout t c chan => Sys2Proof.Machine.execRecordReassemblyTimeout t c chan s
  | .errorPassive t c => Sys2Proof.Machine.execErrorPassive t c s
  | .busOff t c => Sys2Proof.Machine.execBusOff t c s
  | .busOffRecovery t c => Sys2Proof.Machine.execBusOffRecovery t c s
  | .releaseHeldOffController t p c v => Sys2Proof.Machine.execReleaseHeldOffController t p c v s
  | .busLoadWindow t c load busiest => Sys2Proof.Machine.execBusLoadWindow t c load busiest s
  | .switchStateGlobal t c config => Sys2Proof.Machine.execSwitchStateGlobal t c config s
  | .switchStateSelective t c addr => Sys2Proof.Machine.execSwitchStateSelective t c addr s
  | .configureNodeId t c v => Sys2Proof.Machine.execConfigureNodeId t c v s
  | .configureBitTiming t c v => Sys2Proof.Machine.execConfigureBitTiming t c v s
  | .activateBitTiming t c => Sys2Proof.Machine.execActivateBitTiming t c s
  | .storeConfiguration t c => Sys2Proof.Machine.execStoreConfiguration t c s
  | .inquireIdentity t c part => Sys2Proof.Machine.execInquireIdentity t c part s
  | .inquireNodeId t c => Sys2Proof.Machine.execInquireNodeId t c s
  | .identifyRemoteSlave t c vendor product revLo revHi serLo serHi => Sys2Proof.Machine.execIdentifyRemoteSlave t c vendor product revLo revHi serLo serHi s
  | .identifyNonConfiguredSlave t c => Sys2Proof.Machine.execIdentifyNonConfiguredSlave t c s
  | .fastscan t c id bitCheck sub next => Sys2Proof.Machine.execFastscan t c id bitCheck sub next s
  | .plcaStatusChange t ok => Sys2Proof.Machine.execPlcaStatusChange t ok s
  | .erroredTransmission t opp => Sys2Proof.Machine.execErroredTransmission t opp s
  | .collision t => Sys2Proof.Machine.execCollision t s
  | .transmitLimit t => Sys2Proof.Machine.execTransmitLimit t s
  | .arp t iface request sender senderMac target => Sys2Proof.Machine.execArp t iface request sender senderMac target s
  | .icmpEcho t iface src dst data => Sys2Proof.Machine.execIcmpEcho t iface src dst data s
  | .udpObjectAccess t src port data => Sys2Proof.Machine.execUdpObjectAccess t src port data s
  | .objectWrite t p key data => Sys2Proof.Machine.execObjectWrite t p key data s
  | .divergencePersisted t key => Sys2Proof.Machine.execDivergencePersisted t key s
  | .store t p sub v => Sys2Proof.Machine.execStore t p sub v s
  | .storeComplete t readBackOk => Sys2Proof.Machine.execStoreComplete t readBackOk s
  | .restoreDefaults t p sub v => Sys2Proof.Machine.execRestoreDefaults t p sub v s
  | .domainPortSelect t v => Sys2Proof.Machine.execDomainPortSelect t v s
  | .domainPortCommit t v data => Sys2Proof.Machine.execDomainPortCommit t v data s
  | .livenessDoorbell t => Sys2Proof.Machine.execLivenessDoorbell t s
  | .hostLivenessLapse t => Sys2Proof.Machine.execHostLivenessLapse t s
  | .pcieReset t => Sys2Proof.Machine.execPcieReset t s
  | .pcieLinkDown t => Sys2Proof.Machine.execPcieLinkDown t s
  | .workingModeRequest t p v => Sys2Proof.Machine.execWorkingModeRequest t p v s
  | .watchCommand t p => Sys2Proof.Machine.execWatchCommand t p s
  | .retainedOffCommand t p => Sys2Proof.Machine.execRetainedOffCommand t p s
  | .deferralTimeout t => Sys2Proof.Machine.execDeferralTimeout t s
  | .spotterFrameEnd t score samples => Sys2Proof.Machine.execSpotterFrameEnd t score samples s
  | .wakeN t => Sys2Proof.Machine.execWakeN t s
  | .rtcWakeTime t => Sys2Proof.Machine.execRtcWakeTime t s
  | .railsNotGood t => Sys2Proof.Machine.execRailsNotGood t s
  | .wakeRetry t => Sys2Proof.Machine.execWakeRetry t s
  | .thermalSample t r => Sys2Proof.Machine.execThermalSample t r s
  | .thermalTrip t => Sys2Proof.Machine.execThermalTrip t s
  | .monitorSnapshot t p m => Sys2Proof.Machine.execMonitorSnapshot t p m s
  | .monitorSnapshotAndClear t p m => Sys2Proof.Machine.execMonitorSnapshotAndClear t p m s
  | .monitorClear t p m => Sys2Proof.Machine.execMonitorClear t p m s
  | .flush t programFailAt => Sys2Proof.Machine.execFlush t programFailAt s
  | .freeze t p => Sys2Proof.Machine.execFreeze t p s
  | .freezeRelease t p => Sys2Proof.Machine.execFreezeRelease t p s
  | .freezeTimeout t => Sys2Proof.Machine.execFreezeTimeout t s
  | .pwrfailAsserted t => Sys2Proof.Machine.execPwrfailAsserted t s
  | .powerRestored t => Sys2Proof.Machine.execPowerRestored t s
  | .watchdogService t k => Sys2Proof.Machine.execWatchdogService t k s
  | .watchdogExpiry t k pc => Sys2Proof.Machine.execWatchdogExpiry t k pc s
  | .debugHalt t k => Sys2Proof.Machine.execDebugHalt t k s
  | .debugResume t k => Sys2Proof.Machine.execDebugResume t k s
  | .parityError t core env => Sys2Proof.Machine.execParityError t core env s
  | .lifetimeEntry t writeOk => Sys2Proof.Machine.execLifetimeEntry t writeOk s
  | .eraseCountWrite t writeOk => Sys2Proof.Machine.execEraseCountWrite t writeOk s
  | .powerOnReset t env => Sys2Proof.Machine.execPowerOnReset t env s
  | .pinReset t env => Sys2Proof.Machine.execPinReset t env s
  | .confirmFirmware t p v => Sys2Proof.Machine.execConfirmFirmware t p v s
  | .updateData t p data => Sys2Proof.Machine.execUpdateData t p data s
  | .updateCommit t p v => Sys2Proof.Machine.execUpdateCommit t p v s
  | .unlock t tok => Sys2Proof.Machine.execUnlock t tok s
  | .lock t p => Sys2Proof.Machine.execLock t p s
  | .sealDevice t p => Sys2Proof.Machine.execSealDevice t p s
  | .keyBlock t p data => Sys2Proof.Machine.execKeyBlock t p data s
  | .retentionLost t => Sys2Proof.Machine.execRetentionLost t s
  | .gclkRelock t => Sys2Proof.Machine.execGclkRelock t s
  | .faultRingConsumerWrite t v => Sys2Proof.Machine.execFaultRingConsumerWrite t v s
  | .canWakeFrame t c cob data => Sys2Proof.Machine.execCanWakeFrame t c cob data s
  | .pwrfailDeasserted t => Sys2Proof.Machine.execPwrfailDeasserted t s
  | .hostAssistStageRegistered t stage cost => Sys2Proof.Machine.execHostAssistStageRegistered t stage cost s
  | .carrierInOwnTo t => Sys2Proof.Machine.execCarrierInOwnTo t s
  | .tpdoEventTimer t n => Sys2Proof.Machine.execTpdoEventTimer t n s
  | .emergencyInhibitExpiry t c => Sys2Proof.Machine.execEmergencyInhibitExpiry t c s
  | .emergencyFrameSent t c => Sys2Proof.Machine.execEmergencyFrameSent t c s
  | .coreRailsGood t => Sys2Proof.Machine.execCoreRailsGood t s
  | .rtcpSenderReport t mac port data => Sys2Proof.Machine.execRtcpSenderReport t mac port data s

end Sys2Proof.Machine
end

