-- ==== Sys2Proof/Safety.lean ====
section
/-! DEFINITION. What the statements mean by a sound state, by a step that completes, by the parts of the state that a command leaves as
they were, and by what has to run for a command to have an effect. -/
namespace Sys2Proof.Machine

/-- The memories stand in canonical form (notes/assumptions/5.md). -/
def State.memoryOk (s : State) : Bool := Memory.wf s.sram && Memory.wf s.dram

/-- An answer that is a next state. -/
def completes (r : Host.Outcome State Fault Refusal) : Prop := ∃ s', r = .next s'

/-- A command answers a next state, and what it holds. -/
def answers (c : Instr) (s : State) (P : State → Prop) : Prop := ∃ s', exec c s = .next s' ∧ P s'

/-- At an instant, a path is served and may write a number to an object (R469, R470). -/
def State.mayWrite (s : State) (t : Nat) (p : Path) (k v : Nat) : Bool :=
  let a := s.advance t
  a.served p && a.writeError p k (leBytes (objWidth k / 8) v) == 0

/-- The device serves the journal of no peer and sends no epochs to one. -/
def State.alone (s : State) : Bool := !(s.pair && (s.red.role == .tailstock || s.red.role == .active))

/-- The parts of the state, one for each field. -/
inductive Part where
  | now | free | od | inForce | actual | time | ptp | tick | head | streams | alarm | codec | noise | xfer | comp | link | red
  | net | dict | power | log | health | boot | sram | dram | out | pending
deriving DecidableEq, Repr

/-- One part of a state, with every other part blank. -/
def State.only (s : State) : Part → State
  | .now => { now := s.now }
  | .free => { free := s.free }
  | .od => { od := s.od }
  | .inForce => { inForce := s.inForce }
  | .actual => { actual := s.actual }
  | .time => { time := s.time }
  | .ptp => { ptp := s.ptp }
  | .tick => { tick := s.tick }
  | .head => { head := s.head }
  | .streams => { streams := s.streams }
  | .alarm => { alarm := s.alarm }
  | .codec => { codec := s.codec }
  | .noise => { noise := s.noise }
  | .xfer => { xfer := s.xfer }
  | .comp => { comp := s.comp }
  | .link => { link := s.link }
  | .red => { red := s.red }
  | .net => { net := s.net }
  | .dict => { dict := s.dict }
  | .power => { power := s.power }
  | .log => { log := s.log }
  | .health => { health := s.health }
  | .boot => { boot := s.boot }
  | .sram => { sram := s.sram }
  | .dram => { dram := s.dram }
  | .out => { out := s.out }
  | .pending => { pending := s.pending }

/-- The second state differs from the first at most in the parts of a list. -/
def changesOnly (ps : List Part) (s s' : State) : Prop := ∀ p, p ∉ ps → s'.only p = s.only p

/-! ### What settles at the end of a command

Every command ends with `State.settle`: fences lift, frames of the journal and completion records go out, events and emergencies are
recorded and sent, errors and divergences are counted. -/

/-- A controller without its emergencies. -/
def Ctrl.quiet (k : Ctrl) : Ctrl := { k with emcy := [], sending := false, inhibitFrom := none }

/-- A port without what it sends. -/
def Port.quiet (p : Port) : Port :=
  { p with txSeq := 0, waiting := [], replay := [], replayAt := 0, credits := [], tc2Behind := 0, tc0 := 0 }

/-- A queue without its fence and its completion ring. -/
def Queue.quiet (q : Queue) : Queue := { q with fence := none, fenceRec := none, compProd := 0, compUsed := 0 }

/-- The recorder without records and its counts of them. -/
def RecorderSt.quiet (l : RecorderSt) : RecorderSt :=
  { l with shavings := [], shavSeq := 0, shavCount := 0, staging := [], nextSeq := 0, staged := 0, drops := 0, recent := [] }

/-- The network without its emergencies. -/
def NetSt.quiet (n : NetSt) : NetSt :=
  { n with errReg := 0, errHistory := [], emcyDrops := 0, ctrls := (List.range 2).map fun c => (c, (tget n.ctrls c {}).quiet) }

/-- The link without what it sends. -/
def LinkSt.quiet (l : LinkSt) : LinkSt := { l with ports := (List.range 2).map fun k => (k, (tget l.ports k {}).quiet) }

/-- The queues without their fences and completion rings. -/
def ComputeSt.quiet (c : ComputeSt) : ComputeSt :=
  { c with queues := (List.range 16).map fun q => (q, (tget c.queues q {}).quiet) }

/-- The state without what settles at the end of a command: what goes out by itself, with its buffers and counts. -/
def State.quiet (s : State) : State :=
  { s with
    out := []
    od := s.od.filter fun e => e.1 != 0x290104 && e.1 != 0x290204
    net := s.net.quiet, link := s.link.quiet, comp := s.comp.quiet, log := s.log.quiet
    red := { s.red with queue := [], framesInTick := 0 }
    dict := { s.dict with divs := [], raised := [] } }

/-! ### The frame, the runner and the instant of a command -/

/-- The instant of a command. -/
def instantOf : Instr → Nat
  | .tickInEdge t .. | .internalEdge t .. | .ptpDerivedEdge t .. | .generatorEdge t .. | .windowClose t ..
  | .tickInputLost t .. | .tickHoldoverLimit t .. | .acquireTimeout t .. | .switchOverAbandoned t ..
  | .tickSourceRequest t .. | .nominalRateRequest t .. | .jobCompletion t .. | .budgetCut t .. | .forceIdr t ..
  | .setTime t .. | .ptpSync t .. | .ppsInEdge t .. | .ppsSecondsMissed t .. | .timeBaseHoldover t ..
  | .timeBaseFreeRun t .. | .leapSecond t .. | .rtcWrite t .. | .ptpFollowUp t .. | .ptpAnnounce t ..
  | .ptpDelayResp t .. | .ptpDelayReq t .. | .ptpMasterLost t .. | .csi2FrameStart t .. | .csi2LongPacket t ..
  | .csi2FrameEnd t .. | .tdmFrame t .. | .spiTransaction t .. | .drdyTimeout t .. | .rtpPacket t ..
  | .ssrcRelease t .. | .udpRecordDatagram t .. | .sampleWord t .. | .tapSilent t .. | .clearLatches t ..
  | .bankCommit t .. | .bankSwap t .. | .activeBankScrub t .. | .gclkFault t .. | .reseed t .. | .healthWindow t ..
  | .chunkVisible t .. | .translationFault t .. | .faultResume t .. | .faultAbandon t .. | .faultDeadline t ..
  | .invalidate t .. | .invalidationCompleted t .. | .sramScrub t .. | .imageLoadFromNor t ..
  | .slotHashComplete t .. | .slotReload t .. | .queueDoorbell t .. | .queueEnable t .. | .queueDisable t ..
  | .queueReset t .. | .completionHeadWrite t .. | .runJob t .. | .submitUnit t .. | .fenceWrite t ..
  | .fenceToken t .. | .nop t .. | .loadImage t .. | .portTrainStart t .. | .train t .. | .trainingComplete t ..
  | .trainTimeout t .. | .ident t .. | .identTimeout t .. | .refusedTimeout t .. | .portRetrain t ..
  | .retrainTimeout t .. | .ack t .. | .nak t .. | .replayTimeout t .. | .blockError t .. | .heartbeatInstant t ..
  | .heartbeat t .. | .role t .. | .tick t .. | .bye t .. | .write t .. | .accum t .. | .readReq t ..
  | .readData t .. | .writeAck t .. | .token t .. | .unreach t .. | .journal t .. | .snapshot t .. | .commit t ..
  | .replAck t .. | .epochAbandoned t .. | .startWaitExpiry t .. | .promotionComplete t ..
  | .promotionGateTimeout t .. | .disputedEntered t .. | .disputedResolved t .. | .switchOverCommand t ..
  | .resolve t .. | .forceActive t .. | .forceStandby t .. | .requestedRoleWrite t .. | .peerRoleInChange t ..
  | .gateOpen t .. | .interlockConflict t .. | .roleKeeperLapse t .. | .startRemoteNode t .. | .stopRemoteNode t ..
  | .enterPreOperational t .. | .resetCommunication t .. | .resetNode t .. | .duplicateListenEnd t ..
  | .duplicate t .. | .heartbeatProduction t .. | .partnerHeartbeat t .. | .bootUp t .. | .partnerLost t ..
  | .partnerForget t .. | .sync t .. | .rpdo t .. | .canRecordFragment t .. | .recordReassemblyTimeout t ..
  | .errorPassive t .. | .busOff t .. | .busOffRecovery t .. | .releaseHeldOffController t .. | .busLoadWindow t ..
  | .switchStateGlobal t .. | .switchStateSelective t .. | .configureNodeId t .. | .configureBitTiming t ..
  | .activateBitTiming t .. | .storeConfiguration t .. | .inquireIdentity t .. | .inquireNodeId t ..
  | .identifyRemoteSlave t .. | .identifyNonConfiguredSlave t .. | .fastscan t .. | .plcaStatusChange t ..
  | .erroredTransmission t .. | .collision t .. | .transmitLimit t .. | .arp t .. | .icmpEcho t ..
  | .udpObjectAccess t .. | .objectWrite t .. | .divergencePersisted t .. | .store t .. | .storeComplete t ..
  | .restoreDefaults t .. | .domainPortSelect t .. | .domainPortCommit t .. | .livenessDoorbell t ..
  | .hostLivenessLapse t .. | .pcieReset t .. | .pcieLinkDown t .. | .workingModeRequest t .. | .watchCommand t ..
  | .retainedOffCommand t .. | .deferralTimeout t .. | .spotterFrameEnd t .. | .wakeN t .. | .rtcWakeTime t ..
  | .railsNotGood t .. | .wakeRetry t .. | .thermalSample t .. | .thermalTrip t .. | .monitorSnapshot t ..
  | .monitorSnapshotAndClear t .. | .monitorClear t .. | .flush t .. | .freeze t .. | .freezeRelease t ..
  | .freezeTimeout t .. | .pwrfailAsserted t .. | .powerRestored t .. | .watchdogService t .. | .watchdogExpiry t ..
  | .debugHalt t .. | .debugResume t .. | .parityError t .. | .lifetimeEntry t .. | .eraseCountWrite t ..
  | .powerOnReset t .. | .pinReset t .. | .confirmFirmware t .. | .updateData t .. | .updateCommit t ..
  | .unlock t .. | .lock t .. | .sealDevice t .. | .keyBlock t .. | .retentionLost t .. | .gclkRelock t ..
  | .faultRingConsumerWrite t .. | .canWakeFrame t .. | .pwrfailDeasserted t .. | .hostAssistStageRegistered t ..
  | .carrierInOwnTo t .. | .tpdoEventTimer t .. | .emergencyInhibitExpiry t .. | .emergencyFrameSent t ..
  | .coreRailsGood t .. | .rtcpSenderReport t .. => t

/-- What has to run for a command to have an effect: nothing, the always-on domain, the control cores or recovery, the control cores
and the engines (R500, R501, R504, R566). -/
inductive Runner where
  | any | powered | served | core
deriving DecidableEq, Repr

/-- What a command needs. -/
def runnerOf : Instr → Runner
  | .tickInEdge .. | .internalEdge .. | .ptpDerivedEdge .. | .generatorEdge .. | .windowClose .. | .tickInputLost ..
  | .tickHoldoverLimit .. | .acquireTimeout .. | .switchOverAbandoned .. | .ppsInEdge .. | .ppsSecondsMissed ..
  | .timeBaseHoldover .. | .timeBaseFreeRun .. | .leapSecond .. | .rtcWrite .. | .tdmFrame .. | .spiTransaction ..
  | .drdyTimeout .. | .sampleWord .. | .tapSilent .. | .bankSwap .. | .activeBankScrub .. | .gclkFault ..
  | .reseed .. | .healthWindow .. | .sramScrub .. | .peerRoleInChange .. | .gateOpen .. | .interlockConflict ..
  | .roleKeeperLapse .. | .startRemoteNode .. | .stopRemoteNode .. | .enterPreOperational .. | .resetCommunication ..
  | .resetNode .. | .heartbeatProduction .. | .hostLivenessLapse .. | .pcieReset .. | .pcieLinkDown ..
  | .deferralTimeout .. | .spotterFrameEnd .. | .railsNotGood .. | .wakeRetry .. | .thermalSample ..
  | .thermalTrip .. | .flush .. | .freezeTimeout .. | .pwrfailAsserted .. | .powerRestored .. | .watchdogService ..
  | .watchdogExpiry .. | .debugHalt .. | .debugResume .. | .lifetimeEntry .. | .eraseCountWrite .. | .unlock ..
  | .gclkRelock .. | .canWakeFrame .. | .pwrfailDeasserted .. | .emergencyInhibitExpiry .. | .emergencyFrameSent .. => .powered
  | .tickSourceRequest .. | .nominalRateRequest .. | .jobCompletion .. | .budgetCut .. | .forceIdr .. | .setTime ..
  | .ptpSync .. | .ptpFollowUp .. | .ptpAnnounce .. | .ptpDelayResp .. | .ptpDelayReq .. | .ptpMasterLost ..
  | .csi2FrameStart .. | .csi2LongPacket .. | .csi2FrameEnd .. | .rtpPacket .. | .ssrcRelease ..
  | .udpRecordDatagram .. | .clearLatches .. | .bankCommit .. | .chunkVisible .. | .translationFault ..
  | .faultResume .. | .faultAbandon .. | .faultDeadline .. | .invalidate .. | .invalidationCompleted ..
  | .imageLoadFromNor .. | .slotHashComplete .. | .slotReload .. | .queueDoorbell .. | .queueEnable ..
  | .queueDisable .. | .queueReset .. | .completionHeadWrite .. | .runJob .. | .submitUnit .. | .fenceWrite ..
  | .fenceToken .. | .nop .. | .loadImage .. | .portTrainStart .. | .train .. | .trainingComplete ..
  | .trainTimeout .. | .ident .. | .identTimeout .. | .refusedTimeout .. | .portRetrain .. | .retrainTimeout ..
  | .ack .. | .nak .. | .replayTimeout .. | .blockError .. | .heartbeatInstant .. | .heartbeat .. | .role ..
  | .tick .. | .bye .. | .write .. | .accum .. | .readReq .. | .readData .. | .writeAck .. | .token .. | .unreach ..
  | .journal .. | .snapshot .. | .commit .. | .replAck .. | .epochAbandoned .. | .startWaitExpiry ..
  | .promotionComplete .. | .promotionGateTimeout .. | .disputedEntered .. | .disputedResolved ..
  | .switchOverCommand .. | .resolve .. | .forceActive .. | .forceStandby .. | .requestedRoleWrite ..
  | .duplicateListenEnd .. | .duplicate .. | .partnerHeartbeat .. | .bootUp .. | .partnerLost .. | .partnerForget ..
  | .sync .. | .rpdo .. | .canRecordFragment .. | .recordReassemblyTimeout .. | .errorPassive .. | .busOff ..
  | .busOffRecovery .. | .releaseHeldOffController .. | .busLoadWindow .. | .switchStateGlobal ..
  | .switchStateSelective .. | .configureNodeId .. | .configureBitTiming .. | .activateBitTiming ..
  | .storeConfiguration .. | .inquireIdentity .. | .inquireNodeId .. | .identifyRemoteSlave ..
  | .identifyNonConfiguredSlave .. | .fastscan .. | .plcaStatusChange .. | .erroredTransmission .. | .collision ..
  | .transmitLimit .. | .arp .. | .icmpEcho .. | .udpObjectAccess .. | .divergencePersisted .. | .store ..
  | .storeComplete .. | .restoreDefaults .. | .domainPortSelect .. | .domainPortCommit .. | .livenessDoorbell ..
  | .workingModeRequest .. | .watchCommand .. | .retainedOffCommand .. | .monitorSnapshot ..
  | .monitorSnapshotAndClear .. | .monitorClear .. | .freeze .. | .freezeRelease .. | .parityError ..
  | .confirmFirmware .. | .lock .. | .sealDevice .. | .keyBlock .. | .faultRingConsumerWrite ..
  | .hostAssistStageRegistered .. | .carrierInOwnTo .. | .tpdoEventTimer .. | .rtcpSenderReport .. => .core
  | .objectWrite .. | .updateData .. | .updateCommit .. => .served
  | .wakeN .. | .rtcWakeTime .. | .powerOnReset .. | .pinReset .. | .retentionLost .. | .coreRailsGood .. => .any

/-- The parts that a command may change, beside those that its end settles (`State.quiet`). -/
def frameOf : Instr → List Part
  | .tickInEdge .. | .internalEdge .. | .ptpDerivedEdge .. | .generatorEdge .. | .acquireTimeout .. => [.free, .od, .inForce, .actual, .time, .tick, .head, .streams, .alarm, .codec, .noise, .xfer, .comp, .link, .red, .net, .dict, .power, .log, .health, .boot, .sram, .dram]
  | .windowClose .. => [.free, .od, .tick, .head, .net, .log]
  | .tickInputLost .. | .switchOverAbandoned .. => [.od, .tick, .net, .log]
  | .tickHoldoverLimit .. => [.tick, .net, .log]
  | .tickSourceRequest .. | .nominalRateRequest .. => [.od, .inForce, .tick, .streams, .red, .net, .log]
  | .jobCompletion .. => [.free, .od, .actual, .head, .streams, .codec, .noise, .comp, .link, .red, .net, .power, .log, .health]
  | .budgetCut .. => [.od, .codec, .net, .log]
  | .forceIdr .. => [.od, .codec, .red, .net, .log]
  | .setTime .. => [.od, .time, .tick, .red, .net, .log, .health]
  | .ptpSync .. | .ptpFollowUp .. => [.free, .od, .time, .ptp, .tick, .net, .log, .health]
  | .ppsInEdge .. => [.free, .od, .time, .tick, .net, .log, .health]
  | .ppsSecondsMissed .. | .timeBaseHoldover .. | .timeBaseFreeRun .. | .leapSecond .. => [.time, .net, .log]
  | .rtcWrite .. | .retentionLost .. => [.time]
  | .ptpAnnounce .. => [.od, .time, .ptp, .net, .log]
  | .ptpDelayResp .. => [.od, .ptp]
  | .ptpDelayReq .. => [.ptp]
  | .ptpMasterLost .. => [.time, .ptp, .net, .log]
  | .csi2FrameStart .. | .csi2FrameEnd .. | .rtpPacket .. | .udpRecordDatagram .. | .submitUnit ..
  | .canRecordFragment .. => [.od, .streams, .codec, .comp, .net, .log]
  | .csi2LongPacket .. => [.od, .streams, .codec, .net, .log]
  | .tdmFrame .. | .spiTransaction .. => [.od, .streams, .alarm, .codec, .comp, .net, .power, .log]
  | .drdyTimeout .. | .partnerHeartbeat .. | .bootUp .. | .partnerLost .. | .errorPassive .. | .busOff ..
  | .busOffRecovery .. | .plcaStatusChange .. | .freezeTimeout .. | .emergencyInhibitExpiry ..
  | .emergencyFrameSent .. => [.net, .log]
  | .ssrcRelease .. => [.od, .streams, .red, .net, .log]
  | .sampleWord .. | .tapSilent .. | .bankSwap .. => [.od, .alarm, .net, .power, .log]
  | .clearLatches .. => [.od, .alarm, .red, .net, .power, .log]
  | .bankCommit .. => [.od, .alarm, .red, .net, .log]
  | .activeBankScrub .. | .gclkFault .. => [.alarm, .net, .log]
  | .reseed .. => [.od, .noise]
  | .healthWindow .. => [.od, .noise, .net, .log]
  | .chunkVisible .. => [.od, .head, .streams, .codec, .xfer, .comp, .link, .net, .log, .sram, .dram]
  | .translationFault .. => [.free, .od, .head, .streams, .codec, .xfer, .comp, .link, .net, .log, .sram, .dram]
  | .faultResume .. | .faultAbandon .. => [.od, .head, .streams, .codec, .xfer, .comp, .link, .red, .net, .log, .sram, .dram]
  | .faultDeadline .. | .readData .. | .writeAck .. | .unreach .. => [.od, .head, .streams, .codec, .xfer, .comp, .link, .net, .log]
  | .invalidate .. => [.od, .xfer, .red, .net, .log]
  | .invalidationCompleted .. => [.xfer, .net, .log]
  | .sramScrub .. | .queueDoorbell .. | .fenceWrite .. | .fenceToken .. | .nop .. => [.od, .comp, .net, .log]
  | .imageLoadFromNor .. => [.od, .head, .red, .net, .log]
  | .slotHashComplete .. | .runJob .. | .loadImage .. => [.od, .head, .comp, .net, .log]
  | .slotReload .. => [.od, .head, .comp, .red, .net, .log]
  | .queueEnable .. | .queueDisable .. | .queueReset .. => [.od, .comp, .red, .net, .log]
  | .completionHeadWrite .. => [.comp]
  | .portTrainStart .. | .trainingComplete .. | .refusedTimeout .. => [.free, .od, .link]
  | .train .. | .ack .. | .nak .. | .replayTimeout .. | .blockError .. => [.od, .link]
  | .trainTimeout .. => [.link]
  | .ident .. => [.free, .od, .link, .red, .net, .log]
  | .identTimeout .. => [.link, .net, .log]
  | .portRetrain .. => [.free, .od, .link, .net, .log]
  | .retrainTimeout .. | .bye .. => [.od, .head, .streams, .codec, .xfer, .comp, .link, .red, .net, .log]
  | .heartbeatInstant .. | .commit .. | .forceActive .. | .rpdo .. | .objectWrite .. | .domainPortCommit .. => [.od, .inForce, .time, .tick, .head, .streams, .alarm, .codec, .xfer, .comp, .link, .red, .net, .dict, .power, .log, .health, .boot, .sram, .dram]
  | .heartbeat .. | .startWaitExpiry .. | .promotionComplete .. | .peerRoleInChange .. => [.link, .red, .net, .log]
  | .role .. | .snapshot .. | .promotionGateTimeout .. | .disputedEntered .. | .forceStandby .. => [.od, .link, .red, .net, .log]
  | .tick .. => [.od, .link, .net, .log]
  | .write .. => [.od, .link, .net, .log, .sram, .dram]
  | .accum .. => [.od, .comp, .link, .net, .log, .sram, .dram]
  | .readReq .. => [.od, .comp, .link, .net, .log]
  | .token .. => [.od, .streams, .codec, .comp, .link, .net, .log]
  | .journal .. | .replAck .. | .disputedResolved .. | .resolve .. | .updateCommit .. => [.od, .inForce, .time, .tick, .head, .alarm, .link, .red, .net, .dict, .power, .log, .health, .boot, .dram]
  | .epochAbandoned .. | .switchOverCommand .. | .releaseHeldOffController .. | .freeze .. | .freezeRelease .. => [.od, .red, .net, .log]
  | .requestedRoleWrite .. => [.od, .inForce, .streams, .link, .red, .net, .log]
  | .gateOpen .. | .roleKeeperLapse .. => [.red]
  | .interlockConflict .. => [.red, .net, .log]
  | .startRemoteNode .. | .stopRemoteNode .. | .enterPreOperational .. | .wakeN .. | .rtcWakeTime ..
  | .canWakeFrame .. => [.od, .net, .power, .log]
  | .resetCommunication .. => [.od, .inForce, .net, .dict, .power, .log, .boot]
  | .resetNode .. | .flush .. | .debugResume .. | .parityError .. => [.od, .inForce, .actual, .time, .ptp, .tick, .head, .streams, .alarm, .codec, .noise, .xfer, .comp, .link, .red, .net, .dict, .power, .log, .health, .boot, .dram]
  | .duplicateListenEnd .. | .unlock .. => [.net, .log, .boot]
  | .duplicate .. | .sync .. | .recordReassemblyTimeout .. | .configureNodeId .. | .erroredTransmission ..
  | .collision .. | .arp .. | .carrierInOwnTo .. | .tpdoEventTimer .. => [.od, .net, .log]
  | .heartbeatProduction .. | .partnerForget .. | .switchStateGlobal .. | .switchStateSelective ..
  | .configureBitTiming .. | .fastscan .. | .transmitLimit .. | .icmpEcho .. | .rtcpSenderReport .. => [.net]
  | .busLoadWindow .. => [.od, .net, .log, .health]
  | .activateBitTiming .. => [.od, .net]
  | .storeConfiguration .. => [.dict, .health, .boot]
  | .inquireIdentity .. | .inquireNodeId .. | .identifyRemoteSlave .. | .identifyNonConfiguredSlave .. => []
  | .udpObjectAccess .. => [.free, .od, .inForce, .time, .tick, .head, .streams, .alarm, .codec, .xfer, .comp, .link, .red, .net, .dict, .power, .log, .health, .boot, .sram, .dram]
  | .divergencePersisted .. | .domainPortSelect .. => [.od, .net, .dict, .log]
  | .store .. | .restoreDefaults .. => [.od, .net, .dict, .log, .health, .boot]
  | .storeComplete .. => [.od, .inForce, .red, .net, .dict, .log, .health, .boot]
  | .livenessDoorbell .. => [.od, .net, .log, .boot]
  | .hostLivenessLapse .. | .pcieReset .. | .pcieLinkDown .. => [.od, .head, .streams, .codec, .xfer, .comp, .link, .net, .dict, .log, .boot]
  | .workingModeRequest .. => [.od, .inForce, .streams, .red, .net, .power, .log]
  | .watchCommand .. | .retainedOffCommand .. => [.od, .red, .net, .power, .log]
  | .deferralTimeout .. | .wakeRetry .. => [.power]
  | .spotterFrameEnd .. => [.od, .head, .net, .power, .log]
  | .railsNotGood .. => [.net, .power, .log]
  | .thermalSample .. => [.od, .net, .power, .log, .health]
  | .thermalTrip .. => [.alarm, .red, .power, .boot]
  | .monitorSnapshot .. | .monitorSnapshotAndClear .. | .monitorClear .. => [.od, .red, .net, .log, .health]
  | .pwrfailAsserted .. => [.od, .red, .net, .dict, .log, .health, .boot]
  | .powerRestored .. | .lifetimeEntry .. | .eraseCountWrite .. => [.net, .log, .health]
  | .watchdogService .. => [.free, .red, .net, .log, .health]
  | .watchdogExpiry .. | .debugHalt .. => [.red, .net, .log, .health]
  | .powerOnReset .. | .pinReset .. | .coreRailsGood .. => [.od, .inForce, .actual, .time, .ptp, .tick, .head, .streams, .alarm, .codec, .noise, .xfer, .comp, .link, .red, .net, .dict, .power, .log, .health, .boot, .sram, .dram]
  | .confirmFirmware .. | .lock .. | .sealDevice .. | .keyBlock .. => [.od, .red, .net, .log, .boot]
  | .updateData .. => [.od, .red, .net, .log, .health, .boot]
  | .gclkRelock .. => [.alarm]
  | .faultRingConsumerWrite .. => [.xfer]
  | .pwrfailDeasserted .. => [.log]
  | .hostAssistStageRegistered .. => [.head]

/-- What a command needs runs. -/
def State.runs (s : State) : Runner → Bool
  | .any => true
  | .powered => s.powered
  | .core => s.coreOn
  | .served => s.coreOn || (s.powered && s.boot.state == 4)

end Sys2Proof.Machine
end

