-- ==== Sys2Proof/Certificates/Slice0/Obligations.lean ====
section
/-! DEFINITION. The statements for the provers, in the order of the chapters whose commands they are about. -/
section
open Sys2Proof Sys2Proof.Machine

/-- From R42, R52, R53, R58, R60: an accepted edge of each source takes the next tick number, and it is the last accepted one. The edge
comes on TICK_IN in its acceptance window, at the instant of the internal source or of the PTP-derived grid, at the
generator's instant, or at the end of acquire (0x2302.07). -/
def Obligations.accepted_edge_takes_next_tick : Prop :=
  let numbered := fun (s : State) (t : Nat) (s' : State) =>
    s'.tick.count = (s.tick.count + 1) % 2 ^ 64 ∧ s'.tick.lastEdge = some (max s.now t) ∧ s'.tick.started = true ∧ s'.tick.passed = 0
  (∀ (s : State) (t pulse e : Nat), s.powered → s.ticking → s.alone → 100 ≤ pulse → s.cfg 0x230208 = 0 →
    s.tick.source = .tickIn → s.tick.state = .locked → s.tick.switch = none → s.tick.lastEdge = some e → s.tick.lastIn = some e →
    s.glitchLimit ≤ max s.now t - e →
    (((max s.now t : Nat) : Int) - (e + s.tick.period : Nat)).natAbs ≤ tolerance s.tick.period →
    answers (.tickInEdge t true pulse) s (numbered s t)) ∧
  (∀ (s : State) (t : Nat), s.powered → s.ticking → s.alone → s.tick.ownEdges .internal → s.tick.internalEdge ≤ max s.now t →
    answers (.internalEdge t) s (numbered s t)) ∧
  (∀ (s : State) (t : Nat), s.powered → s.ticking → s.alone → s.tick.ownEdges .ptpDerived → s.tick.ptpEdge ≤ (s.advance t).time.dev →
    answers (.ptpDerivedEdge t) s (numbered s t)) ∧
  (∀ (s : State) (t g : Nat), s.powered → s.ticking → s.alone → s.tick.switch = none → s.tick.genNext = some g → g ≤ max s.now t →
    answers (.generatorEdge t) s fun s' => numbered s t s' ∧ s'.tick.period = s.tick.genPeriod) ∧
  (∀ (s : State) (t : Nat), s.powered → s.ticking → s.alone → s.tick.source = .tickIn → s.tick.state = .acquire →
    s.tick.acquireAt + s.cfg 0x230207 * msec ≤ max s.now t →
    answers (.acquireTimeout t) s (numbered s t))

/-- From R34, R58, R59, R61: what a lost TICK_IN, the end of holdover and the end of a switch-over without an edge make of the tick state; an expected edge
that passes is counted, and the jobs that still run at it overrun. -/
def Obligations.tick_source_lost : Prop :=
  (∀ (s : State) (t e : Nat), s.powered → s.tick.source = .tickIn → s.tick.state = .locked → s.tick.switch = none →
    s.tick.lastEdge = some e → 2 * e + 3 * s.tick.period ≤ 2 * max s.now t →
    answers (.tickInputLost t) s fun s' => s'.tick.state = .holdover ∧ s'.tick.holdoverAt = max s.now t ∧
      s'.tick.genNext = some (e + 2 * s.tick.holdoverPeriod) ∧ s'.tick.count = s.tick.count ∧
      s'.obj 0x23020D = (s.obj 0x23020D + 1) % 2 ^ 32) ∧
  (∀ (s : State) (t : Nat), s.powered → s.tick.state = .holdover → s.tick.switch = none →
    s.tick.holdoverAt + s.cfg 0x230206 * second ≤ max s.now t →
    answers (.tickHoldoverLimit t) s fun s' => s'.tick = { s.tick with state := .freeRun }) ∧
  (∀ (s : State) (t e : Nat) (x : SwitchOver), s.powered → s.tick.switch = some x → s.tick.lastEdge = some e →
    2 * e + 3 * x.pl ≤ 2 * max s.now t → 2 * x.qualAt + 3 * x.period ≤ 2 * max s.now t →
    answers (.switchOverAbandoned t) s fun s' => s'.tick.switch = none ∧ s'.tick.source = s.tick.source ∧
      s'.tick.state = (if x.was = .locked then .holdover else x.was) ∧ s'.tick.genNext.isSome) ∧
  (∀ (s : State) (t e : Nat), s.powered → s.working → s.tick.started → s.tick.switch = none → s.tick.passed = 0 →
    s.tick.source ≠ .internal → s.tick.lastEdge = some e → e + s.tick.period + tolerance s.tick.period ≤ max s.now t →
    answers (.windowClose t) s fun s' => s'.tick = { s.tick with passed := 1 } ∧ s'.head.endedLate = [] ∧
      (∀ r ∈ s'.head.running, r.overran) ∧ s'.obj 0x220005 = (s.obj 0x220005 + 1) % 2 ^ 32)

/-- From R54, R58, R460, R622: a request for a source or a rate becomes the requested value; before the first accepted edge the source begins
anew with it at once. -/
def Obligations.tick_requests : Prop :=
  (∀ (s : State) (t : Nat) (p : Path) (v : Nat), s.coreOn → v < 256 → s.mayWrite t p 0x230201 v →
    answers (.tickSourceRequest t p v) s fun s' => s'.obj 0x230201 = v ∧
      (s.tick.started = false → s'.tick.source = TickSource.ofCode v ∧ s'.tick.state = .acquire) ∧
      (s.tick.started = true → s'.tick = s.tick)) ∧
  (∀ (s : State) (t : Nat) (p : Path) (v : Nat), s.coreOn → v < 2 ^ 32 → s.mayWrite t p 0x230204 v →
    answers (.nominalRateRequest t p v) s fun s' => s'.obj 0x230204 = v ∧
      (s.tick.started = false → s'.tick.nominal = v ∧ s'.tick.state = .acquire) ∧
      (s.tick.started = true → s'.tick = s.tick))

/-- From R44, R46–R50: a written time, an edge on PPS_IN with PPS_IN alone as the source, the end of a UTC day with a leap second, and the
write of the RTC. A written time steps device time at once before the first accepted edge and waits for the next edge after it. -/
def Obligations.time_base_follows_its_source : Prop :=
  (∀ (s : State) (t : Nat) (p : Path) (v : Nat), s.coreOn → v < 2 ^ 64 → s.mayWrite t p 0x230105 v →
    answers (.setTime t p v) s fun s' =>
      (s.tick.started = true → s'.time = { (s.advance t).time with pending := some (.target v) }) ∧
      (s.tick.started = false → s'.time.dev = v ∧ s'.time.epoch = s.time.epoch + 1 ∧ s'.time.calendar = true ∧
        s'.time.rtcSec = v / second ∧ s'.time.rtcFrac = v % second * 32768 / second ∧ s'.time.rtcValid = true)) ∧
  (∀ (s : State) (t pulse : Nat) (c : Int), s.powered → s.cfg 0x23000D = 0 → 100 ≤ pulse → s.time.source = 2 →
    c = (s.advance t).time.dev - s.cfgInt 0x23000E → (c - nearestSecond c).natAbs ≤ s.cfg 0x230008 →
    answers (.ppsInEdge t true pulse) s fun s' => s'.time.lastPps = nearestSecond c ∧ s'.time.offset = c - nearestSecond c ∧
      s'.time.lastMeas = max s.now t ∧ s'.time.dev = (s.advance t).time.dev ∧ -500000 ≤ s'.time.freq ∧ s'.time.freq ≤ 500000) ∧
  (∀ (s : State) (t : Nat), s.powered → (s.advance t).leapDue →
    answers (.leapSecond t) s fun s' => s'.time.leapAdj = s.time.leapAdj + s.time.leapPending ∧ s'.time.leapPending = 0 ∧
      s'.time.dev = (s.advance t).time.dev) ∧
  (∀ (s : State) (t : Nat), s.powered → s.time.state = .locked → (∀ i, s.time.lastRtc = some i → i + second ≤ max s.now t) →
    answers (.rtcWrite t) s fun s' => s'.time = (s.advance t).time.writeRtc (max s.now t))

/-- From R44, R592: the time base on a loss of its source: three seconds missed on PPS_IN, no measurement for 3 s, the end of
holdover (0x2300.09), and the loss of the backup rail, which is noted with everything else off. -/
def Obligations.time_base_lost : Prop :=
  (∀ (s : State) (t : Nat), s.powered → (s.advance t).ppsMissed → s.time.source = 2 → s.time.state = .locked →
    answers (.ppsSecondsMissed t) s fun s' => s'.time.state = .holdover ∧ s'.time.holdoverAt = max s.now t) ∧
  (∀ (s : State) (t : Nat), s.powered → (s.advance t).ppsMissed → s.time.source = 3 → s.time.actual = 3 →
    answers (.ppsSecondsMissed t) s fun s' => s'.time.actual = 1 ∧ s'.time.state = s.time.state ∧ s'.time.runIn = 0) ∧
  (∀ (s : State) (t : Nat), s.powered → s.time.state = .locked → s.time.actual = 1 → s.time.lastMeas + 3 * second ≤ max s.now t →
    answers (.timeBaseHoldover t) s fun s' => s'.time.state = .holdover ∧ s'.time.holdoverAt = max s.now t) ∧
  (∀ (s : State) (t : Nat), s.powered → s.time.state = .holdover → s.time.holdoverAt + s.cfg 0x230009 * second ≤ max s.now t →
    answers (.timeBaseFreeRun t) s fun s' => s'.time.state = .freeRun ∧ s'.time.holdoverAt = s.time.holdoverAt) ∧
  (∀ (s : State) (t : Nat), answers (.retentionLost t) s fun s' => s'.time = { (s.advance t).time with retentionLost := true })

/-- From R448, R449: the PTP messages of the domain in force. A Sync of the chosen master gives the offset of device time from the
origin and the mean path delay; that delay is the mean of the two directions'. -/
def Obligations.ptp_measures : Prop :=
  let ours := fun (s : State) (h : PtpHeader) => s.ptpOurs h = true ∧ h.specific = 0
  (∀ (s : State) (t : Nat) (h : PtpHeader) (origin : Nat), s.coreOn → ours s h → s.fromMaster h →
    answers (.ptpSync t h false origin) s fun s' => s'.ptp.last = some (origin, (s.advance t).time.dev) ∧
      ∀ d, s.ptp.delay = some d → s.time.source = 1 → s.time.actual = 1 →
        s'.time.offset = ((s.advance t).time.dev : Int) - (origin + d : Nat)) ∧
  (∀ (s : State) (t : Nat) (h : PtpHeader) (origin : Nat), s.coreOn → ours s h → s.fromMaster h →
    answers (.ptpSync t h true origin) s fun s' => s'.ptp = { s.ptp with waiting := some (h.seq, (s.advance t).time.dev) }) ∧
  (∀ (s : State) (t : Nat) (h : PtpHeader) (origin t2 : Nat), s.coreOn → ours s h → s.fromMaster h → s.ptp.waiting = some (h.seq, t2) →
    answers (.ptpFollowUp t h origin) s fun s' => s'.ptp.last = some (origin, t2) ∧ s'.ptp.waiting = none ∧
      ∀ d, s.ptp.delay = some d → s.time.source = 1 → s.time.actual = 1 → s'.time.offset = (t2 : Int) - (origin + d : Nat)) ∧
  (∀ (s : State) (t : Nat), s.coreOn → s.ptp.chosen.isSome → s.ptp.reqAt ≤ max s.now t →
    answers (.ptpDelayReq t) s fun s' => .delayReq s.ptp.reqSeq ∈ s'.out ∧
      s'.ptp.req = some (s.ptp.reqSeq, (s.advance t).time.dev) ∧ s'.ptp.reqAt = max s.now t + logSeconds s.ptp.logInterval) ∧
  (∀ (s : State) (t : Nat) (h : PtpHeader) (t1 t2 t3 t4 : Nat) (n : Int), s.coreOn → ours s h → s.fromMaster h →
    s.ptp.req = some (h.seq, t3) → s.ptp.last = some (t1, t2) →
    answers (.ptpDelayResp t h t4 n) s fun s' =>
      s'.ptp = { s.ptp with delay := some ((((t2 : Int) - t1) + ((t4 : Int) - t3)) / 2).toNat, req := none, logInterval := n })

/-- From R448, R449: the master is the best of those heard within three intervals; without any there is none. -/
def Obligations.ptp_master : Prop :=
  (∀ (s : State) (t : Nat) (h : PtpHeader) (a : Announce), s.coreOn → s.ptpOurs h → h.specific = 0 →
    answers (.ptpAnnounce t h a) s fun s' =>
      s'.ptp.masters = ⟨h.clock, a, max s.now t⟩ :: s.ptp.masters.filter (fun m => m.clock != h.clock && !m.expired (max s.now t)) ∧
      s'.ptp.chosen = (bestMaster s'.ptp.masters).map (·.clock) ∧
      ∀ m, bestMaster s'.ptp.masters = some m → m.ann.utcValid → s'.time.masterUtc = some m.ann.utcOffset) ∧
  (∀ (s : State) (t : Nat), s.coreOn → s.ptp.chosen.isSome → (∀ m ∈ s.ptp.masters, m.expired (max s.now t)) →
    answers (.ptpMasterLost t) s fun s' => s'.ptp.chosen = none ∧ s'.ptp.masters = [] ∧ s'.time.masterUtc = none)

/-- From R78, R79, R87, R91, R92, R95: a CSI-2 frame. Its start takes a free buffer and the next sequence number, or is dropped and counted
when every buffer is held; a line within the limits joins it, one with a CRC error damages it; its end announces it. -/
def Obligations.csi2_frame_captured : Prop :=
  (∀ (s : State) (t : Nat) (rx : Fin 2) (vc n : Nat), s.coreOn → s.csiStream rx vc = some n → vc < 4 → s.mayStart n →
    s.unitsFull n = false → (s.stream n).filling = none → (s.stream n).pool.any Buf.isFree →
    answers (.csi2FrameStart t rx vc) s fun s' =>
      (s'.stream n).filling = some { seq := (s.stream n).seq, stamp := (s.advance t).stamp, bytes := 0 } ∧
      (s'.stream n).seq = (s.stream n).seq + 1 ∧ (s'.stream n).lines = 0) ∧
  (∀ (s : State) (t : Nat) (rx : Fin 2) (vc n : Nat), s.coreOn → s.csiStream rx vc = some n → vc < 4 → s.mayStart n →
    s.unitsFull n = false → (∀ b ∈ (s.stream n).pool, ∃ r u, b = .held r u) →
    answers (.csi2FrameStart t rx vc) s fun s' => (s'.stream n).pool = (s.stream n).pool ∧
      s'.obj (streamKey n 0x10) = (s.obj (streamKey n 0x10) + 1) % 2 ^ objWidth (streamKey n 0x10)) ∧
  (∀ (s : State) (t : Nat) (rx : Fin 2) (vc n dt bytes : Nat) (crcOk : Bool) (u : CapturedUnit), s.coreOn → s.csiStream rx vc = some n →
    vc < 4 → dt = bits (s.stream n).addr 13 8 → dataTypeBits dt ≠ 0 → s.partsFull n = false → (s.stream n).filling = some u →
    (s.stream n).lines + 1 ≤ (s.stream n).limits.height → bytes * 8 ≤ (s.stream n).limits.width * dataTypeBits dt →
    answers (.csi2LongPacket t rx vc dt bytes 0 crcOk false) s fun s' => (s'.stream n).lines = (s.stream n).lines + 1 ∧
      (s'.stream n).filling = some { u with bytes := u.bytes + bytes, damaged := u.damaged || !crcOk }) ∧
  (∀ (s : State) (t : Nat) (rx : Fin 2) (vc n i : Nat) (u : CapturedUnit), s.coreOn → s.csiStream rx vc = some n → vc < 4 →
    fillingAt (s.stream n).pool 0 = some (i, u) → u.damaged = false →
    answers (.csi2FrameEnd t rx vc) s fun s' => (s'.stream n).pool = (s.stream n).pool.set i (.waiting u) ∧
      (s'.stream n).lastStamp = some u.stamp ∧ .metadata 0xFFFF (u.metadata n).pack ∈ s'.out)

/-- From R80, R81, R112, R113, R115, R117: words on TDM and SPI reach their taps, each as its calibrated value; a frame with a wrong BCLK count
reaches none; a transaction without a word loses a sample. -/
def Obligations.words_reach_taps : Prop :=
  (∀ (s : State) (t : Nat) (port : Fin 4) (words : List (BitVec 32)), s.powered → s.alarm.gclkOk →
    answers (.tdmFrame t port words true) s fun s' => ∀ i w, i < 16 → words[i]? = some w →
      (s'.tap (16 * port + i)).value = s.tapValue (16 * port + i) w.toNat ∧ (s'.tap (16 * port + i)).lastWord = some (max s.now t) ∧
      (s'.tap (16 * port + i)).silent = false) ∧
  (∀ (s : State) (t : Nat) (port : Fin 4) (words : List (BitVec 32)), s.powered →
    answers (.tdmFrame t port words false) s fun s' => s'.alarm = s.alarm) ∧
  (∀ (s : State) (t : Nat) (m : Fin 2) (c : Fin 4) (w : BitVec 32), s.powered → s.alarm.gclkOk →
    answers (.spiTransaction t m c (some w)) s fun s' =>
      (s'.tap (64 + 4 * m + c)).value = s.tapValue (64 + 4 * m + c) w.toNat ∧ (s'.tap (64 + 4 * m + c)).lastWord = some (max s.now t)) ∧
  (∀ (s : State) (t : Nat) (m : Fin 2) (c : Fin 4) (n : Nat), s.powered → s.spiStream m c = some n → s.takesSamples n →
    answers (.spiTransaction t m c none) s fun s' => (s'.stream n).lost = (s.stream n).lost + 1 ∧ s'.alarm = s.alarm) ∧
  (∀ (s : State) (t : Nat) (m : Fin 2) (c : Fin 4) (n : Nat), s.powered → s.spiStream m c = some n → s.cfg (0x2E1101 + 4 * m + c) = 1 →
    exec (.drdyTimeout t m c) s = .next ((s.advance t).emit 0x300F n).settle)

/-- From R82–R84, R86–R88, R446: an RTP packet joins its access unit and adopts the source, a packet of another source is refused with event
0x3009; a write of 0 releases the source; a sender report is kept; a datagram with a record is a whole unit. -/
def Obligations.packets_captured : Prop :=
  (∀ (s : State) (t : Nat) (mac : Fin 2) (port n : Nat) (pkt : RtpPacket) (u : CapturedUnit), s.coreOn → s.rtpStream mac port = some n →
    s.chuckRuns n → pkt.supported → (∀ x, (s.stream n).ssrc = some x → x = pkt.ssrc) → s.partsFull n = false →
    (s.stream n).rtpTs = some pkt.ts → (∀ q, (s.stream n).rtpSeq = some q → (q + 1) % 2 ^ 16 = pkt.seq % 2 ^ 16) →
    (s.stream n).filling = some u → (s.stream n).size + pkt.bytes ≤ (s.stream n).limits.unit → pkt.marker = false →
    answers (.rtpPacket t mac port true pkt) s fun s' => (s'.stream n).ssrc = some pkt.ssrc ∧
      (s'.stream n).rtpSeq = some (pkt.seq % 2 ^ 16) ∧ (s'.stream n).size = (s.stream n).size + pkt.bytes ∧
      (s'.stream n).filling = some { u with bytes := u.bytes + pkt.bytes, idr := u.idr || pkt.idr }) ∧
  (∀ (s : State) (t : Nat) (mac : Fin 2) (port n x : Nat) (pkt : RtpPacket), s.coreOn → s.rtpStream mac port = some n → s.chuckRuns n →
    pkt.supported → (s.stream n).ssrc = some x → x ≠ pkt.ssrc →
    exec (.rtpPacket t mac port true pkt) s = .next ((s.advance t).emit 0x3009 n).settle) ∧
  (∀ (s : State) (t : Nat) (p : Path) (n : Fin 16) (v : Nat), s.coreOn → s.mayWrite t p (streamKey n 0x1A) v →
    answers (.ssrcRelease t p n v) s fun s' => s'.stream n = { s.stream n with ssrc := none }) ∧
  (∀ (s : State) (t : Nat) (mac : Fin 2) (port n : Nat) (data : List Byte), s.coreOn → s.rtpStream mac port = some n → leAt data 1 1 = 200 →
    answers (.rtcpSenderReport t mac port data) s fun s' => tget s'.net.rtcp n [] = data) ∧
  (∀ (s : State) (t : Nat) (i : Fin 3) (port n : Nat) (data : List Byte), s.coreOn → s.udpStream i port = some n → s.mayStart n →
    s.unitsFull n = false → data.length ≤ (s.stream n).limits.unit → (s.stream n).filling = none → (s.stream n).pool.any Buf.isFree →
    answers (.udpRecordDatagram t i port data) s fun s' => (s'.stream n).seq = (s.stream n).seq + 1 ∧
      .waiting { seq := (s.stream n).seq, stamp := (s.advance t).stamp, bytes := data.length, data := data } ∈ (s'.stream n).pool)

/-- From R112–R116: a word steps its tap's windows under the active bank and counts; a tap that an enabled condition names and that
hears no word for its timeout is silent under its policy. With GCLK stopped a word has no effect. -/
def Obligations.tap_words_and_silence : Prop :=
  (∀ (s : State) (t : Nat) (tap : Fin 72) (raw : BitVec 32), s.powered → s.alarm.gclkOk →
    answers (.sampleWord t tap raw) s fun s' => s'.tap tap = (s.advance t).tapStep tap (s.tapValue tap raw.toNat) ∧
      s'.obj (tapBase tap + 0x1A) = pattern 32 (s.tapValue tap raw.toNat) ∧
      s'.obj (tapBase tap + 0x1C) = (s.obj (tapBase tap + 0x1C) + 1) % 2 ^ objWidth (tapBase tap + 0x1C) ∧
      s'.alarm.raw = maskOf s'.condRaw ∧ s'.alarm.conds = s'.alarm.raw ||| s'.alarm.latched) ∧
  (∀ (s : State) (t : Nat) (tap : Fin 72) (raw : BitVec 32), s.powered → s.alarm.gclkOk = false →
    answers (.sampleWord t tap raw) s fun s' => s'.alarm = s.alarm) ∧
  (∀ (s : State) (t : Nat) (tap : Fin 72), s.powered → s.alarm.gclkOk → s.tracked tap → (s.tap tap).silent = false →
    (∀ i, (s.tap tap).lastWord = some i → i + s.bk (tapBase tap + 4) * 1000 < max s.now t) →
    answers (.tapSilent t tap) s fun s' => (s'.tap tap).silent = true ∧
      (s'.tap tap).persisted = (if s.bk (tapBase tap + 5) = 1 then [true, true, true, true]
        else if s.bk (tapBase tap + 5) = 2 then [false, false, false, false] else (s.tap tap).persisted) ∧
      s'.alarm.raw = maskOf s'.condRaw ∧ s'.alarm.conds = s'.alarm.raw ||| s'.alarm.latched)

/-- From R120, R122, R123, R132: a commit checks the shadow bank, which comes into force at the word boundary; a clear of latches clears the
false conditions of its mask and leaves the others; it has no effect on a condition whose raw value is true. -/
def Obligations.alarm_banks_and_latches : Prop :=
  (∀ (s : State) (t : Nat) (p : Path) (v : Nat), s.coreOn → s.mayWrite t p 0x240101 v → s.shadowFault = none →
    answers (.bankCommit t p v) s fun s' => s'.alarm = { s.alarm with commit := some s.shadow }) ∧
  (∀ (s : State) (t : Nat) (p : Path) (v k : Nat), s.coreOn → s.mayWrite t p 0x240101 v → s.shadowFault = some k →
    answers (.bankCommit t p v) s fun s' => s'.alarm = { s.alarm with refused := true } ∧ s'.obj 0x240106 = k) ∧
  (∀ (s : State) (t : Nat) (b : Table Nat), s.powered → s.alarm.commit = some b → s.alarm.gclkOk →
    answers (.bankSwap t) s fun s' => s'.alarm.bank = b ∧ s'.alarm.commit = none ∧ s'.alarm.everCommitted = true ∧
      s'.alarm.path = 1 ∧ s'.alarm.forced = false ∧ s'.alarm.raw = maskOf s'.condRaw ∧
      s'.alarm.conds = s'.alarm.raw ||| s'.alarm.latched) ∧
  (∀ (s : State) (t : Nat) (p : Path) (mask : Mask64), s.coreOn → s.mayWrite t p 0x240005 mask.toNat →
    answers (.clearLatches t p mask) s fun s' => ∀ k, k < 64 →
      (mask.getLsbD k → s.alarm.raw.getLsbD k = false → s.condRaw k = false → s'.alarm.latched.getLsbD k = false) ∧
      ((mask.getLsbD k = false ∨ s.alarm.raw.getLsbD k) → s.alarm.latched.getLsbD k → (s.condWord k).testBit 63 →
        s'.alarm.latched.getLsbD k = true))

/-- From R121, R124, R126: a bad scrub or a stopped GCLK forces every pin; a good scrub changes nothing; after a relock the chain runs. -/
def Obligations.alarm_faults : Prop :=
  (∀ (s : State) (t : Nat) (crc : BitVec 32), s.powered → crc ≠ bankCrc s.bk →
    answers (.activeBankScrub t crc) s fun s' => s'.alarm.forced = true ∧ s'.alarm.path = 2 ∧ s'.alarm.bank = s.alarm.bank ∧
      ∀ n, n < 4 → s'.alarm.pins.getLsbD n = s'.pinLevel n) ∧
  (∀ (s : State) (t : Nat), s.powered →
    answers (.activeBankScrub t (bankCrc s.bk)) s fun s' => s'.alarm = s.alarm) ∧
  (∀ (s : State) (t : Nat), s.powered →
    answers (.gclkFault t) s fun s' => s'.alarm.gclkOk = false ∧ s'.alarm.gclkFault = true ∧ s'.alarm.forced = true ∧
      ∀ n, n < 4 → s.alarm.everCommitted → s'.alarm.pins.getLsbD n = s.flag 0x240006 n) ∧
  (∀ (s : State) (t : Nat), s.powered → answers (.gclkRelock t) s fun s' => s'.alarm = { s.alarm with gclkOk := true })

/-- From R24, R28: a job that completes leaves the running jobs, and its output goes out with its status, at least late (1) when it overran; the
runtime's word on a stage's host cost is kept. -/
def Obligations.job_completes : Prop :=
  (∀ (s : State) (t job : Nat) (x : Run) (r : JobReport), s.coreOn → s.head.running.find? (·.entry.id == job) = some x →
    s.xfersDone x.rid →
    answers (.jobCompletion t job r) s fun s' => (∀ y ∈ s'.head.running, y.rid ≠ x.rid) ∧
      ∃ st, tget s'.head.status job 0 = st ∧ .output job st x.tick x.takeover ∈ s'.out ∧ st ≤ 2 ∧ (x.overran → 1 ≤ st)) ∧
  (∀ (s : State) (t : Nat) (n : Fin 32) (cost : Nat), s.coreOn →
    answers (.hostAssistStageRegistered t n cost) s fun s' => s'.stage n = { s.stage n with cost := some cost })

/-- From R139, R158: the end of the last job of an H.264 picture. Its info word (0x2508+c.0C) has the Taint bit when a slice was damaged or a
reference or the context is tainted; an IDR picture without damage clears Taint. -/
def Obligations.h264_taint : Prop :=
  ∀ (s : State) (t job c : Nat) (x : Run) (r : H264Report), s.coreOn → s.head.running.find? (·.entry.id == job) = some x →
    s.xfersDone x.rid → x.entry.kind = .h264 c → c < 8 → (s.h264 c).resync = false → r.frameNumGap = false → r.last = true →
    answers (.jobCompletion t job { work := .h264 r }) s fun s' =>
      let damaged := (s.h264 c).damaged || decide (0 < r.damagedSlices)
      (s'.obj (h264Key c 0x0C)).testBit 7 =
        (if r.idr && !damaged then false else damaged || (s.h264 c).picTaint || r.taintedRef || (s.h264 c).taint) ∧
      (r.idr → damaged = false → (s'.h264 c).taint = false) ∧ (s'.h264 c).damaged = false

/-- From R138, R186: a decode job at its lane cost is cut in its context and counted; a forced IDR waits for the next frame. -/
def Obligations.budget_cut_and_forced_idr : Prop :=
  (∀ (s : State) (t job c conc : Nat) (x : Run), s.coreOn →
    s.head.running.find? (fun r => r.entry.id == job && jobDecodes r.entry.kind) = some x → x.entry.kind = .jpeg c →
    answers (.budgetCut t job conc) s fun s' => (s'.jpegCtx c).cut = true ∧ (s'.jpegCtx c).conc = (s.jpegCtx c).conc + conc ∧
      s'.obj 0x250005 = (s.obj 0x250005 + 1) % 2 ^ 32 ∧ s'.head = s.head) ∧
  (∀ (s : State) (t job c conc : Nat) (x : Run), s.coreOn →
    s.head.running.find? (fun r => r.entry.id == job && jobDecodes r.entry.kind) = some x → x.entry.kind = .h264 c → c < 8 →
    answers (.budgetCut t job conc) s fun s' =>
      s'.h264 c = { s.h264 c with cut := true, damaged := true, conc := (s.h264 c).conc + conc } ∧
      s'.obj 0x250005 = (s.obj 0x250005 + 1) % 2 ^ 32 ∧ s'.head = s.head) ∧
  (∀ (s : State) (t : Nat) (p : Path) (e : Fin 2) (v : Nat), s.coreOn → s.mayWrite t p (encKey e 0x0E) v →
    answers (.forceIdr t p e v) s fun s' => s'.enc e = { s.enc e with forced := true })

/-- From R228, R229: a reseed gives the next lane 128 conditioned bits; the eighth failed window in a row degrades the noise source, the 64th
passed one in a row makes it ready again. -/
def Obligations.noise_source_judged : Prop :=
  (∀ (s : State) (t : Nat), s.powered → s.coreRails → s.noise.state = 1 → 4 ≤ s.noise.pool.length →
    answers (.reseed t) s fun s' => tget s'.noise.lanes s.noise.next 0 = seedLane (s.noise.pool.take 4) ∧
      s'.noise.next = (s.noise.next + 1) % 32 ∧ s'.noise.pool = s.noise.pool.drop 4 ∧
      s'.obj 0x260302 = (s.obj 0x260302 + 1) % 2 ^ objWidth 0x260302) ∧
  (∀ (s : State) (t : Nat) (raw : BitVec 1024), s.powered → s.coreRails → s.noise.state = 1 → windowPasses raw = false →
    answers (.healthWindow t raw) s fun s' => s'.noise.fails = s.noise.fails + 1 ∧ s'.noise.passes = 0 ∧
      s'.noise.pool = s.noise.pool ∧ s'.noise.state = (if 8 ≤ s.noise.fails + 1 then 2 else 1)) ∧
  (∀ (s : State) (t : Nat) (raw : BitVec 1024), s.powered → s.coreRails → s.noise.state = 2 → windowPasses raw →
    answers (.healthWindow t raw) s fun s' => s'.noise.fails = 0 ∧ s'.noise.passes = s.noise.passes + 1 ∧
      s'.noise.state = (if 64 ≤ s.noise.passes + 1 then 1 else 2) ∧ s'.noise.lanes = s.noise.lanes)

/-- From R281, R282, R330: the next chunk of a transfer that meets no fault, no bad word and no bad CRC is applied, and the last one ends the
transfer; a chunk whose CRC is bad twice ends it too. -/
def Obligations.chunk_becomes_visible : Prop :=
  (∀ (s : State) (t i : Nat) (crcOk : Bool) (data : List Byte) (x : Xfer), s.coreOn → s.xferHole i data = none → s.readyXfer i = some x →
    s.mergeGroup x = [x] → s.chunkFail x data = none → (x.dst.chunkCrc → crcOk) → s.chunkBad x (s.chunkPairs x x.next data) = none →
    exec (.chunkVisible t i crcOk data) s = .next ((s.advance t).applyChunk x data).settle ∧
      (x.next + 1 = x.chunks → answers (.chunkVisible t i crcOk data) s fun s' => ∀ y ∈ s'.xfer.active, y.xid ≠ i)) ∧
  (∀ (s : State) (t i : Nat) (data : List Byte) (x : Xfer), s.coreOn → s.xferHole i data = none → s.readyXfer i = some x →
    s.mergeGroup x = [x] → s.chunkFail x data = none → x.dst.chunkCrc →
    answers (.chunkVisible t i false data) s fun s' => s'.sram = s.sram ∧ s'.dram = s.dram ∧
      s'.obj 0x270004 = (s.obj 0x270004 + 1) % 2 ^ objWidth 0x270004 ∧
      (x.retried = false → ∀ y ∈ s'.xfer.active, y.xid = i → y = { x with retried := true }) ∧
      (x.retried = true → ∀ y ∈ s'.xfer.active, y.xid ≠ i)) ∧
  (∀ (s : State) (t i a : Nat) (crcOk : Bool) (data : List Byte), s.coreOn → s.xferHole i data = some a →
    exec (.chunkVisible t i crcOk data) s = .fault (.noSuchMemory a))

/-- From R298, R301, R302, R478: a walk that fails stops its transfer with a fault, which a host-owned domain finds in its ring; the owner resumes
or abandons it, and at its deadline it is abandoned. -/
def Obligations.translation_faults : Prop :=
  (∀ (s : State) (t i chunk va access kind level : Nat) (e : Bool) (x : Xfer) (entry : Place), s.coreOn → s.faultable i chunk = some x →
    s.walk (x.sideMem access).1 va access (x.sideMem access).2 = .fails kind level entry →
    (s.cfg (0x270501 + (x.sideMem access).1)).testBit 1 → s.xfer.ringCount < 64 →
    answers (.translationFault t i chunk va access e) s fun s' => ∃ r, s'.xfer.last = some r ∧ r.id = s.xfer.faultId ∧ r.kind = kind ∧
      r.level = level ∧ r.va = va ∧ r.chunk = chunk ∧ r.host = true ∧ (∀ y ∈ s'.xfer.active, y.xid = i → y.fault = some r) ∧
      .faultRecord s.xfer.ringProd r ∈ s'.out ∧ .msix 16 ∈ s'.out ∧ s'.xfer.ringCount = s.xfer.ringCount + 1) ∧
  (∀ (s : State) (t : Nat) (p : Path) (v : BitVec 32) (x : Xfer) (f : FaultRec) (a : Place) (size pte : Nat), s.coreOn →
    s.mayWrite t p 0x270406 v.toNat → (s.advance t).faulted (bits v.toNat 23 8) = some (x, f) → bits v.toNat 1 0 = 1 →
    s.walk f.pd f.va (if f.access = 3 then 0 else f.access) f.mem = .page a size pte →
    answers (.faultResume t p v) s fun s' => (∀ y ∈ s'.xfer.active, y.xid = x.xid → y.fault = none) ∧
      s'.obj 0x270403 = (s.obj 0x270403 + 1) % 2 ^ objWidth 0x270403) ∧
  (∀ (s : State) (t : Nat) (p : Path) (v : BitVec 32) (x : Xfer) (f : FaultRec), s.coreOn →
    s.mayWrite t p 0x270406 v.toNat → (s.advance t).faulted (bits v.toNat 23 8) = some (x, f) → bits v.toNat 1 0 = 2 →
    answers (.faultAbandon t p v) s fun s' => ∀ y ∈ s'.xfer.active, y.xid ≠ x.xid) ∧
  (∀ (s : State) (t : Nat), s.coreOn →
    answers (.faultDeadline t) s fun s' => (∀ y ∈ s'.xfer.active, ∀ f, y.fault = some f → max s.now t < f.deadline) ∧
      ((∀ y ∈ s.xfer.active, ∀ f, y.fault = some f → max s.now t < f.deadline) → s'.xfer.active = s.xfer.active)) ∧
  (∀ (s : State) (t : Nat) (v : BitVec 32), s.coreOn →
    answers (.faultRingConsumerWrite t v) s fun s' => s'.xfer.ringCons = v.toNat % 64 ∧
      s'.xfer.ringCount = s.xfer.ringCount - min s.xfer.ringCount ((v.toNat % 64 + 64 - s.xfer.ringCons) % 64))

/-- From R297, R330: an invalidation drops the cached pages of its domain and range and ends when no chunk uses them; a scrub corrects one bit
and notes a word with two wrong ones. -/
def Obligations.invalidation_and_scrub : Prop :=
  (∀ (s : State) (t : Nat) (p : Path), s.coreOn → s.mayWrite t p 0x270304 1 →
    answers (.invalidate t p 1) s fun s' => s'.xfer.invalidating = true ∧ s'.xfer.active = s.xfer.active ∧
      ∀ e, e ∈ s'.xfer.tlb ↔ e ∈ s.xfer.tlb ∧ ¬ (e.pd = s.obj 0x270301 ∧ (s.obj 0x270303 = 0 ∨
        (e.page < s.obj 0x270302 + s.obj 0x270303 ∧ s.obj 0x270302 < e.page + e.size)))) ∧
  (∀ (s : State) (t : Nat), s.coreOn → s.xfer.invalidating →
    answers (.invalidationCompleted t) s fun s' => s'.xfer = { s.xfer with invalidating := false }) ∧
  (∀ (s : State) (t addr : Nat), s.powered → s.coreRails → addr < sramSize →
    answers (.sramScrub t addr 1) s fun s' => s'.comp.bad = s.comp.bad ∧ s'.comp.slots = s.comp.slots ∧
      s'.obj 0x280006 = (s.obj 0x280006 + 1) % 2 ^ objWidth 0x280006) ∧
  (∀ (s : State) (t addr errors : Nat), s.powered → s.coreRails → addr < sramSize → 2 ≤ errors →
    answers (.sramScrub t addr errors) s fun s' => s'.badWord 0 addr = true ∧ s'.obj 0x280008 = addr / 8 * 8 ∧
      s'.comp.slots = markSlab addr s.comp.slots ∧ s'.obj 0x280007 = (s.obj 0x280007 + 1) % 2 ^ objWidth 0x280007)

/-- From R14, R331, R332, R334, R335: an image that passes starts to load and one that does not is refused and counted; a slot whose weights
hash to the image's value is resident, else it fails; a failed slot is loaded again on request. -/
def Obligations.images_and_slots : Prop :=
  (∀ (s : State) (t : Nat) (p : Path) (v : Nat) (im : Image), s.coreOn → s.mayWrite t p 0x280101 v →
    (if v = 1 then s.boot.imageA else s.boot.imageB) = some im → s.imageOk im →
    answers (.imageLoadFromNor t p v) s fun s' => s'.head.imgState = 1 ∧ s'.head.image = s.head.image ∧
      ∃ l, s'.head.loading = some l ∧ l.img = im ∧ l.bank = v ∧ l.slots = tableOf (im.slots.map fun x => (x.slot, s.slotStart x))) ∧
  (∀ (s : State) (t : Nat) (p : Path) (v : Nat), s.coreOn → s.mayWrite t p 0x280101 v →
    (∀ im, (if v = 1 then s.boot.imageA else s.boot.imageB) = some im → s.imageOk im = false) →
    answers (.imageLoadFromNor t p v) s fun s' => s'.head = { s.head with imgState := 2 } ∧
      s'.obj 0x280104 = (s.obj 0x280104 + 1) % 2 ^ objWidth 0x280104) ∧
  (∀ (s : State) (t : Nat) (n : Fin 16) (digest : Nat) (x : Slot), s.coreOn → tget s.comp.slots n {} = x → x.loads →
    answers (.slotHashComplete t n digest) s fun s' =>
      tget s'.comp.slots n {} = { x with state := if digest = x.want then 2 else 3, digest := digest, reload := false } ∧
      s'.obj (slotKey n 0x05) = (s.obj (slotKey n 0x05) + 1) % 2 ^ objWidth (slotKey n 0x05) ∧
      s'.obj (slotKey n 0x06) = (if digest = x.want then s.obj (slotKey n 0x06)
        else (s.obj (slotKey n 0x06) + 1) % 2 ^ objWidth (slotKey n 0x06))) ∧
  (∀ (s : State) (t : Nat) (p : Path) (n : Fin 16) (v : Nat), s.coreOn → s.mayWrite t p (slotKey n 0x08) v →
    (tget s.comp.slots n {}).state = 3 →
    answers (.slotReload t p n v) s fun s' => s'.comp.slots = tset s.comp.slots n { tget s.comp.slots n {} with reload := true })

/-- From R337, R340, R477: a doorbell fetches the entries up to the new tail, a tail beyond the ring halts the queue; enabling, disabling and
resetting a queue; the host gives completion records back. -/
def Obligations.queue_control : Prop :=
  (∀ (s : State) (t : Nat) (q : Fin 16) (tail : BitVec 32) (entries : List Bits512), s.coreOn → tail.toNat < s.ringSize q →
    answers (.queueDoorbell t q tail entries) s fun s' => (s'.queue q).tail = tail.toNat ∧ (s'.queue q).expect = (s.queue q).expect ∧
      (s'.queue q).fetched = (s.queue q).fetched ++
        (List.range ((tail.toNat + s.ringSize q - (s.queue q).tail % s.ringSize q) % s.ringSize q)).map fun i =>
          (entries.getD i 0, (s.advance t).stamp)) ∧
  (∀ (s : State) (t : Nat) (q : Fin 16) (tail : BitVec 32) (entries : List Bits512), s.coreOn → s.ringSize q ≤ tail.toNat →
    (s.queue q).state = 1 →
    answers (.queueDoorbell t q tail entries) s fun s' => (s'.queue q).state = 2 ∧ (s'.queue q).fetched = (s.queue q).fetched ∧
      s'.obj (queueKey q 0x09) = 2) ∧
  (∀ (s : State) (t : Nat) (p : Path) (q : Fin 16), s.coreOn →
    (s.mayWrite t p (queueKey q 0x04) 1 → answers (.queueEnable t p q) s fun s' =>
      (s'.queue q).state = (if (s.queue q).state = 2 then 2 else 1) ∧ (s'.queue q).fetched = (s.queue q).fetched) ∧
    (s.mayWrite t p (queueKey q 0x04) 0 → answers (.queueDisable t p q) s fun s' =>
      (s'.queue q).state = (if (s.queue q).state = 2 then 2 else 0) ∧ (s'.queue q).fetched = (s.queue q).fetched) ∧
    (s.mayWrite t p (queueKey q 0x04) 2 → answers (.queueReset t p q) s fun s' =>
      (s'.queue q).state = 1 ∧ (s'.queue q).expect = 0 ∧ (s'.queue q).fetched = [] ∧ (s'.queue q).head = (s.queue q).tail)) ∧
  (∀ (s : State) (t : Nat) (q : Fin 16) (v : BitVec 32), s.coreOn → v.toNat < s.ringSize q →
    (v.toNat + s.ringSize q - (s.queue q).compHead % s.ringSize q) % s.ringSize q ≤ (s.queue q).compUsed →
    answers (.completionHeadWrite t q v) s fun s' => (s'.queue q).compHead = v.toNat ∧ (s'.queue q).fetched = (s.queue q).fetched)

/-- From R19, R85, R263, R332, R338–R341: an entry that passes every check takes effect, the queue expects the next SEQ and the entry counts;
an entry that asks for one gets its completion record, and a SUBMIT_UNIT whose descriptor fails its check gets status 7. -/
def Obligations.queue_entries_take_effect : Prop :=
  ∀ (s : State) (t : Nat) (q : Fin 16) (v : Nat) (arrived : Stamp), s.coreOn → s.entryReady q = some (v, arrived) → s.entryStatus q v = 0 →
    s.entryDomainOk v → (v.testBit 54 → s.outstanding q = 0) →
    let passed := fun (s' : State) => (s'.queue q).expect = ((s.queue q).expect + 1) % 2 ^ 16 ∧
      (s'.queue q).fetched = (s.queue q).fetched.drop 1 ∧
      s'.obj (queueKey q 0x07) = (s.obj (queueKey q 0x07) + 1) % 2 ^ objWidth (queueKey q 0x07)
    (entryOpcode v = 4 → answers (.nop t q) s fun s' => passed s' ∧ s'.head = s.head ∧ (v.testBit 55 → .msix q ∈ s'.out)) ∧
    (entryOpcode v = 3 → bits v 7 0 = 1 → s.outstanding q ≠ 0 →
      answers (.fenceWrite t q) s fun s' => passed s' ∧ (s'.queue q).fence = some .writes ∧ s'.entryReady q = none) ∧
    (entryOpcode v = 3 → bits v 7 0 = 2 → bits v 447 416 ≠ 0 →
      answers (.fenceToken t q) s fun s' => passed s' ∧
        (s'.queue q).fence = some (.tokens (bits v 408 400) ((s.chan (bits v 408 400)).sent + bits v 447 416)) ∧ s'.entryReady q = none) ∧
    (entryOpcode v = 1 → s.demandKnown (entryJob v) → (s.workRole = .single ∨ s.workRole = .active) → ∀ ds,
      answers (.runJob t q ds) s fun s' => passed s' ∧ ∃ d, s'.head.demand = s.head.demand ++ [d] ∧ d.job = entryJob v ∧
        d.queue = some (q.val, entryTag v, entrySeq v, v.testBit 55)) ∧
    (entryOpcode v = 5 → bits v 127 80 ≠ 0 → ∀ im,
      (s.imageOk im → answers (.loadImage t q im) s fun s' => passed s' ∧ s'.head.imgState = 1 ∧
        ∃ l, s'.head.loading = some l ∧ l.img = im) ∧
      (s.imageOk im = false → answers (.loadImage t q im) s fun s' => passed s' ∧ s'.head = { s.head with imgState := 2 })) ∧
    (entryOpcode v = 2 → (s.stream (entryStream v)).kind = 7 → (s.stream (entryStream v)).addr = q.val → ∀ desc : Bits512,
      (s.unitError (entryPd v) (bits v 127 80) desc.toNat ≠ 0 → ∀ ok, answers (.submitUnit t q desc ok) s fun s' =>
        s'.obj (queueKey q 0x09) = 7 ∧ s'.streams = s.streams) ∧
      (s.unitError (entryPd v) (bits v 127 80) desc.toNat = 0 → s.mayStart (entryStream v) → s.unitsFull (entryStream v) = false →
        (s.stream (entryStream v)).filling = none → (s.stream (entryStream v)).pool.any Buf.isFree →
        let n := (s.unitDescriptor (entryPd v) (bits v 127 80) desc.toNat).g.span
        n ≤ (s.stream (entryStream v)).limits.unit →
        answers (.submitUnit t q desc true) s fun s' => passed s' ∧ (s'.stream (entryStream v)).seq = (s.stream (entryStream v)).seq + 1 ∧
          .waiting { seq := (s.stream (entryStream v)).seq, stamp := arrived, bytes := n
                     hostTime := if v.testBit 53 then some (bits v 319 256) else none } ∈ (s'.stream (entryStream v)).pool))

/-- From R340: a queue refuses its next entry for a wrong CRC (status 1), a wrong format (2) or a wrong SEQ (3), in this order and whatever
command takes it: it is counted with its status, and the last two halt the queue. -/
def Obligations.queue_entries_refused : Prop :=
  ∀ (s : State) (t : Nat) (q : Fin 16) (v : Nat) (arrived : Stamp) (ds : List Bits512) (im : Image), s.coreOn →
    s.entryReady q = some (v, arrived) → s.entryStatus q v ≠ 0 → ∀ c ∈ [Instr.nop t q, .runJob t q ds, .loadImage t q im, .fenceWrite t q],
    answers c s fun s' => s'.obj (queueKey q 0x08) = (s.obj (queueKey q 0x08) + 1) % 2 ^ objWidth (queueKey q 0x08) ∧
      s'.obj (queueKey q 0x09) = s.entryStatus q v ∧
      (s'.queue q).state = (if s.entryStatus q v = 1 then 1 else 2) ∧ s'.head = s.head

/-- From R358–R360, R366, R381: how a link port moves between its states, by training, by the exchange of IDENT frames, by timeouts and by BYE. -/
def Obligations.link_port_states : Prop :=
  ∀ (s : State) (t : Nat) (k : Fin 2), s.coreOn →
    ((s.port k).state = 0 → s.portUsed k → (s.port k).since + 10 * msec ≤ max s.now t →
      answers (.portTrainStart t k) s fun s' => (s'.port k).state = 1 ∧ (s'.port k).since = max s.now t) ∧
    (((s.port k).state = 1 ∨ (s.port k).state = 4) → ∀ c : BitVec 56,
      answers (.train t k c) s fun s' => (s'.port k).state = (s.port k).state ∧ (s'.port k).locked = c.toNat.testBit 51 ∧
        (s'.port k).aligned = c.toNat.testBit 50 ∧ bits c.toNat 55 54 ∈ (s'.port k).lanes ∧
        .block k typeTrain (s'.trainContent (bits c.toNat 55 54) (bits c.toNat 49 34) true ((s'.port k).lanes.length == 4)) ∈ s'.out) ∧
    ((s.port k).locked → (s.port k).aligned → (s.port k).latencyOk →
      ((s.port k).state = 1 → answers (.trainingComplete t k) s fun s' => (s'.port k).state = 2) ∧
      ((s.port k).state = 4 → answers (.trainingComplete t k) s fun s' => (s'.port k).state = 4 ∧ (s'.port k).trained)) ∧
    ((s.port k).state = 1 → (s.port k).since + 2 * msec ≤ max s.now t →
      answers (.trainTimeout t k) s fun s' => (s'.port k).state = 0) ∧
    ((s.port k).state = 2 → (s.port k).since + 100000 ≤ max s.now t →
      answers (.identTimeout t k) s fun s' => (s'.port k).state = 5) ∧
    ((s.port k).state = 5 → (s.port k).since + second ≤ max s.now t →
      answers (.refusedTimeout t k) s fun s' => (s'.port k).state = 1) ∧
    ((s.port k).state = 3 → (s.port k).failing (max s.now t) →
      answers (.portRetrain t k) s fun s' => (s'.port k).state = 4 ∧ (s'.port k).leftUp = max s.now t ∧
        s'.obj (portKey k 0x08) = (s.obj (portKey k 0x08) + 1) % 2 ^ objWidth (portKey k 0x08)) ∧
    ((s.port k).state = 4 → (s.port k).leftUp + 2500000 ≤ max s.now t →
      answers (.retrainTimeout t k) s fun s' => (s'.port k).state = 0 ∧ (∀ e ∈ s'.link.tags, e.port ≠ k)) ∧
    (∀ payload : IdentPayload, (s.port k).state = 2 →
      (s.adoptLink.identOk k (leNat (payload.take 32)) →
        answers (.ident t k payload) s fun s' => (s'.port k).state = 3 ∧ s'.link.group = s.obj 0x290002 ∧
          s'.obj (portKey k 0x02) = bits (leNat (payload.take 32)) 7 0 ∧
          ((s'.port k).tc1Refused ↔ bits (leNat (payload.take 32)) 95 64 ≠ s.ledgerId)) ∧
      (s.adoptLink.identOk k (leNat (payload.take 32)) = false →
        answers (.ident t k payload) s fun s' => (s'.port k).state = 5)) ∧
    (∀ c : BitVec 56, (s.port k).state = 3 → originOf c.toNat ≠ s.link.id → originOf c.toNat = s.neighbour k →
      answers (.bye t k c) s fun s' => (s'.port k).state = 0 ∧ (s'.peer (originOf c.toNat)).departed)

/-- From R364: an ACK frees the replay buffer up to its SEQ; a NAK or 4 µs without progress sends every frame of the buffer again; a block
error is counted, and one inside a frame asks for a replay. -/
def Obligations.link_retry : Prop :=
  ∀ (s : State) (t : Nat) (k : Fin 2), s.coreOn → (s.port k).state = 3 →
    (∀ c : BitVec 56, bits c.toNat 55 54 = 0 → (s.port k).waiting = [] → s.red.role ≠ .active →
      answers (.ack t k c) s fun s' => (s'.port k).replay = afterSeq (bits c.toNat 53 42) (s.port k).replay) ∧
    (∀ c : BitVec 56, bits c.toNat 55 54 = 1 →
      answers (.nak t k c) s fun s' => (∀ f ∈ (s.port k).replay, .frame k f ∈ s'.out) ∧ (s'.port k).stuck = (s.port k).stuck + 1 ∧
        s'.obj (portKey k 0x07) = (s.obj (portKey k 0x07) + 1) % 2 ^ objWidth (portKey k 0x07)) ∧
    ((s.port k).replay ≠ [] → (s.port k).replayAt + 4000 ≤ max s.now t →
      answers (.replayTimeout t k) s fun s' => (∀ f ∈ (s.port k).replay, .frame k f ∈ s'.out) ∧
        (s'.port k).stuck = (s.port k).stuck + 1) ∧
    (∀ inFrame : Bool, answers (.blockError t k inFrame) s fun s' =>
      s'.obj (portKey k 0x0A) = (s.obj (portKey k 0x0A) + 1) % 2 ^ objWidth (portKey k 0x0A) ∧
      (s'.port k).errors = (max s.now t :: (s.port k).errors).take 16 ∧
      (inFrame → (s'.port k).badFrame ∧ (s'.port k).nakSent) ∧ (inFrame = false → (s'.port k).badFrame = (s.port k).badFrame))

/-- From R324, R361, R362, R364, R367–R370: a whole frame in SEQ order at its destination: a WRITE stores its bytes and no other, a READ_REQ
and an ACCUM frame that does not end its chunk store none, answers free their tags, and a token reaches its channel. -/
def Obligations.link_frames_act : Prop :=
  ∀ (s : State) (t : Nat) (k : Fin 2) (f : LinkFrame), s.coreOn → (s.port k).state = 3 → f.crcOk → (s.port k).badFrame = false →
    frameOk f → (frameInfo f).seq = (s.port k).rxSeq → (frameInfo f).dst = s.link.id →
    let i := frameInfo f
    let taken := fun (s' : State) => (s'.port k).rxSeq = ((s.port k).rxSeq + 1) % 4096 ∧ (s'.port k).nakSent = false ∧
      s'.obj (portKey k 0x05) = (s.obj (portKey k 0x05) + 1) % 2 ^ objWidth (portKey k 0x05)
    (i.op = 1 → s.requestHole k 1 2 f f.payload.length = none → s.inWindow k i.addr f.payload.length 2 → s.memoryOk →
      answers (.write t k f) s fun s' => taken s' ∧ ∀ m ≤ 1, ∀ a, s'.readByte m a =
        if m = addrMem i.addr ∧ i.addr ≤ a ∧ a < i.addr + f.payload.length ∧ (m = 1 ∨ a < sramSize) then f.payload.getD (a - i.addr) 0
        else s.readByte m a) ∧
    (i.op = 1 → s.inWindow k i.addr f.payload.length 2 = false →
      answers (.write t k f) s fun s' => taken s' ∧ s'.sram = s.sram ∧ s'.dram = s.dram ∧
        s'.obj 0x29030D = (s.obj 0x29030D + 1) % 2 ^ objWidth 0x29030D) ∧
    (i.op = 3 → ∀ ecc, s.requestHole k 3 1 f (i.arg % 512) = none →
      answers (.readReq t k f ecc) s fun s' => taken s' ∧ s'.sram = s.sram ∧ s'.dram = s.dram) ∧
    (i.op = 2 → ∀ ecc el, s.requestHole k 2 3 f f.payload.length = none → s.inWindow k i.addr f.payload.length 3 →
      elemOf (i.arg % 16) = some el → el.accumulates ≠ 0 → i.last = false →
      ((s.port k).accums.filter fun g => (frameInfo g).src == i.src).length < 15 →
      answers (.accum t k f ecc) s fun s' => taken s' ∧ s'.sram = s.sram ∧ s'.dram = s.dram ∧
        (s'.port k).accums = (s.port k).accums ++ [f]) ∧
    (i.op = 6 → (s.port k).tc1Refused = false → (s.chan (i.arg % 512)).depth ≠ 0 → (s.chan (i.arg % 512)).owed = [] →
      (s.chan (i.arg % 512)).free ≠ 0 →
      answers (.token t k f) s fun s' => taken s' ∧ (s'.chan (i.arg % 512)).sent = ((s.chan (i.arg % 512)).sent + 1) % 2 ^ 64) ∧
    (∀ op c, (op, c) ∈ [(4, Instr.readData t k f), (5, .writeAck t k f), (7, .unreach t k f)] → i.op = op →
      answers c s fun s' => taken s' ∧ ∀ e ∈ s'.link.tags, ¬ (e.port = k ∧ e.tag = i.tag))

/-- From R372–R374, R389: a block of another member tells of its sender and goes on to the other port while its TTL allows; at a heartbeat
instant the device sends its own, and the third period without a heartbeat loses a peer. -/
def Obligations.peers_heard_and_lost : Prop :=
  (∀ (s : State) (t : Nat) (k : Fin 2) (c : BitVec 56), s.coreOn → (s.port k).state = 3 → originOf c.toNat ≠ s.link.id →
    ((s.peer (originOf c.toNat)).hbCount ≠ some (bits c.toNat 41 26) → answers (.heartbeat t k c) s fun s' =>
      (∃ x, s'.peer (originOf c.toNat) = x ∧ x.seen ∧ x.heard ∧ x.lastHb = max s.now t ∧ x.misses = 0 ∧ x.lost = false ∧
        x.departed = false ∧ x.role = bits c.toNat 51 48) ∧
      (bits c.toNat 53 52 ≠ 0 → (s.port (1 - k.val)).state = 3 → .block (1 - k.val) typeHeartbeat (c.toNat - 2 ^ 52) ∈ s'.out)) ∧
    (bits c.toNat 15 12 ≤ 5 → bits c.toNat 7 0 = 0 → answers (.role t k c) s fun s' =>
      (s'.peer (originOf c.toNat)).role = bits c.toNat 51 48 ∧ (s'.peer (originOf c.toNat)).lastRole = some c.toNat ∧
      (bits c.toNat 53 52 ≠ 0 → (s.port (1 - k.val)).state = 3 → .block (1 - k.val) typeRole (c.toNat - 2 ^ 52) ∈ s'.out)) ∧
    (∀ e, s.tick.lastEdge = some e → answers (.tick t k c) s fun s' =>
      let edge : Int := ((max s.now t : Nat) : Int) - s.obj (portKey k 0x03) - bits c.toNat 23 0
      (s'.peer (originOf c.toNat)).lastTick = some (bits c.toNat 53 24, (s.nearestEdge edge).2) ∧
      (s'.port k).skew = (edge - (s.nearestEdge edge).1).natAbs)) ∧
  (∀ (s : State) (t : Nat), s.coreOn → s.link.hbAt + 999000 ≤ max s.now t →
    answers (.heartbeatInstant t) s fun s' => s'.link.hbAt = max s.now t ∧
      (s.red.lapsed = false → s'.link.hbCount = (s.link.hbCount + 1) % 2 ^ 16 ∧
        ∀ k < 2, (s.port k).state = 3 → .block k typeHeartbeat (s.advance t).heartbeatContent ∈ s'.out) ∧
      ∀ p ∈ s.peerNos, (s.peer p).seen → (s.peer p).lost = false → (s.peer p).departed = false →
        ((s.peer p).heard → s'.peer p = { s.peer p with heard := false, misses := 0 }) ∧
        ((s.peer p).heard = false → (s.peer p).misses < 2 → s'.peer p = { s.peer p with misses := (s.peer p).misses + 1 }) ∧
        ((s.peer p).heard = false → 2 ≤ (s.peer p).misses →
          s'.peer p = { s.peer p with lost := true, lostAt := max s.now t, misses := 3 }))

/-- From R387, R388, R409: what leads a device of a pair from role to role, and what the role commands do. -/
def Obligations.roles_change : Prop :=
  (∀ (s : State) (t : Nat), s.coreOn → s.pair → s.red.role = .starting → s.red.since + s.cfg 0x291006 * msec ≤ max s.now t →
    s.eligible → s.red.peerIn = false → s.topPriority →
    answers (.startWaitExpiry t) s fun s' => s'.red.role = .active ∧ s'.red.roleOut) ∧
  (∀ (s : State) (t : Nat), s.coreOn → s.red.role = .promoting →
    (s.red.gate → answers (.promotionComplete t) s fun s' => s'.red.role = .active) ∧
    (s.red.gate = false → s.red.roleOutAt + 100000 ≤ max s.now t →
      answers (.promotionGateTimeout t) s fun s' => s'.red.role = .disputed ∧ s'.red.roleOut = false ∧ s'.red.gate = false)) ∧
  (∀ (s : State) (t : Nat), s.coreOn → s.pair → disputable s.red.role → 5 ≤ s.red.row → s.red.rowAt + s.cfg 0x291007 * msec ≤ max s.now t →
    answers (.disputedEntered t) s fun s' => s'.red.role = .disputed ∧ s'.red.entered = s.red.role ∧
      s'.obj 0x291208 = (s.obj 0x291208 + 1) % 2 ^ objWidth 0x291208) ∧
  (∀ (s : State) (t : Nat) (p : Path), s.coreOn →
    let way := if s.red.roleOut then Role.active else if s.red.committed.isSome then .tailstock else .syncing
    (s.red.role = .disputed → agrees s.red.row → s.red.agreeAt + s.cfg 0x291008 * msec ≤ max s.now t →
      answers (.disputedResolved t) s fun s' => s'.red.role = way) ∧
    (s.mayWrite t p 0x291005 2 → answers (.resolve t p) s fun s' => s'.red.role = way) ∧
    (s.mayWrite t p 0x291005 3 → answers (.forceActive t p) s fun s' => s'.red.role = .active ∧ s'.red.roleOut) ∧
    (s.mayWrite t p 0x291005 4 → answers (.forceStandby t p) s fun s' => s'.red.role = .syncing ∧ s'.red.roleOut = false) ∧
    (s.mayWrite t p 0x291005 1 → s.red.handover = 0 → answers (.switchOverCommand t p) s fun s' => s'.red.handover = 1) ∧
    (s.mayWrite t p 0x291003 3 → s.pair → s.red.role ≠ .outOfService →
      answers (.requestedRoleWrite t p 3) s fun s' => s'.red.role = .outOfService ∧ s'.red.roleOut = false) ∧
    (∀ v, v < 3 → s.mayWrite t p 0x291003 v → s.pair → s.red.role = .outOfService →
      answers (.requestedRoleWrite t p v) s fun s' => s'.red.role = .syncing))

/-- From R391, R392: the interlock of the two lines and the gate behind them, without a word of the firmware. -/
def Obligations.interlock : Prop :=
  ∀ (s : State) (t : Nat), s.powered →
    (∀ level, level ≠ s.red.peerIn → answers (.peerRoleInChange t level) s fun s' => s'.red.peerIn = level ∧ s'.red.peerInAt = max s.now t ∧
      s'.red.gate = (s.red.gate && !level) ∧ s'.red.roleOut = s.red.roleOut) ∧
    (s.red.roleOut → s.red.peerIn = false → s.red.peerInAt + 1000 ≤ max s.now t →
      answers (.gateOpen t) s fun s' => s'.red.gate ∧ s'.red.role = s.red.role) ∧
    (s.red.roleOut → s.red.peerIn → max s.red.roleOutAt s.red.peerInAt + 1000 ≤ max s.now t → s.pairPeer < s.link.id →
      answers (.interlockConflict t) s fun s' => s'.red.roleOut = false ∧ s'.red.gate = false) ∧
    (s.red.keeperRuns = false → s.red.keeperAt + 2 * msec ≤ max s.now t →
      answers (.roleKeeperLapse t) s fun s' => s'.red.roleOut = false ∧ s'.red.gate = false ∧ s'.red.lapsed)

/-- From R395, R396, R399–R403: the journal entry of a frame is kept, the segments of an epoch are gathered, and a COMMIT frame commits the
epoch when every check holds and leaves the committed one as it was when one fails; the active follows the answers to its epoch. -/
def Obligations.journal_and_epochs : Prop :=
  (∀ (s : State) (t : Nat) (k : Fin 2) (f : LinkFrame), s.coreOn → s.pair → (s.port k).state = 3 → f.crcOk → (s.port k).badFrame = false →
    frameOk f → (frameInfo f).seq = (s.port k).rxSeq → (frameInfo f).dst = s.link.id →
    let i := frameInfo f
    (s.journalOnly → i.op = 0x10 → i.arg % 256 = 1 → answers (.journal t k f) s fun s' =>
      let e := JEntry.unpack f.payload
      (e.2 → newer e.1.jseq s.red.lastJseq → (s.red.role = .syncing ∨ e.1.jseq = (s.red.lastJseq + 1) % 2 ^ 32) →
        s'.red.got = s.red.got ++ [e.1]) ∧
      (e.2 = false → s'.red.got = s.red.got ∧ s'.obj 0x291108 = (s.obj 0x291108 + 1) % 2 ^ objWidth 0x291108)) ∧
    (s.journalOnly → i.op = 0x11 → i.arg.testBit 9 → s.red.partialSegs = [] → answers (.snapshot t k f) s fun s' =>
      let h := headerSegment f.payload
      s'.red.partialSegs = if h.2 then [h.1] else []) ∧
    (s.journalOnly → i.op = 0x11 → i.arg.testBit 9 = false → answers (.snapshot t k f) s fun s' =>
      s'.red.partialSegs = addToLast i.addr f.payload s.red.partialSegs ∧ s'.red.committed = s.red.committed) ∧
    (s.journalOnly → i.op = 0x12 → answers (.commit t k f) s fun s' =>
      let v := leNat (f.payload.take 64)
      let number := bits v 223 160
      let sound := fun (data : List Byte) => (crc32c (f.payload.take 60)).toNat = bits v 511 480 ∧ bits v 159 128 = s.ledgerId ∧
        s.segmentsLedger number s.ledgerId ∧ s.epochData number (bits v 31 24) = some data ∧ sha256 data = bits v 479 224 ∧
        (∀ e, s.red.committed = some e → e.number < number) ∧ data.length = bits v 95 64 ∧ s.slotsMatch (warmPart 3 data)
      (∀ data, sound data → s'.red.committed = some ⟨number, bits v 63 32, bits v 127 96, s.mapTick (bits v 127 96), data⟩ ∧
        (s.red.role = .syncing → s'.red.role = .tailstock)) ∧
      ((∀ data, ¬ sound data) → s'.red.committed = s.red.committed ∧
        s'.obj 0x291108 = (s.obj 0x291108 + 1) % 2 ^ objWidth 0x291108)) ∧
    (s.red.role = .active → i.op = 0x13 → answers (.replAck t k f) s fun s' =>
      let v := leNat (f.payload.take 16)
      (i.arg % 4 = 0 → s'.red.applied = bits v 63 32 ∧ s'.red.open_ = s.red.open_) ∧
      (∀ e, i.arg % 4 = 1 → s.red.open_ = some e → e.number = bits v 127 64 → s'.red.open_ = none ∧ s'.red.committed = some e) ∧
      (i.arg % 4 = 2 → s.red.open_.isSome → s'.red.open_ = none ∧ s'.red.committed = s.red.committed ∧
        s'.obj 0x291108 = (s.obj 0x291108 + 1) % 2 ^ objWidth 0x291108))) ∧
  (∀ (s : State) (t : Nat), s.coreOn → s.red.open_.isSome → s.red.capturedAt + 50 * msec ≤ max s.now t →
    answers (.epochAbandoned t) s fun s' => s'.red.open_ = none ∧ s'.red.committed = s.red.committed ∧
      s'.obj 0x291109 = (s.obj 0x291109 + 1) % 2 ^ objWidth 0x291109)

/-- From R423, R425, R433, R487, R501: NMT commands that a controller hears and that are its own, the listen and the boot-up, a duplicate of
the own node-ID, and heartbeats. -/
def Obligations.nmt_and_node_id : Prop :=
  (∀ (s : State) (t : Nat) (c : Fin 2) (node : Nat), s.coreOn → s.addressed c node →
    (answers (.startRemoteNode t c node) s fun s' =>
      s'.net.nmt = if s.net.nmt = .initialisation then .initialisation else .operational) ∧
    (answers (.stopRemoteNode t c node) s fun s' => s'.net.nmt = if s.net.nmt = .initialisation then .initialisation else .stopped) ∧
    (answers (.enterPreOperational t c node) s fun s' =>
      s'.net.nmt = if s.net.nmt = .initialisation then .initialisation else .preOperational) ∧
    (s.dict.store = none → answers (.resetCommunication t c node) s fun s' => s'.net.records = [] ∧ s'.dict.sel = none ∧
      (s'.net.nmt = .initialisation ∨ s'.net.nmt = .preOperational) ∧
      ∀ d < 2, (s'.ctrl d).mode = s'.obj (ctrlKey d 0x01) ∧ (s'.ctrl d).node = s'.obj (ctrlKey d 0x03) ∧ (s'.ctrl d).dup = false ∧
        (s'.ctrl d).listenFrom = if s'.obj (ctrlKey d 0x01) = 0 then none else some (max s.now t)) ∧
    (s.dict.store.isSome → answers (.resetCommunication t c node) s fun s' => s'.dict.resetComm ∧ s'.net.nmt = s.net.nmt)) ∧
  (∀ (s : State) (t : Nat) (c : Fin 2), s.coreOn → (∃ i, (s.ctrl c).listenFrom = some i ∧ i + s.obj 0x2E0404 * msec ≤ max s.now t) →
    answers (.duplicateListenEnd t c) s fun s' => (s'.ctrl c).listenFrom = none ∧ (s'.ctrl c).silenced = (s.ctrl c).dup ∧
      (s.net.nmt = .initialisation → (∀ d < 2, d ≠ c.val → (s.ctrl d).listenFrom = none) → s'.net.nmt = .preOperational)) ∧
  (∀ (s : State) (t : Nat) (c : Fin 2) (cob : Nat), s.coreOn → (s.ctrl c).hears → (s.ctrl c).node ≠ 0xFF →
    (cob = 0x700 + (s.ctrl c).node ∨ cob = 0x080 + (s.ctrl c).node) →
    answers (.duplicate t c cob) s fun s' => (s'.ctrl c).silenced ∧ (s'.ctrl c).dup ∧
      s'.obj (ctrlKey c 0x0D) = if (s.ctrl c).silenced then s.obj (ctrlKey c 0x0D)
        else (s.obj (ctrlKey c 0x0D) + 1) % 2 ^ objWidth (ctrlKey c 0x0D)) ∧
  (∀ (s : State) (t : Nat) (c : Fin 2), s.powered → (s.ctrl c).sends → (s.ctrl c).booted → s.cfg 0x101700 ≠ 0 →
    (s.ctrl c).hbAt + s.cfg 0x101700 * msec ≤ max s.now t → s.net.nmt ≠ .initialisation →
    answers (.heartbeatProduction t c) s fun s' => (s'.ctrl c).hbAt = max s.now t ∧
      .can c (0x700 + (s.ctrl c).node) [BitVec.ofNat 8 s.net.nmt.code] ∈ s'.out)

/-- From R438, R439: a partner that is heard is alive, one that is not heard for its timeout is lost, and a lost learned one is forgotten. -/
def Obligations.partners : Prop :=
  (∀ (s : State) (t : Nat) (c : Fin 2) (node state : Nat) (p : Partner), s.coreOn → (s.ctrl c).hears → 1 ≤ node → node ≤ 127 →
    s.net.partners.find? (·.isNode c node) = some p →
    (answers (.partnerHeartbeat t c node state) s fun s' => ∃ q ∈ s'.net.partners, q.node = node ∧ q.heard ∧ q.lost = false ∧
      q.heardAt = max s.now t ∧ q.state = state ∧ q.relearn = false) ∧
    (answers (.bootUp t c node) s fun s' => ∃ q ∈ s'.net.partners, q.node = node ∧ q.heard ∧ q.lost = false ∧
      q.heardAt = max s.now t ∧ q.state = 0 ∧ q.relearn ∧ q.period = p.period)) ∧
  (∀ (s : State) (t : Nat) (c : Fin 2) (node : Nat) (p : Partner), s.coreOn → s.net.partners.find? (·.isNode c node) = some p →
    (p.lost = false → p.heardAt + s.partnerTimeout p ≤ max s.now t →
      answers (.partnerLost t c node) s fun s' => { p with lost := true, lostAt := max s.now t } ∈ s'.net.partners) ∧
    (p.lost → p.configured = false → p.lostAt + s.cfg 0x2E0406 * second ≤ max s.now t →
      answers (.partnerForget t c node) s fun s' => s'.net.partners = dropFirst (· == p) s.net.partners))

/-- From R427–R430, R436, R437: a TPDO leaves with its SYNC or when its wait is over, an RPDO writes the object it maps, a record arrives in
fragments and one that stalls is dropped, and emergencies leave one at a time. -/
def Obligations.pdos_records_emergencies : Prop :=
  (∀ (s : State) (t : Nat) (c d : Fin 2) (n : Fin 16) (data : List Byte), s.coreOn → s.net.nmt = .operational → (s.ctrl d).sends →
    (s.cfg (tpdoKey n 0x01)).testBit 31 = false → s.isPlantTpdo n = false → tfind s.net.tpdoData n = some data →
    ((s.ctrl c).hears → s.cfg (tpdoKey n 0x02) = 1 →
      answers (.sync t c) s fun s' => s'.net.syncs = s.net.syncs + 1 ∧ .can d (s.cfg (tpdoKey n 0x01) % 2 ^ 11) data ∈ s'.out) ∧
    (254 ≤ s.cfg (tpdoKey n 0x02) → (s.advance t).tpdoFree n → n.val ∈ s.net.tpdoWait →
      answers (.tpdoEventTimer t n) s fun s' => n.val ∉ s'.net.tpdoWait ∧ .can d (s.cfg (tpdoKey n 0x01) % 2 ^ 11) data ∈ s'.out)) ∧
  (∀ (s : State) (t : Nat) (c : Fin 2) (n : Fin 8) (u : Nat) (data : List Byte), s.coreOn → (s.ctrl c).hears →
    s.net.nmt = .operational → (s.cfg (0x140001 + 256 * n)).testBit 31 = false → u < 256 → u ≠ 0x0E →
    splitMapping (s.rpdoMapping n) data = [(0x251000 + u, data)] → (s.advance t).served .rpdo →
    (s.advance t).writeError .rpdo (0x251000 + u) data = 0 →
    answers (.rpdo t c n data) s fun s' => s'.obj (0x251000 + u) = leNat data ∧ s'.obj 0x2E0409 = s.obj 0x2E0409) ∧
  (∀ (s : State) (t : Nat) (c : Fin 2) (cob r n : Nat) (data : List Byte), s.coreOn → (s.ctrl c).hears → s.recordChannel cob = some r →
    s.recordBuf c r = none → s.canStream c r = some n → leAt data 0 2 = 2 ^ 15 → leAt data 2 2 ≠ 0 →
    leAt data 2 2 ≤ (s.stream n).limits.unit → (data.drop 4).length ≤ leAt data 2 2 →
    answers (.canRecordFragment t c cob data) s fun s' =>
      s'.recordBuf c r = some { chan := r, ctrl := c, len := leAt data 2 2, next := 1, data := data.drop 4, since := max s.now t }) ∧
  (∀ (s : State) (t : Nat) (c : Fin 2) (chan : Nat) (x : RecordBuf), s.coreOn → s.recordBuf c chan = some x →
    x.since + s.cfg 0x2E4201 * msec ≤ max s.now t →
    answers (.recordReassemblyTimeout t c chan) s fun s' => s'.recordBuf c chan = none ∧
      s'.obj 0x2E4202 = (s.obj 0x2E4202 + 1) % 2 ^ objWidth 0x2E4202) ∧
  (∀ (s : State) (t : Nat) (c : Fin 2) (e : Emcy) (r : List Emcy), s.powered → (s.ctrl c).emcy = e :: r →
    ((s.ctrl c).sending = false → (s.ctrl c).sends → (∀ i, (s.ctrl c).inhibitFrom = some i → i + s.inhibit ≤ max s.now t) →
      answers (.emergencyInhibitExpiry t c) s fun s' => .can c (s.emcyCob (s.ctrl c)) (e.bytes (s.ctrl c).mode) ∈ s'.out) ∧
    ((s.ctrl c).sending → answers (.emergencyFrameSent t c) s fun s' => s'.net.emcySent = (s.net.emcySent + 1) % 2 ^ 32))

/-- From R440, R441: the error states of a controller and the way out of them, and the measured bus load. -/
def Obligations.bus_errors : Prop :=
  ∀ (s : State) (t : Nat) (c : Fin 2), s.coreOn →
    ((s.ctrl c).canopen → (s.ctrl c).err = 0 → answers (.errorPassive t c) s fun s' => (s'.ctrl c).err = 1) ∧
    ((s.ctrl c).hears → answers (.busOff t c) s fun s' =>
      let recent := (s.ctrl c).busOffs.filter fun i => decide (max s.now t < i + 60 * second)
      (s'.ctrl c).busOffs = max s.now t :: recent ∧ (s'.ctrl c).err = if 7 ≤ recent.length then 4 else 2) ∧
    (∀ i r, (s.ctrl c).err = 2 → (s.ctrl c).busOffs = i :: r → i + s.cfg (ctrlKey c 0x0A) * (s.ctrl c).factor * msec ≤ max s.now t →
      answers (.busOffRecovery t c) s fun s' => (s'.ctrl c).err = 0) ∧
    (∀ p v, s.mayWrite t p (ctrlKey c 0x0B) v → (s.ctrl c).err = 4 →
      answers (.releaseHeldOffController t p c v) s fun s' => (s'.ctrl c).err = 0) ∧
    (∀ load busiest, answers (.busLoadWindow t c load busiest) s fun s' => s'.obj (ctrlKey c 0x08) = load % 2 ^ 16 ∧
      s'.obj (ctrlKey c 0x09) = busiest % 2 ^ 16 ∧ s'.net.nmt = s.net.nmt)

/-- From R434, R453: LSS on a controller that hears the bus: its state is switched, by command or by the address of this slave alone; it
identifies itself, and a slave without a node-ID answers a scan step that its address matches. The specifiers are CiA 305's
(notes/assumptions/44.md). -/
def Obligations.lss_switch_and_scan : Prop :=
  ∀ (s : State) (t : Nat) (c : Fin 2), s.coreOn → (s.ctrl c).hears →
    (∀ b, answers (.switchStateGlobal t c b) s fun s' => (s'.ctrl c).lssConfig = b) ∧
    (∀ addr, answers (.switchStateSelective t c addr) s fun s' =>
      (s'.ctrl c).lssConfig = ((s.ctrl c).lssConfig || addr == [s.lssPart c 0, s.lssPart c 1, s.lssPart c 2, s.lssPart c 3]) ∧
      (addr = [s.lssPart c 0, s.lssPart c 1, s.lssPart c 2, s.lssPart c 3] → .lss c 0x44 0 ∈ s'.out)) ∧
    (∀ revLo revHi serLo serHi, revLo ≤ s.lssPart c 2 → s.lssPart c 2 ≤ revHi → serLo ≤ s.lssPart c 3 → s.lssPart c 3 ≤ serHi →
      answers (.identifyRemoteSlave t c (s.lssPart c 0) (s.lssPart c 1) revLo revHi serLo serHi) s fun s' => .lss c 0x4F 0 ∈ s'.out) ∧
    ((s.ctrl c).node = 0xFF →
      (answers (.identifyNonConfiguredSlave t c) s fun s' => .lss c 0x50 0 ∈ s'.out) ∧
      ((s.ctrl c).lssConfig = false → ∀ id sub next,
        (answers (.fastscan t c id 128 sub next) s fun s' => (s'.ctrl c).fastPos = 0 ∧ .lss c 0x4F 0 ∈ s'.out) ∧
        ∀ b < 32, id / 2 ^ b = s.lssPart c (s.ctrl c).fastPos / 2 ^ b →
          answers (.fastscan t c id b (s.ctrl c).fastPos next) s fun s' => .lss c 0x4F 0 ∈ s'.out ∧
            (s'.ctrl c).fastPos = (if b = 0 then next else (s.ctrl c).fastPos) ∧
            (s'.ctrl c).lssConfig = (decide (b = 0) && decide (next < (s.ctrl c).fastPos))))

/-- From R433, R434, R453: the services of the LSS configuration state: a node-ID waits for the next reset communication, a bit rate for its
activation; node-ID and bit rate are stored, the identity and the node-ID in force are answered. -/
def Obligations.lss_configuration : Prop :=
  ∀ (s : State) (t : Nat) (c : Fin 2), s.coreOn → (s.ctrl c).hears → (s.ctrl c).lssConfig →
    (∀ v, answers (.configureNodeId t c v) s fun s' => (s'.ctrl c).node = (s.ctrl c).node ∧
      if (1 ≤ v ∧ v ≤ 127) ∨ v = 0xFF then
        s'.obj (ctrlKey c 0x03) = v ∧ (s'.ctrl c).silenced = false ∧ .lss c 0x11 0 ∈ s'.out
      else s'.obj (ctrlKey c 0x03) = s.obj (ctrlKey c 0x03) ∧ .lss c 0x11 1 ∈ s'.out) ∧
    (∀ v, answers (.configureBitTiming t c v) s fun s' => (s'.ctrl c).nominal = (s.ctrl c).nominal ∧
      if v < 5 then (s'.ctrl c).lssPending = [1000000, 800000, 500000, 250000, 125000][v]? ∧ .lss c 0x13 0 ∈ s'.out
      else (s'.ctrl c).lssPending = (s.ctrl c).lssPending ∧ .lss c 0x13 1 ∈ s'.out) ∧
    (∀ r, (s.ctrl c).lssPending = some r → answers (.activateBitTiming t c) s fun s' => (s'.ctrl c).nominal = r ∧
      (s'.ctrl c).lssPending = none ∧ s'.obj (ctrlKey c 0x05) = r) ∧
    (s.dict.store = none → s.log.pfail = false → answers (.storeConfiguration t c) s fun s' => ∃ x, s'.dict.store = some x ∧
      x.lss = some c.val ∧ x.copy = s.storeTarget ∧ tget x.snap (ctrlKey c 0x03) 0 = s.obj (ctrlKey c 0x03) ∧
      tget x.snap (ctrlKey c 0x05) 0 = (s.ctrl c).lssPending.getD (s.obj (ctrlKey c 0x05))) ∧
    (∀ part : Fin 4, answers (.inquireIdentity t c part) s fun s' => .lss c (0x5A + part) (s.lssPart c part) ∈ s'.out) ∧
    answers (.inquireNodeId t c) s fun s' => .lss c 0x5E (s.ctrl c).node ∈ s'.out

/-- From R442, R444, R445: PLCA's status, errored transmissions, collisions and carriers in the own transmit opportunity, the transmit limit,
and the answers to ARP and to echo requests for the own address. -/
def Obligations.t1s_port : Prop :=
  ∀ (s : State) (t : Nat), s.coreOn →
    (s.plcaOn →
      (∀ ok, answers (.plcaStatusChange t ok) s fun s' => s'.net.plcaOk = ok) ∧
      (∀ k, k ≠ s.cfg 0x2E0601 → 3 ≤ ((tget s.net.plcaErrs k []).filter fun i => decide (max s.now t ≤ i + second)).length →
        answers (.erroredTransmission t k) s fun s' => s'.obj 0x2E0608 = k % 256) ∧
      (s.net.carriers.any (fun i => decide (max s.now t ≤ i + second)) →
        answers (.carrierInOwnTo t) s fun s' => s'.obj 0x2E0609 = 1)) ∧
    (answers (.collision t) s fun s' => s'.obj 0x2E0607 = (s.obj 0x2E0607 + 1) % 2 ^ objWidth 0x2E0607 ∧
      (s'.net.collisions, s'.obj 0x2E060A) =
        if 15 ≤ s.net.collisions then (0, (s.obj 0x2E060A + 1) % 2 ^ objWidth 0x2E060A) else (s.net.collisions + 1, s.obj 0x2E060A)) ∧
    (answers (.transmitLimit t) s fun s' => s'.net.txStopped ∧ s'.net.collisions = 0) ∧
    ∀ i : Fin 3, s.ownAddress i ≠ 0 →
      (∀ sender mac, ((s.advance t).broadcast i).2 = false →
        answers (.arp t i true sender mac (s.ownAddress i)) s fun s' => .arpReply i sender ∈ s'.out) ∧
      ∀ src data, answers (.icmpEcho t i src (s.ownAddress i) data) s fun s' => .icmpReply i src data ∈ s'.out

/-- From R470, R471: an object write by a served path: one that is refused is counted, with its code and object, answered with its code, and
changes no other object; one of a Headstock object that passes every check is counted and becomes the requested value. -/
def Obligations.object_writes : Prop :=
  (∀ (s : State) (t : Nat) (p : Path) (k : Nat) (data : List Byte), s.coreOn → (s.advance t).served p →
    (s.advance t).writeError p k data ≠ 0 →
    answers (.objectWrite t p k data) s fun s' =>
      .answer p k ((s.advance t).writeError p k data) [] ∈ s'.out ∧
      (∀ n, pathSlot p = some n → s'.obj (0x200205 + n) = (s.obj (0x200205 + n) + 1) % 2 ^ objWidth (0x200205 + n) ∧
        s'.obj (0x200209 + n) = (s.advance t).writeError p k data ∧ s'.obj 0x20020D = k) ∧
      changesOnly [.od, .log, .net, .out, .comp, .link, .red, .dict] (s.advance t) s' ∧
      ∀ j, j ∉ [0x200205, 0x200206, 0x200207, 0x200208, 0x200209, 0x20020A, 0x20020B, 0x20020C, 0x20020D, 0x2E0409, 0x290104, 0x290204] →
        s'.obj j = s.obj j) ∧
  (∀ (s : State) (t : Nat) (p : Path) (k : Nat) (data : List Byte), s.coreOn → (s.advance t).served p →
    (s.advance t).writeError p k data = 0 → k / 2 ^ 16 = 0x22 →
    answers (.objectWrite t p k data) s fun s' => s'.obj k = leNat data ∧ .answer p k 0 [] ∈ s'.out ∧
      ∀ n, pathSlot p = some n → s'.obj (0x200201 + n) = (s.obj (0x200201 + n) + 1) % 2 ^ objWidth (0x200201 + n))

/-- From R480: a UDP request from an address of the list is served once: one repeated within a second gets its response again and nothing is
served; a request from another address, or bytes that spell none, are dropped and counted. -/
def Obligations.udp_access : Prop :=
  ∀ (s : State) (t src port : Nat) (data : List Byte), s.coreOn → s.cfg 0x200301 = 1 → s.cfg 0x200302 ≠ 0 →
    (s.advance t).served .udp →
    ((src = 0 ∨ (∀ n < 4, s.cfg (0x200303 + n) ≠ src) ∨ udpRequest data = none) →
      answers (.udpObjectAccess t src port data) s fun s' =>
        s'.obj 0x200307 = (s.obj 0x200307 + 1) % 2 ^ objWidth 0x200307 ∧ s'.dict.udp = s.dict.udp) ∧
    (src ≠ 0 → (∃ n < 4, s.cfg (0x200303 + n) = src) → ∀ r, udpRequest data = some r →
      (∀ b, (s.advance t).udpAgain (src * 2 ^ 16 + port) r.seq = some b →
        answers (.udpObjectAccess t src port data) s fun s' => .udp 0 src port b ∈ s'.out ∧ s'.dict.udp = s.dict.udp ∧
          s'.obj 0x200308 = (s.obj 0x200308 + 1) % 2 ^ objWidth 0x200308 ∧ s'.inForce = s.inForce) ∧
      ((s.advance t).udpAgain (src * 2 ^ 16 + port) r.seq = none →
        answers (.udpObjectAccess t src port data) s fun s' =>
          .udp 0 src port ((s.advance t).serveUdp r).2 ∈ s'.out ∧
          s'.dict.udp.head? = some (src * 2 ^ 16 + port, r.seq, max s.now t, ((s.advance t).serveUdp r).2)))

/-- From R468, R481–R483: a divergence that has lasted is counted; a store snapshots its sets into the copy that does not hold the newest
sequence number, which is without one until the read-back; a restore keeps the entries and adds its mark; a bad read-back leaves the
other copy as it was. -/
def Obligations.stores_and_divergences : Prop :=
  (∀ (s : State) (t key i : Nat), s.coreOn → key ∉ s.dict.raised → (key, i) ∈ s.dict.divs → i + s.cfg 0x200103 * msec ≤ max s.now t →
    answers (.divergencePersisted t key) s fun s' => s'.obj 0x200104 = (s.obj 0x200104 + 1) % 2 ^ objWidth 0x200104) ∧
  (∀ (s : State) (t : Nat) (p : Path) (sub v : Nat), s.coreOn → (s.advance t).served p →
    ((s.advance t).writeError p (0x101000 + sub) (leBytes 4 v) = 0 →
      answers (.store t p sub v) s fun s' => s'.copyAt s.storeTarget = none ∧ s'.copyAt (1 - s.storeTarget) = s.copyAt (1 - s.storeTarget) ∧
        s'.dict.store = some { path := p, key := 0x101000 + sub, snap := s.storeSnapshot (setsOf sub), marks := s.boot.marks,
                               copy := s.storeTarget, isMark := false, lss := none }) ∧
    ((s.advance t).writeError p (0x101100 + sub) (leBytes 4 v) = 0 →
      answers (.restoreDefaults t p sub v) s fun s' => s'.copyAt s.storeTarget = none ∧
        s'.dict.store = some { path := p, key := 0x101100 + sub, snap := (s.newest.map (·.entries)).getD [],
                               marks := s.boot.marks ||| 2 ^ (sub - 1), copy := s.storeTarget, isMark := true, lss := none })) ∧
  (∀ (s : State) (t : Nat) (x : StoreSt), s.coreOn → s.dict.store = some x → s.dict.resetComm = false → x.copy ≤ 1 →
    (answers (.storeComplete t false) s fun s' => s'.dict.store = none ∧ s'.obj 0x200401 = 2 ∧ s'.boot = s.boot) ∧
    (x.isMark = false → answers (.storeComplete t true) s fun s' => s'.dict.store = none ∧ s'.obj 0x200401 = 1 ∧
      s'.copyAt x.copy = some (s.storedCopy x) ∧ s'.copyAt (1 - x.copy) = s.copyAt (1 - x.copy) ∧
      s'.obj 0x200402 = (s.storedCopy x).seq))

/-- From R475: the domain port: a selector write selects and copies, a refused one leaves selection and copy; a commit of 1 is the write of
the selected object's first bytes in the data area, any other is refused. -/
def Obligations.domain_port : Prop :=
  (∀ (s : State) (t : Nat) (v : BitVec 32), s.coreOn →
    answers (.domainPortSelect t v) s fun s' =>
      if (s.advance t).selectError v.toNat = 0 then s'.dict.sel = some (v.toNat / 256)
      else s'.dict.sel = s.dict.sel ∧ s'.dict.window = s.dict.window ∧
        .answer .pcie (v.toNat / 256) ((s.advance t).selectError v.toNat) [] ∈ s'.out) ∧
  (∀ (s : State) (t v : Nat) (data : List Byte), s.coreOn →
    (s.dict.sel = none ∨ v ≠ 1 →
      answers (.domainPortCommit t v data) s fun s' => s'.obj 0x200207 = (s.obj 0x200207 + 1) % 2 ^ objWidth 0x200207 ∧
        s'.dict.sel = s.dict.sel) ∧
    (∀ k, s.dict.sel = some k →
      let w := (data ++ s.dict.window.drop data.length).take 256
      answers (.domainPortCommit t 1 data) s fun s' =>
        exec (.objectWrite t .pcie k (w.take (writeSize k))) (s.onDict fun d => { d with window := w }) = .next s'))

/-- From R28, R308, R490, R561, R579: the doorbell attaches a host whose protocol version was accepted; silence, the loss of the PCIe link
and its reset detach it, and what it has not consumed is gone. -/
def Obligations.host_attachment : Prop :=
  (∀ (s : State) (t : Nat), s.coreOn →
    answers (.livenessDoorbell t) s fun s' => s'.boot.rungAt = some (max s.now t) ∧
      if s.boot.host ≠ 2 ∧ s.boot.versionOk then
        s'.boot.host = 2 ∧ s'.obj 0x2F0503 = (s.obj 0x2F0503 + 1) % 2 ^ objWidth 0x2F0503
      else s'.boot.host = s.boot.host ∧ s'.obj 0x2F0503 = s.obj 0x2F0503) ∧
  (∀ (s : State) (t : Nat), s.powered →
    (∀ i, s.boot.rungAt = some i → i + s.cfg 0x220508 * msec ≤ max s.now t → s.boot.host = 2 →
      answers (.hostLivenessLapse t) s fun s' => s'.boot.host = 3 ∧ s'.boot.rungAt = none ∧ s'.boot.versionOk = false ∧
        s'.dict.sel = none ∧ s'.xfer.ring = [] ∧ s'.xfer.ringCons = s'.xfer.ringProd) ∧
    (answers (.pcieReset t) s fun s' => s'.boot.host = (if s.boot.host = 2 then 3 else s.boot.host) ∧ s'.boot.versionOk = false ∧
      s'.boot.rungAt = none ∧ s'.dict.sel = none ∧ s'.dict.window = [] ∧ s'.xfer.ring = []) ∧
    (answers (.pcieLinkDown t) s fun s' => s'.boot.host = (if s.boot.host = 2 then 3 else s.boot.host)))

/-- From R493, R497, R499, R510, R522: a working-mode request and the low-power commands are taken and wait for an accepted edge: Watch only
in a working mode with no command standing, Retained-off in place of Watch; a deferral ends. -/
def Obligations.mode_requests : Prop :=
  ∀ (s : State) (t : Nat),
    (∀ p v, s.coreOn → s.mayWrite t p 0x2A0001 v → answers (.workingModeRequest t p v) s fun s' =>
      s'.obj 0x2A0001 = v ∧ s'.power.mode = s.power.mode ∧
      s'.power.toRun = if s.power.mode = .reduced ∧ v = 0 ∧ s.power.thermal = 0 then some (s.power.toRun.getD (max s.now t)) else none) ∧
    (∀ p, s.coreOn → s.mayWrite t p 0x2A0003 2 → answers (.watchCommand t p) s fun s' => s'.power.mode = s.power.mode ∧
      s'.power.command = if s.working ∧ s.power.command = 0 then 2 else s.power.command) ∧
    (∀ p, s.coreOn → s.mayWrite t p 0x2A0003 3 → answers (.retainedOffCommand t p) s fun s' =>
      s'.power = { s.power with command := 3, deferring := none }) ∧
    (∀ i, s.powered → s.power.deferring = some i → i + s.obj 0x2A1005 * msec ≤ max s.now t →
      answers (.deferralTimeout t) s fun s' => s'.power = { s.power with deferring := none, deferred := true })

/-- From R513, R515, R548, R609: a reading of the sensors is taken and moves the thermal level; the trip holds the device in reset. -/
def Obligations.thermal : Prop :=
  ∀ (s : State) (t : Nat), s.powered →
    (∀ r : Readings, answers (.thermalSample t r) s fun s' => s'.power.junctions = r.junctions ∧ s'.power.supplies = r.supplies ∧
      s'.power.hottest = hottestOf r.junctions ∧
      s'.power.thermal = thermalLevel (Config.grade == 1) s.power.thermal (hottestOf r.junctions)) ∧
    (answers (.thermalTrip t) s fun s' => s'.power.trip ∧ s'.power.tripSticky ∧ s'.boot.on = false ∧ s'.power.coreEn = false ∧
      s'.alarm.pins = 0 ∧ s'.red.roleOut = false ∧ s'.powered = false)

/-- From R502, R505: an enabled cause of the wake logic asserts CORE_EN and is noted, in Watch below thermal level 2 and in Retained-off, and
there the SRAM rail too. -/
def Obligations.wake_logic : Prop :=
  ∀ (s : State) (t : Nat),
    (s.powered → s.power.mode = .watch → s.power.thermal < 2 → s.power.wakeAt = none →
      (s.flag 0x2A0101 3 → answers (.wakeN t) s fun s' =>
        s'.power.coreEn ∧ s'.power.wakeAt = some (max s.now t) ∧ s'.obj 0x2A0006 = 3 ∧ s'.power.mode = .watch) ∧
      ((s.advance t).wakeTimeReached → s.flag 0x2A0101 4 → answers (.rtcWakeTime t) s fun s' =>
        s'.power.coreEn ∧ s'.power.wakeAt = some (max s.now t) ∧ s'.obj 0x2A0006 = 4)) ∧
    (s.boot.on → s.power.trip = false → s.power.mode = .retainedOff → s.power.wakeAt = none →
      (s.flag 0x2A0101 3 → answers (.wakeN t) s fun s' =>
        s'.power.coreEn ∧ s'.power.sramEn ∧ s'.power.wakeAt = some (max s.now t) ∧ s'.obj 0x2A0006 = 3) ∧
      ((s.advance t).wakeTimeReached → s.flag 0x2A0101 4 → answers (.rtcWakeTime t) s fun s' =>
        s'.power.coreEn ∧ s'.power.sramEn ∧ s'.power.wakeAt = some (max s.now t) ∧ s'.obj 0x2A0006 = 4)) ∧
    (∀ (c : Fin 2) (cob : Nat) (data : List Byte), s.powered → s.power.mode = .watch → s.coreOn = false → s.wakesOn c cob →
      answers (.canWakeFrame t c cob data) s fun s' =>
        s'.net.watchFrames = (if s.net.watchFrames.length < 8 then s.net.watchFrames ++ [(c.val, cob, data)] else s.net.watchFrames) ∧
        (s.flag 0x2A0101 1 → s.power.thermal < 2 → s.power.wakeAt = none → s'.power.coreEn ∧ s'.obj 0x2A0006 = 1))

/-- From R504, R505: rails that are not good 2.5 ms after a wake take CORE_EN away, and 10 ms later it is tried again; rails that come good
let the cores resume with admission 4.2 ms behind the wake; from Retained-off the device starts. -/
def Obligations.rails_after_a_wake : Prop :=
  ∀ (s : State) (t : Nat),
    (∀ w, s.powered → s.power.coreEn → s.power.railsOk = false → s.power.wakeAt = some w → w + 2500000 ≤ max s.now t →
      answers (.railsNotGood t) s fun s' => s'.power.coreEn = false ∧ s'.power.retryAt = some (max s.now t + 10 * msec)) ∧
    (∀ i, s.powered → s.power.retryAt = some i → i ≤ max s.now t →
      answers (.wakeRetry t) s fun s' => s'.power.coreEn ∧ s'.power.retryAt = none ∧ s'.power.wakeAt = some (max s.now t)) ∧
    (∀ w, s.powered → s.power.mode = .watch → s.power.coreEn → s.power.railsOk = false → s.power.wakeAt = some w →
      s.power.retryAt = none → s.net.watchFrames = [] →
      answers (.coreRailsGood t) s fun s' => s'.power.railsOk ∧ s'.power.admitFrom = some (w + 4200000) ∧
        ∀ k < 4, (s'.dog k).state = 0 ∧ (s'.dog k).last = max s.now t) ∧
    (s.boot.on → s.power.mode = .retainedOff → s.power.coreEn → s.power.wakeAt.isSome →
      answers (.coreRailsGood t) s fun s' => s'.boot.on ∧ s'.power.mode = .run ∧ s'.boot.cause = 1 ∧ s'.obj 0x2A0006 = s.obj 0x2A0006)

/-- From R507, R508, R521: the end of a spotter frame: it goes into the ring and its score is kept; reaching the arm threshold arms
and reaching the detection threshold while armed is a detection. -/
def Obligations.spotter_frame : Prop :=
  ∀ (s : State) (t : Nat) (score : BitVec 16) (samples : List (BitVec 16)), s.powered → s.wakeStream →
    (answers (.spotterFrameEnd t score samples) s fun s' => s'.power.score = score.toNat ∧ s'.power.frameNo = s.power.frameNo + 1 ∧
      s'.power.ring.head?.map (·.samples) = some (samples.take 160) ∧ s'.power.ring.length ≤ 256) ∧
    (s.power.armed = false → s.power.score < s.cfg 0x2A1003 → s.cfg 0x2A1003 ≤ score.toNat → score.toNat < s.cfg 0x2A1004 →
      answers (.spotterFrameEnd t score samples) s fun s' => s'.power.armed ∧ s'.power.spotterDecides = (s.power.mode == .watch)) ∧
    (s.power.armed → s.power.score < s.cfg 0x2A1004 → s.cfg 0x2A1004 ≤ score.toNat →
      answers (.spotterFrameEnd t score samples) s fun s' => s'.power.armed = false ∧ s'.power.lastDetection.isSome ∧
        s'.obj 0x2A1007 = (s.obj 0x2A1007 + 1) % 2 ^ objWidth 0x2A1007)

/-- From R525–R527: a monitor's control takes its snapshot at device time, clears it, or both, and leaves every other monitor. -/
def Obligations.monitors : Prop :=
  ∀ (s : State) (t : Nat) (p : Path) (m : Fin 48), s.coreOn →
    let x := s.monitor m
    let shot := { x with sCount := x.count, sMin := x.min, sMax := x.max, sBins := x.bins, sDev := (s.advance t).time.dev }
    (s.mayWrite t p (monitorKey m) 1 → answers (.monitorSnapshot t p m) s fun s' => s'.monitor m = shot ∧
      ∀ n, n ≠ m.val → s'.monitor n = s.monitor n) ∧
    (s.mayWrite t p (monitorKey m) 2 → answers (.monitorSnapshotAndClear t p m) s fun s' =>
      s'.monitor m = { shot with count := 0, min := 0x7FFFFFFF, max := -2147483648, bins := [] } ∧
      ∀ n, n ≠ m.val → s'.monitor n = s.monitor n) ∧
    (s.mayWrite t p (monitorKey m) 3 → answers (.monitorClear t p m) s fun s' =>
      s'.monitor m = { x with count := 0, min := 0x7FFFFFFF, max := -2147483648, bins := [] } ∧
      ∀ n, n ≠ m.val → s'.monitor n = s.monitor n)

/-- From R532, R537, R538, R540, R549: flush, freeze, power fail and its end, lifetime entries and erase counts. -/
def Obligations.fault_log_and_lifetime : Prop :=
  (∀ (s : State) (t : Nat) (p : Path), s.coreOn →
    (s.mayWrite t p 0x2C0101 1 → answers (.freeze t p) s fun s' => s'.log.frozen = some (max s.now t) ∧
      s'.log.frozenDev = if s.log.frozen.isSome then s.log.frozenDev else (s.advance t).time.dev) ∧
    (s.mayWrite t p 0x2C0101 2 → answers (.freezeRelease t p) s fun s' => s'.log.frozen = none)) ∧
  (∀ (s : State) (t : Nat), s.powered →
    (∀ i, s.log.frozen = some i → i + s.cfg 0x2C0103 * second ≤ max s.now t →
      answers (.freezeTimeout t) s fun s' => s'.log.frozen = none) ∧
    ((s.advance t).flushDue → s.log.pfail = false → s.health.resetPending = none →
      answers (.flush t none) s fun s' => s'.log.flushes = (s.log.flushes + 1) % 2 ^ 32) ∧
    (answers (.pwrfailAsserted t) s fun s' => s'.log.pfail ∧ s'.log.pfHighAt = none ∧
      if s.log.pfail then s'.log.pfFlushes = s.log.pfFlushes ∧ s'.health = s.health
      else s'.log.pfFlushes = (s.log.pfFlushes + 1) % 2 ^ 32 ∧ s'.health.live.pfails = (s.health.live.pfails + 1) % 2 ^ 32 ∧
        s'.dict.store = none) ∧
    (s.log.pfail →
      (answers (.pwrfailDeasserted t) s fun s' => s'.log.pfail ∧ s'.log.pfHighAt = some (max s.now t)) ∧
      ∀ i, s.log.pfHighAt = some i → i + 100 * msec ≤ max s.now t →
        answers (.powerRestored t) s fun s' => s'.log.pfail = false ∧ s'.log.pfHighAt = none) ∧
    (s.log.pfail = false →
      (s.health.entryAt + 600 * second ≤ max s.now t → ∀ ok, answers (.lifetimeEntry t ok) s fun s' =>
        s'.health.entryAt = max s.now t ∧ s'.health.entrySeq = (if ok then nextSeq s.health.entrySeq else s.health.entrySeq) ∧
        s'.health.entry = if ok then some (s.advance t).lifetimeNow else s.health.entry) ∧
      (s.health.eraseAt + 86400 * second ≤ max s.now t → ∀ ok, answers (.eraseCountWrite t ok) s fun s' =>
        s'.health.eraseAt = max s.now t ∧ s'.health.eraseTable = if ok then s.health.erases else s.health.eraseTable)))

/-- From R544–R546, R553, R580: a service inside its window restarts a watchdog; an early one, or none in time, expires it, halts a control core
and asks for its reset; a debugger that is granted access halts and resumes a core and freezes its watchdog. -/
def Obligations.watchdogs_and_debug : Prop :=
  ∀ (s : State) (t : Nat) (k : Fin 5), s.powered →
    let opens := if k.val ≤ 3 then 1000000 else 10000000
    let lasts := if k.val ≤ 3 then 10000000 else 100000000
    (s.coreRuns k → (s.dog k).state = 0 →
      ((s.dog k).last + opens ≤ max s.now t → answers (.watchdogService t k) s fun s' =>
        s'.dog k = { s.dog k with last := max s.now t, lastDev := (s.advance t).time.dev }) ∧
      (max s.now t < (s.dog k).last + opens → answers (.watchdogService t k) s fun s' =>
        (s'.dog k).state = (if k.val ≤ 3 then 2 else 0) ∧ (s'.dog k).reason = 2 ∧ (s'.dog k).expiries = ((s.dog k).expiries + 1) % 2 ^ 32 ∧
        s'.health.resetPending = if k.val ≤ 3 then some k.val else s.health.resetPending) ∧
      ∀ pc : BitVec 32, (s.dog k).last + lasts ≤ max s.now t → answers (.watchdogExpiry t k pc) s fun s' =>
        (s'.dog k).state = (if k.val ≤ 3 then 2 else 0) ∧ (s'.dog k).reason = 1 ∧ (s'.dog k).pc = pc.toNat ∧
        (s'.dog k).expiries = ((s.dog k).expiries + 1) % 2 ^ 32 ∧
        s'.health.resetPending = if k.val ≤ 3 then some k.val else s.health.resetPending) ∧
    (answers (.debugHalt t k) s fun s' =>
      if s.debugOpen then k.val ∈ s'.health.halted ∧ (s'.dog k).state = if (s.dog k).state = 0 then 1 else (s.dog k).state
      else s'.health = s.health) ∧
    (k.val ∈ s.health.halted → s.health.resetPending = none → answers (.debugResume t k) s fun s' =>
      k.val ∉ s'.health.halted ∧ ((s.dog k).state = 1 → (s'.dog k).state = 0 ∧ (s'.dog k).last = max s.now t))

/-- From R560, R561, R580, R613: every reset starts the device anew with its cause and leaves it in Run with its lock level; a device that the
thermal trip holds does not start from the reset pin; SRAM is lost in a full start and stays in a reset node. -/
def Obligations.resets : Prop :=
  ∀ (s : State) (t : Nat) (env : StartEnv),
    (answers (.powerOnReset t env) s fun s' => s'.boot.on ∧ s'.boot.cause = 0 ∧ s'.boot.releasedAt = max s.now t ∧
      s'.boot.lockLevel = s.boot.lockLevel ∧ s'.power.mode = .run ∧ s'.sram = []) ∧
    (answers (.pinReset t env) s fun s' =>
      if s.power.trip then s'.boot = s.boot ∧ s'.power = s.power
      else s'.boot.on ∧ s'.boot.cause = 1 ∧ s'.boot.releasedAt = max s.now t ∧ s'.boot.lockLevel = s.boot.lockLevel ∧
        s'.power.mode = .run ∧ s'.sram = []) ∧
    (s.coreOn →
      (∀ (c : Fin 2) node, s.addressed c node → answers (.resetNode t c node env) s fun s' => s'.boot.on ∧ s'.boot.cause = 2 ∧
        s'.boot.releasedAt = max s.now t ∧ s'.boot.lockLevel = s.boot.lockLevel ∧ s'.power.mode = .run ∧ s'.sram = s.sram) ∧
      ∀ k, answers (.parityError t k env) s fun s' => s'.boot.on ∧ s'.boot.cause = 4 ∧ s'.boot.releasedAt = max s.now t ∧
        s'.boot.lockLevel = s.boot.lockLevel ∧ s'.power.mode = .run ∧ s'.sram = s.sram)

/-- From R563–R567: a confirmation ends the trial of the running firmware, update data goes to the bank that does not run, and a commit makes a
bank that verifies the preferred one on trial and refuses another. -/
def Obligations.firmware : Prop :=
  ∀ (s : State) (t : Nat) (p : Path), s.coreOn →
    (∀ v, s.mayWrite t p 0x2F0105 v → s.boot.header.trial → s.boot.running = s.boot.header.preferred →
      answers (.confirmFirmware t p v) s fun s' => s.boot.security ≤ s'.boot.security ∧
        some { s.boot.header with seq := nextSeq s.boot.header.seq, trial := false, trials := 0 } ∈
          [s'.boot.header0, s'.boot.header1]) ∧
    (∀ data, (s.advance t).served p → (s.advance t).writeError p 0x2F0202 data = 0 → answers (.updateData t p data) s fun s' =>
      s'.obj 0x2F0201 = (s.obj 0x2F0201 + 256) % 2 ^ 32 ∧
      s'.fwBank s.spareBank = { info := none, pages := (if s.obj 0x2F0201 = 0 then [] else (s.fwBank s.spareBank).pages) ++
                                  [(s.obj 0x2F0201, data)] } ∧
      s'.fwBank (1 - s.spareBank) = s.fwBank (1 - s.spareBank)) ∧
    (∀ v, (s.advance t).served p → (s.advance t).writeError p 0x2F0203 [BitVec.ofNat 8 v] = 0 →
      answers (.updateCommit t p v) s fun s' =>
        if s.updateOk then s'.boot.updating = 2 ∧
          some { s.boot.header with seq := nextSeq s.boot.header.seq, preferred := s.spareBank, trial := true, trials := 0 } ∈
            [s'.boot.header0, s'.boot.header1]
        else s'.boot = { s.boot with updating := 3 } ∧ .answer p 0x2F0203 abortValue [] ∈ s'.out)

/-- From R580, R581: a token that a fused root key signs over the serial number and the nonce opens debug access at level 1; a lock and a seal
raise the level; a key block is taken where it is signed and its version is higher, and refused and counted where not. No command
lets the level fall. -/
def Obligations.lock_and_keys : Prop :=
  (∀ (c : Instr) (s s' : State), exec c s = .next s' → s.boot.lockLevel ≤ s'.boot.lockLevel) ∧
  (∀ (s : State) (t : Nat) (tok : List Byte), s.powered →
    answers (.unlock t tok) s fun s' =>
      if s.boot.lockLevel = 1 ∧ tok.length = 96 ∧ s.rootKey (tok.take 32) ∧
          Config.ed25519 (leNat (tok.take 32)) s.unlockMessage (tok.drop 32) then
        s'.boot = { s.boot with unlocked := true, nonce := s.boot.nonce + 1 }
      else s'.boot = s.boot) ∧
  (∀ (s : State) (t : Nat) (p : Path), s.coreOn →
    (s.mayWrite t p 0x2F0605 1 → answers (.lock t p) s fun s' => s'.boot = { s.boot with lockLevel := max s.boot.lockLevel 1 }) ∧
    (s.mayWrite t p 0x2F0605 2 → answers (.sealDevice t p) s fun s' => s'.boot = { s.boot with lockLevel := max s.boot.lockLevel 2 }) ∧
    (∀ data, (s.advance t).served p → (s.advance t).writeError p 0x2F3001 data = 0 →
      answers (.keyBlock t p data) s fun s' =>
        if s.keyBlockOk data then
          s'.boot = { s.boot with keys := tset s.boot.keys (leAt data 0 1) (leAt data 4 32, leAt data 36 4) } ∧
          s'.obj 0x2F3002 = (s.obj 0x2F3002 + 1) % 2 ^ objWidth 0x2F3002
        else s'.boot = s.boot ∧ s'.obj 0x2F3003 = (s.obj 0x2F3003 + 1) % 2 ^ objWidth 0x2F3003))

/-- The step takes the command at the front of the queue, and it is `exec` of it on the state with the queue's rest; on an empty
queue the block idles, which is the model's choice (notes/assumptions/2.md). -/
def Obligations.step_takes_the_front_command : Prop :=
  (∀ (s : State) (c : Instr), step (s.push c) = exec c s) ∧
  (∀ (s : State) (c : Instr) (r : List Instr), s.pending = c :: r → step s = exec c { s with pending := r }) ∧
  ∀ s : State, s.pending = [] → step s = .next s

/-- What a reset leaves: the working mode is Run, the device is pre-operational with its control cores running, no port of the
Spindle Link is up, no job runs, every queue of commands and every memory is empty, and the memories stand in canonical form. The start
that has run and its records are the model's choice (notes/assumptions/52.md). -/
def Obligations.reset_state : Prop :=
  State.reset.pending = [] ∧ State.reset.memoryOk ∧ State.reset.coreOn ∧ State.reset.power.mode = .run ∧ State.reset.net.nmt = .preOperational ∧
  (∀ k, (State.reset.port k).state = 0) ∧ State.reset.head.running = [] ∧ State.reset.head.image = none ∧ State.reset.tick.started = false ∧
  State.reset.boot.lockLevel = 0 ∧ (∀ q, (State.reset.queue q).fetched = []) ∧ (∀ m ≤ 1, ∀ a, State.reset.readByte m a = 0)

/-- The memories keep their canonical form over every step. -/
def Obligations.memory_form_kept : Prop :=
  ∀ s s' : State, s.memoryOk → step s = .next s' → s'.memoryOk

/-- Every command answers in every state, and its answer is a next state at its instant, with the queue as it was, except where it
reaches for memory at an address without any: WRITE, ACCUM, READ_REQ, CHUNK_VISIBLE and TRANSLATION_FAULT alone may do so, and they
fault. A command for which nothing runs only lets time pass. -/
def Obligations.every_command_answers : Prop :=
  ∀ (c : Instr) (s : State),
    ((∃ s', exec c s = .next s' ∧ s'.now = max s.now (instantOf c) ∧ s'.pending = s.pending) ∨
      ((∃ a, exec c s = .fault (.noSuchMemory a)) ∧ s.coreOn ∧
        match c with
        | .write .. | .accum .. | .readReq .. | .chunkVisible .. | .translationFault .. => True
        | _ => False)) ∧
    (s.runs (runnerOf c) = false → exec c s = .next (s.advance (instantOf c)))

/-- The frame of every command: the parts of the state that it may change are those of `frameOf`, and what its end settles
(`State.quiet`); every other part is as time leaves it. -/
def Obligations.command_frames : Prop :=
  ∀ (c : Instr) (s s' : State), exec c s = .next s' → ∀ p, p ∉ frameOf c →
    s'.quiet.only p = (s.advance (instantOf c)).quiet.only p

/-- From R464: 0x2000.03 reads 0 for the IA and 1 for the XA grade, and in every state alike. Subindex 0 of an index that holds more than one
value reads the highest subindex that it implements, is read-only, and a subindex below that it does not implement does not exist. -/
def Obligations.grade_and_subindex_zero : Prop :=
  (∀ s : State, s.readObject 0x200003 = some [BitVec.ofNat 8 Config.grade]) ∧
  ∀ (s : State) (i : Nat), s.boot.state ≠ 4 → indexExists i → objectRow (256 * i) = none →
    s.readObject (256 * i) = some [BitVec.ofNat 8 (highestSub i)] ∧ s.readError (256 * i) = 0 ∧
    (objectRow (256 * i + highestSub i)).isSome ∧ highestSub i < 256 ∧
    (∀ u < 256, (objectRow (256 * i + u)).isSome → u ≤ highestSub i) ∧
    (∀ p data, s.writeError p (256 * i) data = abortReadOnly) ∧
    ∀ u < 256, u ≠ 0 → objectRow (256 * i + u) = none → s.readError (256 * i + u) = abortNoSub ∧
      ∀ p data, s.writeError p (256 * i + u) data = abortNoSub

end
end

