-- ==== Sys2Proof/Laws/Frame.lean ====
section
/-! SUPPORT. The frame of each update of a part, and how frames pass through choices and folds. -/
namespace Sys2Proof.Machine
set_option Elab.async false

/-- A part outside a list is outside every list within it. -/
theorem away {ps qs : List Part} {p : Part} (hp : p ∉ ps) (hq : qs ⊆ ps) : p ∉ qs := fun h => hp (hq h)

theorem only_ite {c : Prop} [Decidable c] (a b : State) (p : Part) :
    (if c then a else b).only p = if c then a.only p else b.only p := by
  by_cases h : c
  · rw [if_pos h, if_pos h]
  · rw [if_neg h, if_neg h]

theorem only_iteFst {α : Type} {c : Prop} [Decidable c] (a b : State × α) (p : Part) :
    (if c then a else b).1.only p = if c then a.1.only p else b.1.only p := by
  by_cases h : c
  · rw [if_pos h, if_pos h]
  · rw [if_neg h, if_neg h]

theorem only_iteSnd {α : Type} {c : Prop} [Decidable c] (a b : α × State) (p : Part) :
    (if c then a else b).2.only p = if c then a.2.only p else b.2.only p := by
  by_cases h : c
  · rw [if_pos h, if_pos h]
  · rw [if_neg h, if_neg h]

/-- A fold of steps that each keep a part keeps it. -/
theorem only_foldl {α : Type} {p : Part} {f : State → α → State} (hf : ∀ s x, (f s x).only p = s.only p) (l : List α)
    (s : State) : (l.foldl f s).only p = s.only p := by
  induction l generalizing s with
  | nil => rfl
  | cons x r ih => exact (ih (f s x)).trans (hf s x)

/-- A fold that carries a value beside the state. -/
theorem only_foldlFst {α β : Type} {p : Part} {f : State × β → α → State × β}
    (hf : ∀ s x, (f s x).1.only p = s.1.only p) (l : List α) (s : State × β) : (l.foldl f s).1.only p = s.1.only p := by
  induction l generalizing s with
  | nil => rfl
  | cons x r ih => exact (ih (f s x)).trans (hf s x)

theorem State.onTime_same {p : Part} (hp : p ∉ [.time]) (s : State) (f : TimeSt → TimeSt) : (s.onTime f).only p = s.only p := by
  cases p <;> first | rfl | exact absurd (List.mem_singleton.mpr rfl) hp

theorem State.onPtp_same {p : Part} (hp : p ∉ [.ptp]) (s : State) (f : PtpSt → PtpSt) : (s.onPtp f).only p = s.only p := by
  cases p <;> first | rfl | exact absurd (List.mem_singleton.mpr rfl) hp

theorem State.onTick_same {p : Part} (hp : p ∉ [.tick]) (s : State) (f : TickSt → TickSt) : (s.onTick f).only p = s.only p := by
  cases p <;> first | rfl | exact absurd (List.mem_singleton.mpr rfl) hp

theorem State.onHead_same {p : Part} (hp : p ∉ [.head]) (s : State) (f : HeadSt → HeadSt) : (s.onHead f).only p = s.only p := by
  cases p <;> first | rfl | exact absurd (List.mem_singleton.mpr rfl) hp

theorem State.onAlarm_same {p : Part} (hp : p ∉ [.alarm]) (s : State) (f : AlarmSt → AlarmSt) : (s.onAlarm f).only p = s.only p := by
  cases p <;> first | rfl | exact absurd (List.mem_singleton.mpr rfl) hp

theorem State.onCodec_same {p : Part} (hp : p ∉ [.codec]) (s : State) (f : CodecSt → CodecSt) : (s.onCodec f).only p = s.only p := by
  cases p <;> first | rfl | exact absurd (List.mem_singleton.mpr rfl) hp

theorem State.onNoise_same {p : Part} (hp : p ∉ [.noise]) (s : State) (f : NoiseSt → NoiseSt) : (s.onNoise f).only p = s.only p := by
  cases p <;> first | rfl | exact absurd (List.mem_singleton.mpr rfl) hp

theorem State.onXfer_same {p : Part} (hp : p ∉ [.xfer]) (s : State) (f : XferSt → XferSt) : (s.onXfer f).only p = s.only p := by
  cases p <;> first | rfl | exact absurd (List.mem_singleton.mpr rfl) hp

theorem State.onComp_same {p : Part} (hp : p ∉ [.comp]) (s : State) (f : ComputeSt → ComputeSt) : (s.onComp f).only p = s.only p := by
  cases p <;> first | rfl | exact absurd (List.mem_singleton.mpr rfl) hp

theorem State.onLink_same {p : Part} (hp : p ∉ [.link]) (s : State) (f : LinkSt → LinkSt) : (s.onLink f).only p = s.only p := by
  cases p <;> first | rfl | exact absurd (List.mem_singleton.mpr rfl) hp

theorem State.onRed_same {p : Part} (hp : p ∉ [.red]) (s : State) (f : RedSt → RedSt) : (s.onRed f).only p = s.only p := by
  cases p <;> first | rfl | exact absurd (List.mem_singleton.mpr rfl) hp

theorem State.onNet_same {p : Part} (hp : p ∉ [.net]) (s : State) (f : NetSt → NetSt) : (s.onNet f).only p = s.only p := by
  cases p <;> first | rfl | exact absurd (List.mem_singleton.mpr rfl) hp

theorem State.onDict_same {p : Part} (hp : p ∉ [.dict]) (s : State) (f : DictSt → DictSt) : (s.onDict f).only p = s.only p := by
  cases p <;> first | rfl | exact absurd (List.mem_singleton.mpr rfl) hp

theorem State.onPower_same {p : Part} (hp : p ∉ [.power]) (s : State) (f : PowerSt → PowerSt) : (s.onPower f).only p = s.only p := by
  cases p <;> first | rfl | exact absurd (List.mem_singleton.mpr rfl) hp

theorem State.onLog_same {p : Part} (hp : p ∉ [.log]) (s : State) (f : RecorderSt → RecorderSt) : (s.onLog f).only p = s.only p := by
  cases p <;> first | rfl | exact absurd (List.mem_singleton.mpr rfl) hp

theorem State.onHealth_same {p : Part} (hp : p ∉ [.health]) (s : State) (f : HealthSt → HealthSt) : (s.onHealth f).only p = s.only p := by
  cases p <;> first | rfl | exact absurd (List.mem_singleton.mpr rfl) hp

theorem State.onBoot_same {p : Part} (hp : p ∉ [.boot]) (s : State) (f : BootSt → BootSt) : (s.onBoot f).only p = s.only p := by
  cases p <;> first | rfl | exact absurd (List.mem_singleton.mpr rfl) hp

theorem State.setStreams_same {p : Part} (hp : p ∉ [.streams]) (s : State) (v : Table StreamSt) : (s.setStreams v).only p = s.only p := by
  cases p <;> first | rfl | exact absurd (List.mem_singleton.mpr rfl) hp

theorem State.setSram_same {p : Part} (hp : p ∉ [.sram]) (s : State) (v : List Host.Cell) : (s.setSram v).only p = s.only p := by
  cases p <;> first | rfl | exact absurd (List.mem_singleton.mpr rfl) hp

theorem State.setDram_same {p : Part} (hp : p ∉ [.dram]) (s : State) (v : List Host.Cell) : (s.setDram v).only p = s.only p := by
  cases p <;> first | rfl | exact absurd (List.mem_singleton.mpr rfl) hp

theorem State.setInForce_same {p : Part} (hp : p ∉ [.inForce]) (s : State) (v : Table Nat) : (s.setInForce v).only p = s.only p := by
  cases p <;> first | rfl | exact absurd (List.mem_singleton.mpr rfl) hp

theorem State.setActual_same {p : Part} (hp : p ∉ [.actual]) (s : State) (v : Table Nat) : (s.setActual v).only p = s.only p := by
  cases p <;> first | rfl | exact absurd (List.mem_singleton.mpr rfl) hp

theorem State.setOd_same {p : Part} (hp : p ∉ [.od]) (s : State) (v : Table Nat) : (s.setOd v).only p = s.only p := by
  cases p <;> first | rfl | exact absurd (List.mem_singleton.mpr rfl) hp

theorem State.drew_same {p : Part} (hp : p ∉ [.free]) (s : State) : s.drew.only p = s.only p := by
  cases p <;> first | rfl | exact absurd (List.mem_singleton.mpr rfl) hp

theorem State.send_same {p : Part} (hp : p ∉ [.out]) (s : State) (o : Out) : (s.send o).only p = s.only p := by
  cases p <;> first | rfl | exact absurd (List.mem_singleton.mpr rfl) hp

end Sys2Proof.Machine
end

