-- ==== Sys2Proof/Laws/FrameOps.lean ====
section
/-! SUPPORT. The frames of the operations of Machine/Ops.lean: the parts of the state that each one keeps. -/
namespace Sys2Proof.Machine
set_option linter.unusedSimpArgs false
set_option Elab.async false

theorem State.advance_same {part : Part} (hp : part ∉ [.now, .time, .out]) (s : State) (t : Nat) :
    (State.advance s t).only part = s.only part := by
  cases part <;> first | rfl | exact absurd (by decide) hp

theorem State.setObj_same {part : Part} (hp : part ∉ [.od]) (s : State) (k v : Nat) :
    (State.setObj s k v).only part = s.only part := by
  simp only [State.setObj, ↓State.setOd_same hp, ite_self, implies_true, id_eq]

theorem State.adopt_same {part : Part} (hp : part ∉ [.inForce]) (s : State) (k v : Nat) :
    (State.adopt s k v).only part = s.only part := by
  simp only [State.adopt, ↓State.setInForce_same hp, ite_self, implies_true, id_eq]

theorem State.incr_same {part : Part} (hp : part ∉ [.od]) (s : State) (k : Nat) (n : Nat) :
    (State.incr s k n).only part = s.only part := by
  simp only [State.incr, ↓State.setObj_same hp, ite_self, implies_true, id_eq]

theorem State.draw_same {part : Part} (hp : part ∉ [.free]) (s : State) (tag : Nat) :
    (State.draw s tag).2.only part = s.only part := by
  simp only [State.draw, ↓State.drew_same hp, ite_self, implies_true, id_eq]

theorem State.noted_same {part : Part} (hp : part ∉ [.log]) (s : State) (code key : Nat) :
    (State.noted s code key).only part = s.only part := by
  simp only [State.noted, ↓State.onLog_same hp, ite_self, implies_true, id_eq]

theorem State.stagingFull_same {part : Part} (hp : part ∉ [.log]) (s : State) :
    (State.stagingFull s).only part = s.only part := by
  simp only [State.stagingFull, ↓State.onLog_same hp, ↓State.noted_same hp, ↓only_ite, ↓only_iteFst, ↓only_iteSnd,
    ite_self, implies_true, id_eq]

theorem State.record_same {part : Part} (hp : part ∉ [.log]) (s : State) (code subj arg : Nat) :
    (State.record s code subj arg).only part = s.only part := by
  simp only [State.record, ↓State.onLog_same hp, ↓State.stagingFull_same hp, ↓only_ite, ↓only_iteFst, ↓only_iteSnd,
    ite_self, implies_true, id_eq]

theorem State.setCtrl_same {part : Part} (hp : part ∉ [.net]) (s : State) (c : Nat) (v : Ctrl) :
    (State.setCtrl s c v).only part = s.only part := by
  simp only [State.setCtrl, ↓State.onNet_same hp, ite_self, implies_true, id_eq]

theorem State.startEmcy_same {part : Part} (hp : part ∉ [.net, .log, .out]) (s : State) (c : Nat) :
    (State.startEmcy s c).only part = s.only part := by
  simp only [State.startEmcy, ↓State.send_same (away hp (by decide)), ↓State.setCtrl_same (away hp (by decide)),
    ↓only_ite, ↓only_iteFst, ↓only_iteSnd, ite_self, implies_true, id_eq]
  all_goals repeat' split <;> try simp only [↓State.send_same (away hp (by decide)),
    ↓State.setCtrl_same (away hp (by decide)), ↓only_ite, ↓only_iteFst, ↓only_iteSnd, ite_self, implies_true, id_eq]

theorem State.emcyTo_same {part : Part} (hp : part ∉ [.net, .log, .out]) (s : State) (c : Nat) (e : Emcy) :
    (State.emcyTo s c e).only part = s.only part := by
  simp only [State.emcyTo, ↓State.onNet_same (away hp (by decide)), ↓State.record_same (away hp (by decide)),
    ↓State.setCtrl_same (away hp (by decide)), ↓State.startEmcy_same hp, ↓only_ite, ↓only_iteFst, ↓only_iteSnd,
    ite_self, implies_true, id_eq]

theorem State.noteError_same {part : Part} (hp : part ∉ [.net]) (s : State) (eec code : Nat) :
    (State.noteError s eec code).only part = s.only part := by
  simp only [State.noteError, ↓State.onNet_same hp, ↓only_ite, ↓only_iteFst, ↓only_iteSnd, ite_self, implies_true,
    id_eq]

theorem State.emcy_same {part : Part} (hp : part ∉ [.net, .log, .out]) (s : State) (eec code arg : Nat) (trip : Bool) :
    (State.emcy s eec code arg trip).only part = s.only part := by
  simp only [State.emcy, ↓State.emcyTo_same hp, ↓State.noteError_same (away hp (by decide)), ite_self, implies_true,
    id_eq]

theorem State.vector_same {part : Part} (hp : part ∉ [.out]) (s : State) (code : Nat) :
    (State.vector s code).only part = s.only part := by
  simp only [State.vector, ↓State.send_same hp, ↓only_ite, ↓only_iteFst, ↓only_iteSnd, ite_self, implies_true, id_eq]

theorem State.emitArg_same {part : Part} (hp : part ∉ [.net, .log, .out]) (s : State) (code subj arg emcyArg : Nat) (always : Bool) (eec : Nat) :
    (State.emitArg s code subj arg emcyArg always eec).only part = s.only part := by
  simp only [State.emitArg, ↓State.record_same (away hp (by decide)), ↓State.emcy_same hp,
    ↓State.vector_same (away hp (by decide)), ↓only_ite, ↓only_iteFst, ↓only_iteSnd, ite_self, implies_true, id_eq]

theorem State.emit_same {part : Part} (hp : part ∉ [.net, .log, .out]) (s : State) (code : Nat) (subj : Nat) (arg : Nat) :
    (State.emit s code subj arg).only part = s.only part := by
  simp only [State.emit, ↓State.emitArg_same hp, ite_self, implies_true, id_eq]

theorem State.emitLimited_same {part : Part} (hp : part ∉ [.net, .log, .out]) (s : State) (interval code subj arg key : Nat) :
    (State.emitLimited s interval code subj arg key).only part = s.only part := by
  simp only [State.emitLimited, ↓State.noted_same (away hp (by decide)), ↓State.emit_same hp, ↓only_ite,
    ↓only_iteFst, ↓only_iteSnd, ite_self, implies_true, id_eq]

theorem State.badGroups_same {part : Part} (hp : part ∉ [.od, .net, .log, .out]) (s : State) (n : Nat) :
    (State.badGroups s n).only part = s.only part := by
  simp only [State.badGroups, ↓State.incr_same (away hp (by decide)), ↓State.emitLimited_same (away hp (by decide)),
    ↓only_ite, ↓only_iteFst, ↓only_iteSnd, ite_self, implies_true, id_eq]

theorem State.settleErrors_same {part : Part} (hp : part ∉ [.net, .log, .out]) (s : State) :
    (State.settleErrors s).only part = s.only part := by
  simp only [State.settleErrors, ↓State.onNet_same (away hp (by decide)), ↓State.emcy_same hp, ↓only_ite,
    ↓only_iteFst, ↓only_iteSnd, ite_self, implies_true, id_eq]

end Sys2Proof.Machine
end

