-- ==== Sys2Proof/Laws/FrameCompletion.lean ====
section
/-! SUPPORT. The frames of the operations of Machine/Completion.lean: the parts of the state that each one keeps. -/
namespace Sys2Proof.Machine
set_option linter.unusedSimpArgs false
set_option Elab.async false

theorem State.setQueue_same {part : Part} (hp : part ∉ [.comp]) (s : State) (q : Nat) (x : Queue) :
    (State.setQueue s q x).only part = s.only part := by
  simp only [State.setQueue, ↓State.onComp_same hp, ite_self, implies_true, id_eq]

theorem State.postCompletion_same {part : Part} (hp : part ∉ [.comp, .out]) (s : State) (q event job seq tag status out : Nat) :
    (State.postCompletion s q event job seq tag status out).only part = s.only part := by
  simp only [State.postCompletion, ↓State.send_same (away hp (by decide)),
    ↓State.setQueue_same (away hp (by decide)), ite_self, implies_true, id_eq]

theorem State.refuseEntry_same {part : Part} (hp : part ∉ [.od, .comp, .net, .log, .out]) (s : State) (q event job seq tag status : Nat) :
    (State.refuseEntry s q event job seq tag status).only part = s.only part := by
  simp only [State.refuseEntry, ↓State.setObj_same (away hp (by decide)), ↓State.incr_same (away hp (by decide)),
    ↓State.emit_same (away hp (by decide)), ↓State.postCompletion_same (away hp (by decide)), ite_self, implies_true,
    id_eq]

theorem State.liftFence_same {part : Part} (hp : part ∉ [.comp, .out]) (s : State) (q : Nat) :
    (State.liftFence s q).only part = s.only part := by
  simp only [State.liftFence, ↓State.setQueue_same (away hp (by decide)), ↓State.postCompletion_same hp, ↓only_ite,
    ↓only_iteFst, ↓only_iteSnd, ite_self, implies_true, id_eq]
  all_goals repeat' split <;> try simp only [↓State.setQueue_same (away hp (by decide)),
    ↓State.postCompletion_same hp, ↓only_ite, ↓only_iteFst, ↓only_iteSnd, ite_self, implies_true, id_eq]

theorem State.settleFences_same {part : Part} (hp : part ∉ [.comp, .out]) (s : State) :
    (State.settleFences s).only part = s.only part := by
  simp only [State.settleFences, ↓State.liftFence_same hp, only_foldl, only_foldlFst, ite_self, implies_true, id_eq]

end Sys2Proof.Machine
end

