-- ==== Sys2Proof/Laws/FrameLinkTx.lean ====
section
/-! SUPPORT. The frames of the operations of Machine/LinkTx.lean: the parts of the state that each one keeps. -/
namespace Sys2Proof.Machine
set_option linter.unusedSimpArgs false
set_option Elab.async false

theorem State.setPort_same {part : Part} (hp : part ∉ [.link]) (s : State) (k : Nat) (p : Port) :
    (State.setPort s k p).only part = s.only part := by
  simp only [State.setPort, ↓State.onLink_same hp, ite_self, implies_true, id_eq]

theorem State.onPort_same {part : Part} (hp : part ∉ [.link]) (s : State) (k : Nat) (f : Port → Port) :
    (State.onPort s k f).only part = s.only part := by
  simp only [State.onPort, ↓State.setPort_same hp, ite_self, implies_true, id_eq]

theorem State.setPeer_same {part : Part} (hp : part ∉ [.link]) (s : State) (p : Nat) (x : Peer) :
    (State.setPeer s p x).only part = s.only part := by
  simp only [State.setPeer, ↓State.onLink_same hp, ite_self, implies_true, id_eq]

theorem State.block_same {part : Part} (hp : part ∉ [.out]) (s : State) (k type content : Nat) :
    (State.block s k type content).only part = s.only part := by
  simp only [State.block, ↓State.send_same hp, ite_self, implies_true, id_eq]

theorem State.blockUp_same {part : Part} (hp : part ∉ [.out]) (s : State) (type content : Nat) :
    (State.blockUp s type content).only part = s.only part := by
  simp only [State.blockUp, ↓State.block_same hp, only_foldl, only_foldlFst, ite_self, implies_true, id_eq]

theorem State.transmit_same {part : Part} (hp : part ∉ [.od, .link, .out]) (s : State) (k : Nat) (f : LinkFrame) :
    (State.transmit s k f).only part = s.only part := by
  simp only [State.transmit, ↓State.send_same (away hp (by decide)), ↓State.incr_same (away hp (by decide)),
    ↓State.setPort_same (away hp (by decide)), ↓only_ite, ↓only_iteFst, ↓only_iteSnd, ite_self, implies_true, id_eq]

theorem State.pumpPort_same {part : Part} (hp : part ∉ [.od, .link, .out]) (s : State) (k : Nat) (z1 : Nat) :
    (State.pumpPort s k z1).only part = s.only part := by
  induction z1 generalizing s k with
  | zero => simp only [State.pumpPort]
  | succ z ih =>
    simp only [State.pumpPort, ↓State.transmit_same hp, ↓only_ite, ↓only_iteFst, ↓only_iteSnd, ih,
      ite_self, implies_true, id_eq]
    all_goals repeat' split <;> try simp only [↓State.transmit_same hp, ↓only_ite, ↓only_iteFst, ↓only_iteSnd, ih,
      ite_self, implies_true, id_eq]

theorem State.pumpAll_same {part : Part} (hp : part ∉ [.od, .link, .out]) (s : State) (k : Nat) :
    (State.pumpAll s k).only part = s.only part := by
  simp only [State.pumpAll, ↓State.pumpPort_same hp, ite_self, implies_true, id_eq]

theorem State.queueFrame_same {part : Part} (hp : part ∉ [.od, .link, .out]) (s : State) (k : Nat) (f : LinkFrame) :
    (State.queueFrame s k f).only part = s.only part := by
  simp only [State.queueFrame, ↓State.onPort_same (away hp (by decide)), ↓State.pumpAll_same hp, ite_self,
    implies_true, id_eq]

theorem State.sendFrame_same {part : Part} (hp : part ∉ [.od, .link, .out]) (s : State) (i : FrameInfo) (payload : List Byte) :
    (State.sendFrame s i payload).only part = s.only part := by
  simp only [State.sendFrame, ↓State.queueFrame_same hp, ite_self, implies_true, id_eq]

theorem State.takeTags_same {part : Part} (hp : part ∉ [.link]) (s : State) (xid peer bytes : Nat) :
    (State.takeTags s xid peer bytes).only part = s.only part := by
  simp only [State.takeTags, ↓State.onLink_same hp, ite_self, implies_true, id_eq]

theorem State.sendJournalFrame_same {part : Part} (hp : part ∉ [.od, .link, .red, .out]) (s : State) :
    (State.sendJournalFrame s).only part = s.only part := by
  simp only [State.sendJournalFrame, ↓State.onRed_same (away hp (by decide)),
    ↓State.sendFrame_same (away hp (by decide)), ite_self, implies_true, id_eq]

theorem State.sendJournal_same {part : Part} (hp : part ∉ [.od, .link, .red, .out]) (s : State) (z1 : Nat) :
    (State.sendJournal s z1).only part = s.only part := by
  induction z1 generalizing s with
  | zero => simp only [State.sendJournal]
  | succ z ih =>
    simp only [State.sendJournal, ↓State.sendJournalFrame_same hp, ↓only_ite, ↓only_iteFst,
      ↓only_iteSnd, ih, ite_self, implies_true, id_eq]

end Sys2Proof.Machine
end

