-- ==== Sys2Proof/Laws/FrameAccess.lean ====
section
/-! SUPPORT. The frames of the operations of Machine/Access.lean: the parts of the state that each one keeps. -/
namespace Sys2Proof.Machine
set_option linter.unusedSimpArgs false
set_option Elab.async false

theorem State.journalWrite_same {part : Part} (hp : part ∉ [.red]) (s : State) (p : Path) (k : Nat) (data : List Byte) :
    (State.journalWrite s p k data).only part = s.only part := by
  simp only [State.journalWrite, ↓State.onRed_same hp, ↓only_ite, ↓only_iteFst, ↓only_iteSnd, ite_self, implies_true,
    id_eq]

theorem State.acceptWrite_same {part : Part} (hp : part ∉ [.od, .red, .out]) (s : State) (p : Path) (k : Nat) (data : List Byte) :
    (State.acceptWrite s p k data).only part = s.only part := by
  simp only [State.acceptWrite, ↓State.send_same (away hp (by decide)), ↓State.incr_same (away hp (by decide)),
    ↓State.journalWrite_same (away hp (by decide)), ite_self, implies_true, id_eq]
  all_goals repeat' split <;> try simp only [↓State.send_same (away hp (by decide)),
    ↓State.incr_same (away hp (by decide)), ↓State.journalWrite_same (away hp (by decide)), ite_self, implies_true,
    id_eq]

theorem State.refuse_same {part : Part} (hp : part ∉ [.od, .net, .log, .out]) (s : State) (p : Path) (k code : Nat) :
    (State.refuse s p k code).only part = s.only part := by
  simp only [State.refuse, ↓State.send_same (away hp (by decide)), ↓State.setObj_same (away hp (by decide)),
    ↓State.incr_same (away hp (by decide)), ↓State.emitLimited_same (away hp (by decide)), ↓only_ite, ↓only_iteFst,
    ↓only_iteSnd, ite_self, implies_true, id_eq]
  all_goals repeat' split <;> try simp only [↓State.send_same (away hp (by decide)),
    ↓State.setObj_same (away hp (by decide)), ↓State.incr_same (away hp (by decide)),
    ↓State.emitLimited_same (away hp (by decide)), ↓only_ite, ↓only_iteFst, ↓only_iteSnd, ite_self, implies_true,
    id_eq]

theorem State.noteLimits_same {part : Part} (hp : part ∉ [.streams]) (s : State) (k : Nat) :
    (State.noteLimits s k).only part = s.only part := by
  simp only [State.noteLimits, ↓State.setStreams_same hp, ↓only_ite, ↓only_iteFst, ↓only_iteSnd, ite_self,
    implies_true, id_eq]

theorem State.request_same {part : Part} (hp : part ∉ [.od, .inForce, .streams]) (s : State) (k v : Nat) :
    (State.request s k v).only part = s.only part := by
  simp only [State.request, ↓State.setObj_same (away hp (by decide)), ↓State.adopt_same (away hp (by decide)),
    ↓State.noteLimits_same (away hp (by decide)), ↓only_ite, ↓only_iteFst, ↓only_iteSnd, ite_self, implies_true, id_eq]

theorem State.controlled_same {part : Part} (hp : part ∉ [.od, .log, .red, .out, .net]) (s : State) (q : Path) (k : Nat)
    (data : List Byte) (eff : State → State) (he : ∀ s, (eff s).only part = s.only part) :
    (State.controlled s q k data eff).only part = s.only part := by
  simp only [State.controlled, ↓only_ite, he, ↓State.acceptWrite_same (away hp (by decide)),
    ↓State.refuse_same (away hp (by decide)), ite_self]

theorem State.controlledNum_same {part : Part} (hp : part ∉ [.od, .log, .red, .out, .net]) (s : State) (q : Path) (k v : Nat)
    (eff : State → State) (he : ∀ s, (eff s).only part = s.only part) :
    (State.controlledNum s q k v eff).only part = s.only part := State.controlled_same hp s q k _ eff he

theorem State.gateDrop_same {part : Part} (hp : part ∉ [.od, .net, .log, .out]) (s : State) :
    (State.gateDrop s).only part = s.only part := by
  simp only [State.gateDrop, ↓State.incr_same (away hp (by decide)), ↓State.emitLimited_same (away hp (by decide)),
    ite_self, implies_true, id_eq]

theorem State.plant_same {part : Part} (hp : part ∉ [.od, .net, .log, .out]) (s : State) (o : Out) :
    (State.plant s o).only part = s.only part := by
  simp only [State.plant, ↓State.send_same (away hp (by decide)), ↓State.gateDrop_same hp, ↓only_ite, ↓only_iteFst,
    ↓only_iteSnd, ite_self, implies_true, id_eq]

theorem State.settleDivergence_same {part : Part} (hp : part ∉ [.net, .dict, .log, .out]) (s : State) :
    (State.settleDivergence s).only part = s.only part := by
  simp only [State.settleDivergence, ↓State.onDict_same (away hp (by decide)),
    ↓State.emit_same (away hp (by decide)), only_foldl, only_foldlFst, ite_self, implies_true, id_eq]

theorem State.settle_same {part : Part} (hp : part ∉ [.od, .comp, .link, .red, .net, .dict, .log, .out]) (s : State) :
    (State.settle s).only part = s.only part := by
  simp only [State.settle, ↓State.settleErrors_same (away hp (by decide)),
    ↓State.settleFences_same (away hp (by decide)), ↓State.sendJournal_same (away hp (by decide)),
    ↓State.settleDivergence_same (away hp (by decide)), ite_self, implies_true, id_eq]

end Sys2Proof.Machine
end

