-- ==== Sys2Proof/Laws/State.lean ====
section
/-! SUPPORT. The fields of the state after each update of a part, after the passing of time, and after a command is put in the queue. -/
namespace Sys2Proof.Machine
set_option Elab.async false
variable (s : State)

@[simp] theorem State.onTime_now (f : TimeSt → TimeSt) : (s.onTime f).now = s.now := rfl
@[simp] theorem State.onTime_free (f : TimeSt → TimeSt) : (s.onTime f).free = s.free := rfl
@[simp] theorem State.onTime_od (f : TimeSt → TimeSt) : (s.onTime f).od = s.od := rfl
@[simp] theorem State.onTime_inForce (f : TimeSt → TimeSt) : (s.onTime f).inForce = s.inForce := rfl
@[simp] theorem State.onTime_actual (f : TimeSt → TimeSt) : (s.onTime f).actual = s.actual := rfl
@[simp] theorem State.onTime_time (f : TimeSt → TimeSt) : (s.onTime f).time = f s.time := rfl
@[simp] theorem State.onTime_ptp (f : TimeSt → TimeSt) : (s.onTime f).ptp = s.ptp := rfl
@[simp] theorem State.onTime_tick (f : TimeSt → TimeSt) : (s.onTime f).tick = s.tick := rfl
@[simp] theorem State.onTime_head (f : TimeSt → TimeSt) : (s.onTime f).head = s.head := rfl
@[simp] theorem State.onTime_streams (f : TimeSt → TimeSt) : (s.onTime f).streams = s.streams := rfl
@[simp] theorem State.onTime_alarm (f : TimeSt → TimeSt) : (s.onTime f).alarm = s.alarm := rfl
@[simp] theorem State.onTime_codec (f : TimeSt → TimeSt) : (s.onTime f).codec = s.codec := rfl
@[simp] theorem State.onTime_noise (f : TimeSt → TimeSt) : (s.onTime f).noise = s.noise := rfl
@[simp] theorem State.onTime_xfer (f : TimeSt → TimeSt) : (s.onTime f).xfer = s.xfer := rfl
@[simp] theorem State.onTime_comp (f : TimeSt → TimeSt) : (s.onTime f).comp = s.comp := rfl
@[simp] theorem State.onTime_link (f : TimeSt → TimeSt) : (s.onTime f).link = s.link := rfl
@[simp] theorem State.onTime_red (f : TimeSt → TimeSt) : (s.onTime f).red = s.red := rfl
@[simp] theorem State.onTime_net (f : TimeSt → TimeSt) : (s.onTime f).net = s.net := rfl
@[simp] theorem State.onTime_dict (f : TimeSt → TimeSt) : (s.onTime f).dict = s.dict := rfl
@[simp] theorem State.onTime_power (f : TimeSt → TimeSt) : (s.onTime f).power = s.power := rfl
@[simp] theorem State.onTime_log (f : TimeSt → TimeSt) : (s.onTime f).log = s.log := rfl
@[simp] theorem State.onTime_health (f : TimeSt → TimeSt) : (s.onTime f).health = s.health := rfl
@[simp] theorem State.onTime_boot (f : TimeSt → TimeSt) : (s.onTime f).boot = s.boot := rfl
@[simp] theorem State.onTime_sram (f : TimeSt → TimeSt) : (s.onTime f).sram = s.sram := rfl
@[simp] theorem State.onTime_dram (f : TimeSt → TimeSt) : (s.onTime f).dram = s.dram := rfl
@[simp] theorem State.onTime_out (f : TimeSt → TimeSt) : (s.onTime f).out = s.out := rfl
@[simp] theorem State.onTime_pending (f : TimeSt → TimeSt) : (s.onTime f).pending = s.pending := rfl
@[simp] theorem State.onPtp_now (f : PtpSt → PtpSt) : (s.onPtp f).now = s.now := rfl
@[simp] theorem State.onPtp_free (f : PtpSt → PtpSt) : (s.onPtp f).free = s.free := rfl
@[simp] theorem State.onPtp_od (f : PtpSt → PtpSt) : (s.onPtp f).od = s.od := rfl
@[simp] theorem State.onPtp_inForce (f : PtpSt → PtpSt) : (s.onPtp f).inForce = s.inForce := rfl
@[simp] theorem State.onPtp_actual (f : PtpSt → PtpSt) : (s.onPtp f).actual = s.actual := rfl
@[simp] theorem State.onPtp_time (f : PtpSt → PtpSt) : (s.onPtp f).time = s.time := rfl
@[simp] theorem State.onPtp_ptp (f : PtpSt → PtpSt) : (s.onPtp f).ptp = f s.ptp := rfl
@[simp] theorem State.onPtp_tick (f : PtpSt → PtpSt) : (s.onPtp f).tick = s.tick := rfl
@[simp] theorem State.onPtp_head (f : PtpSt → PtpSt) : (s.onPtp f).head = s.head := rfl
@[simp] theorem State.onPtp_streams (f : PtpSt → PtpSt) : (s.onPtp f).streams = s.streams := rfl
@[simp] theorem State.onPtp_alarm (f : PtpSt → PtpSt) : (s.onPtp f).alarm = s.alarm := rfl
@[simp] theorem State.onPtp_codec (f : PtpSt → PtpSt) : (s.onPtp f).codec = s.codec := rfl
@[simp] theorem State.onPtp_noise (f : PtpSt → PtpSt) : (s.onPtp f).noise = s.noise := rfl
@[simp] theorem State.onPtp_xfer (f : PtpSt → PtpSt) : (s.onPtp f).xfer = s.xfer := rfl
@[simp] theorem State.onPtp_comp (f : PtpSt → PtpSt) : (s.onPtp f).comp = s.comp := rfl
@[simp] theorem State.onPtp_link (f : PtpSt → PtpSt) : (s.onPtp f).link = s.link := rfl
@[simp] theorem State.onPtp_red (f : PtpSt → PtpSt) : (s.onPtp f).red = s.red := rfl
@[simp] theorem State.onPtp_net (f : PtpSt → PtpSt) : (s.onPtp f).net = s.net := rfl
@[simp] theorem State.onPtp_dict (f : PtpSt → PtpSt) : (s.onPtp f).dict = s.dict := rfl
@[simp] theorem State.onPtp_power (f : PtpSt → PtpSt) : (s.onPtp f).power = s.power := rfl
@[simp] theorem State.onPtp_log (f : PtpSt → PtpSt) : (s.onPtp f).log = s.log := rfl
@[simp] theorem State.onPtp_health (f : PtpSt → PtpSt) : (s.onPtp f).health = s.health := rfl
@[simp] theorem State.onPtp_boot (f : PtpSt → PtpSt) : (s.onPtp f).boot = s.boot := rfl
@[simp] theorem State.onPtp_sram (f : PtpSt → PtpSt) : (s.onPtp f).sram = s.sram := rfl
@[simp] theorem State.onPtp_dram (f : PtpSt → PtpSt) : (s.onPtp f).dram = s.dram := rfl
@[simp] theorem State.onPtp_out (f : PtpSt → PtpSt) : (s.onPtp f).out = s.out := rfl
@[simp] theorem State.onPtp_pending (f : PtpSt → PtpSt) : (s.onPtp f).pending = s.pending := rfl
@[simp] theorem State.onTick_now (f : TickSt → TickSt) : (s.onTick f).now = s.now := rfl
@[simp] theorem State.onTick_free (f : TickSt → TickSt) : (s.onTick f).free = s.free := rfl
@[simp] theorem State.onTick_od (f : TickSt → TickSt) : (s.onTick f).od = s.od := rfl
@[simp] theorem State.onTick_inForce (f : TickSt → TickSt) : (s.onTick f).inForce = s.inForce := rfl
@[simp] theorem State.onTick_actual (f : TickSt → TickSt) : (s.onTick f).actual = s.actual := rfl
@[simp] theorem State.onTick_time (f : TickSt → TickSt) : (s.onTick f).time = s.time := rfl
@[simp] theorem State.onTick_ptp (f : TickSt → TickSt) : (s.onTick f).ptp = s.ptp := rfl
@[simp] theorem State.onTick_tick (f : TickSt → TickSt) : (s.onTick f).tick = f s.tick := rfl
@[simp] theorem State.onTick_head (f : TickSt → TickSt) : (s.onTick f).head = s.head := rfl
@[simp] theorem State.onTick_streams (f : TickSt → TickSt) : (s.onTick f).streams = s.streams := rfl
@[simp] theorem State.onTick_alarm (f : TickSt → TickSt) : (s.onTick f).alarm = s.alarm := rfl
@[simp] theorem State.onTick_codec (f : TickSt → TickSt) : (s.onTick f).codec = s.codec := rfl
@[simp] theorem State.onTick_noise (f : TickSt → TickSt) : (s.onTick f).noise = s.noise := rfl
@[simp] theorem State.onTick_xfer (f : TickSt → TickSt) : (s.onTick f).xfer = s.xfer := rfl
@[simp] theorem State.onTick_comp (f : TickSt → TickSt) : (s.onTick f).comp = s.comp := rfl
@[simp] theorem State.onTick_link (f : TickSt → TickSt) : (s.onTick f).link = s.link := rfl
@[simp] theorem State.onTick_red (f : TickSt → TickSt) : (s.onTick f).red = s.red := rfl
@[simp] theorem State.onTick_net (f : TickSt → TickSt) : (s.onTick f).net = s.net := rfl
@[simp] theorem State.onTick_dict (f : TickSt → TickSt) : (s.onTick f).dict = s.dict := rfl
@[simp] theorem State.onTick_power (f : TickSt → TickSt) : (s.onTick f).power = s.power := rfl
@[simp] theorem State.onTick_log (f : TickSt → TickSt) : (s.onTick f).log = s.log := rfl
@[simp] theorem State.onTick_health (f : TickSt → TickSt) : (s.onTick f).health = s.health := rfl
@[simp] theorem State.onTick_boot (f : TickSt → TickSt) : (s.onTick f).boot = s.boot := rfl
@[simp] theorem State.onTick_sram (f : TickSt → TickSt) : (s.onTick f).sram = s.sram := rfl
@[simp] theorem State.onTick_dram (f : TickSt → TickSt) : (s.onTick f).dram = s.dram := rfl
@[simp] theorem State.onTick_out (f : TickSt → TickSt) : (s.onTick f).out = s.out := rfl
@[simp] theorem State.onTick_pending (f : TickSt → TickSt) : (s.onTick f).pending = s.pending := rfl
@[simp] theorem State.onHead_now (f : HeadSt → HeadSt) : (s.onHead f).now = s.now := rfl
@[simp] theorem State.onHead_free (f : HeadSt → HeadSt) : (s.onHead f).free = s.free := rfl
@[simp] theorem State.onHead_od (f : HeadSt → HeadSt) : (s.onHead f).od = s.od := rfl
@[simp] theorem State.onHead_inForce (f : HeadSt → HeadSt) : (s.onHead f).inForce = s.inForce := rfl
@[simp] theorem State.onHead_actual (f : HeadSt → HeadSt) : (s.onHead f).actual = s.actual := rfl
@[simp] theorem State.onHead_time (f : HeadSt → HeadSt) : (s.onHead f).time = s.time := rfl
@[simp] theorem State.onHead_ptp (f : HeadSt → HeadSt) : (s.onHead f).ptp = s.ptp := rfl
@[simp] theorem State.onHead_tick (f : HeadSt → HeadSt) : (s.onHead f).tick = s.tick := rfl
@[simp] theorem State.onHead_head (f : HeadSt → HeadSt) : (s.onHead f).head = f s.head := rfl
@[simp] theorem State.onHead_streams (f : HeadSt → HeadSt) : (s.onHead f).streams = s.streams := rfl
@[simp] theorem State.onHead_alarm (f : HeadSt → HeadSt) : (s.onHead f).alarm = s.alarm := rfl
@[simp] theorem State.onHead_codec (f : HeadSt → HeadSt) : (s.onHead f).codec = s.codec := rfl
@[simp] theorem State.onHead_noise (f : HeadSt → HeadSt) : (s.onHead f).noise = s.noise := rfl
@[simp] theorem State.onHead_xfer (f : HeadSt → HeadSt) : (s.onHead f).xfer = s.xfer := rfl
@[simp] theorem State.onHead_comp (f : HeadSt → HeadSt) : (s.onHead f).comp = s.comp := rfl
@[simp] theorem State.onHead_link (f : HeadSt → HeadSt) : (s.onHead f).link = s.link := rfl
@[simp] theorem State.onHead_red (f : HeadSt → HeadSt) : (s.onHead f).red = s.red := rfl
@[simp] theorem State.onHead_net (f : HeadSt → HeadSt) : (s.onHead f).net = s.net := rfl
@[simp] theorem State.onHead_dict (f : HeadSt → HeadSt) : (s.onHead f).dict = s.dict := rfl
@[simp] theorem State.onHead_power (f : HeadSt → HeadSt) : (s.onHead f).power = s.power := rfl
@[simp] theorem State.onHead_log (f : HeadSt → HeadSt) : (s.onHead f).log = s.log := rfl
@[simp] theorem State.onHead_health (f : HeadSt → HeadSt) : (s.onHead f).health = s.health := rfl
@[simp] theorem State.onHead_boot (f : HeadSt → HeadSt) : (s.onHead f).boot = s.boot := rfl
@[simp] theorem State.onHead_sram (f : HeadSt → HeadSt) : (s.onHead f).sram = s.sram := rfl
@[simp] theorem State.onHead_dram (f : HeadSt → HeadSt) : (s.onHead f).dram = s.dram := rfl
@[simp] theorem State.onHead_out (f : HeadSt → HeadSt) : (s.onHead f).out = s.out := rfl
@[simp] theorem State.onHead_pending (f : HeadSt → HeadSt) : (s.onHead f).pending = s.pending := rfl
@[simp] theorem State.onAlarm_now (f : AlarmSt → AlarmSt) : (s.onAlarm f).now = s.now := rfl
@[simp] theorem State.onAlarm_free (f : AlarmSt → AlarmSt) : (s.onAlarm f).free = s.free := rfl
@[simp] theorem State.onAlarm_od (f : AlarmSt → AlarmSt) : (s.onAlarm f).od = s.od := rfl
@[simp] theorem State.onAlarm_inForce (f : AlarmSt → AlarmSt) : (s.onAlarm f).inForce = s.inForce := rfl
@[simp] theorem State.onAlarm_actual (f : AlarmSt → AlarmSt) : (s.onAlarm f).actual = s.actual := rfl
@[simp] theorem State.onAlarm_time (f : AlarmSt → AlarmSt) : (s.onAlarm f).time = s.time := rfl
@[simp] theorem State.onAlarm_ptp (f : AlarmSt → AlarmSt) : (s.onAlarm f).ptp = s.ptp := rfl
@[simp] theorem State.onAlarm_tick (f : AlarmSt → AlarmSt) : (s.onAlarm f).tick = s.tick := rfl
@[simp] theorem State.onAlarm_head (f : AlarmSt → AlarmSt) : (s.onAlarm f).head = s.head := rfl
@[simp] theorem State.onAlarm_streams (f : AlarmSt → AlarmSt) : (s.onAlarm f).streams = s.streams := rfl
@[simp] theorem State.onAlarm_alarm (f : AlarmSt → AlarmSt) : (s.onAlarm f).alarm = f s.alarm := rfl
@[simp] theorem State.onAlarm_codec (f : AlarmSt → AlarmSt) : (s.onAlarm f).codec = s.codec := rfl
@[simp] theorem State.onAlarm_noise (f : AlarmSt → AlarmSt) : (s.onAlarm f).noise = s.noise := rfl
@[simp] theorem State.onAlarm_xfer (f : AlarmSt → AlarmSt) : (s.onAlarm f).xfer = s.xfer := rfl
@[simp] theorem State.onAlarm_comp (f : AlarmSt → AlarmSt) : (s.onAlarm f).comp = s.comp := rfl
@[simp] theorem State.onAlarm_link (f : AlarmSt → AlarmSt) : (s.onAlarm f).link = s.link := rfl
@[simp] theorem State.onAlarm_red (f : AlarmSt → AlarmSt) : (s.onAlarm f).red = s.red := rfl
@[simp] theorem State.onAlarm_net (f : AlarmSt → AlarmSt) : (s.onAlarm f).net = s.net := rfl
@[simp] theorem State.onAlarm_dict (f : AlarmSt → AlarmSt) : (s.onAlarm f).dict = s.dict := rfl
@[simp] theorem State.onAlarm_power (f : AlarmSt → AlarmSt) : (s.onAlarm f).power = s.power := rfl
@[simp] theorem State.onAlarm_log (f : AlarmSt → AlarmSt) : (s.onAlarm f).log = s.log := rfl
@[simp] theorem State.onAlarm_health (f : AlarmSt → AlarmSt) : (s.onAlarm f).health = s.health := rfl
@[simp] theorem State.onAlarm_boot (f : AlarmSt → AlarmSt) : (s.onAlarm f).boot = s.boot := rfl
@[simp] theorem State.onAlarm_sram (f : AlarmSt → AlarmSt) : (s.onAlarm f).sram = s.sram := rfl
@[simp] theorem State.onAlarm_dram (f : AlarmSt → AlarmSt) : (s.onAlarm f).dram = s.dram := rfl
@[simp] theorem State.onAlarm_out (f : AlarmSt → AlarmSt) : (s.onAlarm f).out = s.out := rfl
@[simp] theorem State.onAlarm_pending (f : AlarmSt → AlarmSt) : (s.onAlarm f).pending = s.pending := rfl
@[simp] theorem State.onCodec_now (f : CodecSt → CodecSt) : (s.onCodec f).now = s.now := rfl
@[simp] theorem State.onCodec_free (f : CodecSt → CodecSt) : (s.onCodec f).free = s.free := rfl
@[simp] theorem State.onCodec_od (f : CodecSt → CodecSt) : (s.onCodec f).od = s.od := rfl
@[simp] theorem State.onCodec_inForce (f : CodecSt → CodecSt) : (s.onCodec f).inForce = s.inForce := rfl
@[simp] theorem State.onCodec_actual (f : CodecSt → CodecSt) : (s.onCodec f).actual = s.actual := rfl
@[simp] theorem State.onCodec_time (f : CodecSt → CodecSt) : (s.onCodec f).time = s.time := rfl
@[simp] theorem State.onCodec_ptp (f : CodecSt → CodecSt) : (s.onCodec f).ptp = s.ptp := rfl
@[simp] theorem State.onCodec_tick (f : CodecSt → CodecSt) : (s.onCodec f).tick = s.tick := rfl
@[simp] theorem State.onCodec_head (f : CodecSt → CodecSt) : (s.onCodec f).head = s.head := rfl
@[simp] theorem State.onCodec_streams (f : CodecSt → CodecSt) : (s.onCodec f).streams = s.streams := rfl
@[simp] theorem State.onCodec_alarm (f : CodecSt → CodecSt) : (s.onCodec f).alarm = s.alarm := rfl
@[simp] theorem State.onCodec_codec (f : CodecSt → CodecSt) : (s.onCodec f).codec = f s.codec := rfl
@[simp] theorem State.onCodec_noise (f : CodecSt → CodecSt) : (s.onCodec f).noise = s.noise := rfl
@[simp] theorem State.onCodec_xfer (f : CodecSt → CodecSt) : (s.onCodec f).xfer = s.xfer := rfl
@[simp] theorem State.onCodec_comp (f : CodecSt → CodecSt) : (s.onCodec f).comp = s.comp := rfl
@[simp] theorem State.onCodec_link (f : CodecSt → CodecSt) : (s.onCodec f).link = s.link := rfl
@[simp] theorem State.onCodec_red (f : CodecSt → CodecSt) : (s.onCodec f).red = s.red := rfl
@[simp] theorem State.onCodec_net (f : CodecSt → CodecSt) : (s.onCodec f).net = s.net := rfl
@[simp] theorem State.onCodec_dict (f : CodecSt → CodecSt) : (s.onCodec f).dict = s.dict := rfl
@[simp] theorem State.onCodec_power (f : CodecSt → CodecSt) : (s.onCodec f).power = s.power := rfl
@[simp] theorem State.onCodec_log (f : CodecSt → CodecSt) : (s.onCodec f).log = s.log := rfl
@[simp] theorem State.onCodec_health (f : CodecSt → CodecSt) : (s.onCodec f).health = s.health := rfl
@[simp] theorem State.onCodec_boot (f : CodecSt → CodecSt) : (s.onCodec f).boot = s.boot := rfl
@[simp] theorem State.onCodec_sram (f : CodecSt → CodecSt) : (s.onCodec f).sram = s.sram := rfl
@[simp] theorem State.onCodec_dram (f : CodecSt → CodecSt) : (s.onCodec f).dram = s.dram := rfl
@[simp] theorem State.onCodec_out (f : CodecSt → CodecSt) : (s.onCodec f).out = s.out := rfl
@[simp] theorem State.onCodec_pending (f : CodecSt → CodecSt) : (s.onCodec f).pending = s.pending := rfl
@[simp] theorem State.onNoise_now (f : NoiseSt → NoiseSt) : (s.onNoise f).now = s.now := rfl
@[simp] theorem State.onNoise_free (f : NoiseSt → NoiseSt) : (s.onNoise f).free = s.free := rfl
@[simp] theorem State.onNoise_od (f : NoiseSt → NoiseSt) : (s.onNoise f).od = s.od := rfl
@[simp] theorem State.onNoise_inForce (f : NoiseSt → NoiseSt) : (s.onNoise f).inForce = s.inForce := rfl
@[simp] theorem State.onNoise_actual (f : NoiseSt → NoiseSt) : (s.onNoise f).actual = s.actual := rfl
@[simp] theorem State.onNoise_time (f : NoiseSt → NoiseSt) : (s.onNoise f).time = s.time := rfl
@[simp] theorem State.onNoise_ptp (f : NoiseSt → NoiseSt) : (s.onNoise f).ptp = s.ptp := rfl
@[simp] theorem State.onNoise_tick (f : NoiseSt → NoiseSt) : (s.onNoise f).tick = s.tick := rfl
@[simp] theorem State.onNoise_head (f : NoiseSt → NoiseSt) : (s.onNoise f).head = s.head := rfl
@[simp] theorem State.onNoise_streams (f : NoiseSt → NoiseSt) : (s.onNoise f).streams = s.streams := rfl
@[simp] theorem State.onNoise_alarm (f : NoiseSt → NoiseSt) : (s.onNoise f).alarm = s.alarm := rfl
@[simp] theorem State.onNoise_codec (f : NoiseSt → NoiseSt) : (s.onNoise f).codec = s.codec := rfl
@[simp] theorem State.onNoise_noise (f : NoiseSt → NoiseSt) : (s.onNoise f).noise = f s.noise := rfl
@[simp] theorem State.onNoise_xfer (f : NoiseSt → NoiseSt) : (s.onNoise f).xfer = s.xfer := rfl
@[simp] theorem State.onNoise_comp (f : NoiseSt → NoiseSt) : (s.onNoise f).comp = s.comp := rfl
@[simp] theorem State.onNoise_link (f : NoiseSt → NoiseSt) : (s.onNoise f).link = s.link := rfl
@[simp] theorem State.onNoise_red (f : NoiseSt → NoiseSt) : (s.onNoise f).red = s.red := rfl
@[simp] theorem State.onNoise_net (f : NoiseSt → NoiseSt) : (s.onNoise f).net = s.net := rfl
@[simp] theorem State.onNoise_dict (f : NoiseSt → NoiseSt) : (s.onNoise f).dict = s.dict := rfl
@[simp] theorem State.onNoise_power (f : NoiseSt → NoiseSt) : (s.onNoise f).power = s.power := rfl
@[simp] theorem State.onNoise_log (f : NoiseSt → NoiseSt) : (s.onNoise f).log = s.log := rfl
@[simp] theorem State.onNoise_health (f : NoiseSt → NoiseSt) : (s.onNoise f).health = s.health := rfl
@[simp] theorem State.onNoise_boot (f : NoiseSt → NoiseSt) : (s.onNoise f).boot = s.boot := rfl
@[simp] theorem State.onNoise_sram (f : NoiseSt → NoiseSt) : (s.onNoise f).sram = s.sram := rfl
@[simp] theorem State.onNoise_dram (f : NoiseSt → NoiseSt) : (s.onNoise f).dram = s.dram := rfl
@[simp] theorem State.onNoise_out (f : NoiseSt → NoiseSt) : (s.onNoise f).out = s.out := rfl
@[simp] theorem State.onNoise_pending (f : NoiseSt → NoiseSt) : (s.onNoise f).pending = s.pending := rfl
@[simp] theorem State.onXfer_now (f : XferSt → XferSt) : (s.onXfer f).now = s.now := rfl
@[simp] theorem State.onXfer_free (f : XferSt → XferSt) : (s.onXfer f).free = s.free := rfl
@[simp] theorem State.onXfer_od (f : XferSt → XferSt) : (s.onXfer f).od = s.od := rfl
@[simp] theorem State.onXfer_inForce (f : XferSt → XferSt) : (s.onXfer f).inForce = s.inForce := rfl
@[simp] theorem State.onXfer_actual (f : XferSt → XferSt) : (s.onXfer f).actual = s.actual := rfl
@[simp] theorem State.onXfer_time (f : XferSt → XferSt) : (s.onXfer f).time = s.time := rfl
@[simp] theorem State.onXfer_ptp (f : XferSt → XferSt) : (s.onXfer f).ptp = s.ptp := rfl
@[simp] theorem State.onXfer_tick (f : XferSt → XferSt) : (s.onXfer f).tick = s.tick := rfl
@[simp] theorem State.onXfer_head (f : XferSt → XferSt) : (s.onXfer f).head = s.head := rfl
@[simp] theorem State.onXfer_streams (f : XferSt → XferSt) : (s.onXfer f).streams = s.streams := rfl
@[simp] theorem State.onXfer_alarm (f : XferSt → XferSt) : (s.onXfer f).alarm = s.alarm := rfl
@[simp] theorem State.onXfer_codec (f : XferSt → XferSt) : (s.onXfer f).codec = s.codec := rfl
@[simp] theorem State.onXfer_noise (f : XferSt → XferSt) : (s.onXfer f).noise = s.noise := rfl
@[simp] theorem State.onXfer_xfer (f : XferSt → XferSt) : (s.onXfer f).xfer = f s.xfer := rfl
@[simp] theorem State.onXfer_comp (f : XferSt → XferSt) : (s.onXfer f).comp = s.comp := rfl
@[simp] theorem State.onXfer_link (f : XferSt → XferSt) : (s.onXfer f).link = s.link := rfl
@[simp] theorem State.onXfer_red (f : XferSt → XferSt) : (s.onXfer f).red = s.red := rfl
@[simp] theorem State.onXfer_net (f : XferSt → XferSt) : (s.onXfer f).net = s.net := rfl
@[simp] theorem State.onXfer_dict (f : XferSt → XferSt) : (s.onXfer f).dict = s.dict := rfl
@[simp] theorem State.onXfer_power (f : XferSt → XferSt) : (s.onXfer f).power = s.power := rfl
@[simp] theorem State.onXfer_log (f : XferSt → XferSt) : (s.onXfer f).log = s.log := rfl
@[simp] theorem State.onXfer_health (f : XferSt → XferSt) : (s.onXfer f).health = s.health := rfl
@[simp] theorem State.onXfer_boot (f : XferSt → XferSt) : (s.onXfer f).boot = s.boot := rfl
@[simp] theorem State.onXfer_sram (f : XferSt → XferSt) : (s.onXfer f).sram = s.sram := rfl
@[simp] theorem State.onXfer_dram (f : XferSt → XferSt) : (s.onXfer f).dram = s.dram := rfl
@[simp] theorem State.onXfer_out (f : XferSt → XferSt) : (s.onXfer f).out = s.out := rfl
@[simp] theorem State.onXfer_pending (f : XferSt → XferSt) : (s.onXfer f).pending = s.pending := rfl
@[simp] theorem State.onComp_now (f : ComputeSt → ComputeSt) : (s.onComp f).now = s.now := rfl
@[simp] theorem State.onComp_free (f : ComputeSt → ComputeSt) : (s.onComp f).free = s.free := rfl
@[simp] theorem State.onComp_od (f : ComputeSt → ComputeSt) : (s.onComp f).od = s.od := rfl
@[simp] theorem State.onComp_inForce (f : ComputeSt → ComputeSt) : (s.onComp f).inForce = s.inForce := rfl
@[simp] theorem State.onComp_actual (f : ComputeSt → ComputeSt) : (s.onComp f).actual = s.actual := rfl
@[simp] theorem State.onComp_time (f : ComputeSt → ComputeSt) : (s.onComp f).time = s.time := rfl
@[simp] theorem State.onComp_ptp (f : ComputeSt → ComputeSt) : (s.onComp f).ptp = s.ptp := rfl
@[simp] theorem State.onComp_tick (f : ComputeSt → ComputeSt) : (s.onComp f).tick = s.tick := rfl
@[simp] theorem State.onComp_head (f : ComputeSt → ComputeSt) : (s.onComp f).head = s.head := rfl
@[simp] theorem State.onComp_streams (f : ComputeSt → ComputeSt) : (s.onComp f).streams = s.streams := rfl
@[simp] theorem State.onComp_alarm (f : ComputeSt → ComputeSt) : (s.onComp f).alarm = s.alarm := rfl
@[simp] theorem State.onComp_codec (f : ComputeSt → ComputeSt) : (s.onComp f).codec = s.codec := rfl
@[simp] theorem State.onComp_noise (f : ComputeSt → ComputeSt) : (s.onComp f).noise = s.noise := rfl
@[simp] theorem State.onComp_xfer (f : ComputeSt → ComputeSt) : (s.onComp f).xfer = s.xfer := rfl
@[simp] theorem State.onComp_comp (f : ComputeSt → ComputeSt) : (s.onComp f).comp = f s.comp := rfl
@[simp] theorem State.onComp_link (f : ComputeSt → ComputeSt) : (s.onComp f).link = s.link := rfl
@[simp] theorem State.onComp_red (f : ComputeSt → ComputeSt) : (s.onComp f).red = s.red := rfl
@[simp] theorem State.onComp_net (f : ComputeSt → ComputeSt) : (s.onComp f).net = s.net := rfl
@[simp] theorem State.onComp_dict (f : ComputeSt → ComputeSt) : (s.onComp f).dict = s.dict := rfl
@[simp] theorem State.onComp_power (f : ComputeSt → ComputeSt) : (s.onComp f).power = s.power := rfl
@[simp] theorem State.onComp_log (f : ComputeSt → ComputeSt) : (s.onComp f).log = s.log := rfl
@[simp] theorem State.onComp_health (f : ComputeSt → ComputeSt) : (s.onComp f).health = s.health := rfl
@[simp] theorem State.onComp_boot (f : ComputeSt → ComputeSt) : (s.onComp f).boot = s.boot := rfl
@[simp] theorem State.onComp_sram (f : ComputeSt → ComputeSt) : (s.onComp f).sram = s.sram := rfl
@[simp] theorem State.onComp_dram (f : ComputeSt → ComputeSt) : (s.onComp f).dram = s.dram := rfl
@[simp] theorem State.onComp_out (f : ComputeSt → ComputeSt) : (s.onComp f).out = s.out := rfl
@[simp] theorem State.onComp_pending (f : ComputeSt → ComputeSt) : (s.onComp f).pending = s.pending := rfl
@[simp] theorem State.onLink_now (f : LinkSt → LinkSt) : (s.onLink f).now = s.now := rfl
@[simp] theorem State.onLink_free (f : LinkSt → LinkSt) : (s.onLink f).free = s.free := rfl
@[simp] theorem State.onLink_od (f : LinkSt → LinkSt) : (s.onLink f).od = s.od := rfl
@[simp] theorem State.onLink_inForce (f : LinkSt → LinkSt) : (s.onLink f).inForce = s.inForce := rfl
@[simp] theorem State.onLink_actual (f : LinkSt → LinkSt) : (s.onLink f).actual = s.actual := rfl
@[simp] theorem State.onLink_time (f : LinkSt → LinkSt) : (s.onLink f).time = s.time := rfl
@[simp] theorem State.onLink_ptp (f : LinkSt → LinkSt) : (s.onLink f).ptp = s.ptp := rfl
@[simp] theorem State.onLink_tick (f : LinkSt → LinkSt) : (s.onLink f).tick = s.tick := rfl
@[simp] theorem State.onLink_head (f : LinkSt → LinkSt) : (s.onLink f).head = s.head := rfl
@[simp] theorem State.onLink_streams (f : LinkSt → LinkSt) : (s.onLink f).streams = s.streams := rfl
@[simp] theorem State.onLink_alarm (f : LinkSt → LinkSt) : (s.onLink f).alarm = s.alarm := rfl
@[simp] theorem State.onLink_codec (f : LinkSt → LinkSt) : (s.onLink f).codec = s.codec := rfl
@[simp] theorem State.onLink_noise (f : LinkSt → LinkSt) : (s.onLink f).noise = s.noise := rfl
@[simp] theorem State.onLink_xfer (f : LinkSt → LinkSt) : (s.onLink f).xfer = s.xfer := rfl
@[simp] theorem State.onLink_comp (f : LinkSt → LinkSt) : (s.onLink f).comp = s.comp := rfl
@[simp] theorem State.onLink_link (f : LinkSt → LinkSt) : (s.onLink f).link = f s.link := rfl
@[simp] theorem State.onLink_red (f : LinkSt → LinkSt) : (s.onLink f).red = s.red := rfl
@[simp] theorem State.onLink_net (f : LinkSt → LinkSt) : (s.onLink f).net = s.net := rfl
@[simp] theorem State.onLink_dict (f : LinkSt → LinkSt) : (s.onLink f).dict = s.dict := rfl
@[simp] theorem State.onLink_power (f : LinkSt → LinkSt) : (s.onLink f).power = s.power := rfl
@[simp] theorem State.onLink_log (f : LinkSt → LinkSt) : (s.onLink f).log = s.log := rfl
@[simp] theorem State.onLink_health (f : LinkSt → LinkSt) : (s.onLink f).health = s.health := rfl
@[simp] theorem State.onLink_boot (f : LinkSt → LinkSt) : (s.onLink f).boot = s.boot := rfl
@[simp] theorem State.onLink_sram (f : LinkSt → LinkSt) : (s.onLink f).sram = s.sram := rfl
@[simp] theorem State.onLink_dram (f : LinkSt → LinkSt) : (s.onLink f).dram = s.dram := rfl
@[simp] theorem State.onLink_out (f : LinkSt → LinkSt) : (s.onLink f).out = s.out := rfl
@[simp] theorem State.onLink_pending (f : LinkSt → LinkSt) : (s.onLink f).pending = s.pending := rfl
@[simp] theorem State.onRed_now (f : RedSt → RedSt) : (s.onRed f).now = s.now := rfl
@[simp] theorem State.onRed_free (f : RedSt → RedSt) : (s.onRed f).free = s.free := rfl
@[simp] theorem State.onRed_od (f : RedSt → RedSt) : (s.onRed f).od = s.od := rfl
@[simp] theorem State.onRed_inForce (f : RedSt → RedSt) : (s.onRed f).inForce = s.inForce := rfl
@[simp] theorem State.onRed_actual (f : RedSt → RedSt) : (s.onRed f).actual = s.actual := rfl
@[simp] theorem State.onRed_time (f : RedSt → RedSt) : (s.onRed f).time = s.time := rfl
@[simp] theorem State.onRed_ptp (f : RedSt → RedSt) : (s.onRed f).ptp = s.ptp := rfl
@[simp] theorem State.onRed_tick (f : RedSt → RedSt) : (s.onRed f).tick = s.tick := rfl
@[simp] theorem State.onRed_head (f : RedSt → RedSt) : (s.onRed f).head = s.head := rfl
@[simp] theorem State.onRed_streams (f : RedSt → RedSt) : (s.onRed f).streams = s.streams := rfl
@[simp] theorem State.onRed_alarm (f : RedSt → RedSt) : (s.onRed f).alarm = s.alarm := rfl
@[simp] theorem State.onRed_codec (f : RedSt → RedSt) : (s.onRed f).codec = s.codec := rfl
@[simp] theorem State.onRed_noise (f : RedSt → RedSt) : (s.onRed f).noise = s.noise := rfl
@[simp] theorem State.onRed_xfer (f : RedSt → RedSt) : (s.onRed f).xfer = s.xfer := rfl
@[simp] theorem State.onRed_comp (f : RedSt → RedSt) : (s.onRed f).comp = s.comp := rfl
@[simp] theorem State.onRed_link (f : RedSt → RedSt) : (s.onRed f).link = s.link := rfl
@[simp] theorem State.onRed_red (f : RedSt → RedSt) : (s.onRed f).red = f s.red := rfl
@[simp] theorem State.onRed_net (f : RedSt → RedSt) : (s.onRed f).net = s.net := rfl
@[simp] theorem State.onRed_dict (f : RedSt → RedSt) : (s.onRed f).dict = s.dict := rfl
@[simp] theorem State.onRed_power (f : RedSt → RedSt) : (s.onRed f).power = s.power := rfl
@[simp] theorem State.onRed_log (f : RedSt → RedSt) : (s.onRed f).log = s.log := rfl
@[simp] theorem State.onRed_health (f : RedSt → RedSt) : (s.onRed f).health = s.health := rfl
@[simp] theorem State.onRed_boot (f : RedSt → RedSt) : (s.onRed f).boot = s.boot := rfl
@[simp] theorem State.onRed_sram (f : RedSt → RedSt) : (s.onRed f).sram = s.sram := rfl
@[simp] theorem State.onRed_dram (f : RedSt → RedSt) : (s.onRed f).dram = s.dram := rfl
@[simp] theorem State.onRed_out (f : RedSt → RedSt) : (s.onRed f).out = s.out := rfl
@[simp] theorem State.onRed_pending (f : RedSt → RedSt) : (s.onRed f).pending = s.pending := rfl
@[simp] theorem State.onNet_now (f : NetSt → NetSt) : (s.onNet f).now = s.now := rfl
@[simp] theorem State.onNet_free (f : NetSt → NetSt) : (s.onNet f).free = s.free := rfl
@[simp] theorem State.onNet_od (f : NetSt → NetSt) : (s.onNet f).od = s.od := rfl
@[simp] theorem State.onNet_inForce (f : NetSt → NetSt) : (s.onNet f).inForce = s.inForce := rfl
@[simp] theorem State.onNet_actual (f : NetSt → NetSt) : (s.onNet f).actual = s.actual := rfl
@[simp] theorem State.onNet_time (f : NetSt → NetSt) : (s.onNet f).time = s.time := rfl
@[simp] theorem State.onNet_ptp (f : NetSt → NetSt) : (s.onNet f).ptp = s.ptp := rfl
@[simp] theorem State.onNet_tick (f : NetSt → NetSt) : (s.onNet f).tick = s.tick := rfl
@[simp] theorem State.onNet_head (f : NetSt → NetSt) : (s.onNet f).head = s.head := rfl
@[simp] theorem State.onNet_streams (f : NetSt → NetSt) : (s.onNet f).streams = s.streams := rfl
@[simp] theorem State.onNet_alarm (f : NetSt → NetSt) : (s.onNet f).alarm = s.alarm := rfl
@[simp] theorem State.onNet_codec (f : NetSt → NetSt) : (s.onNet f).codec = s.codec := rfl
@[simp] theorem State.onNet_noise (f : NetSt → NetSt) : (s.onNet f).noise = s.noise := rfl
@[simp] theorem State.onNet_xfer (f : NetSt → NetSt) : (s.onNet f).xfer = s.xfer := rfl
@[simp] theorem State.onNet_comp (f : NetSt → NetSt) : (s.onNet f).comp = s.comp := rfl
@[simp] theorem State.onNet_link (f : NetSt → NetSt) : (s.onNet f).link = s.link := rfl
@[simp] theorem State.onNet_red (f : NetSt → NetSt) : (s.onNet f).red = s.red := rfl
@[simp] theorem State.onNet_net (f : NetSt → NetSt) : (s.onNet f).net = f s.net := rfl
@[simp] theorem State.onNet_dict (f : NetSt → NetSt) : (s.onNet f).dict = s.dict := rfl
@[simp] theorem State.onNet_power (f : NetSt → NetSt) : (s.onNet f).power = s.power := rfl
@[simp] theorem State.onNet_log (f : NetSt → NetSt) : (s.onNet f).log = s.log := rfl
@[simp] theorem State.onNet_health (f : NetSt → NetSt) : (s.onNet f).health = s.health := rfl
@[simp] theorem State.onNet_boot (f : NetSt → NetSt) : (s.onNet f).boot = s.boot := rfl
@[simp] theorem State.onNet_sram (f : NetSt → NetSt) : (s.onNet f).sram = s.sram := rfl
@[simp] theorem State.onNet_dram (f : NetSt → NetSt) : (s.onNet f).dram = s.dram := rfl
@[simp] theorem State.onNet_out (f : NetSt → NetSt) : (s.onNet f).out = s.out := rfl
@[simp] theorem State.onNet_pending (f : NetSt → NetSt) : (s.onNet f).pending = s.pending := rfl
@[simp] theorem State.onDict_now (f : DictSt → DictSt) : (s.onDict f).now = s.now := rfl
@[simp] theorem State.onDict_free (f : DictSt → DictSt) : (s.onDict f).free = s.free := rfl
@[simp] theorem State.onDict_od (f : DictSt → DictSt) : (s.onDict f).od = s.od := rfl
@[simp] theorem State.onDict_inForce (f : DictSt → DictSt) : (s.onDict f).inForce = s.inForce := rfl
@[simp] theorem State.onDict_actual (f : DictSt → DictSt) : (s.onDict f).actual = s.actual := rfl
@[simp] theorem State.onDict_time (f : DictSt → DictSt) : (s.onDict f).time = s.time := rfl
@[simp] theorem State.onDict_ptp (f : DictSt → DictSt) : (s.onDict f).ptp = s.ptp := rfl
@[simp] theorem State.onDict_tick (f : DictSt → DictSt) : (s.onDict f).tick = s.tick := rfl
@[simp] theorem State.onDict_head (f : DictSt → DictSt) : (s.onDict f).head = s.head := rfl
@[simp] theorem State.onDict_streams (f : DictSt → DictSt) : (s.onDict f).streams = s.streams := rfl
@[simp] theorem State.onDict_alarm (f : DictSt → DictSt) : (s.onDict f).alarm = s.alarm := rfl
@[simp] theorem State.onDict_codec (f : DictSt → DictSt) : (s.onDict f).codec = s.codec := rfl
@[simp] theorem State.onDict_noise (f : DictSt → DictSt) : (s.onDict f).noise = s.noise := rfl
@[simp] theorem State.onDict_xfer (f : DictSt → DictSt) : (s.onDict f).xfer = s.xfer := rfl
@[simp] theorem State.onDict_comp (f : DictSt → DictSt) : (s.onDict f).comp = s.comp := rfl
@[simp] theorem State.onDict_link (f : DictSt → DictSt) : (s.onDict f).link = s.link := rfl
@[simp] theorem State.onDict_red (f : DictSt → DictSt) : (s.onDict f).red = s.red := rfl
@[simp] theorem State.onDict_net (f : DictSt → DictSt) : (s.onDict f).net = s.net := rfl
@[simp] theorem State.onDict_dict (f : DictSt → DictSt) : (s.onDict f).dict = f s.dict := rfl
@[simp] theorem State.onDict_power (f : DictSt → DictSt) : (s.onDict f).power = s.power := rfl
@[simp] theorem State.onDict_log (f : DictSt → DictSt) : (s.onDict f).log = s.log := rfl
@[simp] theorem State.onDict_health (f : DictSt → DictSt) : (s.onDict f).health = s.health := rfl
@[simp] theorem State.onDict_boot (f : DictSt → DictSt) : (s.onDict f).boot = s.boot := rfl
@[simp] theorem State.onDict_sram (f : DictSt → DictSt) : (s.onDict f).sram = s.sram := rfl
@[simp] theorem State.onDict_dram (f : DictSt → DictSt) : (s.onDict f).dram = s.dram := rfl
@[simp] theorem State.onDict_out (f : DictSt → DictSt) : (s.onDict f).out = s.out := rfl
@[simp] theorem State.onDict_pending (f : DictSt → DictSt) : (s.onDict f).pending = s.pending := rfl
@[simp] theorem State.onPower_now (f : PowerSt → PowerSt) : (s.onPower f).now = s.now := rfl
@[simp] theorem State.onPower_free (f : PowerSt → PowerSt) : (s.onPower f).free = s.free := rfl
@[simp] theorem State.onPower_od (f : PowerSt → PowerSt) : (s.onPower f).od = s.od := rfl
@[simp] theorem State.onPower_inForce (f : PowerSt → PowerSt) : (s.onPower f).inForce = s.inForce := rfl
@[simp] theorem State.onPower_actual (f : PowerSt → PowerSt) : (s.onPower f).actual = s.actual := rfl
@[simp] theorem State.onPower_time (f : PowerSt → PowerSt) : (s.onPower f).time = s.time := rfl
@[simp] theorem State.onPower_ptp (f : PowerSt → PowerSt) : (s.onPower f).ptp = s.ptp := rfl
@[simp] theorem State.onPower_tick (f : PowerSt → PowerSt) : (s.onPower f).tick = s.tick := rfl
@[simp] theorem State.onPower_head (f : PowerSt → PowerSt) : (s.onPower f).head = s.head := rfl
@[simp] theorem State.onPower_streams (f : PowerSt → PowerSt) : (s.onPower f).streams = s.streams := rfl
@[simp] theorem State.onPower_alarm (f : PowerSt → PowerSt) : (s.onPower f).alarm = s.alarm := rfl
@[simp] theorem State.onPower_codec (f : PowerSt → PowerSt) : (s.onPower f).codec = s.codec := rfl
@[simp] theorem State.onPower_noise (f : PowerSt → PowerSt) : (s.onPower f).noise = s.noise := rfl
@[simp] theorem State.onPower_xfer (f : PowerSt → PowerSt) : (s.onPower f).xfer = s.xfer := rfl
@[simp] theorem State.onPower_comp (f : PowerSt → PowerSt) : (s.onPower f).comp = s.comp := rfl
@[simp] theorem State.onPower_link (f : PowerSt → PowerSt) : (s.onPower f).link = s.link := rfl
@[simp] theorem State.onPower_red (f : PowerSt → PowerSt) : (s.onPower f).red = s.red := rfl
@[simp] theorem State.onPower_net (f : PowerSt → PowerSt) : (s.onPower f).net = s.net := rfl
@[simp] theorem State.onPower_dict (f : PowerSt → PowerSt) : (s.onPower f).dict = s.dict := rfl
@[simp] theorem State.onPower_power (f : PowerSt → PowerSt) : (s.onPower f).power = f s.power := rfl
@[simp] theorem State.onPower_log (f : PowerSt → PowerSt) : (s.onPower f).log = s.log := rfl
@[simp] theorem State.onPower_health (f : PowerSt → PowerSt) : (s.onPower f).health = s.health := rfl
@[simp] theorem State.onPower_boot (f : PowerSt → PowerSt) : (s.onPower f).boot = s.boot := rfl
@[simp] theorem State.onPower_sram (f : PowerSt → PowerSt) : (s.onPower f).sram = s.sram := rfl
@[simp] theorem State.onPower_dram (f : PowerSt → PowerSt) : (s.onPower f).dram = s.dram := rfl
@[simp] theorem State.onPower_out (f : PowerSt → PowerSt) : (s.onPower f).out = s.out := rfl
@[simp] theorem State.onPower_pending (f : PowerSt → PowerSt) : (s.onPower f).pending = s.pending := rfl
@[simp] theorem State.onLog_now (f : RecorderSt → RecorderSt) : (s.onLog f).now = s.now := rfl
@[simp] theorem State.onLog_free (f : RecorderSt → RecorderSt) : (s.onLog f).free = s.free := rfl
@[simp] theorem State.onLog_od (f : RecorderSt → RecorderSt) : (s.onLog f).od = s.od := rfl
@[simp] theorem State.onLog_inForce (f : RecorderSt → RecorderSt) : (s.onLog f).inForce = s.inForce := rfl
@[simp] theorem State.onLog_actual (f : RecorderSt → RecorderSt) : (s.onLog f).actual = s.actual := rfl
@[simp] theorem State.onLog_time (f : RecorderSt → RecorderSt) : (s.onLog f).time = s.time := rfl
@[simp] theorem State.onLog_ptp (f : RecorderSt → RecorderSt) : (s.onLog f).ptp = s.ptp := rfl
@[simp] theorem State.onLog_tick (f : RecorderSt → RecorderSt) : (s.onLog f).tick = s.tick := rfl
@[simp] theorem State.onLog_head (f : RecorderSt → RecorderSt) : (s.onLog f).head = s.head := rfl
@[simp] theorem State.onLog_streams (f : RecorderSt → RecorderSt) : (s.onLog f).streams = s.streams := rfl
@[simp] theorem State.onLog_alarm (f : RecorderSt → RecorderSt) : (s.onLog f).alarm = s.alarm := rfl
@[simp] theorem State.onLog_codec (f : RecorderSt → RecorderSt) : (s.onLog f).codec = s.codec := rfl
@[simp] theorem State.onLog_noise (f : RecorderSt → RecorderSt) : (s.onLog f).noise = s.noise := rfl
@[simp] theorem State.onLog_xfer (f : RecorderSt → RecorderSt) : (s.onLog f).xfer = s.xfer := rfl
@[simp] theorem State.onLog_comp (f : RecorderSt → RecorderSt) : (s.onLog f).comp = s.comp := rfl
@[simp] theorem State.onLog_link (f : RecorderSt → RecorderSt) : (s.onLog f).link = s.link := rfl
@[simp] theorem State.onLog_red (f : RecorderSt → RecorderSt) : (s.onLog f).red = s.red := rfl
@[simp] theorem State.onLog_net (f : RecorderSt → RecorderSt) : (s.onLog f).net = s.net := rfl
@[simp] theorem State.onLog_dict (f : RecorderSt → RecorderSt) : (s.onLog f).dict = s.dict := rfl
@[simp] theorem State.onLog_power (f : RecorderSt → RecorderSt) : (s.onLog f).power = s.power := rfl
@[simp] theorem State.onLog_log (f : RecorderSt → RecorderSt) : (s.onLog f).log = f s.log := rfl
@[simp] theorem State.onLog_health (f : RecorderSt → RecorderSt) : (s.onLog f).health = s.health := rfl
@[simp] theorem State.onLog_boot (f : RecorderSt → RecorderSt) : (s.onLog f).boot = s.boot := rfl
@[simp] theorem State.onLog_sram (f : RecorderSt → RecorderSt) : (s.onLog f).sram = s.sram := rfl
@[simp] theorem State.onLog_dram (f : RecorderSt → RecorderSt) : (s.onLog f).dram = s.dram := rfl
@[simp] theorem State.onLog_out (f : RecorderSt → RecorderSt) : (s.onLog f).out = s.out := rfl
@[simp] theorem State.onLog_pending (f : RecorderSt → RecorderSt) : (s.onLog f).pending = s.pending := rfl
@[simp] theorem State.onHealth_now (f : HealthSt → HealthSt) : (s.onHealth f).now = s.now := rfl
@[simp] theorem State.onHealth_free (f : HealthSt → HealthSt) : (s.onHealth f).free = s.free := rfl
@[simp] theorem State.onHealth_od (f : HealthSt → HealthSt) : (s.onHealth f).od = s.od := rfl
@[simp] theorem State.onHealth_inForce (f : HealthSt → HealthSt) : (s.onHealth f).inForce = s.inForce := rfl
@[simp] theorem State.onHealth_actual (f : HealthSt → HealthSt) : (s.onHealth f).actual = s.actual := rfl
@[simp] theorem State.onHealth_time (f : HealthSt → HealthSt) : (s.onHealth f).time = s.time := rfl
@[simp] theorem State.onHealth_ptp (f : HealthSt → HealthSt) : (s.onHealth f).ptp = s.ptp := rfl
@[simp] theorem State.onHealth_tick (f : HealthSt → HealthSt) : (s.onHealth f).tick = s.tick := rfl
@[simp] theorem State.onHealth_head (f : HealthSt → HealthSt) : (s.onHealth f).head = s.head := rfl
@[simp] theorem State.onHealth_streams (f : HealthSt → HealthSt) : (s.onHealth f).streams = s.streams := rfl
@[simp] theorem State.onHealth_alarm (f : HealthSt → HealthSt) : (s.onHealth f).alarm = s.alarm := rfl
@[simp] theorem State.onHealth_codec (f : HealthSt → HealthSt) : (s.onHealth f).codec = s.codec := rfl
@[simp] theorem State.onHealth_noise (f : HealthSt → HealthSt) : (s.onHealth f).noise = s.noise := rfl
@[simp] theorem State.onHealth_xfer (f : HealthSt → HealthSt) : (s.onHealth f).xfer = s.xfer := rfl
@[simp] theorem State.onHealth_comp (f : HealthSt → HealthSt) : (s.onHealth f).comp = s.comp := rfl
@[simp] theorem State.onHealth_link (f : HealthSt → HealthSt) : (s.onHealth f).link = s.link := rfl
@[simp] theorem State.onHealth_red (f : HealthSt → HealthSt) : (s.onHealth f).red = s.red := rfl
@[simp] theorem State.onHealth_net (f : HealthSt → HealthSt) : (s.onHealth f).net = s.net := rfl
@[simp] theorem State.onHealth_dict (f : HealthSt → HealthSt) : (s.onHealth f).dict = s.dict := rfl
@[simp] theorem State.onHealth_power (f : HealthSt → HealthSt) : (s.onHealth f).power = s.power := rfl
@[simp] theorem State.onHealth_log (f : HealthSt → HealthSt) : (s.onHealth f).log = s.log := rfl
@[simp] theorem State.onHealth_health (f : HealthSt → HealthSt) : (s.onHealth f).health = f s.health := rfl
@[simp] theorem State.onHealth_boot (f : HealthSt → HealthSt) : (s.onHealth f).boot = s.boot := rfl
@[simp] theorem State.onHealth_sram (f : HealthSt → HealthSt) : (s.onHealth f).sram = s.sram := rfl
@[simp] theorem State.onHealth_dram (f : HealthSt → HealthSt) : (s.onHealth f).dram = s.dram := rfl
@[simp] theorem State.onHealth_out (f : HealthSt → HealthSt) : (s.onHealth f).out = s.out := rfl
@[simp] theorem State.onHealth_pending (f : HealthSt → HealthSt) : (s.onHealth f).pending = s.pending := rfl
@[simp] theorem State.onBoot_now (f : BootSt → BootSt) : (s.onBoot f).now = s.now := rfl
@[simp] theorem State.onBoot_free (f : BootSt → BootSt) : (s.onBoot f).free = s.free := rfl
@[simp] theorem State.onBoot_od (f : BootSt → BootSt) : (s.onBoot f).od = s.od := rfl
@[simp] theorem State.onBoot_inForce (f : BootSt → BootSt) : (s.onBoot f).inForce = s.inForce := rfl
@[simp] theorem State.onBoot_actual (f : BootSt → BootSt) : (s.onBoot f).actual = s.actual := rfl
@[simp] theorem State.onBoot_time (f : BootSt → BootSt) : (s.onBoot f).time = s.time := rfl
@[simp] theorem State.onBoot_ptp (f : BootSt → BootSt) : (s.onBoot f).ptp = s.ptp := rfl
@[simp] theorem State.onBoot_tick (f : BootSt → BootSt) : (s.onBoot f).tick = s.tick := rfl
@[simp] theorem State.onBoot_head (f : BootSt → BootSt) : (s.onBoot f).head = s.head := rfl
@[simp] theorem State.onBoot_streams (f : BootSt → BootSt) : (s.onBoot f).streams = s.streams := rfl
@[simp] theorem State.onBoot_alarm (f : BootSt → BootSt) : (s.onBoot f).alarm = s.alarm := rfl
@[simp] theorem State.onBoot_codec (f : BootSt → BootSt) : (s.onBoot f).codec = s.codec := rfl
@[simp] theorem State.onBoot_noise (f : BootSt → BootSt) : (s.onBoot f).noise = s.noise := rfl
@[simp] theorem State.onBoot_xfer (f : BootSt → BootSt) : (s.onBoot f).xfer = s.xfer := rfl
@[simp] theorem State.onBoot_comp (f : BootSt → BootSt) : (s.onBoot f).comp = s.comp := rfl
@[simp] theorem State.onBoot_link (f : BootSt → BootSt) : (s.onBoot f).link = s.link := rfl
@[simp] theorem State.onBoot_red (f : BootSt → BootSt) : (s.onBoot f).red = s.red := rfl
@[simp] theorem State.onBoot_net (f : BootSt → BootSt) : (s.onBoot f).net = s.net := rfl
@[simp] theorem State.onBoot_dict (f : BootSt → BootSt) : (s.onBoot f).dict = s.dict := rfl
@[simp] theorem State.onBoot_power (f : BootSt → BootSt) : (s.onBoot f).power = s.power := rfl
@[simp] theorem State.onBoot_log (f : BootSt → BootSt) : (s.onBoot f).log = s.log := rfl
@[simp] theorem State.onBoot_health (f : BootSt → BootSt) : (s.onBoot f).health = s.health := rfl
@[simp] theorem State.onBoot_boot (f : BootSt → BootSt) : (s.onBoot f).boot = f s.boot := rfl
@[simp] theorem State.onBoot_sram (f : BootSt → BootSt) : (s.onBoot f).sram = s.sram := rfl
@[simp] theorem State.onBoot_dram (f : BootSt → BootSt) : (s.onBoot f).dram = s.dram := rfl
@[simp] theorem State.onBoot_out (f : BootSt → BootSt) : (s.onBoot f).out = s.out := rfl
@[simp] theorem State.onBoot_pending (f : BootSt → BootSt) : (s.onBoot f).pending = s.pending := rfl
@[simp] theorem State.setStreams_now (v : Table StreamSt) : (s.setStreams v).now = s.now := rfl
@[simp] theorem State.setStreams_free (v : Table StreamSt) : (s.setStreams v).free = s.free := rfl
@[simp] theorem State.setStreams_od (v : Table StreamSt) : (s.setStreams v).od = s.od := rfl
@[simp] theorem State.setStreams_inForce (v : Table StreamSt) : (s.setStreams v).inForce = s.inForce := rfl
@[simp] theorem State.setStreams_actual (v : Table StreamSt) : (s.setStreams v).actual = s.actual := rfl
@[simp] theorem State.setStreams_time (v : Table StreamSt) : (s.setStreams v).time = s.time := rfl
@[simp] theorem State.setStreams_ptp (v : Table StreamSt) : (s.setStreams v).ptp = s.ptp := rfl
@[simp] theorem State.setStreams_tick (v : Table StreamSt) : (s.setStreams v).tick = s.tick := rfl
@[simp] theorem State.setStreams_head (v : Table StreamSt) : (s.setStreams v).head = s.head := rfl
@[simp] theorem State.setStreams_streams (v : Table StreamSt) : (s.setStreams v).streams = v := rfl
@[simp] theorem State.setStreams_alarm (v : Table StreamSt) : (s.setStreams v).alarm = s.alarm := rfl
@[simp] theorem State.setStreams_codec (v : Table StreamSt) : (s.setStreams v).codec = s.codec := rfl
@[simp] theorem State.setStreams_noise (v : Table StreamSt) : (s.setStreams v).noise = s.noise := rfl
@[simp] theorem State.setStreams_xfer (v : Table StreamSt) : (s.setStreams v).xfer = s.xfer := rfl
@[simp] theorem State.setStreams_comp (v : Table StreamSt) : (s.setStreams v).comp = s.comp := rfl
@[simp] theorem State.setStreams_link (v : Table StreamSt) : (s.setStreams v).link = s.link := rfl
@[simp] theorem State.setStreams_red (v : Table StreamSt) : (s.setStreams v).red = s.red := rfl
@[simp] theorem State.setStreams_net (v : Table StreamSt) : (s.setStreams v).net = s.net := rfl
@[simp] theorem State.setStreams_dict (v : Table StreamSt) : (s.setStreams v).dict = s.dict := rfl
@[simp] theorem State.setStreams_power (v : Table StreamSt) : (s.setStreams v).power = s.power := rfl
@[simp] theorem State.setStreams_log (v : Table StreamSt) : (s.setStreams v).log = s.log := rfl
@[simp] theorem State.setStreams_health (v : Table StreamSt) : (s.setStreams v).health = s.health := rfl
@[simp] theorem State.setStreams_boot (v : Table StreamSt) : (s.setStreams v).boot = s.boot := rfl
@[simp] theorem State.setStreams_sram (v : Table StreamSt) : (s.setStreams v).sram = s.sram := rfl
@[simp] theorem State.setStreams_dram (v : Table StreamSt) : (s.setStreams v).dram = s.dram := rfl
@[simp] theorem State.setStreams_out (v : Table StreamSt) : (s.setStreams v).out = s.out := rfl
@[simp] theorem State.setStreams_pending (v : Table StreamSt) : (s.setStreams v).pending = s.pending := rfl
@[simp] theorem State.setSram_now (v : List Host.Cell) : (s.setSram v).now = s.now := rfl
@[simp] theorem State.setSram_free (v : List Host.Cell) : (s.setSram v).free = s.free := rfl
@[simp] theorem State.setSram_od (v : List Host.Cell) : (s.setSram v).od = s.od := rfl
@[simp] theorem State.setSram_inForce (v : List Host.Cell) : (s.setSram v).inForce = s.inForce := rfl
@[simp] theorem State.setSram_actual (v : List Host.Cell) : (s.setSram v).actual = s.actual := rfl
@[simp] theorem State.setSram_time (v : List Host.Cell) : (s.setSram v).time = s.time := rfl
@[simp] theorem State.setSram_ptp (v : List Host.Cell) : (s.setSram v).ptp = s.ptp := rfl
@[simp] theorem State.setSram_tick (v : List Host.Cell) : (s.setSram v).tick = s.tick := rfl
@[simp] theorem State.setSram_head (v : List Host.Cell) : (s.setSram v).head = s.head := rfl
@[simp] theorem State.setSram_streams (v : List Host.Cell) : (s.setSram v).streams = s.streams := rfl
@[simp] theorem State.setSram_alarm (v : List Host.Cell) : (s.setSram v).alarm = s.alarm := rfl
@[simp] theorem State.setSram_codec (v : List Host.Cell) : (s.setSram v).codec = s.codec := rfl
@[simp] theorem State.setSram_noise (v : List Host.Cell) : (s.setSram v).noise = s.noise := rfl
@[simp] theorem State.setSram_xfer (v : List Host.Cell) : (s.setSram v).xfer = s.xfer := rfl
@[simp] theorem State.setSram_comp (v : List Host.Cell) : (s.setSram v).comp = s.comp := rfl
@[simp] theorem State.setSram_link (v : List Host.Cell) : (s.setSram v).link = s.link := rfl
@[simp] theorem State.setSram_red (v : List Host.Cell) : (s.setSram v).red = s.red := rfl
@[simp] theorem State.setSram_net (v : List Host.Cell) : (s.setSram v).net = s.net := rfl
@[simp] theorem State.setSram_dict (v : List Host.Cell) : (s.setSram v).dict = s.dict := rfl
@[simp] theorem State.setSram_power (v : List Host.Cell) : (s.setSram v).power = s.power := rfl
@[simp] theorem State.setSram_log (v : List Host.Cell) : (s.setSram v).log = s.log := rfl
@[simp] theorem State.setSram_health (v : List Host.Cell) : (s.setSram v).health = s.health := rfl
@[simp] theorem State.setSram_boot (v : List Host.Cell) : (s.setSram v).boot = s.boot := rfl
@[simp] theorem State.setSram_sram (v : List Host.Cell) : (s.setSram v).sram = v := rfl
@[simp] theorem State.setSram_dram (v : List Host.Cell) : (s.setSram v).dram = s.dram := rfl
@[simp] theorem State.setSram_out (v : List Host.Cell) : (s.setSram v).out = s.out := rfl
@[simp] theorem State.setSram_pending (v : List Host.Cell) : (s.setSram v).pending = s.pending := rfl
@[simp] theorem State.setDram_now (v : List Host.Cell) : (s.setDram v).now = s.now := rfl
@[simp] theorem State.setDram_free (v : List Host.Cell) : (s.setDram v).free = s.free := rfl
@[simp] theorem State.setDram_od (v : List Host.Cell) : (s.setDram v).od = s.od := rfl
@[simp] theorem State.setDram_inForce (v : List Host.Cell) : (s.setDram v).inForce = s.inForce := rfl
@[simp] theorem State.setDram_actual (v : List Host.Cell) : (s.setDram v).actual = s.actual := rfl
@[simp] theorem State.setDram_time (v : List Host.Cell) : (s.setDram v).time = s.time := rfl
@[simp] theorem State.setDram_ptp (v : List Host.Cell) : (s.setDram v).ptp = s.ptp := rfl
@[simp] theorem State.setDram_tick (v : List Host.Cell) : (s.setDram v).tick = s.tick := rfl
@[simp] theorem State.setDram_head (v : List Host.Cell) : (s.setDram v).head = s.head := rfl
@[simp] theorem State.setDram_streams (v : List Host.Cell) : (s.setDram v).streams = s.streams := rfl
@[simp] theorem State.setDram_alarm (v : List Host.Cell) : (s.setDram v).alarm = s.alarm := rfl
@[simp] theorem State.setDram_codec (v : List Host.Cell) : (s.setDram v).codec = s.codec := rfl
@[simp] theorem State.setDram_noise (v : List Host.Cell) : (s.setDram v).noise = s.noise := rfl
@[simp] theorem State.setDram_xfer (v : List Host.Cell) : (s.setDram v).xfer = s.xfer := rfl
@[simp] theorem State.setDram_comp (v : List Host.Cell) : (s.setDram v).comp = s.comp := rfl
@[simp] theorem State.setDram_link (v : List Host.Cell) : (s.setDram v).link = s.link := rfl
@[simp] theorem State.setDram_red (v : List Host.Cell) : (s.setDram v).red = s.red := rfl
@[simp] theorem State.setDram_net (v : List Host.Cell) : (s.setDram v).net = s.net := rfl
@[simp] theorem State.setDram_dict (v : List Host.Cell) : (s.setDram v).dict = s.dict := rfl
@[simp] theorem State.setDram_power (v : List Host.Cell) : (s.setDram v).power = s.power := rfl
@[simp] theorem State.setDram_log (v : List Host.Cell) : (s.setDram v).log = s.log := rfl
@[simp] theorem State.setDram_health (v : List Host.Cell) : (s.setDram v).health = s.health := rfl
@[simp] theorem State.setDram_boot (v : List Host.Cell) : (s.setDram v).boot = s.boot := rfl
@[simp] theorem State.setDram_sram (v : List Host.Cell) : (s.setDram v).sram = s.sram := rfl
@[simp] theorem State.setDram_dram (v : List Host.Cell) : (s.setDram v).dram = v := rfl
@[simp] theorem State.setDram_out (v : List Host.Cell) : (s.setDram v).out = s.out := rfl
@[simp] theorem State.setDram_pending (v : List Host.Cell) : (s.setDram v).pending = s.pending := rfl
@[simp] theorem State.setInForce_now (v : Table Nat) : (s.setInForce v).now = s.now := rfl
@[simp] theorem State.setInForce_free (v : Table Nat) : (s.setInForce v).free = s.free := rfl
@[simp] theorem State.setInForce_od (v : Table Nat) : (s.setInForce v).od = s.od := rfl
@[simp] theorem State.setInForce_inForce (v : Table Nat) : (s.setInForce v).inForce = v := rfl
@[simp] theorem State.setInForce_actual (v : Table Nat) : (s.setInForce v).actual = s.actual := rfl
@[simp] theorem State.setInForce_time (v : Table Nat) : (s.setInForce v).time = s.time := rfl
@[simp] theorem State.setInForce_ptp (v : Table Nat) : (s.setInForce v).ptp = s.ptp := rfl
@[simp] theorem State.setInForce_tick (v : Table Nat) : (s.setInForce v).tick = s.tick := rfl
@[simp] theorem State.setInForce_head (v : Table Nat) : (s.setInForce v).head = s.head := rfl
@[simp] theorem State.setInForce_streams (v : Table Nat) : (s.setInForce v).streams = s.streams := rfl
@[simp] theorem State.setInForce_alarm (v : Table Nat) : (s.setInForce v).alarm = s.alarm := rfl
@[simp] theorem State.setInForce_codec (v : Table Nat) : (s.setInForce v).codec = s.codec := rfl
@[simp] theorem State.setInForce_noise (v : Table Nat) : (s.setInForce v).noise = s.noise := rfl
@[simp] theorem State.setInForce_xfer (v : Table Nat) : (s.setInForce v).xfer = s.xfer := rfl
@[simp] theorem State.setInForce_comp (v : Table Nat) : (s.setInForce v).comp = s.comp := rfl
@[simp] theorem State.setInForce_link (v : Table Nat) : (s.setInForce v).link = s.link := rfl
@[simp] theorem State.setInForce_red (v : Table Nat) : (s.setInForce v).red = s.red := rfl
@[simp] theorem State.setInForce_net (v : Table Nat) : (s.setInForce v).net = s.net := rfl
@[simp] theorem State.setInForce_dict (v : Table Nat) : (s.setInForce v).dict = s.dict := rfl
@[simp] theorem State.setInForce_power (v : Table Nat) : (s.setInForce v).power = s.power := rfl
@[simp] theorem State.setInForce_log (v : Table Nat) : (s.setInForce v).log = s.log := rfl
@[simp] theorem State.setInForce_health (v : Table Nat) : (s.setInForce v).health = s.health := rfl
@[simp] theorem State.setInForce_boot (v : Table Nat) : (s.setInForce v).boot = s.boot := rfl
@[simp] theorem State.setInForce_sram (v : Table Nat) : (s.setInForce v).sram = s.sram := rfl
@[simp] theorem State.setInForce_dram (v : Table Nat) : (s.setInForce v).dram = s.dram := rfl
@[simp] theorem State.setInForce_out (v : Table Nat) : (s.setInForce v).out = s.out := rfl
@[simp] theorem State.setInForce_pending (v : Table Nat) : (s.setInForce v).pending = s.pending := rfl
@[simp] theorem State.setActual_now (v : Table Nat) : (s.setActual v).now = s.now := rfl
@[simp] theorem State.setActual_free (v : Table Nat) : (s.setActual v).free = s.free := rfl
@[simp] theorem State.setActual_od (v : Table Nat) : (s.setActual v).od = s.od := rfl
@[simp] theorem State.setActual_inForce (v : Table Nat) : (s.setActual v).inForce = s.inForce := rfl
@[simp] theorem State.setActual_actual (v : Table Nat) : (s.setActual v).actual = v := rfl
@[simp] theorem State.setActual_time (v : Table Nat) : (s.setActual v).time = s.time := rfl
@[simp] theorem State.setActual_ptp (v : Table Nat) : (s.setActual v).ptp = s.ptp := rfl
@[simp] theorem State.setActual_tick (v : Table Nat) : (s.setActual v).tick = s.tick := rfl
@[simp] theorem State.setActual_head (v : Table Nat) : (s.setActual v).head = s.head := rfl
@[simp] theorem State.setActual_streams (v : Table Nat) : (s.setActual v).streams = s.streams := rfl
@[simp] theorem State.setActual_alarm (v : Table Nat) : (s.setActual v).alarm = s.alarm := rfl
@[simp] theorem State.setActual_codec (v : Table Nat) : (s.setActual v).codec = s.codec := rfl
@[simp] theorem State.setActual_noise (v : Table Nat) : (s.setActual v).noise = s.noise := rfl
@[simp] theorem State.setActual_xfer (v : Table Nat) : (s.setActual v).xfer = s.xfer := rfl
@[simp] theorem State.setActual_comp (v : Table Nat) : (s.setActual v).comp = s.comp := rfl
@[simp] theorem State.setActual_link (v : Table Nat) : (s.setActual v).link = s.link := rfl
@[simp] theorem State.setActual_red (v : Table Nat) : (s.setActual v).red = s.red := rfl
@[simp] theorem State.setActual_net (v : Table Nat) : (s.setActual v).net = s.net := rfl
@[simp] theorem State.setActual_dict (v : Table Nat) : (s.setActual v).dict = s.dict := rfl
@[simp] theorem State.setActual_power (v : Table Nat) : (s.setActual v).power = s.power := rfl
@[simp] theorem State.setActual_log (v : Table Nat) : (s.setActual v).log = s.log := rfl
@[simp] theorem State.setActual_health (v : Table Nat) : (s.setActual v).health = s.health := rfl
@[simp] theorem State.setActual_boot (v : Table Nat) : (s.setActual v).boot = s.boot := rfl
@[simp] theorem State.setActual_sram (v : Table Nat) : (s.setActual v).sram = s.sram := rfl
@[simp] theorem State.setActual_dram (v : Table Nat) : (s.setActual v).dram = s.dram := rfl
@[simp] theorem State.setActual_out (v : Table Nat) : (s.setActual v).out = s.out := rfl
@[simp] theorem State.setActual_pending (v : Table Nat) : (s.setActual v).pending = s.pending := rfl
@[simp] theorem State.setOd_now (v : Table Nat) : (s.setOd v).now = s.now := rfl
@[simp] theorem State.setOd_free (v : Table Nat) : (s.setOd v).free = s.free := rfl
@[simp] theorem State.setOd_od (v : Table Nat) : (s.setOd v).od = v := rfl
@[simp] theorem State.setOd_inForce (v : Table Nat) : (s.setOd v).inForce = s.inForce := rfl
@[simp] theorem State.setOd_actual (v : Table Nat) : (s.setOd v).actual = s.actual := rfl
@[simp] theorem State.setOd_time (v : Table Nat) : (s.setOd v).time = s.time := rfl
@[simp] theorem State.setOd_ptp (v : Table Nat) : (s.setOd v).ptp = s.ptp := rfl
@[simp] theorem State.setOd_tick (v : Table Nat) : (s.setOd v).tick = s.tick := rfl
@[simp] theorem State.setOd_head (v : Table Nat) : (s.setOd v).head = s.head := rfl
@[simp] theorem State.setOd_streams (v : Table Nat) : (s.setOd v).streams = s.streams := rfl
@[simp] theorem State.setOd_alarm (v : Table Nat) : (s.setOd v).alarm = s.alarm := rfl
@[simp] theorem State.setOd_codec (v : Table Nat) : (s.setOd v).codec = s.codec := rfl
@[simp] theorem State.setOd_noise (v : Table Nat) : (s.setOd v).noise = s.noise := rfl
@[simp] theorem State.setOd_xfer (v : Table Nat) : (s.setOd v).xfer = s.xfer := rfl
@[simp] theorem State.setOd_comp (v : Table Nat) : (s.setOd v).comp = s.comp := rfl
@[simp] theorem State.setOd_link (v : Table Nat) : (s.setOd v).link = s.link := rfl
@[simp] theorem State.setOd_red (v : Table Nat) : (s.setOd v).red = s.red := rfl
@[simp] theorem State.setOd_net (v : Table Nat) : (s.setOd v).net = s.net := rfl
@[simp] theorem State.setOd_dict (v : Table Nat) : (s.setOd v).dict = s.dict := rfl
@[simp] theorem State.setOd_power (v : Table Nat) : (s.setOd v).power = s.power := rfl
@[simp] theorem State.setOd_log (v : Table Nat) : (s.setOd v).log = s.log := rfl
@[simp] theorem State.setOd_health (v : Table Nat) : (s.setOd v).health = s.health := rfl
@[simp] theorem State.setOd_boot (v : Table Nat) : (s.setOd v).boot = s.boot := rfl
@[simp] theorem State.setOd_sram (v : Table Nat) : (s.setOd v).sram = s.sram := rfl
@[simp] theorem State.setOd_dram (v : Table Nat) : (s.setOd v).dram = s.dram := rfl
@[simp] theorem State.setOd_out (v : Table Nat) : (s.setOd v).out = s.out := rfl
@[simp] theorem State.setOd_pending (v : Table Nat) : (s.setOd v).pending = s.pending := rfl
@[simp] theorem State.drew_now : s.drew.now = s.now := rfl
@[simp] theorem State.drew_free : s.drew.free = s.free + 1 := rfl
@[simp] theorem State.drew_od : s.drew.od = s.od := rfl
@[simp] theorem State.drew_inForce : s.drew.inForce = s.inForce := rfl
@[simp] theorem State.drew_actual : s.drew.actual = s.actual := rfl
@[simp] theorem State.drew_time : s.drew.time = s.time := rfl
@[simp] theorem State.drew_ptp : s.drew.ptp = s.ptp := rfl
@[simp] theorem State.drew_tick : s.drew.tick = s.tick := rfl
@[simp] theorem State.drew_head : s.drew.head = s.head := rfl
@[simp] theorem State.drew_streams : s.drew.streams = s.streams := rfl
@[simp] theorem State.drew_alarm : s.drew.alarm = s.alarm := rfl
@[simp] theorem State.drew_codec : s.drew.codec = s.codec := rfl
@[simp] theorem State.drew_noise : s.drew.noise = s.noise := rfl
@[simp] theorem State.drew_xfer : s.drew.xfer = s.xfer := rfl
@[simp] theorem State.drew_comp : s.drew.comp = s.comp := rfl
@[simp] theorem State.drew_link : s.drew.link = s.link := rfl
@[simp] theorem State.drew_red : s.drew.red = s.red := rfl
@[simp] theorem State.drew_net : s.drew.net = s.net := rfl
@[simp] theorem State.drew_dict : s.drew.dict = s.dict := rfl
@[simp] theorem State.drew_power : s.drew.power = s.power := rfl
@[simp] theorem State.drew_log : s.drew.log = s.log := rfl
@[simp] theorem State.drew_health : s.drew.health = s.health := rfl
@[simp] theorem State.drew_boot : s.drew.boot = s.boot := rfl
@[simp] theorem State.drew_sram : s.drew.sram = s.sram := rfl
@[simp] theorem State.drew_dram : s.drew.dram = s.dram := rfl
@[simp] theorem State.drew_out : s.drew.out = s.out := rfl
@[simp] theorem State.drew_pending : s.drew.pending = s.pending := rfl
@[simp] theorem State.send_now (o : Out) : (s.send o).now = s.now := rfl
@[simp] theorem State.send_free (o : Out) : (s.send o).free = s.free := rfl
@[simp] theorem State.send_od (o : Out) : (s.send o).od = s.od := rfl
@[simp] theorem State.send_inForce (o : Out) : (s.send o).inForce = s.inForce := rfl
@[simp] theorem State.send_actual (o : Out) : (s.send o).actual = s.actual := rfl
@[simp] theorem State.send_time (o : Out) : (s.send o).time = s.time := rfl
@[simp] theorem State.send_ptp (o : Out) : (s.send o).ptp = s.ptp := rfl
@[simp] theorem State.send_tick (o : Out) : (s.send o).tick = s.tick := rfl
@[simp] theorem State.send_head (o : Out) : (s.send o).head = s.head := rfl
@[simp] theorem State.send_streams (o : Out) : (s.send o).streams = s.streams := rfl
@[simp] theorem State.send_alarm (o : Out) : (s.send o).alarm = s.alarm := rfl
@[simp] theorem State.send_codec (o : Out) : (s.send o).codec = s.codec := rfl
@[simp] theorem State.send_noise (o : Out) : (s.send o).noise = s.noise := rfl
@[simp] theorem State.send_xfer (o : Out) : (s.send o).xfer = s.xfer := rfl
@[simp] theorem State.send_comp (o : Out) : (s.send o).comp = s.comp := rfl
@[simp] theorem State.send_link (o : Out) : (s.send o).link = s.link := rfl
@[simp] theorem State.send_red (o : Out) : (s.send o).red = s.red := rfl
@[simp] theorem State.send_net (o : Out) : (s.send o).net = s.net := rfl
@[simp] theorem State.send_dict (o : Out) : (s.send o).dict = s.dict := rfl
@[simp] theorem State.send_power (o : Out) : (s.send o).power = s.power := rfl
@[simp] theorem State.send_log (o : Out) : (s.send o).log = s.log := rfl
@[simp] theorem State.send_health (o : Out) : (s.send o).health = s.health := rfl
@[simp] theorem State.send_boot (o : Out) : (s.send o).boot = s.boot := rfl
@[simp] theorem State.send_sram (o : Out) : (s.send o).sram = s.sram := rfl
@[simp] theorem State.send_dram (o : Out) : (s.send o).dram = s.dram := rfl
@[simp] theorem State.send_out (o : Out) : (s.send o).out = s.out ++ [o] := rfl
@[simp] theorem State.send_pending (o : Out) : (s.send o).pending = s.pending := rfl
@[simp] theorem State.advance_now (t : Nat) : (s.advance t).now = max s.now t := rfl
@[simp] theorem State.advance_free (t : Nat) : (s.advance t).free = s.free := rfl
@[simp] theorem State.advance_od (t : Nat) : (s.advance t).od = s.od := rfl
@[simp] theorem State.advance_inForce (t : Nat) : (s.advance t).inForce = s.inForce := rfl
@[simp] theorem State.advance_actual (t : Nat) : (s.advance t).actual = s.actual := rfl
@[simp] theorem State.advance_ptp (t : Nat) : (s.advance t).ptp = s.ptp := rfl
@[simp] theorem State.advance_tick (t : Nat) : (s.advance t).tick = s.tick := rfl
@[simp] theorem State.advance_head (t : Nat) : (s.advance t).head = s.head := rfl
@[simp] theorem State.advance_streams (t : Nat) : (s.advance t).streams = s.streams := rfl
@[simp] theorem State.advance_alarm (t : Nat) : (s.advance t).alarm = s.alarm := rfl
@[simp] theorem State.advance_codec (t : Nat) : (s.advance t).codec = s.codec := rfl
@[simp] theorem State.advance_noise (t : Nat) : (s.advance t).noise = s.noise := rfl
@[simp] theorem State.advance_xfer (t : Nat) : (s.advance t).xfer = s.xfer := rfl
@[simp] theorem State.advance_comp (t : Nat) : (s.advance t).comp = s.comp := rfl
@[simp] theorem State.advance_link (t : Nat) : (s.advance t).link = s.link := rfl
@[simp] theorem State.advance_red (t : Nat) : (s.advance t).red = s.red := rfl
@[simp] theorem State.advance_net (t : Nat) : (s.advance t).net = s.net := rfl
@[simp] theorem State.advance_dict (t : Nat) : (s.advance t).dict = s.dict := rfl
@[simp] theorem State.advance_power (t : Nat) : (s.advance t).power = s.power := rfl
@[simp] theorem State.advance_log (t : Nat) : (s.advance t).log = s.log := rfl
@[simp] theorem State.advance_health (t : Nat) : (s.advance t).health = s.health := rfl
@[simp] theorem State.advance_boot (t : Nat) : (s.advance t).boot = s.boot := rfl
@[simp] theorem State.advance_sram (t : Nat) : (s.advance t).sram = s.sram := rfl
@[simp] theorem State.advance_dram (t : Nat) : (s.advance t).dram = s.dram := rfl
@[simp] theorem State.advance_out (t : Nat) : (s.advance t).out = [] := rfl
@[simp] theorem State.advance_pending (t : Nat) : (s.advance t).pending = s.pending := rfl
theorem State.advance_time (t : Nat) : (s.advance t).time = { s.time with
    dev := (s.time.dev + (s.time.rem + ((t - s.now : Nat) : Int) * (1000000000 + s.time.freq)) / 1000000000).toNat
    rem := (s.time.rem + ((t - s.now : Nat) : Int) * (1000000000 + s.time.freq)) % 1000000000 } := rfl
@[simp] theorem State.push_now (c : Instr) : (s.push c).now = s.now := rfl
@[simp] theorem State.push_free (c : Instr) : (s.push c).free = s.free := rfl
@[simp] theorem State.push_od (c : Instr) : (s.push c).od = s.od := rfl
@[simp] theorem State.push_inForce (c : Instr) : (s.push c).inForce = s.inForce := rfl
@[simp] theorem State.push_actual (c : Instr) : (s.push c).actual = s.actual := rfl
@[simp] theorem State.push_time (c : Instr) : (s.push c).time = s.time := rfl
@[simp] theorem State.push_ptp (c : Instr) : (s.push c).ptp = s.ptp := rfl
@[simp] theorem State.push_tick (c : Instr) : (s.push c).tick = s.tick := rfl
@[simp] theorem State.push_head (c : Instr) : (s.push c).head = s.head := rfl
@[simp] theorem State.push_streams (c : Instr) : (s.push c).streams = s.streams := rfl
@[simp] theorem State.push_alarm (c : Instr) : (s.push c).alarm = s.alarm := rfl
@[simp] theorem State.push_codec (c : Instr) : (s.push c).codec = s.codec := rfl
@[simp] theorem State.push_noise (c : Instr) : (s.push c).noise = s.noise := rfl
@[simp] theorem State.push_xfer (c : Instr) : (s.push c).xfer = s.xfer := rfl
@[simp] theorem State.push_comp (c : Instr) : (s.push c).comp = s.comp := rfl
@[simp] theorem State.push_link (c : Instr) : (s.push c).link = s.link := rfl
@[simp] theorem State.push_red (c : Instr) : (s.push c).red = s.red := rfl
@[simp] theorem State.push_net (c : Instr) : (s.push c).net = s.net := rfl
@[simp] theorem State.push_dict (c : Instr) : (s.push c).dict = s.dict := rfl
@[simp] theorem State.push_power (c : Instr) : (s.push c).power = s.power := rfl
@[simp] theorem State.push_log (c : Instr) : (s.push c).log = s.log := rfl
@[simp] theorem State.push_health (c : Instr) : (s.push c).health = s.health := rfl
@[simp] theorem State.push_boot (c : Instr) : (s.push c).boot = s.boot := rfl
@[simp] theorem State.push_sram (c : Instr) : (s.push c).sram = s.sram := rfl
@[simp] theorem State.push_dram (c : Instr) : (s.push c).dram = s.dram := rfl
@[simp] theorem State.push_out (c : Instr) : (s.push c).out = s.out := rfl
@[simp] theorem State.push_pending (c : Instr) : (s.push c).pending = c :: s.pending := rfl
@[simp] theorem State.setObj_now (k v : Nat) : (s.setObj k v).now = s.now := rfl
@[simp] theorem State.setObj_free (k v : Nat) : (s.setObj k v).free = s.free := rfl
@[simp] theorem State.setObj_od (k v : Nat) : (s.setObj k v).od = tset s.od k v := rfl
@[simp] theorem State.setObj_inForce (k v : Nat) : (s.setObj k v).inForce = s.inForce := rfl
@[simp] theorem State.setObj_actual (k v : Nat) : (s.setObj k v).actual = s.actual := rfl
@[simp] theorem State.setObj_time (k v : Nat) : (s.setObj k v).time = s.time := rfl
@[simp] theorem State.setObj_ptp (k v : Nat) : (s.setObj k v).ptp = s.ptp := rfl
@[simp] theorem State.setObj_tick (k v : Nat) : (s.setObj k v).tick = s.tick := rfl
@[simp] theorem State.setObj_head (k v : Nat) : (s.setObj k v).head = s.head := rfl
@[simp] theorem State.setObj_streams (k v : Nat) : (s.setObj k v).streams = s.streams := rfl
@[simp] theorem State.setObj_alarm (k v : Nat) : (s.setObj k v).alarm = s.alarm := rfl
@[simp] theorem State.setObj_codec (k v : Nat) : (s.setObj k v).codec = s.codec := rfl
@[simp] theorem State.setObj_noise (k v : Nat) : (s.setObj k v).noise = s.noise := rfl
@[simp] theorem State.setObj_xfer (k v : Nat) : (s.setObj k v).xfer = s.xfer := rfl
@[simp] theorem State.setObj_comp (k v : Nat) : (s.setObj k v).comp = s.comp := rfl
@[simp] theorem State.setObj_link (k v : Nat) : (s.setObj k v).link = s.link := rfl
@[simp] theorem State.setObj_red (k v : Nat) : (s.setObj k v).red = s.red := rfl
@[simp] theorem State.setObj_net (k v : Nat) : (s.setObj k v).net = s.net := rfl
@[simp] theorem State.setObj_dict (k v : Nat) : (s.setObj k v).dict = s.dict := rfl
@[simp] theorem State.setObj_power (k v : Nat) : (s.setObj k v).power = s.power := rfl
@[simp] theorem State.setObj_log (k v : Nat) : (s.setObj k v).log = s.log := rfl
@[simp] theorem State.setObj_health (k v : Nat) : (s.setObj k v).health = s.health := rfl
@[simp] theorem State.setObj_boot (k v : Nat) : (s.setObj k v).boot = s.boot := rfl
@[simp] theorem State.setObj_sram (k v : Nat) : (s.setObj k v).sram = s.sram := rfl
@[simp] theorem State.setObj_dram (k v : Nat) : (s.setObj k v).dram = s.dram := rfl
@[simp] theorem State.setObj_out (k v : Nat) : (s.setObj k v).out = s.out := rfl
@[simp] theorem State.setObj_pending (k v : Nat) : (s.setObj k v).pending = s.pending := rfl
@[simp] theorem State.adopt_now (k v : Nat) : (s.adopt k v).now = s.now := rfl
@[simp] theorem State.adopt_free (k v : Nat) : (s.adopt k v).free = s.free := rfl
@[simp] theorem State.adopt_od (k v : Nat) : (s.adopt k v).od = s.od := rfl
@[simp] theorem State.adopt_inForce (k v : Nat) : (s.adopt k v).inForce = tset s.inForce k v := rfl
@[simp] theorem State.adopt_actual (k v : Nat) : (s.adopt k v).actual = s.actual := rfl
@[simp] theorem State.adopt_time (k v : Nat) : (s.adopt k v).time = s.time := rfl
@[simp] theorem State.adopt_ptp (k v : Nat) : (s.adopt k v).ptp = s.ptp := rfl
@[simp] theorem State.adopt_tick (k v : Nat) : (s.adopt k v).tick = s.tick := rfl
@[simp] theorem State.adopt_head (k v : Nat) : (s.adopt k v).head = s.head := rfl
@[simp] theorem State.adopt_streams (k v : Nat) : (s.adopt k v).streams = s.streams := rfl
@[simp] theorem State.adopt_alarm (k v : Nat) : (s.adopt k v).alarm = s.alarm := rfl
@[simp] theorem State.adopt_codec (k v : Nat) : (s.adopt k v).codec = s.codec := rfl
@[simp] theorem State.adopt_noise (k v : Nat) : (s.adopt k v).noise = s.noise := rfl
@[simp] theorem State.adopt_xfer (k v : Nat) : (s.adopt k v).xfer = s.xfer := rfl
@[simp] theorem State.adopt_comp (k v : Nat) : (s.adopt k v).comp = s.comp := rfl
@[simp] theorem State.adopt_link (k v : Nat) : (s.adopt k v).link = s.link := rfl
@[simp] theorem State.adopt_red (k v : Nat) : (s.adopt k v).red = s.red := rfl
@[simp] theorem State.adopt_net (k v : Nat) : (s.adopt k v).net = s.net := rfl
@[simp] theorem State.adopt_dict (k v : Nat) : (s.adopt k v).dict = s.dict := rfl
@[simp] theorem State.adopt_power (k v : Nat) : (s.adopt k v).power = s.power := rfl
@[simp] theorem State.adopt_log (k v : Nat) : (s.adopt k v).log = s.log := rfl
@[simp] theorem State.adopt_health (k v : Nat) : (s.adopt k v).health = s.health := rfl
@[simp] theorem State.adopt_boot (k v : Nat) : (s.adopt k v).boot = s.boot := rfl
@[simp] theorem State.adopt_sram (k v : Nat) : (s.adopt k v).sram = s.sram := rfl
@[simp] theorem State.adopt_dram (k v : Nat) : (s.adopt k v).dram = s.dram := rfl
@[simp] theorem State.adopt_out (k v : Nat) : (s.adopt k v).out = s.out := rfl
@[simp] theorem State.adopt_pending (k v : Nat) : (s.adopt k v).pending = s.pending := rfl

end Sys2Proof.Machine
end

