-- ==== Sys2Proof/Laws/Tables.lean ====
section
/-! SUPPORT. Tables and memory: what a lookup finds after an update, that a memory keeps its canonical form, and what objects read after
an object is set. -/
namespace Sys2Proof.Machine
set_option Elab.async false

/-! ### Tables -/

@[simp] theorem tget_tset_same {α : Type} (m : Table α) (k : Nat) (v d : α) : tget (tset m k v) k d = v := by
  induction m with
  | nil => simp [tset, tget]
  | cons e r ih =>
    obtain ⟨j, w⟩ := e
    by_cases h : j = k
    · simp [tset, tget, h]
    · by_cases h2 : k < j
      · simp [tset, tget, h, h2]
      · simp [tset, tget, h, h2, ih]

theorem tget_tset_ne {α : Type} (m : Table α) {k j : Nat} (v d : α) (h : j ≠ k) : tget (tset m k v) j d = tget m j d := by
  have h' : k ≠ j := fun e => h e.symm
  induction m with
  | nil => simp [tset, tget, h']
  | cons e r ih =>
    obtain ⟨i, w⟩ := e
    by_cases h1 : i = k
    · subst h1; simp [tset, tget, h']
    · by_cases h2 : k < i
      · simp [tset, tget, h1, h2, h']
      · simp only [tset, h1, h2, if_false, tget, ih]

/-! ### Objects -/

@[simp] theorem State.setObj_obj_same (s : State) (k v : Nat) : (s.setObj k v).obj k = v := tget_tset_same ..

theorem State.setObj_obj_ne (s : State) {k j : Nat} (v : Nat) (h : j ≠ k) : (s.setObj k v).obj j = s.obj j :=
  tget_tset_ne _ _ _ h

@[simp] theorem State.adopt_cfg_same (s : State) (k v : Nat) : (s.adopt k v).cfg k = v := tget_tset_same ..

theorem State.adopt_cfg_ne (s : State) {k j : Nat} (v : Nat) (h : j ≠ k) : (s.adopt k v).cfg j = s.cfg j :=
  tget_tset_ne _ _ _ h

theorem State.incr_obj_same (s : State) (k n : Nat) : (s.incr k n).obj k = (s.obj k + n) % 2 ^ objWidth k :=
  State.setObj_obj_same ..

theorem State.incr_obj_ne (s : State) {k j : Nat} (n : Nat) (h : j ≠ k) : (s.incr k n).obj j = s.obj j :=
  State.setObj_obj_ne s _ h

/-- Two states with the same objects read the same object. -/
theorem State.obj_congr {s s' : State} (h : s'.od = s.od) (k : Nat) : s'.obj k = s.obj k := by
  simp only [State.obj, h]

theorem State.cfg_congr {s s' : State} (h : s'.inForce = s.inForce) (k : Nat) : s'.cfg k = s.cfg k := by
  simp only [State.cfg, h]

/-! ### Memory -/

/-- A byte reads what was written to it last. -/
@[simp] theorem memRead_memWrite_same (m : List Host.Cell) (a : Nat) (v : Byte) (h : risingFrom 0 (m.map (·.1))) :
    memRead (memWrite m a v) a = v := by
  suffices H : ∀ b, risingFrom b (m.map (·.1)) → memRead (memWrite m a v) a = v from H 0 h
  clear h
  have zero : ∀ (r : List Host.Cell) b, a < b → risingFrom b (r.map (·.1)) → memRead r a = 0 := by
    intro r
    induction r with
    | nil => intros; rfl
    | cons e r ih =>
      intro b hb hr
      simp only [List.map_cons, risingFrom, Bool.and_eq_true, decide_eq_true_eq] at hr
      simp only [memRead]
      rw [if_neg (by omega)]
      exact ih (e.1 + 1) (by omega) hr.2
  induction m with
  | nil => intro b _; by_cases hv : v = 0#8 <;> simp [memWrite, memRead, hv]
  | cons e r ih =>
    intro b hr
    simp only [List.map_cons, risingFrom, Bool.and_eq_true, decide_eq_true_eq] at hr
    obtain ⟨j, w⟩ := e
    simp only [memWrite]
    by_cases h1 : j = a
    · rw [if_pos h1]
      by_cases hv : v = 0
      · rw [if_pos hv, hv]; exact zero r (j + 1) (by omega) hr.2
      · rw [if_neg hv]; simp [memRead]
    · rw [if_neg h1]
      by_cases h2 : a < j
      · rw [if_pos h2]
        by_cases hv : v = 0
        · rw [if_pos hv, hv]; simp only [memRead]; rw [if_neg h1]; exact zero r (j + 1) (by omega) hr.2
        · rw [if_neg hv]; simp [memRead]
      · rw [if_neg h2]
        simp only [memRead]; rw [if_neg h1]; exact ih _ hr.2

/-- A write leaves every other byte. -/
theorem memRead_memWrite_ne (m : List Host.Cell) {a b : Nat} (v : Byte) (h : b ≠ a) :
    memRead (memWrite m a v) b = memRead m b := by
  have h' : a ≠ b := fun e => h e.symm
  induction m with
  | nil => by_cases hv : v = 0#8 <;> simp [memWrite, memRead, hv, h']
  | cons e r ih =>
    obtain ⟨j, w⟩ := e
    simp only [memWrite]
    by_cases h1 : j = a
    · subst h1
      by_cases hv : v = 0#8 <;> simp [memRead, hv, h']
    · rw [if_neg h1]
      by_cases h2 : a < j
      · rw [if_pos h2]; by_cases hv : v = 0#8 <;> simp [memRead, hv, h']
      · rw [if_neg h2]; simp only [memRead, ih]

theorem risingFrom_mono {l : List Nat} {b c : Nat} (h : risingFrom b l) (hc : c ≤ b) : risingFrom c l := by
  cases l with
  | nil => rfl
  | cons k r =>
    simp only [risingFrom, Bool.and_eq_true, decide_eq_true_eq] at h ⊢
    exact ⟨by omega, h.2⟩

/-- A write keeps the addresses rising. -/
theorem memWrite_rising (m : List Host.Cell) (a : Nat) (v : Byte) (b : Nat) (hb : b ≤ a) (h : risingFrom b (m.map (·.1))) :
    risingFrom b ((memWrite m a v).map (·.1)) := by
  induction m generalizing b with
  | nil => by_cases hv : v = 0#8 <;> simp [memWrite, risingFrom, hv, hb]
  | cons e r ih =>
    obtain ⟨j, w⟩ := e
    simp only [List.map_cons, risingFrom, Bool.and_eq_true, decide_eq_true_eq] at h
    simp only [memWrite]
    by_cases h1 : j = a
    · rw [if_pos h1]
      by_cases hv : v = 0
      · rw [if_pos hv]; exact risingFrom_mono h.2 (by omega)
      · rw [if_neg hv]; simp [risingFrom, hb, h1 ▸ h.2]
    · rw [if_neg h1]
      by_cases h2 : a < j
      · rw [if_pos h2]
        by_cases hv : v = 0
        · rw [if_pos hv]; simp [risingFrom, h.1, h.2]
        · rw [if_neg hv]
          simp only [List.map_cons, risingFrom, Bool.and_eq_true, decide_eq_true_eq]
          exact ⟨hb, by omega, h.2⟩
      · rw [if_neg h2]
        simp only [List.map_cons, risingFrom, Bool.and_eq_true, decide_eq_true_eq]
        exact ⟨h.1, ih (j + 1) (by omega) h.2⟩

theorem memWrite_nonzero (m : List Host.Cell) (a : Nat) (v : Byte) (h : ∀ c ∈ m, c.2 ≠ 0) :
    ∀ c ∈ memWrite m a v, c.2 ≠ 0 := by
  induction m with
  | nil =>
    simp only [memWrite]
    split
    · exact h
    · rename_i hv
      intro c hc
      rw [List.mem_singleton] at hc; rw [hc]; exact hv
  | cons e r ih =>
    have hr : ∀ c ∈ r, c.2 ≠ 0 := fun c hc => h c (List.mem_cons_of_mem _ hc)
    simp only [memWrite]
    split
    · split
      · exact hr
      · rename_i hv
        intro c hc
        cases hc with
        | head => exact hv
        | tail _ hc => exact hr c hc
    · split
      · split
        · exact h
        · rename_i hv
          intro c hc
          cases hc with
          | head => exact hv
          | tail _ hc => exact h c hc
      · intro c hc
        cases hc with
        | head => exact h _ (List.mem_cons_self ..)
        | tail _ hc => exact ih hr c hc

theorem wf_iff (m : List Host.Cell) : Memory.wf m = true ↔ risingFrom 0 (m.map (·.1)) = true ∧ ∀ c ∈ m, c.2 ≠ 0 := by
  simp only [Memory.wf, Bool.and_eq_true, List.all_eq_true, bne_iff_ne]

/-- A write keeps the canonical form. -/
theorem memWrite_wf (m : List Host.Cell) (a : Nat) (v : Byte) (h : Memory.wf m) : Memory.wf (memWrite m a v) := by
  rw [wf_iff] at h ⊢
  exact ⟨memWrite_rising m a v 0 (Nat.zero_le a) h.1, memWrite_nonzero m a v h.2⟩

/-- Bytes written one after the other keep the canonical form. -/
theorem memWriteN_wf (bs : List Byte) (m : List Host.Cell) (a : Nat) (h : Memory.wf m) : Memory.wf (memWriteN m a bs) := by
  induction bs generalizing m a with
  | nil => exact h
  | cons b bs ih => exact ih _ _ (memWrite_wf m a b h)

/-- Bytes written leave every byte outside them. -/
theorem memRead_memWriteN_ne (bs : List Byte) (m : List Host.Cell) {a b : Nat} (h : b < a ∨ a + bs.length ≤ b) :
    memRead (memWriteN m a bs) b = memRead m b := by
  induction bs generalizing m a with
  | nil => rfl
  | cons x bs ih =>
    simp only [List.length_cons] at h
    simp only [memWriteN]
    rw [ih _ (by omega), memRead_memWrite_ne _ _ (by omega)]

end Sys2Proof.Machine
end

