-- ==== Sys2Proof/Laws/Settle.lean ====
section
/-! SUPPORT. What stands at the end of every command (`State.settle`) changes no more than what goes out: frames of the journal,
completion records, emergencies, event records and the divergence bits. A state without them is `State.quiet`. -/
namespace Sys2Proof.Machine
set_option Elab.async false
set_option linter.unusedSimpArgs false

theorem filter_tset {α : Type} (m : Table α) (k : Nat) (v : α) (p : Nat → Bool) (h : p k = false) :
    (tset m k v).filter (fun e => p e.1) = m.filter fun e => p e.1 := by
  induction m with
  | nil => simp [tset, h]
  | cons e r ih =>
    obtain ⟨j, w⟩ := e
    simp only [tset]
    split
    · next hj => simp [List.filter_cons, ← hj, hj ▸ h]
    · split
      · simp [List.filter_cons, h]
      · simp only [List.filter_cons, ih]

theorem map_tget_tset {α β : Type} (n : Nat) (m : Table α) (k : Nat) (v d : α) (f : α → β) (h : f v = f (tget m k d)) :
    ((List.range n).map fun c => (c, f (tget (tset m k v) c d))) = (List.range n).map fun c => (c, f (tget m c d)) := by
  refine List.map_congr_left fun c _ => ?_
  by_cases hc : c = k
  · rw [hc, tget_tset_same, h]
  · rw [tget_tset_ne m v d hc]

@[simp] theorem State.send_quiet (s : State) (o : Out) : (s.send o).quiet = s.quiet := rfl

theorem State.onNet_quiet (s : State) (f : NetSt → NetSt) (h : (f s.net).quiet = s.net.quiet) : (s.onNet f).quiet = s.quiet := by
  simp only [State.quiet, State.onNet, h]

theorem State.onLog_quiet (s : State) (f : RecorderSt → RecorderSt) (h : (f s.log).quiet = s.log.quiet) :
    (s.onLog f).quiet = s.quiet := by simp only [State.quiet, State.onLog, h]

theorem State.setCtrl_quiet (s : State) (c : Nat) (v : Ctrl) (h : v.quiet = (s.ctrl c).quiet) : (s.setCtrl c v).quiet = s.quiet := by
  refine State.onNet_quiet _ _ ?_
  simp only [NetSt.quiet, map_tget_tset 2 s.net.ctrls c v {} Ctrl.quiet h]

theorem State.setPort_quiet (s : State) (k : Nat) (v : Port) (h : v.quiet = (s.port k).quiet) : (s.setPort k v).quiet = s.quiet := by
  simp only [State.quiet, State.setPort, State.onLink, LinkSt.quiet, map_tget_tset 2 s.link.ports k v {} Port.quiet h]

theorem State.setQueue_quiet (s : State) (q : Nat) (v : Queue) (h : v.quiet = (s.queue q).quiet) :
    (s.setQueue q v).quiet = s.quiet := by
  simp only [State.quiet, State.setQueue, State.onComp, ComputeSt.quiet, map_tget_tset 16 s.comp.queues q v {} Queue.quiet h]

theorem State.setOd_quiet (s : State) (k v : Nat) (h : k = 0x290104 ∨ k = 0x290204) : (s.setObj k v).quiet = s.quiet := by
  have hp : (k != 0x290104 && k != 0x290204) = false := by rcases h with rfl | rfl <;> rfl
  simp only [State.quiet, State.setObj, State.setOd, filter_tset s.od k v (fun k => k != 0x290104 && k != 0x290204) hp]

/-! ### Event records and emergencies -/

theorem shave_quiet (l : RecorderSt) (r : EventRec) : (l.shave r).quiet = l.quiet := rfl

theorem stage_quiet (l : RecorderSt) (now : Nat) (r : EventRec) : (l.stage now r).1.quiet = l.quiet := by
  unfold RecorderSt.stage
  split
  · rfl
  · split <;> rfl

theorem State.noted_quiet (s : State) (code key : Nat) : (s.noted code key).quiet = s.quiet := State.onLog_quiet _ _ rfl

theorem State.stagingFull_quiet (s : State) : s.stagingFull.quiet = s.quiet := by
  simp only [State.stagingFull]
  split
  · refine (State.onLog_quiet _ _ ?_).trans (State.noted_quiet ..)
    split <;> rfl
  · rfl

theorem State.record_quiet (s : State) (code subj arg : Nat) : (s.record code subj arg).quiet = s.quiet := by
  have hl : ∀ r, (if s.shavingsOn then s.log.shave r else s.log).quiet = s.log.quiet := by intro r; split <;> rfl
  have h1 : ∀ r x, (s.onLog fun _ => ((if s.shavingsOn then s.log.shave r else s.log).stage s.now x).1).quiet = s.quiet :=
    fun r x => State.onLog_quiet _ _ ((stage_quiet _ _ _).trans (hl r))
  simp only [State.record]
  by_cases hf : toFaultLog (s.cfg 0x2C0001) code = true
  · rw [if_pos hf]
    by_cases hd : (((if s.shavingsOn = true then s.log.shave (s.eventRec code subj arg (toFaultLog (s.cfg 0x2C0001) code))
        else s.log).stage s.now (s.eventRec code subj arg (toFaultLog (s.cfg 0x2C0001) code))).2) = true
    · rw [if_pos hd]; exact (State.stagingFull_quiet _).trans (h1 _ _)
    · rw [if_neg hd]; exact h1 _ _
  · rw [if_neg hf]; exact State.onLog_quiet _ _ (hl _)

theorem State.startEmcy_quiet (s : State) (c : Nat) : (s.startEmcy c).quiet = s.quiet := by
  simp only [State.startEmcy]
  split
  · rfl
  · split <;> split <;> first | rfl | exact (State.send_quiet _ _).trans (State.setCtrl_quiet _ _ _ rfl)

theorem State.emcyTo_quiet (s : State) (c : Nat) (e : Emcy) : (s.emcyTo c e).quiet = s.quiet := by
  simp only [State.emcyTo]
  split
  · refine (State.startEmcy_quiet _ _).trans ?_
    split
    · exact (State.record_quiet ..).trans ((State.onNet_quiet _ _ rfl).trans (State.setCtrl_quiet _ _ _ rfl))
    · exact State.setCtrl_quiet _ _ _ rfl
  · rfl

theorem State.noteError_quiet (s : State) (eec code : Nat) : (s.noteError eec code).quiet = s.quiet := by
  simp only [State.noteError]
  split
  · rfl
  · exact State.onNet_quiet _ _ rfl

theorem State.emcy_quiet (s : State) (eec code arg : Nat) (trip : Bool) : (s.emcy eec code arg trip).quiet = s.quiet :=
  (State.emcyTo_quiet ..).trans ((State.emcyTo_quiet ..).trans (State.noteError_quiet ..))

theorem State.vector_quiet (s : State) (code : Nat) : (s.vector code).quiet = s.quiet := by
  unfold State.vector; split <;> rfl

theorem State.emitArg_quiet (s : State) (code subj arg e : Nat) (always : Bool) (eec : Nat) :
    (s.emitArg code subj arg e always eec).quiet = s.quiet := by
  simp only [State.emitArg]
  have h : ((s.record code subj arg).vector code).quiet = s.quiet := (State.vector_quiet _ _).trans (State.record_quiet ..)
  by_cases hc : (always || ((s.record code subj arg).vector code).masked code) = true
  · simp only [hc, if_true]; exact (State.emcy_quiet ..).trans h
  · simp only [hc]; exact h

/-- An event leaves the state without what goes out as it was. -/
theorem State.emit_quiet (s : State) (code subj arg : Nat) : (s.emit code subj arg).quiet = s.quiet := State.emitArg_quiet ..

theorem State.emitLimited_quiet (s : State) (i code subj arg key : Nat) : (s.emitLimited i code subj arg key).quiet = s.quiet := by
  simp only [State.emitLimited]
  split
  · exact (State.emit_quiet ..).trans (State.noted_quiet ..)
  · rfl

/-! ### Fences, frames and the journal -/

theorem State.postCompletion_quiet (s : State) (q a b c d e f : Nat) : (s.postCompletion q a b c d e f).quiet = s.quiet :=
  (State.send_quiet ..).trans ((State.send_quiet ..).trans (State.setQueue_quiet _ _ _ rfl))

theorem State.liftFence_quiet (s : State) (q : Nat) : (s.liftFence q).quiet = s.quiet := by
  simp only [State.liftFence]
  split
  · rfl
  · split
    · split
      · exact (State.postCompletion_quiet ..).trans (State.setQueue_quiet _ _ _ rfl)
      · exact State.setQueue_quiet _ _ _ rfl
    · rfl

theorem quiet_foldl {α : Type} {f : State → α → State} (hf : ∀ s x, (f s x).quiet = s.quiet) (l : List α) (s : State) :
    (l.foldl f s).quiet = s.quiet := by
  induction l generalizing s with
  | nil => rfl
  | cons x r ih => exact (ih _).trans (hf s x)

theorem State.settleFences_quiet (s : State) : s.settleFences.quiet = s.quiet := quiet_foldl State.liftFence_quiet _ _

theorem State.transmit_quiet (s : State) (k : Nat) (f : LinkFrame) (hk : k ≤ 1) : (s.transmit k f).quiet = s.quiet := by
  refine (State.send_quiet ..).trans ((State.setOd_quiet _ _ _ ?_).trans (State.setPort_quiet _ _ _ rfl))
  have h : k = 0 ∨ k = 1 := by omega
  rcases h with rfl | rfl
  · exact .inl rfl
  · exact .inr rfl

theorem State.pumpPort_quiet (s : State) (k n : Nat) (hk : k ≤ 1) : (s.pumpPort k n).quiet = s.quiet := by
  induction n generalizing s with
  | zero => rfl
  | succ n ih =>
    simp only [State.pumpPort]
    split
    · split
      · exact (ih _).trans (State.transmit_quiet _ _ _ hk)
      · rfl
    · rfl

theorem State.route_le (s : State) (dst : Nat) : s.route dst ≤ 1 := by
  simp only [State.route]
  split
  · omega
  · split <;> omega

theorem State.sendFrame_quiet (s : State) (i : FrameInfo) (bs : List Byte) : (s.sendFrame i bs).quiet = s.quiet :=
  (State.pumpPort_quiet _ _ _ (State.route_le ..)).trans (State.setPort_quiet _ _ _ rfl)

theorem State.sendJournalFrame_quiet (s : State) : s.sendJournalFrame.quiet = s.quiet :=
  (State.sendFrame_quiet ..).trans rfl

theorem State.sendJournal_quiet (s : State) (n : Nat) : (s.sendJournal n).quiet = s.quiet := by
  induction n generalizing s with
  | zero => rfl
  | succ n ih =>
    simp only [State.sendJournal]
    split
    · exact (ih _).trans (State.sendJournalFrame_quiet _)
    · rfl

theorem State.settleErrors_quiet (s : State) : s.settleErrors.quiet = s.quiet := by
  simp only [State.settleErrors]
  have h : (s.onNet fun n => { n with errReg := s.errorRegister }).quiet = s.quiet := State.onNet_quiet _ _ rfl
  split
  · exact (State.emcy_quiet ..).trans h
  · exact h

theorem State.settleDivergence_quiet (s : State) : s.settleDivergence.quiet = s.quiet := by
  simp only [State.settleDivergence]
  exact (quiet_foldl (fun s _ => State.emit_quiet s ..) _ _).trans rfl

/-- The end of a command changes no more than what goes out. -/
theorem State.settle_quiet (s : State) : s.settle.quiet = s.quiet :=
  (State.settleDivergence_quiet _).trans ((State.settleErrors_quiet _).trans
    ((State.sendJournal_quiet _ _).trans (State.settleFences_quiet _)))

/-! ### What the end of a command keeps -/

theorem quiet_now {s s' : State} (h : s'.quiet = s.quiet) : s'.now = s.now := by
  have h := congrArg (fun x : State => x.now) h; exact h
@[simp] theorem State.settle_now (s : State) : s.settle.now = s.now := quiet_now s.settle_quiet
theorem quiet_free {s s' : State} (h : s'.quiet = s.quiet) : s'.free = s.free := by
  have h := congrArg (fun x : State => x.free) h; exact h
@[simp] theorem State.settle_free (s : State) : s.settle.free = s.free := quiet_free s.settle_quiet
theorem quiet_inForce {s s' : State} (h : s'.quiet = s.quiet) : s'.inForce = s.inForce := by
  have h := congrArg (fun x : State => x.inForce) h; exact h
@[simp] theorem State.settle_inForce (s : State) : s.settle.inForce = s.inForce := quiet_inForce s.settle_quiet
theorem quiet_actual {s s' : State} (h : s'.quiet = s.quiet) : s'.actual = s.actual := by
  have h := congrArg (fun x : State => x.actual) h; exact h
@[simp] theorem State.settle_actual (s : State) : s.settle.actual = s.actual := quiet_actual s.settle_quiet
theorem quiet_time {s s' : State} (h : s'.quiet = s.quiet) : s'.time = s.time := by
  have h := congrArg (fun x : State => x.time) h; exact h
@[simp] theorem State.settle_time (s : State) : s.settle.time = s.time := quiet_time s.settle_quiet
theorem quiet_ptp {s s' : State} (h : s'.quiet = s.quiet) : s'.ptp = s.ptp := by
  have h := congrArg (fun x : State => x.ptp) h; exact h
@[simp] theorem State.settle_ptp (s : State) : s.settle.ptp = s.ptp := quiet_ptp s.settle_quiet
theorem quiet_tick {s s' : State} (h : s'.quiet = s.quiet) : s'.tick = s.tick := by
  have h := congrArg (fun x : State => x.tick) h; exact h
@[simp] theorem State.settle_tick (s : State) : s.settle.tick = s.tick := quiet_tick s.settle_quiet
theorem quiet_head {s s' : State} (h : s'.quiet = s.quiet) : s'.head = s.head := by
  have h := congrArg (fun x : State => x.head) h; exact h
@[simp] theorem State.settle_head (s : State) : s.settle.head = s.head := quiet_head s.settle_quiet
theorem quiet_streams {s s' : State} (h : s'.quiet = s.quiet) : s'.streams = s.streams := by
  have h := congrArg (fun x : State => x.streams) h; exact h
@[simp] theorem State.settle_streams (s : State) : s.settle.streams = s.streams := quiet_streams s.settle_quiet
theorem quiet_alarm {s s' : State} (h : s'.quiet = s.quiet) : s'.alarm = s.alarm := by
  have h := congrArg (fun x : State => x.alarm) h; exact h
@[simp] theorem State.settle_alarm (s : State) : s.settle.alarm = s.alarm := quiet_alarm s.settle_quiet
theorem quiet_codec {s s' : State} (h : s'.quiet = s.quiet) : s'.codec = s.codec := by
  have h := congrArg (fun x : State => x.codec) h; exact h
@[simp] theorem State.settle_codec (s : State) : s.settle.codec = s.codec := quiet_codec s.settle_quiet
theorem quiet_noise {s s' : State} (h : s'.quiet = s.quiet) : s'.noise = s.noise := by
  have h := congrArg (fun x : State => x.noise) h; exact h
@[simp] theorem State.settle_noise (s : State) : s.settle.noise = s.noise := quiet_noise s.settle_quiet
theorem quiet_xfer {s s' : State} (h : s'.quiet = s.quiet) : s'.xfer = s.xfer := by
  have h := congrArg (fun x : State => x.xfer) h; exact h
@[simp] theorem State.settle_xfer (s : State) : s.settle.xfer = s.xfer := quiet_xfer s.settle_quiet
theorem quiet_power {s s' : State} (h : s'.quiet = s.quiet) : s'.power = s.power := by
  have h := congrArg (fun x : State => x.power) h; exact h
@[simp] theorem State.settle_power (s : State) : s.settle.power = s.power := quiet_power s.settle_quiet
theorem quiet_health {s s' : State} (h : s'.quiet = s.quiet) : s'.health = s.health := by
  have h := congrArg (fun x : State => x.health) h; exact h
@[simp] theorem State.settle_health (s : State) : s.settle.health = s.health := quiet_health s.settle_quiet
theorem quiet_boot {s s' : State} (h : s'.quiet = s.quiet) : s'.boot = s.boot := by
  have h := congrArg (fun x : State => x.boot) h; exact h
@[simp] theorem State.settle_boot (s : State) : s.settle.boot = s.boot := quiet_boot s.settle_quiet
theorem quiet_sram {s s' : State} (h : s'.quiet = s.quiet) : s'.sram = s.sram := by
  have h := congrArg (fun x : State => x.sram) h; exact h
@[simp] theorem State.settle_sram (s : State) : s.settle.sram = s.sram := quiet_sram s.settle_quiet
theorem quiet_dram {s s' : State} (h : s'.quiet = s.quiet) : s'.dram = s.dram := by
  have h := congrArg (fun x : State => x.dram) h; exact h
@[simp] theorem State.settle_dram (s : State) : s.settle.dram = s.dram := quiet_dram s.settle_quiet
theorem quiet_pending {s s' : State} (h : s'.quiet = s.quiet) : s'.pending = s.pending := by
  have h := congrArg (fun x : State => x.pending) h; exact h
@[simp] theorem State.settle_pending (s : State) : s.settle.pending = s.pending := quiet_pending s.settle_quiet
theorem quiet_net_nmt {s s' : State} (h : s'.quiet = s.quiet) : s'.net.nmt = s.net.nmt := by
  have h := congrArg (fun x : State => x.net.nmt) h; exact h
@[simp] theorem State.settle_net_nmt (s : State) : s.settle.net.nmt = s.net.nmt := quiet_net_nmt s.settle_quiet
theorem quiet_net_emcySent {s s' : State} (h : s'.quiet = s.quiet) : s'.net.emcySent = s.net.emcySent := by
  have h := congrArg (fun x : State => x.net.emcySent) h; exact h
@[simp] theorem State.settle_net_emcySent (s : State) : s.settle.net.emcySent = s.net.emcySent := quiet_net_emcySent s.settle_quiet
theorem quiet_net_partners {s s' : State} (h : s'.quiet = s.quiet) : s'.net.partners = s.net.partners := by
  have h := congrArg (fun x : State => x.net.partners) h; exact h
@[simp] theorem State.settle_net_partners (s : State) : s.settle.net.partners = s.net.partners := quiet_net_partners s.settle_quiet
theorem quiet_net_strangers {s s' : State} (h : s'.quiet = s.quiet) : s'.net.strangers = s.net.strangers := by
  have h := congrArg (fun x : State => x.net.strangers) h; exact h
@[simp] theorem State.settle_net_strangers (s : State) : s.settle.net.strangers = s.net.strangers := quiet_net_strangers s.settle_quiet
theorem quiet_net_records {s s' : State} (h : s'.quiet = s.quiet) : s'.net.records = s.net.records := by
  have h := congrArg (fun x : State => x.net.records) h; exact h
@[simp] theorem State.settle_net_records (s : State) : s.settle.net.records = s.net.records := quiet_net_records s.settle_quiet
theorem quiet_net_plcaOk {s s' : State} (h : s'.quiet = s.quiet) : s'.net.plcaOk = s.net.plcaOk := by
  have h := congrArg (fun x : State => x.net.plcaOk) h; exact h
@[simp] theorem State.settle_net_plcaOk (s : State) : s.settle.net.plcaOk = s.net.plcaOk := quiet_net_plcaOk s.settle_quiet
theorem quiet_net_plcaErrs {s s' : State} (h : s'.quiet = s.quiet) : s'.net.plcaErrs = s.net.plcaErrs := by
  have h := congrArg (fun x : State => x.net.plcaErrs) h; exact h
@[simp] theorem State.settle_net_plcaErrs (s : State) : s.settle.net.plcaErrs = s.net.plcaErrs := quiet_net_plcaErrs s.settle_quiet
theorem quiet_net_carriers {s s' : State} (h : s'.quiet = s.quiet) : s'.net.carriers = s.net.carriers := by
  have h := congrArg (fun x : State => x.net.carriers) h; exact h
@[simp] theorem State.settle_net_carriers (s : State) : s.settle.net.carriers = s.net.carriers := quiet_net_carriers s.settle_quiet
theorem quiet_net_collisions {s s' : State} (h : s'.quiet = s.quiet) : s'.net.collisions = s.net.collisions := by
  have h := congrArg (fun x : State => x.net.collisions) h; exact h
@[simp] theorem State.settle_net_collisions (s : State) : s.settle.net.collisions = s.net.collisions := quiet_net_collisions s.settle_quiet
theorem quiet_net_txStopped {s s' : State} (h : s'.quiet = s.quiet) : s'.net.txStopped = s.net.txStopped := by
  have h := congrArg (fun x : State => x.net.txStopped) h; exact h
@[simp] theorem State.settle_net_txStopped (s : State) : s.settle.net.txStopped = s.net.txStopped := quiet_net_txStopped s.settle_quiet
theorem quiet_net_broadcasts {s s' : State} (h : s'.quiet = s.quiet) : s'.net.broadcasts = s.net.broadcasts := by
  have h := congrArg (fun x : State => x.net.broadcasts) h; exact h
@[simp] theorem State.settle_net_broadcasts (s : State) : s.settle.net.broadcasts = s.net.broadcasts := quiet_net_broadcasts s.settle_quiet
theorem quiet_net_tpdoSeq {s s' : State} (h : s'.quiet = s.quiet) : s'.net.tpdoSeq = s.net.tpdoSeq := by
  have h := congrArg (fun x : State => x.net.tpdoSeq) h; exact h
@[simp] theorem State.settle_net_tpdoSeq (s : State) : s.settle.net.tpdoSeq = s.net.tpdoSeq := quiet_net_tpdoSeq s.settle_quiet
theorem quiet_net_tpdoAt {s s' : State} (h : s'.quiet = s.quiet) : s'.net.tpdoAt = s.net.tpdoAt := by
  have h := congrArg (fun x : State => x.net.tpdoAt) h; exact h
@[simp] theorem State.settle_net_tpdoAt (s : State) : s.settle.net.tpdoAt = s.net.tpdoAt := quiet_net_tpdoAt s.settle_quiet
theorem quiet_net_tpdoData {s s' : State} (h : s'.quiet = s.quiet) : s'.net.tpdoData = s.net.tpdoData := by
  have h := congrArg (fun x : State => x.net.tpdoData) h; exact h
@[simp] theorem State.settle_net_tpdoData (s : State) : s.settle.net.tpdoData = s.net.tpdoData := quiet_net_tpdoData s.settle_quiet
theorem quiet_net_tpdoWait {s s' : State} (h : s'.quiet = s.quiet) : s'.net.tpdoWait = s.net.tpdoWait := by
  have h := congrArg (fun x : State => x.net.tpdoWait) h; exact h
@[simp] theorem State.settle_net_tpdoWait (s : State) : s.settle.net.tpdoWait = s.net.tpdoWait := quiet_net_tpdoWait s.settle_quiet
theorem quiet_net_reportSeq {s s' : State} (h : s'.quiet = s.quiet) : s'.net.reportSeq = s.net.reportSeq := by
  have h := congrArg (fun x : State => x.net.reportSeq) h; exact h
@[simp] theorem State.settle_net_reportSeq (s : State) : s.settle.net.reportSeq = s.net.reportSeq := quiet_net_reportSeq s.settle_quiet
theorem quiet_net_syncs {s s' : State} (h : s'.quiet = s.quiet) : s'.net.syncs = s.net.syncs := by
  have h := congrArg (fun x : State => x.net.syncs) h; exact h
@[simp] theorem State.settle_net_syncs (s : State) : s.settle.net.syncs = s.net.syncs := quiet_net_syncs s.settle_quiet
theorem quiet_net_watchFrames {s s' : State} (h : s'.quiet = s.quiet) : s'.net.watchFrames = s.net.watchFrames := by
  have h := congrArg (fun x : State => x.net.watchFrames) h; exact h
@[simp] theorem State.settle_net_watchFrames (s : State) : s.settle.net.watchFrames = s.net.watchFrames := quiet_net_watchFrames s.settle_quiet
theorem quiet_net_rtcp {s s' : State} (h : s'.quiet = s.quiet) : s'.net.rtcp = s.net.rtcp := by
  have h := congrArg (fun x : State => x.net.rtcp) h; exact h
@[simp] theorem State.settle_net_rtcp (s : State) : s.settle.net.rtcp = s.net.rtcp := quiet_net_rtcp s.settle_quiet
theorem quiet_link_id {s s' : State} (h : s'.quiet = s.quiet) : s'.link.id = s.link.id := by
  have h := congrArg (fun x : State => x.link.id) h; exact h
@[simp] theorem State.settle_link_id (s : State) : s.settle.link.id = s.link.id := quiet_link_id s.settle_quiet
theorem quiet_link_group {s s' : State} (h : s'.quiet = s.quiet) : s'.link.group = s.link.group := by
  have h := congrArg (fun x : State => x.link.group) h; exact h
@[simp] theorem State.settle_link_group (s : State) : s.settle.link.group = s.link.group := quiet_link_group s.settle_quiet
theorem quiet_link_topology {s s' : State} (h : s'.quiet = s.quiet) : s'.link.topology = s.link.topology := by
  have h := congrArg (fun x : State => x.link.topology) h; exact h
@[simp] theorem State.settle_link_topology (s : State) : s.settle.link.topology = s.link.topology := quiet_link_topology s.settle_quiet
theorem quiet_link_windows {s s' : State} (h : s'.quiet = s.quiet) : s'.link.windows = s.link.windows := by
  have h := congrArg (fun x : State => x.link.windows) h; exact h
@[simp] theorem State.settle_link_windows (s : State) : s.settle.link.windows = s.link.windows := quiet_link_windows s.settle_quiet
theorem quiet_link_complete {s s' : State} (h : s'.quiet = s.quiet) : s'.link.complete = s.link.complete := by
  have h := congrArg (fun x : State => x.link.complete) h; exact h
@[simp] theorem State.settle_link_complete (s : State) : s.settle.link.complete = s.link.complete := quiet_link_complete s.settle_quiet
theorem quiet_link_peers {s s' : State} (h : s'.quiet = s.quiet) : s'.link.peers = s.link.peers := by
  have h := congrArg (fun x : State => x.link.peers) h; exact h
@[simp] theorem State.settle_link_peers (s : State) : s.settle.link.peers = s.link.peers := quiet_link_peers s.settle_quiet
theorem quiet_link_hbAt {s s' : State} (h : s'.quiet = s.quiet) : s'.link.hbAt = s.link.hbAt := by
  have h := congrArg (fun x : State => x.link.hbAt) h; exact h
@[simp] theorem State.settle_link_hbAt (s : State) : s.settle.link.hbAt = s.link.hbAt := quiet_link_hbAt s.settle_quiet
theorem quiet_link_hbCount {s s' : State} (h : s'.quiet = s.quiet) : s'.link.hbCount = s.link.hbCount := by
  have h := congrArg (fun x : State => x.link.hbCount) h; exact h
@[simp] theorem State.settle_link_hbCount (s : State) : s.settle.link.hbCount = s.link.hbCount := quiet_link_hbCount s.settle_quiet
theorem quiet_link_roleRepeat {s s' : State} (h : s'.quiet = s.quiet) : s'.link.roleRepeat = s.link.roleRepeat := by
  have h := congrArg (fun x : State => x.link.roleRepeat) h; exact h
@[simp] theorem State.settle_link_roleRepeat (s : State) : s.settle.link.roleRepeat = s.link.roleRepeat := quiet_link_roleRepeat s.settle_quiet
theorem quiet_link_roleReason {s s' : State} (h : s'.quiet = s.quiet) : s'.link.roleReason = s.link.roleReason := by
  have h := congrArg (fun x : State => x.link.roleReason) h; exact h
@[simp] theorem State.settle_link_roleReason (s : State) : s.settle.link.roleReason = s.link.roleReason := quiet_link_roleReason s.settle_quiet
theorem quiet_link_tags {s s' : State} (h : s'.quiet = s.quiet) : s'.link.tags = s.link.tags := by
  have h := congrArg (fun x : State => x.link.tags) h; exact h
@[simp] theorem State.settle_link_tags (s : State) : s.settle.link.tags = s.link.tags := quiet_link_tags s.settle_quiet
theorem quiet_comp_channels {s s' : State} (h : s'.quiet = s.quiet) : s'.comp.channels = s.comp.channels := by
  have h := congrArg (fun x : State => x.comp.channels) h; exact h
@[simp] theorem State.settle_comp_channels (s : State) : s.settle.comp.channels = s.comp.channels := quiet_comp_channels s.settle_quiet
theorem quiet_comp_slots {s s' : State} (h : s'.quiet = s.quiet) : s'.comp.slots = s.comp.slots := by
  have h := congrArg (fun x : State => x.comp.slots) h; exact h
@[simp] theorem State.settle_comp_slots (s : State) : s.settle.comp.slots = s.comp.slots := quiet_comp_slots s.settle_quiet
theorem quiet_comp_bad {s s' : State} (h : s'.quiet = s.quiet) : s'.comp.bad = s.comp.bad := by
  have h := congrArg (fun x : State => x.comp.bad) h; exact h
@[simp] theorem State.settle_comp_bad (s : State) : s.settle.comp.bad = s.comp.bad := quiet_comp_bad s.settle_quiet
theorem quiet_log_flushes {s s' : State} (h : s'.quiet = s.quiet) : s'.log.flushes = s.log.flushes := by
  have h := congrArg (fun x : State => x.log.flushes) h; exact h
@[simp] theorem State.settle_log_flushes (s : State) : s.settle.log.flushes = s.log.flushes := quiet_log_flushes s.settle_quiet
theorem quiet_log_programErrors {s s' : State} (h : s'.quiet = s.quiet) : s'.log.programErrors = s.log.programErrors := by
  have h := congrArg (fun x : State => x.log.programErrors) h; exact h
@[simp] theorem State.settle_log_programErrors (s : State) : s.settle.log.programErrors = s.log.programErrors := quiet_log_programErrors s.settle_quiet
theorem quiet_log_wrapped {s s' : State} (h : s'.quiet = s.quiet) : s'.log.wrapped = s.log.wrapped := by
  have h := congrArg (fun x : State => x.log.wrapped) h; exact h
@[simp] theorem State.settle_log_wrapped (s : State) : s.settle.log.wrapped = s.log.wrapped := quiet_log_wrapped s.settle_quiet
theorem quiet_log_pfFlushes {s s' : State} (h : s'.quiet = s.quiet) : s'.log.pfFlushes = s.log.pfFlushes := by
  have h := congrArg (fun x : State => x.log.pfFlushes) h; exact h
@[simp] theorem State.settle_log_pfFlushes (s : State) : s.settle.log.pfFlushes = s.log.pfFlushes := quiet_log_pfFlushes s.settle_quiet
theorem quiet_log_firstLife {s s' : State} (h : s'.quiet = s.quiet) : s'.log.firstLife = s.log.firstLife := by
  have h := congrArg (fun x : State => x.log.firstLife) h; exact h
@[simp] theorem State.settle_log_firstLife (s : State) : s.settle.log.firstLife = s.log.firstLife := quiet_log_firstLife s.settle_quiet
theorem quiet_log_firstRetired {s s' : State} (h : s'.quiet = s.quiet) : s'.log.firstRetired = s.log.firstRetired := by
  have h := congrArg (fun x : State => x.log.firstRetired) h; exact h
@[simp] theorem State.settle_log_firstRetired (s : State) : s.settle.log.firstRetired = s.log.firstRetired := quiet_log_firstRetired s.settle_quiet
theorem quiet_log_ring {s s' : State} (h : s'.quiet = s.quiet) : s'.log.ring = s.log.ring := by
  have h := congrArg (fun x : State => x.log.ring) h; exact h
@[simp] theorem State.settle_log_ring (s : State) : s.settle.log.ring = s.log.ring := quiet_log_ring s.settle_quiet
theorem quiet_log_retired {s s' : State} (h : s'.quiet = s.quiet) : s'.log.retired = s.log.retired := by
  have h := congrArg (fun x : State => x.log.retired) h; exact h
@[simp] theorem State.settle_log_retired (s : State) : s.settle.log.retired = s.log.retired := quiet_log_retired s.settle_quiet
theorem quiet_log_frozen {s s' : State} (h : s'.quiet = s.quiet) : s'.log.frozen = s.log.frozen := by
  have h := congrArg (fun x : State => x.log.frozen) h; exact h
@[simp] theorem State.settle_log_frozen (s : State) : s.settle.log.frozen = s.log.frozen := quiet_log_frozen s.settle_quiet
theorem quiet_log_frozenDev {s s' : State} (h : s'.quiet = s.quiet) : s'.log.frozenDev = s.log.frozenDev := by
  have h := congrArg (fun x : State => x.log.frozenDev) h; exact h
@[simp] theorem State.settle_log_frozenDev (s : State) : s.settle.log.frozenDev = s.log.frozenDev := quiet_log_frozenDev s.settle_quiet
theorem quiet_log_pfail {s s' : State} (h : s'.quiet = s.quiet) : s'.log.pfail = s.log.pfail := by
  have h := congrArg (fun x : State => x.log.pfail) h; exact h
@[simp] theorem State.settle_log_pfail (s : State) : s.settle.log.pfail = s.log.pfail := quiet_log_pfail s.settle_quiet
theorem quiet_log_pfHighAt {s s' : State} (h : s'.quiet = s.quiet) : s'.log.pfHighAt = s.log.pfHighAt := by
  have h := congrArg (fun x : State => x.log.pfHighAt) h; exact h
@[simp] theorem State.settle_log_pfHighAt (s : State) : s.settle.log.pfHighAt = s.log.pfHighAt := quiet_log_pfHighAt s.settle_quiet
theorem quiet_red_config {s s' : State} (h : s'.quiet = s.quiet) : s'.red.config = s.red.config := by
  have h := congrArg (fun x : State => x.red.config) h; exact h
@[simp] theorem State.settle_red_config (s : State) : s.settle.red.config = s.red.config := quiet_red_config s.settle_quiet
theorem quiet_red_role {s s' : State} (h : s'.quiet = s.quiet) : s'.red.role = s.red.role := by
  have h := congrArg (fun x : State => x.red.role) h; exact h
@[simp] theorem State.settle_red_role (s : State) : s.settle.red.role = s.red.role := quiet_red_role s.settle_quiet
theorem quiet_red_since {s s' : State} (h : s'.quiet = s.quiet) : s'.red.since = s.red.since := by
  have h := congrArg (fun x : State => x.red.since) h; exact h
@[simp] theorem State.settle_red_since (s : State) : s.settle.red.since = s.red.since := quiet_red_since s.settle_quiet
theorem quiet_red_roleOut {s s' : State} (h : s'.quiet = s.quiet) : s'.red.roleOut = s.red.roleOut := by
  have h := congrArg (fun x : State => x.red.roleOut) h; exact h
@[simp] theorem State.settle_red_roleOut (s : State) : s.settle.red.roleOut = s.red.roleOut := quiet_red_roleOut s.settle_quiet
theorem quiet_red_roleOutAt {s s' : State} (h : s'.quiet = s.quiet) : s'.red.roleOutAt = s.red.roleOutAt := by
  have h := congrArg (fun x : State => x.red.roleOutAt) h; exact h
@[simp] theorem State.settle_red_roleOutAt (s : State) : s.settle.red.roleOutAt = s.red.roleOutAt := quiet_red_roleOutAt s.settle_quiet
theorem quiet_red_peerIn {s s' : State} (h : s'.quiet = s.quiet) : s'.red.peerIn = s.red.peerIn := by
  have h := congrArg (fun x : State => x.red.peerIn) h; exact h
@[simp] theorem State.settle_red_peerIn (s : State) : s.settle.red.peerIn = s.red.peerIn := quiet_red_peerIn s.settle_quiet
theorem quiet_red_peerInAt {s s' : State} (h : s'.quiet = s.quiet) : s'.red.peerInAt = s.red.peerInAt := by
  have h := congrArg (fun x : State => x.red.peerInAt) h; exact h
@[simp] theorem State.settle_red_peerInAt (s : State) : s.settle.red.peerInAt = s.red.peerInAt := quiet_red_peerInAt s.settle_quiet
theorem quiet_red_gate {s s' : State} (h : s'.quiet = s.quiet) : s'.red.gate = s.red.gate := by
  have h := congrArg (fun x : State => x.red.gate) h; exact h
@[simp] theorem State.settle_red_gate (s : State) : s.settle.red.gate = s.red.gate := quiet_red_gate s.settle_quiet
theorem quiet_red_keeperRuns {s s' : State} (h : s'.quiet = s.quiet) : s'.red.keeperRuns = s.red.keeperRuns := by
  have h := congrArg (fun x : State => x.red.keeperRuns) h; exact h
@[simp] theorem State.settle_red_keeperRuns (s : State) : s.settle.red.keeperRuns = s.red.keeperRuns := quiet_red_keeperRuns s.settle_quiet
theorem quiet_red_keeperAt {s s' : State} (h : s'.quiet = s.quiet) : s'.red.keeperAt = s.red.keeperAt := by
  have h := congrArg (fun x : State => x.red.keeperAt) h; exact h
@[simp] theorem State.settle_red_keeperAt (s : State) : s.settle.red.keeperAt = s.red.keeperAt := quiet_red_keeperAt s.settle_quiet
theorem quiet_red_lapsed {s s' : State} (h : s'.quiet = s.quiet) : s'.red.lapsed = s.red.lapsed := by
  have h := congrArg (fun x : State => x.red.lapsed) h; exact h
@[simp] theorem State.settle_red_lapsed (s : State) : s.settle.red.lapsed = s.red.lapsed := quiet_red_lapsed s.settle_quiet
theorem quiet_red_entered {s s' : State} (h : s'.quiet = s.quiet) : s'.red.entered = s.red.entered := by
  have h := congrArg (fun x : State => x.red.entered) h; exact h
@[simp] theorem State.settle_red_entered (s : State) : s.settle.red.entered = s.red.entered := quiet_red_entered s.settle_quiet
theorem quiet_red_row {s s' : State} (h : s'.quiet = s.quiet) : s'.red.row = s.red.row := by
  have h := congrArg (fun x : State => x.red.row) h; exact h
@[simp] theorem State.settle_red_row (s : State) : s.settle.red.row = s.red.row := quiet_red_row s.settle_quiet
theorem quiet_red_rowAt {s s' : State} (h : s'.quiet = s.quiet) : s'.red.rowAt = s.red.rowAt := by
  have h := congrArg (fun x : State => x.red.rowAt) h; exact h
@[simp] theorem State.settle_red_rowAt (s : State) : s.settle.red.rowAt = s.red.rowAt := quiet_red_rowAt s.settle_quiet
theorem quiet_red_agreeAt {s s' : State} (h : s'.quiet = s.quiet) : s'.red.agreeAt = s.red.agreeAt := by
  have h := congrArg (fun x : State => x.red.agreeAt) h; exact h
@[simp] theorem State.settle_red_agreeAt (s : State) : s.settle.red.agreeAt = s.red.agreeAt := quiet_red_agreeAt s.settle_quiet
theorem quiet_red_issued {s s' : State} (h : s'.quiet = s.quiet) : s'.red.issued = s.red.issued := by
  have h := congrArg (fun x : State => x.red.issued) h; exact h
@[simp] theorem State.settle_red_issued (s : State) : s.settle.red.issued = s.red.issued := quiet_red_issued s.settle_quiet
theorem quiet_red_got {s s' : State} (h : s'.quiet = s.quiet) : s'.red.got = s.red.got := by
  have h := congrArg (fun x : State => x.red.got) h; exact h
@[simp] theorem State.settle_red_got (s : State) : s.settle.red.got = s.red.got := quiet_red_got s.settle_quiet
theorem quiet_red_applied {s s' : State} (h : s'.quiet = s.quiet) : s'.red.applied = s.red.applied := by
  have h := congrArg (fun x : State => x.red.applied) h; exact h
@[simp] theorem State.settle_red_applied (s : State) : s.settle.red.applied = s.red.applied := quiet_red_applied s.settle_quiet
theorem quiet_red_gap {s s' : State} (h : s'.quiet = s.quiet) : s'.red.gap = s.red.gap := by
  have h := congrArg (fun x : State => x.red.gap) h; exact h
@[simp] theorem State.settle_red_gap (s : State) : s.settle.red.gap = s.red.gap := quiet_red_gap s.settle_quiet
theorem quiet_red_area {s s' : State} (h : s'.quiet = s.quiet) : s'.red.area = s.red.area := by
  have h := congrArg (fun x : State => x.red.area) h; exact h
@[simp] theorem State.settle_red_area (s : State) : s.settle.red.area = s.red.area := quiet_red_area s.settle_quiet
theorem quiet_red_areaTick {s s' : State} (h : s'.quiet = s.quiet) : s'.red.areaTick = s.red.areaTick := by
  have h := congrArg (fun x : State => x.red.areaTick) h; exact h
@[simp] theorem State.settle_red_areaTick (s : State) : s.settle.red.areaTick = s.red.areaTick := quiet_red_areaTick s.settle_quiet
theorem quiet_red_areaJseq {s s' : State} (h : s'.quiet = s.quiet) : s'.red.areaJseq = s.red.areaJseq := by
  have h := congrArg (fun x : State => x.red.areaJseq) h; exact h
@[simp] theorem State.settle_red_areaJseq (s : State) : s.settle.red.areaJseq = s.red.areaJseq := quiet_red_areaJseq s.settle_quiet
theorem quiet_red_areaAt {s s' : State} (h : s'.quiet = s.quiet) : s'.red.areaAt = s.red.areaAt := by
  have h := congrArg (fun x : State => x.red.areaAt) h; exact h
@[simp] theorem State.settle_red_areaAt (s : State) : s.settle.red.areaAt = s.red.areaAt := quiet_red_areaAt s.settle_quiet
theorem quiet_red_captured {s s' : State} (h : s'.quiet = s.quiet) : s'.red.captured = s.red.captured := by
  have h := congrArg (fun x : State => x.red.captured) h; exact h
@[simp] theorem State.settle_red_captured (s : State) : s.settle.red.captured = s.red.captured := quiet_red_captured s.settle_quiet
theorem quiet_red_capturedAt {s s' : State} (h : s'.quiet = s.quiet) : s'.red.capturedAt = s.red.capturedAt := by
  have h := congrArg (fun x : State => x.red.capturedAt) h; exact h
@[simp] theorem State.settle_red_capturedAt (s : State) : s.settle.red.capturedAt = s.red.capturedAt := quiet_red_capturedAt s.settle_quiet
theorem quiet_red_open_ {s s' : State} (h : s'.quiet = s.quiet) : s'.red.open_ = s.red.open_ := by
  have h := congrArg (fun x : State => x.red.open_) h; exact h
@[simp] theorem State.settle_red_open_ (s : State) : s.settle.red.open_ = s.red.open_ := quiet_red_open_ s.settle_quiet
theorem quiet_red_highest {s s' : State} (h : s'.quiet = s.quiet) : s'.red.highest = s.red.highest := by
  have h := congrArg (fun x : State => x.red.highest) h; exact h
@[simp] theorem State.settle_red_highest (s : State) : s.settle.red.highest = s.red.highest := quiet_red_highest s.settle_quiet
theorem quiet_red_partialSegs {s s' : State} (h : s'.quiet = s.quiet) : s'.red.partialSegs = s.red.partialSegs := by
  have h := congrArg (fun x : State => x.red.partialSegs) h; exact h
@[simp] theorem State.settle_red_partialSegs (s : State) : s.settle.red.partialSegs = s.red.partialSegs := quiet_red_partialSegs s.settle_quiet
theorem quiet_red_committed {s s' : State} (h : s'.quiet = s.quiet) : s'.red.committed = s.red.committed := by
  have h := congrArg (fun x : State => x.red.committed) h; exact h
@[simp] theorem State.settle_red_committed (s : State) : s.settle.red.committed = s.red.committed := quiet_red_committed s.settle_quiet
theorem quiet_red_loadConfig {s s' : State} (h : s'.quiet = s.quiet) : s'.red.loadConfig = s.red.loadConfig := by
  have h := congrArg (fun x : State => x.red.loadConfig) h; exact h
@[simp] theorem State.settle_red_loadConfig (s : State) : s.settle.red.loadConfig = s.red.loadConfig := quiet_red_loadConfig s.settle_quiet
theorem quiet_red_handover {s s' : State} (h : s'.quiet = s.quiet) : s'.red.handover = s.red.handover := by
  have h := congrArg (fun x : State => x.red.handover) h; exact h
@[simp] theorem State.settle_red_handover (s : State) : s.settle.red.handover = s.red.handover := quiet_red_handover s.settle_quiet
theorem quiet_red_peerHandedOver {s s' : State} (h : s'.quiet = s.quiet) : s'.red.peerHandedOver = s.red.peerHandedOver := by
  have h := congrArg (fun x : State => x.red.peerHandedOver) h; exact h
@[simp] theorem State.settle_red_peerHandedOver (s : State) : s.settle.red.peerHandedOver = s.red.peerHandedOver := quiet_red_peerHandedOver s.settle_quiet
theorem quiet_red_restored {s s' : State} (h : s'.quiet = s.quiet) : s'.red.restored = s.red.restored := by
  have h := congrArg (fun x : State => x.red.restored) h; exact h
@[simp] theorem State.settle_red_restored (s : State) : s.settle.red.restored = s.red.restored := quiet_red_restored s.settle_quiet
theorem quiet_red_takeover {s s' : State} (h : s'.quiet = s.quiet) : s'.red.takeover = s.red.takeover := by
  have h := congrArg (fun x : State => x.red.takeover) h; exact h
@[simp] theorem State.settle_red_takeover (s : State) : s.settle.red.takeover = s.red.takeover := quiet_red_takeover s.settle_quiet
theorem quiet_dict_resetComm {s s' : State} (h : s'.quiet = s.quiet) : s'.dict.resetComm = s.dict.resetComm := by
  have h := congrArg (fun x : State => x.dict.resetComm) h; exact h
@[simp] theorem State.settle_dict_resetComm (s : State) : s.settle.dict.resetComm = s.dict.resetComm := quiet_dict_resetComm s.settle_quiet
theorem quiet_dict_sel {s s' : State} (h : s'.quiet = s.quiet) : s'.dict.sel = s.dict.sel := by
  have h := congrArg (fun x : State => x.dict.sel) h; exact h
@[simp] theorem State.settle_dict_sel (s : State) : s.settle.dict.sel = s.dict.sel := quiet_dict_sel s.settle_quiet
theorem quiet_dict_window {s s' : State} (h : s'.quiet = s.quiet) : s'.dict.window = s.dict.window := by
  have h := congrArg (fun x : State => x.dict.window) h; exact h
@[simp] theorem State.settle_dict_window (s : State) : s.settle.dict.window = s.dict.window := quiet_dict_window s.settle_quiet
theorem quiet_dict_wlen {s s' : State} (h : s'.quiet = s.quiet) : s'.dict.wlen = s.dict.wlen := by
  have h := congrArg (fun x : State => x.dict.wlen) h; exact h
@[simp] theorem State.settle_dict_wlen (s : State) : s.settle.dict.wlen = s.dict.wlen := quiet_dict_wlen s.settle_quiet
theorem quiet_dict_udp {s s' : State} (h : s'.quiet = s.quiet) : s'.dict.udp = s.dict.udp := by
  have h := congrArg (fun x : State => x.dict.udp) h; exact h
@[simp] theorem State.settle_dict_udp (s : State) : s.settle.dict.udp = s.dict.udp := quiet_dict_udp s.settle_quiet
theorem quiet_dict_store {s s' : State} (h : s'.quiet = s.quiet) : s'.dict.store = s.dict.store := by
  have h := congrArg (fun x : State => x.dict.store) h; exact h
@[simp] theorem State.settle_dict_store (s : State) : s.settle.dict.store = s.dict.store := quiet_dict_store s.settle_quiet
theorem quiet_dict_restored {s s' : State} (h : s'.quiet = s.quiet) : s'.dict.restored = s.dict.restored := by
  have h := congrArg (fun x : State => x.dict.restored) h; exact h
@[simp] theorem State.settle_dict_restored (s : State) : s.settle.dict.restored = s.dict.restored := quiet_dict_restored s.settle_quiet

/-- Every object but the counts of frames sent. -/
theorem quiet_obj {s s' : State} (h : s'.quiet = s.quiet) {k : Nat} (h1 : k ≠ 0x290104) (h2 : k ≠ 0x290204) :
    s'.obj k = s.obj k := by
  have key : ∀ m : Table Nat, tget (m.filter fun e => e.1 != 0x290104 && e.1 != 0x290204) k (objectDefault k) =
      tget m k (objectDefault k) := by
    intro m
    induction m with
    | nil => rfl
    | cons e r ih =>
      obtain ⟨j, w⟩ := e
      by_cases hj : j = k
      · subst hj; simp [List.filter_cons, tget, h1, h2]
      · by_cases hb : (j != 0x290104 && j != 0x290204) = true
        · simp only [List.filter_cons, hb, if_true, tget, hj, if_false, ih]
        · simp only [List.filter_cons, hb, tget, hj, Bool.false_eq_true, if_false, ih]
  have h3 : s'.od.filter (fun e => e.1 != 0x290104 && e.1 != 0x290204) =
      s.od.filter (fun e => e.1 != 0x290104 && e.1 != 0x290204) := congrArg (fun x : State => x.od) h
  simp only [State.obj]
  rw [← key s'.od, h3, key]

theorem State.settle_obj (s : State) {k : Nat} (h1 : k ≠ 0x290104) (h2 : k ≠ 0x290204) : s.settle.obj k = s.obj k :=
  quiet_obj s.settle_quiet h1 h2

theorem quiet_cfg {s s' : State} (h : s'.quiet = s.quiet) (k : Nat) : s'.cfg k = s.cfg k :=
  State.cfg_congr (quiet_inForce h) k

@[simp] theorem State.settle_cfg (s : State) (k : Nat) : s.settle.cfg k = s.cfg k := quiet_cfg s.settle_quiet k

theorem tget_map_range {α : Type} (f : Nat → α) (d : α) {n k : Nat} (hk : k < n) :
    tget ((List.range n).map fun c => (c, f c)) k d = f k := by
  have key : ∀ (l : List Nat), k ∈ l → tget (l.map fun c => (c, f c)) k d = f k := by
    intro l
    induction l with
    | nil => intro h; cases h
    | cons c r ih =>
      intro h
      by_cases hc : c = k
      · subst hc; simp [tget]
      · simp only [List.map_cons, tget, hc, if_false]
        exact ih ((List.mem_cons.mp h).resolve_left fun e => hc e.symm)
  exact key _ (List.mem_range.mpr hk)

/-- A port without what it sends. -/
theorem quiet_port {s s' : State} (h : s'.quiet = s.quiet) {k : Nat} (hk : k < 2) : (s'.port k).quiet = (s.port k).quiet := by
  have h1 : s'.link.quiet.ports = s.link.quiet.ports := congrArg (fun x : State => x.link.ports) h
  have h2 := congrArg (fun m => tget m k {}) h1
  simp only [LinkSt.quiet, tget_map_range (fun c => (tget _ c {} : Port).quiet) _ hk] at h2
  exact h2

theorem State.settle_port (s : State) {k : Nat} (hk : k < 2) : (s.settle.port k).quiet = (s.port k).quiet :=
  quiet_port s.settle_quiet hk

/-- A controller without its emergencies. -/
theorem quiet_ctrl {s s' : State} (h : s'.quiet = s.quiet) {c : Nat} (hc : c < 2) : (s'.ctrl c).quiet = (s.ctrl c).quiet := by
  have h1 : s'.net.quiet.ctrls = s.net.quiet.ctrls := congrArg (fun x : State => x.net.ctrls) h
  have h2 := congrArg (fun m => tget m c {}) h1
  simp only [NetSt.quiet, tget_map_range (fun c => (tget _ c {} : Ctrl).quiet) _ hc] at h2
  exact h2

theorem State.settle_ctrl (s : State) {c : Nat} (hc : c < 2) : (s.settle.ctrl c).quiet = (s.ctrl c).quiet :=
  quiet_ctrl s.settle_quiet hc

/-- A queue without its fence and its completion ring. -/
theorem quiet_queue {s s' : State} (h : s'.quiet = s.quiet) {q : Nat} (hq : q < 16) : (s'.queue q).quiet = (s.queue q).quiet := by
  have h1 : s'.comp.quiet.queues = s.comp.quiet.queues := congrArg (fun x : State => x.comp.queues) h
  have h2 := congrArg (fun m => tget m q {}) h1
  simp only [ComputeSt.quiet, tget_map_range (fun c => (tget _ c {} : Queue).quiet) _ hq] at h2
  exact h2

theorem State.settle_queue (s : State) {q : Nat} (hq : q < 16) : (s.settle.queue q).quiet = (s.queue q).quiet :=
  quiet_queue s.settle_quiet hq

end Sys2Proof.Machine
end

