-- ==== Sys2Proof/Laws/Emit.lean ====
section
/-! SUPPORT. What an event, an answer by the link and the acceptance of a write leave as it was: every field that the end of a
command leaves (`State.quiet`). -/
namespace Sys2Proof.Machine
set_option Elab.async false

@[simp] theorem State.emit_now (s : State) (a b c : Nat) : (s.emit a b c).now = s.now := quiet_now (s.emit_quiet a b c)
@[simp] theorem State.emitArg_now (s : State) (a b c d e : Nat) (w : Bool) :
    (s.emitArg a b c d w e).now = s.now := quiet_now (s.emitArg_quiet a b c d w e)
@[simp] theorem State.emitLimited_now (s : State) (i a b c d : Nat) :
    (s.emitLimited i a b c d).now = s.now := quiet_now (s.emitLimited_quiet i a b c d)
@[simp] theorem State.sendFrame_now (s : State) (i : FrameInfo) (bs : List Byte) :
    (s.sendFrame i bs).now = s.now := quiet_now (s.sendFrame_quiet i bs)
@[simp] theorem State.emit_free (s : State) (a b c : Nat) : (s.emit a b c).free = s.free := quiet_free (s.emit_quiet a b c)
@[simp] theorem State.emitArg_free (s : State) (a b c d e : Nat) (w : Bool) :
    (s.emitArg a b c d w e).free = s.free := quiet_free (s.emitArg_quiet a b c d w e)
@[simp] theorem State.emitLimited_free (s : State) (i a b c d : Nat) :
    (s.emitLimited i a b c d).free = s.free := quiet_free (s.emitLimited_quiet i a b c d)
@[simp] theorem State.sendFrame_free (s : State) (i : FrameInfo) (bs : List Byte) :
    (s.sendFrame i bs).free = s.free := quiet_free (s.sendFrame_quiet i bs)
@[simp] theorem State.emit_inForce (s : State) (a b c : Nat) : (s.emit a b c).inForce = s.inForce := quiet_inForce (s.emit_quiet a b c)
@[simp] theorem State.emitArg_inForce (s : State) (a b c d e : Nat) (w : Bool) :
    (s.emitArg a b c d w e).inForce = s.inForce := quiet_inForce (s.emitArg_quiet a b c d w e)
@[simp] theorem State.emitLimited_inForce (s : State) (i a b c d : Nat) :
    (s.emitLimited i a b c d).inForce = s.inForce := quiet_inForce (s.emitLimited_quiet i a b c d)
@[simp] theorem State.sendFrame_inForce (s : State) (i : FrameInfo) (bs : List Byte) :
    (s.sendFrame i bs).inForce = s.inForce := quiet_inForce (s.sendFrame_quiet i bs)
@[simp] theorem State.emit_actual (s : State) (a b c : Nat) : (s.emit a b c).actual = s.actual := quiet_actual (s.emit_quiet a b c)
@[simp] theorem State.emitArg_actual (s : State) (a b c d e : Nat) (w : Bool) :
    (s.emitArg a b c d w e).actual = s.actual := quiet_actual (s.emitArg_quiet a b c d w e)
@[simp] theorem State.emitLimited_actual (s : State) (i a b c d : Nat) :
    (s.emitLimited i a b c d).actual = s.actual := quiet_actual (s.emitLimited_quiet i a b c d)
@[simp] theorem State.sendFrame_actual (s : State) (i : FrameInfo) (bs : List Byte) :
    (s.sendFrame i bs).actual = s.actual := quiet_actual (s.sendFrame_quiet i bs)
@[simp] theorem State.emit_time (s : State) (a b c : Nat) : (s.emit a b c).time = s.time := quiet_time (s.emit_quiet a b c)
@[simp] theorem State.emitArg_time (s : State) (a b c d e : Nat) (w : Bool) :
    (s.emitArg a b c d w e).time = s.time := quiet_time (s.emitArg_quiet a b c d w e)
@[simp] theorem State.emitLimited_time (s : State) (i a b c d : Nat) :
    (s.emitLimited i a b c d).time = s.time := quiet_time (s.emitLimited_quiet i a b c d)
@[simp] theorem State.sendFrame_time (s : State) (i : FrameInfo) (bs : List Byte) :
    (s.sendFrame i bs).time = s.time := quiet_time (s.sendFrame_quiet i bs)
@[simp] theorem State.emit_ptp (s : State) (a b c : Nat) : (s.emit a b c).ptp = s.ptp := quiet_ptp (s.emit_quiet a b c)
@[simp] theorem State.emitArg_ptp (s : State) (a b c d e : Nat) (w : Bool) :
    (s.emitArg a b c d w e).ptp = s.ptp := quiet_ptp (s.emitArg_quiet a b c d w e)
@[simp] theorem State.emitLimited_ptp (s : State) (i a b c d : Nat) :
    (s.emitLimited i a b c d).ptp = s.ptp := quiet_ptp (s.emitLimited_quiet i a b c d)
@[simp] theorem State.sendFrame_ptp (s : State) (i : FrameInfo) (bs : List Byte) :
    (s.sendFrame i bs).ptp = s.ptp := quiet_ptp (s.sendFrame_quiet i bs)
@[simp] theorem State.emit_tick (s : State) (a b c : Nat) : (s.emit a b c).tick = s.tick := quiet_tick (s.emit_quiet a b c)
@[simp] theorem State.emitArg_tick (s : State) (a b c d e : Nat) (w : Bool) :
    (s.emitArg a b c d w e).tick = s.tick := quiet_tick (s.emitArg_quiet a b c d w e)
@[simp] theorem State.emitLimited_tick (s : State) (i a b c d : Nat) :
    (s.emitLimited i a b c d).tick = s.tick := quiet_tick (s.emitLimited_quiet i a b c d)
@[simp] theorem State.sendFrame_tick (s : State) (i : FrameInfo) (bs : List Byte) :
    (s.sendFrame i bs).tick = s.tick := quiet_tick (s.sendFrame_quiet i bs)
@[simp] theorem State.emit_head (s : State) (a b c : Nat) : (s.emit a b c).head = s.head := quiet_head (s.emit_quiet a b c)
@[simp] theorem State.emitArg_head (s : State) (a b c d e : Nat) (w : Bool) :
    (s.emitArg a b c d w e).head = s.head := quiet_head (s.emitArg_quiet a b c d w e)
@[simp] theorem State.emitLimited_head (s : State) (i a b c d : Nat) :
    (s.emitLimited i a b c d).head = s.head := quiet_head (s.emitLimited_quiet i a b c d)
@[simp] theorem State.sendFrame_head (s : State) (i : FrameInfo) (bs : List Byte) :
    (s.sendFrame i bs).head = s.head := quiet_head (s.sendFrame_quiet i bs)
@[simp] theorem State.emit_streams (s : State) (a b c : Nat) : (s.emit a b c).streams = s.streams := quiet_streams (s.emit_quiet a b c)
@[simp] theorem State.emitArg_streams (s : State) (a b c d e : Nat) (w : Bool) :
    (s.emitArg a b c d w e).streams = s.streams := quiet_streams (s.emitArg_quiet a b c d w e)
@[simp] theorem State.emitLimited_streams (s : State) (i a b c d : Nat) :
    (s.emitLimited i a b c d).streams = s.streams := quiet_streams (s.emitLimited_quiet i a b c d)
@[simp] theorem State.sendFrame_streams (s : State) (i : FrameInfo) (bs : List Byte) :
    (s.sendFrame i bs).streams = s.streams := quiet_streams (s.sendFrame_quiet i bs)
@[simp] theorem State.emit_alarm (s : State) (a b c : Nat) : (s.emit a b c).alarm = s.alarm := quiet_alarm (s.emit_quiet a b c)
@[simp] theorem State.emitArg_alarm (s : State) (a b c d e : Nat) (w : Bool) :
    (s.emitArg a b c d w e).alarm = s.alarm := quiet_alarm (s.emitArg_quiet a b c d w e)
@[simp] theorem State.emitLimited_alarm (s : State) (i a b c d : Nat) :
    (s.emitLimited i a b c d).alarm = s.alarm := quiet_alarm (s.emitLimited_quiet i a b c d)
@[simp] theorem State.sendFrame_alarm (s : State) (i : FrameInfo) (bs : List Byte) :
    (s.sendFrame i bs).alarm = s.alarm := quiet_alarm (s.sendFrame_quiet i bs)
@[simp] theorem State.emit_codec (s : State) (a b c : Nat) : (s.emit a b c).codec = s.codec := quiet_codec (s.emit_quiet a b c)
@[simp] theorem State.emitArg_codec (s : State) (a b c d e : Nat) (w : Bool) :
    (s.emitArg a b c d w e).codec = s.codec := quiet_codec (s.emitArg_quiet a b c d w e)
@[simp] theorem State.emitLimited_codec (s : State) (i a b c d : Nat) :
    (s.emitLimited i a b c d).codec = s.codec := quiet_codec (s.emitLimited_quiet i a b c d)
@[simp] theorem State.sendFrame_codec (s : State) (i : FrameInfo) (bs : List Byte) :
    (s.sendFrame i bs).codec = s.codec := quiet_codec (s.sendFrame_quiet i bs)
@[simp] theorem State.emit_noise (s : State) (a b c : Nat) : (s.emit a b c).noise = s.noise := quiet_noise (s.emit_quiet a b c)
@[simp] theorem State.emitArg_noise (s : State) (a b c d e : Nat) (w : Bool) :
    (s.emitArg a b c d w e).noise = s.noise := quiet_noise (s.emitArg_quiet a b c d w e)
@[simp] theorem State.emitLimited_noise (s : State) (i a b c d : Nat) :
    (s.emitLimited i a b c d).noise = s.noise := quiet_noise (s.emitLimited_quiet i a b c d)
@[simp] theorem State.sendFrame_noise (s : State) (i : FrameInfo) (bs : List Byte) :
    (s.sendFrame i bs).noise = s.noise := quiet_noise (s.sendFrame_quiet i bs)
@[simp] theorem State.emit_xfer (s : State) (a b c : Nat) : (s.emit a b c).xfer = s.xfer := quiet_xfer (s.emit_quiet a b c)
@[simp] theorem State.emitArg_xfer (s : State) (a b c d e : Nat) (w : Bool) :
    (s.emitArg a b c d w e).xfer = s.xfer := quiet_xfer (s.emitArg_quiet a b c d w e)
@[simp] theorem State.emitLimited_xfer (s : State) (i a b c d : Nat) :
    (s.emitLimited i a b c d).xfer = s.xfer := quiet_xfer (s.emitLimited_quiet i a b c d)
@[simp] theorem State.sendFrame_xfer (s : State) (i : FrameInfo) (bs : List Byte) :
    (s.sendFrame i bs).xfer = s.xfer := quiet_xfer (s.sendFrame_quiet i bs)
@[simp] theorem State.emit_power (s : State) (a b c : Nat) : (s.emit a b c).power = s.power := quiet_power (s.emit_quiet a b c)
@[simp] theorem State.emitArg_power (s : State) (a b c d e : Nat) (w : Bool) :
    (s.emitArg a b c d w e).power = s.power := quiet_power (s.emitArg_quiet a b c d w e)
@[simp] theorem State.emitLimited_power (s : State) (i a b c d : Nat) :
    (s.emitLimited i a b c d).power = s.power := quiet_power (s.emitLimited_quiet i a b c d)
@[simp] theorem State.sendFrame_power (s : State) (i : FrameInfo) (bs : List Byte) :
    (s.sendFrame i bs).power = s.power := quiet_power (s.sendFrame_quiet i bs)
@[simp] theorem State.emit_health (s : State) (a b c : Nat) : (s.emit a b c).health = s.health := quiet_health (s.emit_quiet a b c)
@[simp] theorem State.emitArg_health (s : State) (a b c d e : Nat) (w : Bool) :
    (s.emitArg a b c d w e).health = s.health := quiet_health (s.emitArg_quiet a b c d w e)
@[simp] theorem State.emitLimited_health (s : State) (i a b c d : Nat) :
    (s.emitLimited i a b c d).health = s.health := quiet_health (s.emitLimited_quiet i a b c d)
@[simp] theorem State.sendFrame_health (s : State) (i : FrameInfo) (bs : List Byte) :
    (s.sendFrame i bs).health = s.health := quiet_health (s.sendFrame_quiet i bs)
@[simp] theorem State.emit_boot (s : State) (a b c : Nat) : (s.emit a b c).boot = s.boot := quiet_boot (s.emit_quiet a b c)
@[simp] theorem State.emitArg_boot (s : State) (a b c d e : Nat) (w : Bool) :
    (s.emitArg a b c d w e).boot = s.boot := quiet_boot (s.emitArg_quiet a b c d w e)
@[simp] theorem State.emitLimited_boot (s : State) (i a b c d : Nat) :
    (s.emitLimited i a b c d).boot = s.boot := quiet_boot (s.emitLimited_quiet i a b c d)
@[simp] theorem State.sendFrame_boot (s : State) (i : FrameInfo) (bs : List Byte) :
    (s.sendFrame i bs).boot = s.boot := quiet_boot (s.sendFrame_quiet i bs)
@[simp] theorem State.emit_sram (s : State) (a b c : Nat) : (s.emit a b c).sram = s.sram := quiet_sram (s.emit_quiet a b c)
@[simp] theorem State.emitArg_sram (s : State) (a b c d e : Nat) (w : Bool) :
    (s.emitArg a b c d w e).sram = s.sram := quiet_sram (s.emitArg_quiet a b c d w e)
@[simp] theorem State.emitLimited_sram (s : State) (i a b c d : Nat) :
    (s.emitLimited i a b c d).sram = s.sram := quiet_sram (s.emitLimited_quiet i a b c d)
@[simp] theorem State.sendFrame_sram (s : State) (i : FrameInfo) (bs : List Byte) :
    (s.sendFrame i bs).sram = s.sram := quiet_sram (s.sendFrame_quiet i bs)
@[simp] theorem State.emit_dram (s : State) (a b c : Nat) : (s.emit a b c).dram = s.dram := quiet_dram (s.emit_quiet a b c)
@[simp] theorem State.emitArg_dram (s : State) (a b c d e : Nat) (w : Bool) :
    (s.emitArg a b c d w e).dram = s.dram := quiet_dram (s.emitArg_quiet a b c d w e)
@[simp] theorem State.emitLimited_dram (s : State) (i a b c d : Nat) :
    (s.emitLimited i a b c d).dram = s.dram := quiet_dram (s.emitLimited_quiet i a b c d)
@[simp] theorem State.sendFrame_dram (s : State) (i : FrameInfo) (bs : List Byte) :
    (s.sendFrame i bs).dram = s.dram := quiet_dram (s.sendFrame_quiet i bs)
@[simp] theorem State.emit_pending (s : State) (a b c : Nat) : (s.emit a b c).pending = s.pending := quiet_pending (s.emit_quiet a b c)
@[simp] theorem State.emitArg_pending (s : State) (a b c d e : Nat) (w : Bool) :
    (s.emitArg a b c d w e).pending = s.pending := quiet_pending (s.emitArg_quiet a b c d w e)
@[simp] theorem State.emitLimited_pending (s : State) (i a b c d : Nat) :
    (s.emitLimited i a b c d).pending = s.pending := quiet_pending (s.emitLimited_quiet i a b c d)
@[simp] theorem State.sendFrame_pending (s : State) (i : FrameInfo) (bs : List Byte) :
    (s.sendFrame i bs).pending = s.pending := quiet_pending (s.sendFrame_quiet i bs)
@[simp] theorem State.emit_net_nmt (s : State) (a b c : Nat) : (s.emit a b c).net.nmt = s.net.nmt := quiet_net_nmt (s.emit_quiet a b c)
@[simp] theorem State.emitArg_net_nmt (s : State) (a b c d e : Nat) (w : Bool) :
    (s.emitArg a b c d w e).net.nmt = s.net.nmt := quiet_net_nmt (s.emitArg_quiet a b c d w e)
@[simp] theorem State.emitLimited_net_nmt (s : State) (i a b c d : Nat) :
    (s.emitLimited i a b c d).net.nmt = s.net.nmt := quiet_net_nmt (s.emitLimited_quiet i a b c d)
@[simp] theorem State.sendFrame_net_nmt (s : State) (i : FrameInfo) (bs : List Byte) :
    (s.sendFrame i bs).net.nmt = s.net.nmt := quiet_net_nmt (s.sendFrame_quiet i bs)
@[simp] theorem State.emit_net_emcySent (s : State) (a b c : Nat) : (s.emit a b c).net.emcySent = s.net.emcySent := quiet_net_emcySent (s.emit_quiet a b c)
@[simp] theorem State.emitArg_net_emcySent (s : State) (a b c d e : Nat) (w : Bool) :
    (s.emitArg a b c d w e).net.emcySent = s.net.emcySent := quiet_net_emcySent (s.emitArg_quiet a b c d w e)
@[simp] theorem State.emitLimited_net_emcySent (s : State) (i a b c d : Nat) :
    (s.emitLimited i a b c d).net.emcySent = s.net.emcySent := quiet_net_emcySent (s.emitLimited_quiet i a b c d)
@[simp] theorem State.sendFrame_net_emcySent (s : State) (i : FrameInfo) (bs : List Byte) :
    (s.sendFrame i bs).net.emcySent = s.net.emcySent := quiet_net_emcySent (s.sendFrame_quiet i bs)
@[simp] theorem State.emit_net_partners (s : State) (a b c : Nat) : (s.emit a b c).net.partners = s.net.partners := quiet_net_partners (s.emit_quiet a b c)
@[simp] theorem State.emitArg_net_partners (s : State) (a b c d e : Nat) (w : Bool) :
    (s.emitArg a b c d w e).net.partners = s.net.partners := quiet_net_partners (s.emitArg_quiet a b c d w e)
@[simp] theorem State.emitLimited_net_partners (s : State) (i a b c d : Nat) :
    (s.emitLimited i a b c d).net.partners = s.net.partners := quiet_net_partners (s.emitLimited_quiet i a b c d)
@[simp] theorem State.sendFrame_net_partners (s : State) (i : FrameInfo) (bs : List Byte) :
    (s.sendFrame i bs).net.partners = s.net.partners := quiet_net_partners (s.sendFrame_quiet i bs)
@[simp] theorem State.emit_net_strangers (s : State) (a b c : Nat) : (s.emit a b c).net.strangers = s.net.strangers := quiet_net_strangers (s.emit_quiet a b c)
@[simp] theorem State.emitArg_net_strangers (s : State) (a b c d e : Nat) (w : Bool) :
    (s.emitArg a b c d w e).net.strangers = s.net.strangers := quiet_net_strangers (s.emitArg_quiet a b c d w e)
@[simp] theorem State.emitLimited_net_strangers (s : State) (i a b c d : Nat) :
    (s.emitLimited i a b c d).net.strangers = s.net.strangers := quiet_net_strangers (s.emitLimited_quiet i a b c d)
@[simp] theorem State.sendFrame_net_strangers (s : State) (i : FrameInfo) (bs : List Byte) :
    (s.sendFrame i bs).net.strangers = s.net.strangers := quiet_net_strangers (s.sendFrame_quiet i bs)
@[simp] theorem State.emit_net_records (s : State) (a b c : Nat) : (s.emit a b c).net.records = s.net.records := quiet_net_records (s.emit_quiet a b c)
@[simp] theorem State.emitArg_net_records (s : State) (a b c d e : Nat) (w : Bool) :
    (s.emitArg a b c d w e).net.records = s.net.records := quiet_net_records (s.emitArg_quiet a b c d w e)
@[simp] theorem State.emitLimited_net_records (s : State) (i a b c d : Nat) :
    (s.emitLimited i a b c d).net.records = s.net.records := quiet_net_records (s.emitLimited_quiet i a b c d)
@[simp] theorem State.sendFrame_net_records (s : State) (i : FrameInfo) (bs : List Byte) :
    (s.sendFrame i bs).net.records = s.net.records := quiet_net_records (s.sendFrame_quiet i bs)
@[simp] theorem State.emit_net_plcaOk (s : State) (a b c : Nat) : (s.emit a b c).net.plcaOk = s.net.plcaOk := quiet_net_plcaOk (s.emit_quiet a b c)
@[simp] theorem State.emitArg_net_plcaOk (s : State) (a b c d e : Nat) (w : Bool) :
    (s.emitArg a b c d w e).net.plcaOk = s.net.plcaOk := quiet_net_plcaOk (s.emitArg_quiet a b c d w e)
@[simp] theorem State.emitLimited_net_plcaOk (s : State) (i a b c d : Nat) :
    (s.emitLimited i a b c d).net.plcaOk = s.net.plcaOk := quiet_net_plcaOk (s.emitLimited_quiet i a b c d)
@[simp] theorem State.sendFrame_net_plcaOk (s : State) (i : FrameInfo) (bs : List Byte) :
    (s.sendFrame i bs).net.plcaOk = s.net.plcaOk := quiet_net_plcaOk (s.sendFrame_quiet i bs)
@[simp] theorem State.emit_net_plcaErrs (s : State) (a b c : Nat) : (s.emit a b c).net.plcaErrs = s.net.plcaErrs := quiet_net_plcaErrs (s.emit_quiet a b c)
@[simp] theorem State.emitArg_net_plcaErrs (s : State) (a b c d e : Nat) (w : Bool) :
    (s.emitArg a b c d w e).net.plcaErrs = s.net.plcaErrs := quiet_net_plcaErrs (s.emitArg_quiet a b c d w e)
@[simp] theorem State.emitLimited_net_plcaErrs (s : State) (i a b c d : Nat) :
    (s.emitLimited i a b c d).net.plcaErrs = s.net.plcaErrs := quiet_net_plcaErrs (s.emitLimited_quiet i a b c d)
@[simp] theorem State.sendFrame_net_plcaErrs (s : State) (i : FrameInfo) (bs : List Byte) :
    (s.sendFrame i bs).net.plcaErrs = s.net.plcaErrs := quiet_net_plcaErrs (s.sendFrame_quiet i bs)
@[simp] theorem State.emit_net_carriers (s : State) (a b c : Nat) : (s.emit a b c).net.carriers = s.net.carriers := quiet_net_carriers (s.emit_quiet a b c)
@[simp] theorem State.emitArg_net_carriers (s : State) (a b c d e : Nat) (w : Bool) :
    (s.emitArg a b c d w e).net.carriers = s.net.carriers := quiet_net_carriers (s.emitArg_quiet a b c d w e)
@[simp] theorem State.emitLimited_net_carriers (s : State) (i a b c d : Nat) :
    (s.emitLimited i a b c d).net.carriers = s.net.carriers := quiet_net_carriers (s.emitLimited_quiet i a b c d)
@[simp] theorem State.sendFrame_net_carriers (s : State) (i : FrameInfo) (bs : List Byte) :
    (s.sendFrame i bs).net.carriers = s.net.carriers := quiet_net_carriers (s.sendFrame_quiet i bs)
@[simp] theorem State.emit_net_collisions (s : State) (a b c : Nat) : (s.emit a b c).net.collisions = s.net.collisions := quiet_net_collisions (s.emit_quiet a b c)
@[simp] theorem State.emitArg_net_collisions (s : State) (a b c d e : Nat) (w : Bool) :
    (s.emitArg a b c d w e).net.collisions = s.net.collisions := quiet_net_collisions (s.emitArg_quiet a b c d w e)
@[simp] theorem State.emitLimited_net_collisions (s : State) (i a b c d : Nat) :
    (s.emitLimited i a b c d).net.collisions = s.net.collisions := quiet_net_collisions (s.emitLimited_quiet i a b c d)
@[simp] theorem State.sendFrame_net_collisions (s : State) (i : FrameInfo) (bs : List Byte) :
    (s.sendFrame i bs).net.collisions = s.net.collisions := quiet_net_collisions (s.sendFrame_quiet i bs)
@[simp] theorem State.emit_net_txStopped (s : State) (a b c : Nat) : (s.emit a b c).net.txStopped = s.net.txStopped := quiet_net_txStopped (s.emit_quiet a b c)
@[simp] theorem State.emitArg_net_txStopped (s : State) (a b c d e : Nat) (w : Bool) :
    (s.emitArg a b c d w e).net.txStopped = s.net.txStopped := quiet_net_txStopped (s.emitArg_quiet a b c d w e)
@[simp] theorem State.emitLimited_net_txStopped (s : State) (i a b c d : Nat) :
    (s.emitLimited i a b c d).net.txStopped = s.net.txStopped := quiet_net_txStopped (s.emitLimited_quiet i a b c d)
@[simp] theorem State.sendFrame_net_txStopped (s : State) (i : FrameInfo) (bs : List Byte) :
    (s.sendFrame i bs).net.txStopped = s.net.txStopped := quiet_net_txStopped (s.sendFrame_quiet i bs)
@[simp] theorem State.emit_net_broadcasts (s : State) (a b c : Nat) : (s.emit a b c).net.broadcasts = s.net.broadcasts := quiet_net_broadcasts (s.emit_quiet a b c)
@[simp] theorem State.emitArg_net_broadcasts (s : State) (a b c d e : Nat) (w : Bool) :
    (s.emitArg a b c d w e).net.broadcasts = s.net.broadcasts := quiet_net_broadcasts (s.emitArg_quiet a b c d w e)
@[simp] theorem State.emitLimited_net_broadcasts (s : State) (i a b c d : Nat) :
    (s.emitLimited i a b c d).net.broadcasts = s.net.broadcasts := quiet_net_broadcasts (s.emitLimited_quiet i a b c d)
@[simp] theorem State.sendFrame_net_broadcasts (s : State) (i : FrameInfo) (bs : List Byte) :
    (s.sendFrame i bs).net.broadcasts = s.net.broadcasts := quiet_net_broadcasts (s.sendFrame_quiet i bs)
@[simp] theorem State.emit_net_tpdoSeq (s : State) (a b c : Nat) : (s.emit a b c).net.tpdoSeq = s.net.tpdoSeq := quiet_net_tpdoSeq (s.emit_quiet a b c)
@[simp] theorem State.emitArg_net_tpdoSeq (s : State) (a b c d e : Nat) (w : Bool) :
    (s.emitArg a b c d w e).net.tpdoSeq = s.net.tpdoSeq := quiet_net_tpdoSeq (s.emitArg_quiet a b c d w e)
@[simp] theorem State.emitLimited_net_tpdoSeq (s : State) (i a b c d : Nat) :
    (s.emitLimited i a b c d).net.tpdoSeq = s.net.tpdoSeq := quiet_net_tpdoSeq (s.emitLimited_quiet i a b c d)
@[simp] theorem State.sendFrame_net_tpdoSeq (s : State) (i : FrameInfo) (bs : List Byte) :
    (s.sendFrame i bs).net.tpdoSeq = s.net.tpdoSeq := quiet_net_tpdoSeq (s.sendFrame_quiet i bs)
@[simp] theorem State.emit_net_tpdoAt (s : State) (a b c : Nat) : (s.emit a b c).net.tpdoAt = s.net.tpdoAt := quiet_net_tpdoAt (s.emit_quiet a b c)
@[simp] theorem State.emitArg_net_tpdoAt (s : State) (a b c d e : Nat) (w : Bool) :
    (s.emitArg a b c d w e).net.tpdoAt = s.net.tpdoAt := quiet_net_tpdoAt (s.emitArg_quiet a b c d w e)
@[simp] theorem State.emitLimited_net_tpdoAt (s : State) (i a b c d : Nat) :
    (s.emitLimited i a b c d).net.tpdoAt = s.net.tpdoAt := quiet_net_tpdoAt (s.emitLimited_quiet i a b c d)
@[simp] theorem State.sendFrame_net_tpdoAt (s : State) (i : FrameInfo) (bs : List Byte) :
    (s.sendFrame i bs).net.tpdoAt = s.net.tpdoAt := quiet_net_tpdoAt (s.sendFrame_quiet i bs)
@[simp] theorem State.emit_net_tpdoData (s : State) (a b c : Nat) : (s.emit a b c).net.tpdoData = s.net.tpdoData := quiet_net_tpdoData (s.emit_quiet a b c)
@[simp] theorem State.emitArg_net_tpdoData (s : State) (a b c d e : Nat) (w : Bool) :
    (s.emitArg a b c d w e).net.tpdoData = s.net.tpdoData := quiet_net_tpdoData (s.emitArg_quiet a b c d w e)
@[simp] theorem State.emitLimited_net_tpdoData (s : State) (i a b c d : Nat) :
    (s.emitLimited i a b c d).net.tpdoData = s.net.tpdoData := quiet_net_tpdoData (s.emitLimited_quiet i a b c d)
@[simp] theorem State.sendFrame_net_tpdoData (s : State) (i : FrameInfo) (bs : List Byte) :
    (s.sendFrame i bs).net.tpdoData = s.net.tpdoData := quiet_net_tpdoData (s.sendFrame_quiet i bs)
@[simp] theorem State.emit_net_tpdoWait (s : State) (a b c : Nat) : (s.emit a b c).net.tpdoWait = s.net.tpdoWait := quiet_net_tpdoWait (s.emit_quiet a b c)
@[simp] theorem State.emitArg_net_tpdoWait (s : State) (a b c d e : Nat) (w : Bool) :
    (s.emitArg a b c d w e).net.tpdoWait = s.net.tpdoWait := quiet_net_tpdoWait (s.emitArg_quiet a b c d w e)
@[simp] theorem State.emitLimited_net_tpdoWait (s : State) (i a b c d : Nat) :
    (s.emitLimited i a b c d).net.tpdoWait = s.net.tpdoWait := quiet_net_tpdoWait (s.emitLimited_quiet i a b c d)
@[simp] theorem State.sendFrame_net_tpdoWait (s : State) (i : FrameInfo) (bs : List Byte) :
    (s.sendFrame i bs).net.tpdoWait = s.net.tpdoWait := quiet_net_tpdoWait (s.sendFrame_quiet i bs)
@[simp] theorem State.emit_net_reportSeq (s : State) (a b c : Nat) : (s.emit a b c).net.reportSeq = s.net.reportSeq := quiet_net_reportSeq (s.emit_quiet a b c)
@[simp] theorem State.emitArg_net_reportSeq (s : State) (a b c d e : Nat) (w : Bool) :
    (s.emitArg a b c d w e).net.reportSeq = s.net.reportSeq := quiet_net_reportSeq (s.emitArg_quiet a b c d w e)
@[simp] theorem State.emitLimited_net_reportSeq (s : State) (i a b c d : Nat) :
    (s.emitLimited i a b c d).net.reportSeq = s.net.reportSeq := quiet_net_reportSeq (s.emitLimited_quiet i a b c d)
@[simp] theorem State.sendFrame_net_reportSeq (s : State) (i : FrameInfo) (bs : List Byte) :
    (s.sendFrame i bs).net.reportSeq = s.net.reportSeq := quiet_net_reportSeq (s.sendFrame_quiet i bs)
@[simp] theorem State.emit_net_syncs (s : State) (a b c : Nat) : (s.emit a b c).net.syncs = s.net.syncs := quiet_net_syncs (s.emit_quiet a b c)
@[simp] theorem State.emitArg_net_syncs (s : State) (a b c d e : Nat) (w : Bool) :
    (s.emitArg a b c d w e).net.syncs = s.net.syncs := quiet_net_syncs (s.emitArg_quiet a b c d w e)
@[simp] theorem State.emitLimited_net_syncs (s : State) (i a b c d : Nat) :
    (s.emitLimited i a b c d).net.syncs = s.net.syncs := quiet_net_syncs (s.emitLimited_quiet i a b c d)
@[simp] theorem State.sendFrame_net_syncs (s : State) (i : FrameInfo) (bs : List Byte) :
    (s.sendFrame i bs).net.syncs = s.net.syncs := quiet_net_syncs (s.sendFrame_quiet i bs)
@[simp] theorem State.emit_net_watchFrames (s : State) (a b c : Nat) : (s.emit a b c).net.watchFrames = s.net.watchFrames := quiet_net_watchFrames (s.emit_quiet a b c)
@[simp] theorem State.emitArg_net_watchFrames (s : State) (a b c d e : Nat) (w : Bool) :
    (s.emitArg a b c d w e).net.watchFrames = s.net.watchFrames := quiet_net_watchFrames (s.emitArg_quiet a b c d w e)
@[simp] theorem State.emitLimited_net_watchFrames (s : State) (i a b c d : Nat) :
    (s.emitLimited i a b c d).net.watchFrames = s.net.watchFrames := quiet_net_watchFrames (s.emitLimited_quiet i a b c d)
@[simp] theorem State.sendFrame_net_watchFrames (s : State) (i : FrameInfo) (bs : List Byte) :
    (s.sendFrame i bs).net.watchFrames = s.net.watchFrames := quiet_net_watchFrames (s.sendFrame_quiet i bs)
@[simp] theorem State.emit_net_rtcp (s : State) (a b c : Nat) : (s.emit a b c).net.rtcp = s.net.rtcp := quiet_net_rtcp (s.emit_quiet a b c)
@[simp] theorem State.emitArg_net_rtcp (s : State) (a b c d e : Nat) (w : Bool) :
    (s.emitArg a b c d w e).net.rtcp = s.net.rtcp := quiet_net_rtcp (s.emitArg_quiet a b c d w e)
@[simp] theorem State.emitLimited_net_rtcp (s : State) (i a b c d : Nat) :
    (s.emitLimited i a b c d).net.rtcp = s.net.rtcp := quiet_net_rtcp (s.emitLimited_quiet i a b c d)
@[simp] theorem State.sendFrame_net_rtcp (s : State) (i : FrameInfo) (bs : List Byte) :
    (s.sendFrame i bs).net.rtcp = s.net.rtcp := quiet_net_rtcp (s.sendFrame_quiet i bs)
@[simp] theorem State.emit_link_id (s : State) (a b c : Nat) : (s.emit a b c).link.id = s.link.id := quiet_link_id (s.emit_quiet a b c)
@[simp] theorem State.emitArg_link_id (s : State) (a b c d e : Nat) (w : Bool) :
    (s.emitArg a b c d w e).link.id = s.link.id := quiet_link_id (s.emitArg_quiet a b c d w e)
@[simp] theorem State.emitLimited_link_id (s : State) (i a b c d : Nat) :
    (s.emitLimited i a b c d).link.id = s.link.id := quiet_link_id (s.emitLimited_quiet i a b c d)
@[simp] theorem State.sendFrame_link_id (s : State) (i : FrameInfo) (bs : List Byte) :
    (s.sendFrame i bs).link.id = s.link.id := quiet_link_id (s.sendFrame_quiet i bs)
@[simp] theorem State.emit_link_group (s : State) (a b c : Nat) : (s.emit a b c).link.group = s.link.group := quiet_link_group (s.emit_quiet a b c)
@[simp] theorem State.emitArg_link_group (s : State) (a b c d e : Nat) (w : Bool) :
    (s.emitArg a b c d w e).link.group = s.link.group := quiet_link_group (s.emitArg_quiet a b c d w e)
@[simp] theorem State.emitLimited_link_group (s : State) (i a b c d : Nat) :
    (s.emitLimited i a b c d).link.group = s.link.group := quiet_link_group (s.emitLimited_quiet i a b c d)
@[simp] theorem State.sendFrame_link_group (s : State) (i : FrameInfo) (bs : List Byte) :
    (s.sendFrame i bs).link.group = s.link.group := quiet_link_group (s.sendFrame_quiet i bs)
@[simp] theorem State.emit_link_topology (s : State) (a b c : Nat) : (s.emit a b c).link.topology = s.link.topology := quiet_link_topology (s.emit_quiet a b c)
@[simp] theorem State.emitArg_link_topology (s : State) (a b c d e : Nat) (w : Bool) :
    (s.emitArg a b c d w e).link.topology = s.link.topology := quiet_link_topology (s.emitArg_quiet a b c d w e)
@[simp] theorem State.emitLimited_link_topology (s : State) (i a b c d : Nat) :
    (s.emitLimited i a b c d).link.topology = s.link.topology := quiet_link_topology (s.emitLimited_quiet i a b c d)
@[simp] theorem State.sendFrame_link_topology (s : State) (i : FrameInfo) (bs : List Byte) :
    (s.sendFrame i bs).link.topology = s.link.topology := quiet_link_topology (s.sendFrame_quiet i bs)
@[simp] theorem State.emit_link_windows (s : State) (a b c : Nat) : (s.emit a b c).link.windows = s.link.windows := quiet_link_windows (s.emit_quiet a b c)
@[simp] theorem State.emitArg_link_windows (s : State) (a b c d e : Nat) (w : Bool) :
    (s.emitArg a b c d w e).link.windows = s.link.windows := quiet_link_windows (s.emitArg_quiet a b c d w e)
@[simp] theorem State.emitLimited_link_windows (s : State) (i a b c d : Nat) :
    (s.emitLimited i a b c d).link.windows = s.link.windows := quiet_link_windows (s.emitLimited_quiet i a b c d)
@[simp] theorem State.sendFrame_link_windows (s : State) (i : FrameInfo) (bs : List Byte) :
    (s.sendFrame i bs).link.windows = s.link.windows := quiet_link_windows (s.sendFrame_quiet i bs)
@[simp] theorem State.emit_link_complete (s : State) (a b c : Nat) : (s.emit a b c).link.complete = s.link.complete := quiet_link_complete (s.emit_quiet a b c)
@[simp] theorem State.emitArg_link_complete (s : State) (a b c d e : Nat) (w : Bool) :
    (s.emitArg a b c d w e).link.complete = s.link.complete := quiet_link_complete (s.emitArg_quiet a b c d w e)
@[simp] theorem State.emitLimited_link_complete (s : State) (i a b c d : Nat) :
    (s.emitLimited i a b c d).link.complete = s.link.complete := quiet_link_complete (s.emitLimited_quiet i a b c d)
@[simp] theorem State.sendFrame_link_complete (s : State) (i : FrameInfo) (bs : List Byte) :
    (s.sendFrame i bs).link.complete = s.link.complete := quiet_link_complete (s.sendFrame_quiet i bs)
@[simp] theorem State.emit_link_peers (s : State) (a b c : Nat) : (s.emit a b c).link.peers = s.link.peers := quiet_link_peers (s.emit_quiet a b c)
@[simp] theorem State.emitArg_link_peers (s : State) (a b c d e : Nat) (w : Bool) :
    (s.emitArg a b c d w e).link.peers = s.link.peers := quiet_link_peers (s.emitArg_quiet a b c d w e)
@[simp] theorem State.emitLimited_link_peers (s : State) (i a b c d : Nat) :
    (s.emitLimited i a b c d).link.peers = s.link.peers := quiet_link_peers (s.emitLimited_quiet i a b c d)
@[simp] theorem State.sendFrame_link_peers (s : State) (i : FrameInfo) (bs : List Byte) :
    (s.sendFrame i bs).link.peers = s.link.peers := quiet_link_peers (s.sendFrame_quiet i bs)
@[simp] theorem State.emit_link_hbAt (s : State) (a b c : Nat) : (s.emit a b c).link.hbAt = s.link.hbAt := quiet_link_hbAt (s.emit_quiet a b c)
@[simp] theorem State.emitArg_link_hbAt (s : State) (a b c d e : Nat) (w : Bool) :
    (s.emitArg a b c d w e).link.hbAt = s.link.hbAt := quiet_link_hbAt (s.emitArg_quiet a b c d w e)
@[simp] theorem State.emitLimited_link_hbAt (s : State) (i a b c d : Nat) :
    (s.emitLimited i a b c d).link.hbAt = s.link.hbAt := quiet_link_hbAt (s.emitLimited_quiet i a b c d)
@[simp] theorem State.sendFrame_link_hbAt (s : State) (i : FrameInfo) (bs : List Byte) :
    (s.sendFrame i bs).link.hbAt = s.link.hbAt := quiet_link_hbAt (s.sendFrame_quiet i bs)
@[simp] theorem State.emit_link_hbCount (s : State) (a b c : Nat) : (s.emit a b c).link.hbCount = s.link.hbCount := quiet_link_hbCount (s.emit_quiet a b c)
@[simp] theorem State.emitArg_link_hbCount (s : State) (a b c d e : Nat) (w : Bool) :
    (s.emitArg a b c d w e).link.hbCount = s.link.hbCount := quiet_link_hbCount (s.emitArg_quiet a b c d w e)
@[simp] theorem State.emitLimited_link_hbCount (s : State) (i a b c d : Nat) :
    (s.emitLimited i a b c d).link.hbCount = s.link.hbCount := quiet_link_hbCount (s.emitLimited_quiet i a b c d)
@[simp] theorem State.sendFrame_link_hbCount (s : State) (i : FrameInfo) (bs : List Byte) :
    (s.sendFrame i bs).link.hbCount = s.link.hbCount := quiet_link_hbCount (s.sendFrame_quiet i bs)
@[simp] theorem State.emit_link_roleRepeat (s : State) (a b c : Nat) : (s.emit a b c).link.roleRepeat = s.link.roleRepeat := quiet_link_roleRepeat (s.emit_quiet a b c)
@[simp] theorem State.emitArg_link_roleRepeat (s : State) (a b c d e : Nat) (w : Bool) :
    (s.emitArg a b c d w e).link.roleRepeat = s.link.roleRepeat := quiet_link_roleRepeat (s.emitArg_quiet a b c d w e)
@[simp] theorem State.emitLimited_link_roleRepeat (s : State) (i a b c d : Nat) :
    (s.emitLimited i a b c d).link.roleRepeat = s.link.roleRepeat := quiet_link_roleRepeat (s.emitLimited_quiet i a b c d)
@[simp] theorem State.sendFrame_link_roleRepeat (s : State) (i : FrameInfo) (bs : List Byte) :
    (s.sendFrame i bs).link.roleRepeat = s.link.roleRepeat := quiet_link_roleRepeat (s.sendFrame_quiet i bs)
@[simp] theorem State.emit_link_roleReason (s : State) (a b c : Nat) : (s.emit a b c).link.roleReason = s.link.roleReason := quiet_link_roleReason (s.emit_quiet a b c)
@[simp] theorem State.emitArg_link_roleReason (s : State) (a b c d e : Nat) (w : Bool) :
    (s.emitArg a b c d w e).link.roleReason = s.link.roleReason := quiet_link_roleReason (s.emitArg_quiet a b c d w e)
@[simp] theorem State.emitLimited_link_roleReason (s : State) (i a b c d : Nat) :
    (s.emitLimited i a b c d).link.roleReason = s.link.roleReason := quiet_link_roleReason (s.emitLimited_quiet i a b c d)
@[simp] theorem State.sendFrame_link_roleReason (s : State) (i : FrameInfo) (bs : List Byte) :
    (s.sendFrame i bs).link.roleReason = s.link.roleReason := quiet_link_roleReason (s.sendFrame_quiet i bs)
@[simp] theorem State.emit_link_tags (s : State) (a b c : Nat) : (s.emit a b c).link.tags = s.link.tags := quiet_link_tags (s.emit_quiet a b c)
@[simp] theorem State.emitArg_link_tags (s : State) (a b c d e : Nat) (w : Bool) :
    (s.emitArg a b c d w e).link.tags = s.link.tags := quiet_link_tags (s.emitArg_quiet a b c d w e)
@[simp] theorem State.emitLimited_link_tags (s : State) (i a b c d : Nat) :
    (s.emitLimited i a b c d).link.tags = s.link.tags := quiet_link_tags (s.emitLimited_quiet i a b c d)
@[simp] theorem State.sendFrame_link_tags (s : State) (i : FrameInfo) (bs : List Byte) :
    (s.sendFrame i bs).link.tags = s.link.tags := quiet_link_tags (s.sendFrame_quiet i bs)
@[simp] theorem State.emit_comp_channels (s : State) (a b c : Nat) : (s.emit a b c).comp.channels = s.comp.channels := quiet_comp_channels (s.emit_quiet a b c)
@[simp] theorem State.emitArg_comp_channels (s : State) (a b c d e : Nat) (w : Bool) :
    (s.emitArg a b c d w e).comp.channels = s.comp.channels := quiet_comp_channels (s.emitArg_quiet a b c d w e)
@[simp] theorem State.emitLimited_comp_channels (s : State) (i a b c d : Nat) :
    (s.emitLimited i a b c d).comp.channels = s.comp.channels := quiet_comp_channels (s.emitLimited_quiet i a b c d)
@[simp] theorem State.sendFrame_comp_channels (s : State) (i : FrameInfo) (bs : List Byte) :
    (s.sendFrame i bs).comp.channels = s.comp.channels := quiet_comp_channels (s.sendFrame_quiet i bs)
@[simp] theorem State.emit_comp_slots (s : State) (a b c : Nat) : (s.emit a b c).comp.slots = s.comp.slots := quiet_comp_slots (s.emit_quiet a b c)
@[simp] theorem State.emitArg_comp_slots (s : State) (a b c d e : Nat) (w : Bool) :
    (s.emitArg a b c d w e).comp.slots = s.comp.slots := quiet_comp_slots (s.emitArg_quiet a b c d w e)
@[simp] theorem State.emitLimited_comp_slots (s : State) (i a b c d : Nat) :
    (s.emitLimited i a b c d).comp.slots = s.comp.slots := quiet_comp_slots (s.emitLimited_quiet i a b c d)
@[simp] theorem State.sendFrame_comp_slots (s : State) (i : FrameInfo) (bs : List Byte) :
    (s.sendFrame i bs).comp.slots = s.comp.slots := quiet_comp_slots (s.sendFrame_quiet i bs)
@[simp] theorem State.emit_comp_bad (s : State) (a b c : Nat) : (s.emit a b c).comp.bad = s.comp.bad := quiet_comp_bad (s.emit_quiet a b c)
@[simp] theorem State.emitArg_comp_bad (s : State) (a b c d e : Nat) (w : Bool) :
    (s.emitArg a b c d w e).comp.bad = s.comp.bad := quiet_comp_bad (s.emitArg_quiet a b c d w e)
@[simp] theorem State.emitLimited_comp_bad (s : State) (i a b c d : Nat) :
    (s.emitLimited i a b c d).comp.bad = s.comp.bad := quiet_comp_bad (s.emitLimited_quiet i a b c d)
@[simp] theorem State.sendFrame_comp_bad (s : State) (i : FrameInfo) (bs : List Byte) :
    (s.sendFrame i bs).comp.bad = s.comp.bad := quiet_comp_bad (s.sendFrame_quiet i bs)
@[simp] theorem State.emit_log_flushes (s : State) (a b c : Nat) : (s.emit a b c).log.flushes = s.log.flushes := quiet_log_flushes (s.emit_quiet a b c)
@[simp] theorem State.emitArg_log_flushes (s : State) (a b c d e : Nat) (w : Bool) :
    (s.emitArg a b c d w e).log.flushes = s.log.flushes := quiet_log_flushes (s.emitArg_quiet a b c d w e)
@[simp] theorem State.emitLimited_log_flushes (s : State) (i a b c d : Nat) :
    (s.emitLimited i a b c d).log.flushes = s.log.flushes := quiet_log_flushes (s.emitLimited_quiet i a b c d)
@[simp] theorem State.sendFrame_log_flushes (s : State) (i : FrameInfo) (bs : List Byte) :
    (s.sendFrame i bs).log.flushes = s.log.flushes := quiet_log_flushes (s.sendFrame_quiet i bs)
@[simp] theorem State.emit_log_programErrors (s : State) (a b c : Nat) : (s.emit a b c).log.programErrors = s.log.programErrors := quiet_log_programErrors (s.emit_quiet a b c)
@[simp] theorem State.emitArg_log_programErrors (s : State) (a b c d e : Nat) (w : Bool) :
    (s.emitArg a b c d w e).log.programErrors = s.log.programErrors := quiet_log_programErrors (s.emitArg_quiet a b c d w e)
@[simp] theorem State.emitLimited_log_programErrors (s : State) (i a b c d : Nat) :
    (s.emitLimited i a b c d).log.programErrors = s.log.programErrors := quiet_log_programErrors (s.emitLimited_quiet i a b c d)
@[simp] theorem State.sendFrame_log_programErrors (s : State) (i : FrameInfo) (bs : List Byte) :
    (s.sendFrame i bs).log.programErrors = s.log.programErrors := quiet_log_programErrors (s.sendFrame_quiet i bs)
@[simp] theorem State.emit_log_wrapped (s : State) (a b c : Nat) : (s.emit a b c).log.wrapped = s.log.wrapped := quiet_log_wrapped (s.emit_quiet a b c)
@[simp] theorem State.emitArg_log_wrapped (s : State) (a b c d e : Nat) (w : Bool) :
    (s.emitArg a b c d w e).log.wrapped = s.log.wrapped := quiet_log_wrapped (s.emitArg_quiet a b c d w e)
@[simp] theorem State.emitLimited_log_wrapped (s : State) (i a b c d : Nat) :
    (s.emitLimited i a b c d).log.wrapped = s.log.wrapped := quiet_log_wrapped (s.emitLimited_quiet i a b c d)
@[simp] theorem State.sendFrame_log_wrapped (s : State) (i : FrameInfo) (bs : List Byte) :
    (s.sendFrame i bs).log.wrapped = s.log.wrapped := quiet_log_wrapped (s.sendFrame_quiet i bs)
@[simp] theorem State.emit_log_pfFlushes (s : State) (a b c : Nat) : (s.emit a b c).log.pfFlushes = s.log.pfFlushes := quiet_log_pfFlushes (s.emit_quiet a b c)
@[simp] theorem State.emitArg_log_pfFlushes (s : State) (a b c d e : Nat) (w : Bool) :
    (s.emitArg a b c d w e).log.pfFlushes = s.log.pfFlushes := quiet_log_pfFlushes (s.emitArg_quiet a b c d w e)
@[simp] theorem State.emitLimited_log_pfFlushes (s : State) (i a b c d : Nat) :
    (s.emitLimited i a b c d).log.pfFlushes = s.log.pfFlushes := quiet_log_pfFlushes (s.emitLimited_quiet i a b c d)
@[simp] theorem State.sendFrame_log_pfFlushes (s : State) (i : FrameInfo) (bs : List Byte) :
    (s.sendFrame i bs).log.pfFlushes = s.log.pfFlushes := quiet_log_pfFlushes (s.sendFrame_quiet i bs)
@[simp] theorem State.emit_log_firstLife (s : State) (a b c : Nat) : (s.emit a b c).log.firstLife = s.log.firstLife := quiet_log_firstLife (s.emit_quiet a b c)
@[simp] theorem State.emitArg_log_firstLife (s : State) (a b c d e : Nat) (w : Bool) :
    (s.emitArg a b c d w e).log.firstLife = s.log.firstLife := quiet_log_firstLife (s.emitArg_quiet a b c d w e)
@[simp] theorem State.emitLimited_log_firstLife (s : State) (i a b c d : Nat) :
    (s.emitLimited i a b c d).log.firstLife = s.log.firstLife := quiet_log_firstLife (s.emitLimited_quiet i a b c d)
@[simp] theorem State.sendFrame_log_firstLife (s : State) (i : FrameInfo) (bs : List Byte) :
    (s.sendFrame i bs).log.firstLife = s.log.firstLife := quiet_log_firstLife (s.sendFrame_quiet i bs)
@[simp] theorem State.emit_log_firstRetired (s : State) (a b c : Nat) : (s.emit a b c).log.firstRetired = s.log.firstRetired := quiet_log_firstRetired (s.emit_quiet a b c)
@[simp] theorem State.emitArg_log_firstRetired (s : State) (a b c d e : Nat) (w : Bool) :
    (s.emitArg a b c d w e).log.firstRetired = s.log.firstRetired := quiet_log_firstRetired (s.emitArg_quiet a b c d w e)
@[simp] theorem State.emitLimited_log_firstRetired (s : State) (i a b c d : Nat) :
    (s.emitLimited i a b c d).log.firstRetired = s.log.firstRetired := quiet_log_firstRetired (s.emitLimited_quiet i a b c d)
@[simp] theorem State.sendFrame_log_firstRetired (s : State) (i : FrameInfo) (bs : List Byte) :
    (s.sendFrame i bs).log.firstRetired = s.log.firstRetired := quiet_log_firstRetired (s.sendFrame_quiet i bs)
@[simp] theorem State.emit_log_ring (s : State) (a b c : Nat) : (s.emit a b c).log.ring = s.log.ring := quiet_log_ring (s.emit_quiet a b c)
@[simp] theorem State.emitArg_log_ring (s : State) (a b c d e : Nat) (w : Bool) :
    (s.emitArg a b c d w e).log.ring = s.log.ring := quiet_log_ring (s.emitArg_quiet a b c d w e)
@[simp] theorem State.emitLimited_log_ring (s : State) (i a b c d : Nat) :
    (s.emitLimited i a b c d).log.ring = s.log.ring := quiet_log_ring (s.emitLimited_quiet i a b c d)
@[simp] theorem State.sendFrame_log_ring (s : State) (i : FrameInfo) (bs : List Byte) :
    (s.sendFrame i bs).log.ring = s.log.ring := quiet_log_ring (s.sendFrame_quiet i bs)
@[simp] theorem State.emit_log_retired (s : State) (a b c : Nat) : (s.emit a b c).log.retired = s.log.retired := quiet_log_retired (s.emit_quiet a b c)
@[simp] theorem State.emitArg_log_retired (s : State) (a b c d e : Nat) (w : Bool) :
    (s.emitArg a b c d w e).log.retired = s.log.retired := quiet_log_retired (s.emitArg_quiet a b c d w e)
@[simp] theorem State.emitLimited_log_retired (s : State) (i a b c d : Nat) :
    (s.emitLimited i a b c d).log.retired = s.log.retired := quiet_log_retired (s.emitLimited_quiet i a b c d)
@[simp] theorem State.sendFrame_log_retired (s : State) (i : FrameInfo) (bs : List Byte) :
    (s.sendFrame i bs).log.retired = s.log.retired := quiet_log_retired (s.sendFrame_quiet i bs)
@[simp] theorem State.emit_log_frozen (s : State) (a b c : Nat) : (s.emit a b c).log.frozen = s.log.frozen := quiet_log_frozen (s.emit_quiet a b c)
@[simp] theorem State.emitArg_log_frozen (s : State) (a b c d e : Nat) (w : Bool) :
    (s.emitArg a b c d w e).log.frozen = s.log.frozen := quiet_log_frozen (s.emitArg_quiet a b c d w e)
@[simp] theorem State.emitLimited_log_frozen (s : State) (i a b c d : Nat) :
    (s.emitLimited i a b c d).log.frozen = s.log.frozen := quiet_log_frozen (s.emitLimited_quiet i a b c d)
@[simp] theorem State.sendFrame_log_frozen (s : State) (i : FrameInfo) (bs : List Byte) :
    (s.sendFrame i bs).log.frozen = s.log.frozen := quiet_log_frozen (s.sendFrame_quiet i bs)
@[simp] theorem State.emit_log_frozenDev (s : State) (a b c : Nat) : (s.emit a b c).log.frozenDev = s.log.frozenDev := quiet_log_frozenDev (s.emit_quiet a b c)
@[simp] theorem State.emitArg_log_frozenDev (s : State) (a b c d e : Nat) (w : Bool) :
    (s.emitArg a b c d w e).log.frozenDev = s.log.frozenDev := quiet_log_frozenDev (s.emitArg_quiet a b c d w e)
@[simp] theorem State.emitLimited_log_frozenDev (s : State) (i a b c d : Nat) :
    (s.emitLimited i a b c d).log.frozenDev = s.log.frozenDev := quiet_log_frozenDev (s.emitLimited_quiet i a b c d)
@[simp] theorem State.sendFrame_log_frozenDev (s : State) (i : FrameInfo) (bs : List Byte) :
    (s.sendFrame i bs).log.frozenDev = s.log.frozenDev := quiet_log_frozenDev (s.sendFrame_quiet i bs)
@[simp] theorem State.emit_log_pfail (s : State) (a b c : Nat) : (s.emit a b c).log.pfail = s.log.pfail := quiet_log_pfail (s.emit_quiet a b c)
@[simp] theorem State.emitArg_log_pfail (s : State) (a b c d e : Nat) (w : Bool) :
    (s.emitArg a b c d w e).log.pfail = s.log.pfail := quiet_log_pfail (s.emitArg_quiet a b c d w e)
@[simp] theorem State.emitLimited_log_pfail (s : State) (i a b c d : Nat) :
    (s.emitLimited i a b c d).log.pfail = s.log.pfail := quiet_log_pfail (s.emitLimited_quiet i a b c d)
@[simp] theorem State.sendFrame_log_pfail (s : State) (i : FrameInfo) (bs : List Byte) :
    (s.sendFrame i bs).log.pfail = s.log.pfail := quiet_log_pfail (s.sendFrame_quiet i bs)
@[simp] theorem State.emit_log_pfHighAt (s : State) (a b c : Nat) : (s.emit a b c).log.pfHighAt = s.log.pfHighAt := quiet_log_pfHighAt (s.emit_quiet a b c)
@[simp] theorem State.emitArg_log_pfHighAt (s : State) (a b c d e : Nat) (w : Bool) :
    (s.emitArg a b c d w e).log.pfHighAt = s.log.pfHighAt := quiet_log_pfHighAt (s.emitArg_quiet a b c d w e)
@[simp] theorem State.emitLimited_log_pfHighAt (s : State) (i a b c d : Nat) :
    (s.emitLimited i a b c d).log.pfHighAt = s.log.pfHighAt := quiet_log_pfHighAt (s.emitLimited_quiet i a b c d)
@[simp] theorem State.sendFrame_log_pfHighAt (s : State) (i : FrameInfo) (bs : List Byte) :
    (s.sendFrame i bs).log.pfHighAt = s.log.pfHighAt := quiet_log_pfHighAt (s.sendFrame_quiet i bs)
@[simp] theorem State.emit_red_config (s : State) (a b c : Nat) : (s.emit a b c).red.config = s.red.config := quiet_red_config (s.emit_quiet a b c)
@[simp] theorem State.emitArg_red_config (s : State) (a b c d e : Nat) (w : Bool) :
    (s.emitArg a b c d w e).red.config = s.red.config := quiet_red_config (s.emitArg_quiet a b c d w e)
@[simp] theorem State.emitLimited_red_config (s : State) (i a b c d : Nat) :
    (s.emitLimited i a b c d).red.config = s.red.config := quiet_red_config (s.emitLimited_quiet i a b c d)
@[simp] theorem State.sendFrame_red_config (s : State) (i : FrameInfo) (bs : List Byte) :
    (s.sendFrame i bs).red.config = s.red.config := quiet_red_config (s.sendFrame_quiet i bs)
@[simp] theorem State.emit_red_role (s : State) (a b c : Nat) : (s.emit a b c).red.role = s.red.role := quiet_red_role (s.emit_quiet a b c)
@[simp] theorem State.emitArg_red_role (s : State) (a b c d e : Nat) (w : Bool) :
    (s.emitArg a b c d w e).red.role = s.red.role := quiet_red_role (s.emitArg_quiet a b c d w e)
@[simp] theorem State.emitLimited_red_role (s : State) (i a b c d : Nat) :
    (s.emitLimited i a b c d).red.role = s.red.role := quiet_red_role (s.emitLimited_quiet i a b c d)
@[simp] theorem State.sendFrame_red_role (s : State) (i : FrameInfo) (bs : List Byte) :
    (s.sendFrame i bs).red.role = s.red.role := quiet_red_role (s.sendFrame_quiet i bs)
@[simp] theorem State.emit_red_since (s : State) (a b c : Nat) : (s.emit a b c).red.since = s.red.since := quiet_red_since (s.emit_quiet a b c)
@[simp] theorem State.emitArg_red_since (s : State) (a b c d e : Nat) (w : Bool) :
    (s.emitArg a b c d w e).red.since = s.red.since := quiet_red_since (s.emitArg_quiet a b c d w e)
@[simp] theorem State.emitLimited_red_since (s : State) (i a b c d : Nat) :
    (s.emitLimited i a b c d).red.since = s.red.since := quiet_red_since (s.emitLimited_quiet i a b c d)
@[simp] theorem State.sendFrame_red_since (s : State) (i : FrameInfo) (bs : List Byte) :
    (s.sendFrame i bs).red.since = s.red.since := quiet_red_since (s.sendFrame_quiet i bs)
@[simp] theorem State.emit_red_roleOut (s : State) (a b c : Nat) : (s.emit a b c).red.roleOut = s.red.roleOut := quiet_red_roleOut (s.emit_quiet a b c)
@[simp] theorem State.emitArg_red_roleOut (s : State) (a b c d e : Nat) (w : Bool) :
    (s.emitArg a b c d w e).red.roleOut = s.red.roleOut := quiet_red_roleOut (s.emitArg_quiet a b c d w e)
@[simp] theorem State.emitLimited_red_roleOut (s : State) (i a b c d : Nat) :
    (s.emitLimited i a b c d).red.roleOut = s.red.roleOut := quiet_red_roleOut (s.emitLimited_quiet i a b c d)
@[simp] theorem State.sendFrame_red_roleOut (s : State) (i : FrameInfo) (bs : List Byte) :
    (s.sendFrame i bs).red.roleOut = s.red.roleOut := quiet_red_roleOut (s.sendFrame_quiet i bs)
@[simp] theorem State.emit_red_roleOutAt (s : State) (a b c : Nat) : (s.emit a b c).red.roleOutAt = s.red.roleOutAt := quiet_red_roleOutAt (s.emit_quiet a b c)
@[simp] theorem State.emitArg_red_roleOutAt (s : State) (a b c d e : Nat) (w : Bool) :
    (s.emitArg a b c d w e).red.roleOutAt = s.red.roleOutAt := quiet_red_roleOutAt (s.emitArg_quiet a b c d w e)
@[simp] theorem State.emitLimited_red_roleOutAt (s : State) (i a b c d : Nat) :
    (s.emitLimited i a b c d).red.roleOutAt = s.red.roleOutAt := quiet_red_roleOutAt (s.emitLimited_quiet i a b c d)
@[simp] theorem State.sendFrame_red_roleOutAt (s : State) (i : FrameInfo) (bs : List Byte) :
    (s.sendFrame i bs).red.roleOutAt = s.red.roleOutAt := quiet_red_roleOutAt (s.sendFrame_quiet i bs)
@[simp] theorem State.emit_red_peerIn (s : State) (a b c : Nat) : (s.emit a b c).red.peerIn = s.red.peerIn := quiet_red_peerIn (s.emit_quiet a b c)
@[simp] theorem State.emitArg_red_peerIn (s : State) (a b c d e : Nat) (w : Bool) :
    (s.emitArg a b c d w e).red.peerIn = s.red.peerIn := quiet_red_peerIn (s.emitArg_quiet a b c d w e)
@[simp] theorem State.emitLimited_red_peerIn (s : State) (i a b c d : Nat) :
    (s.emitLimited i a b c d).red.peerIn = s.red.peerIn := quiet_red_peerIn (s.emitLimited_quiet i a b c d)
@[simp] theorem State.sendFrame_red_peerIn (s : State) (i : FrameInfo) (bs : List Byte) :
    (s.sendFrame i bs).red.peerIn = s.red.peerIn := quiet_red_peerIn (s.sendFrame_quiet i bs)
@[simp] theorem State.emit_red_peerInAt (s : State) (a b c : Nat) : (s.emit a b c).red.peerInAt = s.red.peerInAt := quiet_red_peerInAt (s.emit_quiet a b c)
@[simp] theorem State.emitArg_red_peerInAt (s : State) (a b c d e : Nat) (w : Bool) :
    (s.emitArg a b c d w e).red.peerInAt = s.red.peerInAt := quiet_red_peerInAt (s.emitArg_quiet a b c d w e)
@[simp] theorem State.emitLimited_red_peerInAt (s : State) (i a b c d : Nat) :
    (s.emitLimited i a b c d).red.peerInAt = s.red.peerInAt := quiet_red_peerInAt (s.emitLimited_quiet i a b c d)
@[simp] theorem State.sendFrame_red_peerInAt (s : State) (i : FrameInfo) (bs : List Byte) :
    (s.sendFrame i bs).red.peerInAt = s.red.peerInAt := quiet_red_peerInAt (s.sendFrame_quiet i bs)
@[simp] theorem State.emit_red_gate (s : State) (a b c : Nat) : (s.emit a b c).red.gate = s.red.gate := quiet_red_gate (s.emit_quiet a b c)
@[simp] theorem State.emitArg_red_gate (s : State) (a b c d e : Nat) (w : Bool) :
    (s.emitArg a b c d w e).red.gate = s.red.gate := quiet_red_gate (s.emitArg_quiet a b c d w e)
@[simp] theorem State.emitLimited_red_gate (s : State) (i a b c d : Nat) :
    (s.emitLimited i a b c d).red.gate = s.red.gate := quiet_red_gate (s.emitLimited_quiet i a b c d)
@[simp] theorem State.sendFrame_red_gate (s : State) (i : FrameInfo) (bs : List Byte) :
    (s.sendFrame i bs).red.gate = s.red.gate := quiet_red_gate (s.sendFrame_quiet i bs)
@[simp] theorem State.emit_red_keeperRuns (s : State) (a b c : Nat) : (s.emit a b c).red.keeperRuns = s.red.keeperRuns := quiet_red_keeperRuns (s.emit_quiet a b c)
@[simp] theorem State.emitArg_red_keeperRuns (s : State) (a b c d e : Nat) (w : Bool) :
    (s.emitArg a b c d w e).red.keeperRuns = s.red.keeperRuns := quiet_red_keeperRuns (s.emitArg_quiet a b c d w e)
@[simp] theorem State.emitLimited_red_keeperRuns (s : State) (i a b c d : Nat) :
    (s.emitLimited i a b c d).red.keeperRuns = s.red.keeperRuns := quiet_red_keeperRuns (s.emitLimited_quiet i a b c d)
@[simp] theorem State.sendFrame_red_keeperRuns (s : State) (i : FrameInfo) (bs : List Byte) :
    (s.sendFrame i bs).red.keeperRuns = s.red.keeperRuns := quiet_red_keeperRuns (s.sendFrame_quiet i bs)
@[simp] theorem State.emit_red_keeperAt (s : State) (a b c : Nat) : (s.emit a b c).red.keeperAt = s.red.keeperAt := quiet_red_keeperAt (s.emit_quiet a b c)
@[simp] theorem State.emitArg_red_keeperAt (s : State) (a b c d e : Nat) (w : Bool) :
    (s.emitArg a b c d w e).red.keeperAt = s.red.keeperAt := quiet_red_keeperAt (s.emitArg_quiet a b c d w e)
@[simp] theorem State.emitLimited_red_keeperAt (s : State) (i a b c d : Nat) :
    (s.emitLimited i a b c d).red.keeperAt = s.red.keeperAt := quiet_red_keeperAt (s.emitLimited_quiet i a b c d)
@[simp] theorem State.sendFrame_red_keeperAt (s : State) (i : FrameInfo) (bs : List Byte) :
    (s.sendFrame i bs).red.keeperAt = s.red.keeperAt := quiet_red_keeperAt (s.sendFrame_quiet i bs)
@[simp] theorem State.emit_red_lapsed (s : State) (a b c : Nat) : (s.emit a b c).red.lapsed = s.red.lapsed := quiet_red_lapsed (s.emit_quiet a b c)
@[simp] theorem State.emitArg_red_lapsed (s : State) (a b c d e : Nat) (w : Bool) :
    (s.emitArg a b c d w e).red.lapsed = s.red.lapsed := quiet_red_lapsed (s.emitArg_quiet a b c d w e)
@[simp] theorem State.emitLimited_red_lapsed (s : State) (i a b c d : Nat) :
    (s.emitLimited i a b c d).red.lapsed = s.red.lapsed := quiet_red_lapsed (s.emitLimited_quiet i a b c d)
@[simp] theorem State.sendFrame_red_lapsed (s : State) (i : FrameInfo) (bs : List Byte) :
    (s.sendFrame i bs).red.lapsed = s.red.lapsed := quiet_red_lapsed (s.sendFrame_quiet i bs)
@[simp] theorem State.emit_red_entered (s : State) (a b c : Nat) : (s.emit a b c).red.entered = s.red.entered := quiet_red_entered (s.emit_quiet a b c)
@[simp] theorem State.emitArg_red_entered (s : State) (a b c d e : Nat) (w : Bool) :
    (s.emitArg a b c d w e).red.entered = s.red.entered := quiet_red_entered (s.emitArg_quiet a b c d w e)
@[simp] theorem State.emitLimited_red_entered (s : State) (i a b c d : Nat) :
    (s.emitLimited i a b c d).red.entered = s.red.entered := quiet_red_entered (s.emitLimited_quiet i a b c d)
@[simp] theorem State.sendFrame_red_entered (s : State) (i : FrameInfo) (bs : List Byte) :
    (s.sendFrame i bs).red.entered = s.red.entered := quiet_red_entered (s.sendFrame_quiet i bs)
@[simp] theorem State.emit_red_row (s : State) (a b c : Nat) : (s.emit a b c).red.row = s.red.row := quiet_red_row (s.emit_quiet a b c)
@[simp] theorem State.emitArg_red_row (s : State) (a b c d e : Nat) (w : Bool) :
    (s.emitArg a b c d w e).red.row = s.red.row := quiet_red_row (s.emitArg_quiet a b c d w e)
@[simp] theorem State.emitLimited_red_row (s : State) (i a b c d : Nat) :
    (s.emitLimited i a b c d).red.row = s.red.row := quiet_red_row (s.emitLimited_quiet i a b c d)
@[simp] theorem State.sendFrame_red_row (s : State) (i : FrameInfo) (bs : List Byte) :
    (s.sendFrame i bs).red.row = s.red.row := quiet_red_row (s.sendFrame_quiet i bs)
@[simp] theorem State.emit_red_rowAt (s : State) (a b c : Nat) : (s.emit a b c).red.rowAt = s.red.rowAt := quiet_red_rowAt (s.emit_quiet a b c)
@[simp] theorem State.emitArg_red_rowAt (s : State) (a b c d e : Nat) (w : Bool) :
    (s.emitArg a b c d w e).red.rowAt = s.red.rowAt := quiet_red_rowAt (s.emitArg_quiet a b c d w e)
@[simp] theorem State.emitLimited_red_rowAt (s : State) (i a b c d : Nat) :
    (s.emitLimited i a b c d).red.rowAt = s.red.rowAt := quiet_red_rowAt (s.emitLimited_quiet i a b c d)
@[simp] theorem State.sendFrame_red_rowAt (s : State) (i : FrameInfo) (bs : List Byte) :
    (s.sendFrame i bs).red.rowAt = s.red.rowAt := quiet_red_rowAt (s.sendFrame_quiet i bs)
@[simp] theorem State.emit_red_agreeAt (s : State) (a b c : Nat) : (s.emit a b c).red.agreeAt = s.red.agreeAt := quiet_red_agreeAt (s.emit_quiet a b c)
@[simp] theorem State.emitArg_red_agreeAt (s : State) (a b c d e : Nat) (w : Bool) :
    (s.emitArg a b c d w e).red.agreeAt = s.red.agreeAt := quiet_red_agreeAt (s.emitArg_quiet a b c d w e)
@[simp] theorem State.emitLimited_red_agreeAt (s : State) (i a b c d : Nat) :
    (s.emitLimited i a b c d).red.agreeAt = s.red.agreeAt := quiet_red_agreeAt (s.emitLimited_quiet i a b c d)
@[simp] theorem State.sendFrame_red_agreeAt (s : State) (i : FrameInfo) (bs : List Byte) :
    (s.sendFrame i bs).red.agreeAt = s.red.agreeAt := quiet_red_agreeAt (s.sendFrame_quiet i bs)
@[simp] theorem State.emit_red_issued (s : State) (a b c : Nat) : (s.emit a b c).red.issued = s.red.issued := quiet_red_issued (s.emit_quiet a b c)
@[simp] theorem State.emitArg_red_issued (s : State) (a b c d e : Nat) (w : Bool) :
    (s.emitArg a b c d w e).red.issued = s.red.issued := quiet_red_issued (s.emitArg_quiet a b c d w e)
@[simp] theorem State.emitLimited_red_issued (s : State) (i a b c d : Nat) :
    (s.emitLimited i a b c d).red.issued = s.red.issued := quiet_red_issued (s.emitLimited_quiet i a b c d)
@[simp] theorem State.sendFrame_red_issued (s : State) (i : FrameInfo) (bs : List Byte) :
    (s.sendFrame i bs).red.issued = s.red.issued := quiet_red_issued (s.sendFrame_quiet i bs)
@[simp] theorem State.emit_red_got (s : State) (a b c : Nat) : (s.emit a b c).red.got = s.red.got := quiet_red_got (s.emit_quiet a b c)
@[simp] theorem State.emitArg_red_got (s : State) (a b c d e : Nat) (w : Bool) :
    (s.emitArg a b c d w e).red.got = s.red.got := quiet_red_got (s.emitArg_quiet a b c d w e)
@[simp] theorem State.emitLimited_red_got (s : State) (i a b c d : Nat) :
    (s.emitLimited i a b c d).red.got = s.red.got := quiet_red_got (s.emitLimited_quiet i a b c d)
@[simp] theorem State.sendFrame_red_got (s : State) (i : FrameInfo) (bs : List Byte) :
    (s.sendFrame i bs).red.got = s.red.got := quiet_red_got (s.sendFrame_quiet i bs)
@[simp] theorem State.emit_red_applied (s : State) (a b c : Nat) : (s.emit a b c).red.applied = s.red.applied := quiet_red_applied (s.emit_quiet a b c)
@[simp] theorem State.emitArg_red_applied (s : State) (a b c d e : Nat) (w : Bool) :
    (s.emitArg a b c d w e).red.applied = s.red.applied := quiet_red_applied (s.emitArg_quiet a b c d w e)
@[simp] theorem State.emitLimited_red_applied (s : State) (i a b c d : Nat) :
    (s.emitLimited i a b c d).red.applied = s.red.applied := quiet_red_applied (s.emitLimited_quiet i a b c d)
@[simp] theorem State.sendFrame_red_applied (s : State) (i : FrameInfo) (bs : List Byte) :
    (s.sendFrame i bs).red.applied = s.red.applied := quiet_red_applied (s.sendFrame_quiet i bs)
@[simp] theorem State.emit_red_gap (s : State) (a b c : Nat) : (s.emit a b c).red.gap = s.red.gap := quiet_red_gap (s.emit_quiet a b c)
@[simp] theorem State.emitArg_red_gap (s : State) (a b c d e : Nat) (w : Bool) :
    (s.emitArg a b c d w e).red.gap = s.red.gap := quiet_red_gap (s.emitArg_quiet a b c d w e)
@[simp] theorem State.emitLimited_red_gap (s : State) (i a b c d : Nat) :
    (s.emitLimited i a b c d).red.gap = s.red.gap := quiet_red_gap (s.emitLimited_quiet i a b c d)
@[simp] theorem State.sendFrame_red_gap (s : State) (i : FrameInfo) (bs : List Byte) :
    (s.sendFrame i bs).red.gap = s.red.gap := quiet_red_gap (s.sendFrame_quiet i bs)
@[simp] theorem State.emit_red_area (s : State) (a b c : Nat) : (s.emit a b c).red.area = s.red.area := quiet_red_area (s.emit_quiet a b c)
@[simp] theorem State.emitArg_red_area (s : State) (a b c d e : Nat) (w : Bool) :
    (s.emitArg a b c d w e).red.area = s.red.area := quiet_red_area (s.emitArg_quiet a b c d w e)
@[simp] theorem State.emitLimited_red_area (s : State) (i a b c d : Nat) :
    (s.emitLimited i a b c d).red.area = s.red.area := quiet_red_area (s.emitLimited_quiet i a b c d)
@[simp] theorem State.sendFrame_red_area (s : State) (i : FrameInfo) (bs : List Byte) :
    (s.sendFrame i bs).red.area = s.red.area := quiet_red_area (s.sendFrame_quiet i bs)
@[simp] theorem State.emit_red_areaTick (s : State) (a b c : Nat) : (s.emit a b c).red.areaTick = s.red.areaTick := quiet_red_areaTick (s.emit_quiet a b c)
@[simp] theorem State.emitArg_red_areaTick (s : State) (a b c d e : Nat) (w : Bool) :
    (s.emitArg a b c d w e).red.areaTick = s.red.areaTick := quiet_red_areaTick (s.emitArg_quiet a b c d w e)
@[simp] theorem State.emitLimited_red_areaTick (s : State) (i a b c d : Nat) :
    (s.emitLimited i a b c d).red.areaTick = s.red.areaTick := quiet_red_areaTick (s.emitLimited_quiet i a b c d)
@[simp] theorem State.sendFrame_red_areaTick (s : State) (i : FrameInfo) (bs : List Byte) :
    (s.sendFrame i bs).red.areaTick = s.red.areaTick := quiet_red_areaTick (s.sendFrame_quiet i bs)
@[simp] theorem State.emit_red_areaJseq (s : State) (a b c : Nat) : (s.emit a b c).red.areaJseq = s.red.areaJseq := quiet_red_areaJseq (s.emit_quiet a b c)
@[simp] theorem State.emitArg_red_areaJseq (s : State) (a b c d e : Nat) (w : Bool) :
    (s.emitArg a b c d w e).red.areaJseq = s.red.areaJseq := quiet_red_areaJseq (s.emitArg_quiet a b c d w e)
@[simp] theorem State.emitLimited_red_areaJseq (s : State) (i a b c d : Nat) :
    (s.emitLimited i a b c d).red.areaJseq = s.red.areaJseq := quiet_red_areaJseq (s.emitLimited_quiet i a b c d)
@[simp] theorem State.sendFrame_red_areaJseq (s : State) (i : FrameInfo) (bs : List Byte) :
    (s.sendFrame i bs).red.areaJseq = s.red.areaJseq := quiet_red_areaJseq (s.sendFrame_quiet i bs)
@[simp] theorem State.emit_red_areaAt (s : State) (a b c : Nat) : (s.emit a b c).red.areaAt = s.red.areaAt := quiet_red_areaAt (s.emit_quiet a b c)
@[simp] theorem State.emitArg_red_areaAt (s : State) (a b c d e : Nat) (w : Bool) :
    (s.emitArg a b c d w e).red.areaAt = s.red.areaAt := quiet_red_areaAt (s.emitArg_quiet a b c d w e)
@[simp] theorem State.emitLimited_red_areaAt (s : State) (i a b c d : Nat) :
    (s.emitLimited i a b c d).red.areaAt = s.red.areaAt := quiet_red_areaAt (s.emitLimited_quiet i a b c d)
@[simp] theorem State.sendFrame_red_areaAt (s : State) (i : FrameInfo) (bs : List Byte) :
    (s.sendFrame i bs).red.areaAt = s.red.areaAt := quiet_red_areaAt (s.sendFrame_quiet i bs)
@[simp] theorem State.emit_red_captured (s : State) (a b c : Nat) : (s.emit a b c).red.captured = s.red.captured := quiet_red_captured (s.emit_quiet a b c)
@[simp] theorem State.emitArg_red_captured (s : State) (a b c d e : Nat) (w : Bool) :
    (s.emitArg a b c d w e).red.captured = s.red.captured := quiet_red_captured (s.emitArg_quiet a b c d w e)
@[simp] theorem State.emitLimited_red_captured (s : State) (i a b c d : Nat) :
    (s.emitLimited i a b c d).red.captured = s.red.captured := quiet_red_captured (s.emitLimited_quiet i a b c d)
@[simp] theorem State.sendFrame_red_captured (s : State) (i : FrameInfo) (bs : List Byte) :
    (s.sendFrame i bs).red.captured = s.red.captured := quiet_red_captured (s.sendFrame_quiet i bs)
@[simp] theorem State.emit_red_capturedAt (s : State) (a b c : Nat) : (s.emit a b c).red.capturedAt = s.red.capturedAt := quiet_red_capturedAt (s.emit_quiet a b c)
@[simp] theorem State.emitArg_red_capturedAt (s : State) (a b c d e : Nat) (w : Bool) :
    (s.emitArg a b c d w e).red.capturedAt = s.red.capturedAt := quiet_red_capturedAt (s.emitArg_quiet a b c d w e)
@[simp] theorem State.emitLimited_red_capturedAt (s : State) (i a b c d : Nat) :
    (s.emitLimited i a b c d).red.capturedAt = s.red.capturedAt := quiet_red_capturedAt (s.emitLimited_quiet i a b c d)
@[simp] theorem State.sendFrame_red_capturedAt (s : State) (i : FrameInfo) (bs : List Byte) :
    (s.sendFrame i bs).red.capturedAt = s.red.capturedAt := quiet_red_capturedAt (s.sendFrame_quiet i bs)
@[simp] theorem State.emit_red_open_ (s : State) (a b c : Nat) : (s.emit a b c).red.open_ = s.red.open_ := quiet_red_open_ (s.emit_quiet a b c)
@[simp] theorem State.emitArg_red_open_ (s : State) (a b c d e : Nat) (w : Bool) :
    (s.emitArg a b c d w e).red.open_ = s.red.open_ := quiet_red_open_ (s.emitArg_quiet a b c d w e)
@[simp] theorem State.emitLimited_red_open_ (s : State) (i a b c d : Nat) :
    (s.emitLimited i a b c d).red.open_ = s.red.open_ := quiet_red_open_ (s.emitLimited_quiet i a b c d)
@[simp] theorem State.sendFrame_red_open_ (s : State) (i : FrameInfo) (bs : List Byte) :
    (s.sendFrame i bs).red.open_ = s.red.open_ := quiet_red_open_ (s.sendFrame_quiet i bs)
@[simp] theorem State.emit_red_highest (s : State) (a b c : Nat) : (s.emit a b c).red.highest = s.red.highest := quiet_red_highest (s.emit_quiet a b c)
@[simp] theorem State.emitArg_red_highest (s : State) (a b c d e : Nat) (w : Bool) :
    (s.emitArg a b c d w e).red.highest = s.red.highest := quiet_red_highest (s.emitArg_quiet a b c d w e)
@[simp] theorem State.emitLimited_red_highest (s : State) (i a b c d : Nat) :
    (s.emitLimited i a b c d).red.highest = s.red.highest := quiet_red_highest (s.emitLimited_quiet i a b c d)
@[simp] theorem State.sendFrame_red_highest (s : State) (i : FrameInfo) (bs : List Byte) :
    (s.sendFrame i bs).red.highest = s.red.highest := quiet_red_highest (s.sendFrame_quiet i bs)
@[simp] theorem State.emit_red_partialSegs (s : State) (a b c : Nat) : (s.emit a b c).red.partialSegs = s.red.partialSegs := quiet_red_partialSegs (s.emit_quiet a b c)
@[simp] theorem State.emitArg_red_partialSegs (s : State) (a b c d e : Nat) (w : Bool) :
    (s.emitArg a b c d w e).red.partialSegs = s.red.partialSegs := quiet_red_partialSegs (s.emitArg_quiet a b c d w e)
@[simp] theorem State.emitLimited_red_partialSegs (s : State) (i a b c d : Nat) :
    (s.emitLimited i a b c d).red.partialSegs = s.red.partialSegs := quiet_red_partialSegs (s.emitLimited_quiet i a b c d)
@[simp] theorem State.sendFrame_red_partialSegs (s : State) (i : FrameInfo) (bs : List Byte) :
    (s.sendFrame i bs).red.partialSegs = s.red.partialSegs := quiet_red_partialSegs (s.sendFrame_quiet i bs)
@[simp] theorem State.emit_red_committed (s : State) (a b c : Nat) : (s.emit a b c).red.committed = s.red.committed := quiet_red_committed (s.emit_quiet a b c)
@[simp] theorem State.emitArg_red_committed (s : State) (a b c d e : Nat) (w : Bool) :
    (s.emitArg a b c d w e).red.committed = s.red.committed := quiet_red_committed (s.emitArg_quiet a b c d w e)
@[simp] theorem State.emitLimited_red_committed (s : State) (i a b c d : Nat) :
    (s.emitLimited i a b c d).red.committed = s.red.committed := quiet_red_committed (s.emitLimited_quiet i a b c d)
@[simp] theorem State.sendFrame_red_committed (s : State) (i : FrameInfo) (bs : List Byte) :
    (s.sendFrame i bs).red.committed = s.red.committed := quiet_red_committed (s.sendFrame_quiet i bs)
@[simp] theorem State.emit_red_loadConfig (s : State) (a b c : Nat) : (s.emit a b c).red.loadConfig = s.red.loadConfig := quiet_red_loadConfig (s.emit_quiet a b c)
@[simp] theorem State.emitArg_red_loadConfig (s : State) (a b c d e : Nat) (w : Bool) :
    (s.emitArg a b c d w e).red.loadConfig = s.red.loadConfig := quiet_red_loadConfig (s.emitArg_quiet a b c d w e)
@[simp] theorem State.emitLimited_red_loadConfig (s : State) (i a b c d : Nat) :
    (s.emitLimited i a b c d).red.loadConfig = s.red.loadConfig := quiet_red_loadConfig (s.emitLimited_quiet i a b c d)
@[simp] theorem State.sendFrame_red_loadConfig (s : State) (i : FrameInfo) (bs : List Byte) :
    (s.sendFrame i bs).red.loadConfig = s.red.loadConfig := quiet_red_loadConfig (s.sendFrame_quiet i bs)
@[simp] theorem State.emit_red_handover (s : State) (a b c : Nat) : (s.emit a b c).red.handover = s.red.handover := quiet_red_handover (s.emit_quiet a b c)
@[simp] theorem State.emitArg_red_handover (s : State) (a b c d e : Nat) (w : Bool) :
    (s.emitArg a b c d w e).red.handover = s.red.handover := quiet_red_handover (s.emitArg_quiet a b c d w e)
@[simp] theorem State.emitLimited_red_handover (s : State) (i a b c d : Nat) :
    (s.emitLimited i a b c d).red.handover = s.red.handover := quiet_red_handover (s.emitLimited_quiet i a b c d)
@[simp] theorem State.sendFrame_red_handover (s : State) (i : FrameInfo) (bs : List Byte) :
    (s.sendFrame i bs).red.handover = s.red.handover := quiet_red_handover (s.sendFrame_quiet i bs)
@[simp] theorem State.emit_red_peerHandedOver (s : State) (a b c : Nat) : (s.emit a b c).red.peerHandedOver = s.red.peerHandedOver := quiet_red_peerHandedOver (s.emit_quiet a b c)
@[simp] theorem State.emitArg_red_peerHandedOver (s : State) (a b c d e : Nat) (w : Bool) :
    (s.emitArg a b c d w e).red.peerHandedOver = s.red.peerHandedOver := quiet_red_peerHandedOver (s.emitArg_quiet a b c d w e)
@[simp] theorem State.emitLimited_red_peerHandedOver (s : State) (i a b c d : Nat) :
    (s.emitLimited i a b c d).red.peerHandedOver = s.red.peerHandedOver := quiet_red_peerHandedOver (s.emitLimited_quiet i a b c d)
@[simp] theorem State.sendFrame_red_peerHandedOver (s : State) (i : FrameInfo) (bs : List Byte) :
    (s.sendFrame i bs).red.peerHandedOver = s.red.peerHandedOver := quiet_red_peerHandedOver (s.sendFrame_quiet i bs)
@[simp] theorem State.emit_red_restored (s : State) (a b c : Nat) : (s.emit a b c).red.restored = s.red.restored := quiet_red_restored (s.emit_quiet a b c)
@[simp] theorem State.emitArg_red_restored (s : State) (a b c d e : Nat) (w : Bool) :
    (s.emitArg a b c d w e).red.restored = s.red.restored := quiet_red_restored (s.emitArg_quiet a b c d w e)
@[simp] theorem State.emitLimited_red_restored (s : State) (i a b c d : Nat) :
    (s.emitLimited i a b c d).red.restored = s.red.restored := quiet_red_restored (s.emitLimited_quiet i a b c d)
@[simp] theorem State.sendFrame_red_restored (s : State) (i : FrameInfo) (bs : List Byte) :
    (s.sendFrame i bs).red.restored = s.red.restored := quiet_red_restored (s.sendFrame_quiet i bs)
@[simp] theorem State.emit_red_takeover (s : State) (a b c : Nat) : (s.emit a b c).red.takeover = s.red.takeover := quiet_red_takeover (s.emit_quiet a b c)
@[simp] theorem State.emitArg_red_takeover (s : State) (a b c d e : Nat) (w : Bool) :
    (s.emitArg a b c d w e).red.takeover = s.red.takeover := quiet_red_takeover (s.emitArg_quiet a b c d w e)
@[simp] theorem State.emitLimited_red_takeover (s : State) (i a b c d : Nat) :
    (s.emitLimited i a b c d).red.takeover = s.red.takeover := quiet_red_takeover (s.emitLimited_quiet i a b c d)
@[simp] theorem State.sendFrame_red_takeover (s : State) (i : FrameInfo) (bs : List Byte) :
    (s.sendFrame i bs).red.takeover = s.red.takeover := quiet_red_takeover (s.sendFrame_quiet i bs)
@[simp] theorem State.emit_dict_resetComm (s : State) (a b c : Nat) : (s.emit a b c).dict.resetComm = s.dict.resetComm := quiet_dict_resetComm (s.emit_quiet a b c)
@[simp] theorem State.emitArg_dict_resetComm (s : State) (a b c d e : Nat) (w : Bool) :
    (s.emitArg a b c d w e).dict.resetComm = s.dict.resetComm := quiet_dict_resetComm (s.emitArg_quiet a b c d w e)
@[simp] theorem State.emitLimited_dict_resetComm (s : State) (i a b c d : Nat) :
    (s.emitLimited i a b c d).dict.resetComm = s.dict.resetComm := quiet_dict_resetComm (s.emitLimited_quiet i a b c d)
@[simp] theorem State.sendFrame_dict_resetComm (s : State) (i : FrameInfo) (bs : List Byte) :
    (s.sendFrame i bs).dict.resetComm = s.dict.resetComm := quiet_dict_resetComm (s.sendFrame_quiet i bs)
@[simp] theorem State.emit_dict_sel (s : State) (a b c : Nat) : (s.emit a b c).dict.sel = s.dict.sel := quiet_dict_sel (s.emit_quiet a b c)
@[simp] theorem State.emitArg_dict_sel (s : State) (a b c d e : Nat) (w : Bool) :
    (s.emitArg a b c d w e).dict.sel = s.dict.sel := quiet_dict_sel (s.emitArg_quiet a b c d w e)
@[simp] theorem State.emitLimited_dict_sel (s : State) (i a b c d : Nat) :
    (s.emitLimited i a b c d).dict.sel = s.dict.sel := quiet_dict_sel (s.emitLimited_quiet i a b c d)
@[simp] theorem State.sendFrame_dict_sel (s : State) (i : FrameInfo) (bs : List Byte) :
    (s.sendFrame i bs).dict.sel = s.dict.sel := quiet_dict_sel (s.sendFrame_quiet i bs)
@[simp] theorem State.emit_dict_window (s : State) (a b c : Nat) : (s.emit a b c).dict.window = s.dict.window := quiet_dict_window (s.emit_quiet a b c)
@[simp] theorem State.emitArg_dict_window (s : State) (a b c d e : Nat) (w : Bool) :
    (s.emitArg a b c d w e).dict.window = s.dict.window := quiet_dict_window (s.emitArg_quiet a b c d w e)
@[simp] theorem State.emitLimited_dict_window (s : State) (i a b c d : Nat) :
    (s.emitLimited i a b c d).dict.window = s.dict.window := quiet_dict_window (s.emitLimited_quiet i a b c d)
@[simp] theorem State.sendFrame_dict_window (s : State) (i : FrameInfo) (bs : List Byte) :
    (s.sendFrame i bs).dict.window = s.dict.window := quiet_dict_window (s.sendFrame_quiet i bs)
@[simp] theorem State.emit_dict_wlen (s : State) (a b c : Nat) : (s.emit a b c).dict.wlen = s.dict.wlen := quiet_dict_wlen (s.emit_quiet a b c)
@[simp] theorem State.emitArg_dict_wlen (s : State) (a b c d e : Nat) (w : Bool) :
    (s.emitArg a b c d w e).dict.wlen = s.dict.wlen := quiet_dict_wlen (s.emitArg_quiet a b c d w e)
@[simp] theorem State.emitLimited_dict_wlen (s : State) (i a b c d : Nat) :
    (s.emitLimited i a b c d).dict.wlen = s.dict.wlen := quiet_dict_wlen (s.emitLimited_quiet i a b c d)
@[simp] theorem State.sendFrame_dict_wlen (s : State) (i : FrameInfo) (bs : List Byte) :
    (s.sendFrame i bs).dict.wlen = s.dict.wlen := quiet_dict_wlen (s.sendFrame_quiet i bs)
@[simp] theorem State.emit_dict_udp (s : State) (a b c : Nat) : (s.emit a b c).dict.udp = s.dict.udp := quiet_dict_udp (s.emit_quiet a b c)
@[simp] theorem State.emitArg_dict_udp (s : State) (a b c d e : Nat) (w : Bool) :
    (s.emitArg a b c d w e).dict.udp = s.dict.udp := quiet_dict_udp (s.emitArg_quiet a b c d w e)
@[simp] theorem State.emitLimited_dict_udp (s : State) (i a b c d : Nat) :
    (s.emitLimited i a b c d).dict.udp = s.dict.udp := quiet_dict_udp (s.emitLimited_quiet i a b c d)
@[simp] theorem State.sendFrame_dict_udp (s : State) (i : FrameInfo) (bs : List Byte) :
    (s.sendFrame i bs).dict.udp = s.dict.udp := quiet_dict_udp (s.sendFrame_quiet i bs)
@[simp] theorem State.emit_dict_store (s : State) (a b c : Nat) : (s.emit a b c).dict.store = s.dict.store := quiet_dict_store (s.emit_quiet a b c)
@[simp] theorem State.emitArg_dict_store (s : State) (a b c d e : Nat) (w : Bool) :
    (s.emitArg a b c d w e).dict.store = s.dict.store := quiet_dict_store (s.emitArg_quiet a b c d w e)
@[simp] theorem State.emitLimited_dict_store (s : State) (i a b c d : Nat) :
    (s.emitLimited i a b c d).dict.store = s.dict.store := quiet_dict_store (s.emitLimited_quiet i a b c d)
@[simp] theorem State.sendFrame_dict_store (s : State) (i : FrameInfo) (bs : List Byte) :
    (s.sendFrame i bs).dict.store = s.dict.store := quiet_dict_store (s.sendFrame_quiet i bs)
@[simp] theorem State.emit_dict_restored (s : State) (a b c : Nat) : (s.emit a b c).dict.restored = s.dict.restored := quiet_dict_restored (s.emit_quiet a b c)
@[simp] theorem State.emitArg_dict_restored (s : State) (a b c d e : Nat) (w : Bool) :
    (s.emitArg a b c d w e).dict.restored = s.dict.restored := quiet_dict_restored (s.emitArg_quiet a b c d w e)
@[simp] theorem State.emitLimited_dict_restored (s : State) (i a b c d : Nat) :
    (s.emitLimited i a b c d).dict.restored = s.dict.restored := quiet_dict_restored (s.emitLimited_quiet i a b c d)
@[simp] theorem State.sendFrame_dict_restored (s : State) (i : FrameInfo) (bs : List Byte) :
    (s.sendFrame i bs).dict.restored = s.dict.restored := quiet_dict_restored (s.sendFrame_quiet i bs)
@[simp] theorem State.emit_cfg (s : State) (a b c : Nat) (k : Nat) : (s.emit a b c).cfg k = s.cfg k := quiet_cfg (s.emit_quiet a b c) k
theorem State.emit_obj (s : State) (a b c : Nat) {k : Nat} (h1 : k ≠ 0x290104) (h2 : k ≠ 0x290204) :
    (s.emit a b c).obj k = s.obj k := quiet_obj (s.emit_quiet a b c) h1 h2
theorem State.emit_port (s : State) (a b c : Nat) {k : Nat} (h : k < 2) :
    ((s.emit a b c).port k).quiet = (s.port k).quiet := quiet_port (s.emit_quiet a b c) h
theorem State.emit_ctrl (s : State) (a b x : Nat) {c : Nat} (h : c < 2) :
    ((s.emit a b x).ctrl c).quiet = (s.ctrl c).quiet := quiet_ctrl (s.emit_quiet a b x) h
@[simp] theorem State.emitLimited_cfg (s : State) (i a b c d : Nat) (k : Nat) : (s.emitLimited i a b c d).cfg k = s.cfg k := quiet_cfg (s.emitLimited_quiet i a b c d) k
theorem State.emitLimited_obj (s : State) (i a b c d : Nat) {k : Nat} (h1 : k ≠ 0x290104) (h2 : k ≠ 0x290204) :
    (s.emitLimited i a b c d).obj k = s.obj k := quiet_obj (s.emitLimited_quiet i a b c d) h1 h2
theorem State.emitLimited_port (s : State) (i a b c d : Nat) {k : Nat} (h : k < 2) :
    ((s.emitLimited i a b c d).port k).quiet = (s.port k).quiet := quiet_port (s.emitLimited_quiet i a b c d) h
theorem State.emitLimited_ctrl (s : State) (i a b x d : Nat) {c : Nat} (h : c < 2) :
    ((s.emitLimited i a b x d).ctrl c).quiet = (s.ctrl c).quiet := quiet_ctrl (s.emitLimited_quiet i a b x d) h
theorem State.emitArg_obj (s : State) (a b c d e : Nat) (w : Bool) {k : Nat} (h1 : k ≠ 0x290104) (h2 : k ≠ 0x290204) :
    (s.emitArg a b c d w e).obj k = s.obj k := quiet_obj (s.emitArg_quiet a b c d w e) h1 h2

end Sys2Proof.Machine
end

