-- ==== Sys2Proof/Laws/Outbox.lean ====
section
/-! SUPPORT. What has been sent stays sent: the end of a command, events and frames only add to what goes out. -/
namespace Sys2Proof.Machine
set_option Elab.async false

theorem State.send_out_mem {s : State} {o x : Out} (h : o ∈ s.out) : o ∈ (s.send x).out := List.mem_append_left _ h

theorem State.sent (s : State) (o : Out) : o ∈ (s.send o).out := List.mem_append_right _ (List.mem_singleton.mpr rfl)

theorem State.onNet_out_mem {s : State} {o : Out} {f : NetSt → NetSt} (h : o ∈ s.out) : o ∈ (s.onNet f).out := h

theorem State.onDict_out_mem {s : State} {o : Out} {f : DictSt → DictSt} (h : o ∈ s.out) : o ∈ (s.onDict f).out := h

theorem State.onRed_out_mem {s : State} {o : Out} {f : RedSt → RedSt} (h : o ∈ s.out) : o ∈ (s.onRed f).out := h

theorem State.setCtrl_out_mem {s : State} {o : Out} {c : Nat} {v : Ctrl} (h : o ∈ s.out) : o ∈ (s.setCtrl c v).out := h

theorem State.setPort_out_mem {s : State} {o : Out} {k : Nat} {v : Port} (h : o ∈ s.out) : o ∈ (s.setPort k v).out := h

theorem State.setQueue_out_mem {s : State} {o : Out} {q : Nat} {v : Queue} (h : o ∈ s.out) : o ∈ (s.setQueue q v).out := h

theorem State.setObj_out_mem {s : State} {o : Out} {k v : Nat} (h : o ∈ s.out) : o ∈ (s.setObj k v).out := h

theorem out_mem_of_same {s s' : State} {o : Out} (e : s'.only .out = s.only .out) (h : o ∈ s.out) : o ∈ s'.out := by
  have e := congrArg (fun x : State => x.out) e
  have e' : s'.out = s.out := e
  rw [e']; exact h

theorem out_mem_foldl {α : Type} {o : Out} {f : State → α → State} (hf : ∀ s x, o ∈ s.out → o ∈ (f s x).out) (l : List α)
    {s : State} (h : o ∈ s.out) : o ∈ (l.foldl f s).out := by
  induction l generalizing s with
  | nil => exact h
  | cons x r ih => exact ih (hf s x h)

theorem State.record_out_mem {s : State} {o : Out} {a b c : Nat} (h : o ∈ s.out) : o ∈ (s.record a b c).out :=
  out_mem_of_same (State.record_same (by decide) s a b c) h

theorem State.startEmcy_out_mem {s : State} {o : Out} {c : Nat} (h : o ∈ s.out) : o ∈ (s.startEmcy c).out := by
  simp only [State.startEmcy]
  split
  · exact h
  · split <;> split <;> first | exact h | exact State.send_out_mem (State.setCtrl_out_mem h)

theorem State.emcyTo_out_mem {s : State} {o : Out} {c : Nat} {e : Emcy} (h : o ∈ s.out) : o ∈ (s.emcyTo c e).out := by
  simp only [State.emcyTo]
  split
  · refine State.startEmcy_out_mem ?_
    split
    · exact State.record_out_mem (State.onNet_out_mem (State.setCtrl_out_mem h))
    · exact State.setCtrl_out_mem h
  · exact h

theorem State.emcy_out_mem {s : State} {o : Out} {a b c : Nat} {trip : Bool} (h : o ∈ s.out) : o ∈ (s.emcy a b c trip).out :=
  State.emcyTo_out_mem (State.emcyTo_out_mem (out_mem_of_same (State.noteError_same (by decide) s a b) h))

theorem State.vector_out_mem {s : State} {o : Out} {code : Nat} (h : o ∈ s.out) : o ∈ (s.vector code).out := by
  simp only [State.vector]
  split
  · exact State.send_out_mem h
  · exact h

theorem State.emitArg_out_mem {s : State} {o : Out} {a b c d e : Nat} {always : Bool} (h : o ∈ s.out) :
    o ∈ (s.emitArg a b c d always e).out := by
  have h1 : o ∈ ((s.record a b c).vector a).out := State.vector_out_mem (State.record_out_mem h)
  unfold State.emitArg
  by_cases hc : (always || ((s.record a b c).vector a).masked a) = true
  · simp only [hc, if_true]; exact State.emcy_out_mem h1
  · simp only [hc]; exact h1

/-- An event takes nothing back that was sent. -/
theorem State.emit_out_mem {s : State} {o : Out} {a b c : Nat} (h : o ∈ s.out) : o ∈ (s.emit a b c).out :=
  State.emitArg_out_mem h

theorem State.postCompletion_out_mem {s : State} {o : Out} {q a b c d e f : Nat} (h : o ∈ s.out) :
    o ∈ (s.postCompletion q a b c d e f).out := State.send_out_mem (State.send_out_mem (State.setQueue_out_mem h))

theorem State.liftFence_out_mem {s : State} {o : Out} {q : Nat} (h : o ∈ s.out) : o ∈ (s.liftFence q).out := by
  simp only [State.liftFence]
  split
  · exact h
  · split
    · split
      · exact State.postCompletion_out_mem (State.setQueue_out_mem h)
      · exact State.setQueue_out_mem h
    · exact h

theorem State.transmit_out_mem {s : State} {o : Out} {k : Nat} {f : LinkFrame} (h : o ∈ s.out) : o ∈ (s.transmit k f).out :=
  State.send_out_mem (State.setObj_out_mem (State.setPort_out_mem h))

theorem State.pumpPort_out_mem {s : State} {o : Out} {k n : Nat} (h : o ∈ s.out) : o ∈ (s.pumpPort k n).out := by
  induction n generalizing s with
  | zero => exact h
  | succ n ih =>
    simp only [State.pumpPort]
    split
    · split
      · exact ih (State.transmit_out_mem h)
      · exact h
    · exact h

theorem State.sendFrame_out_mem {s : State} {o : Out} {i : FrameInfo} {bs : List Byte} (h : o ∈ s.out) :
    o ∈ (s.sendFrame i bs).out := State.pumpPort_out_mem (State.setPort_out_mem h)

theorem State.sendJournal_out_mem {s : State} {o : Out} {n : Nat} (h : o ∈ s.out) : o ∈ (s.sendJournal n).out := by
  induction n generalizing s with
  | zero => exact h
  | succ n ih =>
    simp only [State.sendJournal]
    split
    · exact ih (State.sendFrame_out_mem (State.onRed_out_mem h))
    · exact h

theorem State.settleErrors_out_mem {s : State} {o : Out} (h : o ∈ s.out) : o ∈ s.settleErrors.out := by
  simp only [State.settleErrors]
  split
  · exact State.emcy_out_mem (State.onNet_out_mem h)
  · exact State.onNet_out_mem h

theorem State.settleDivergence_out_mem {s : State} {o : Out} (h : o ∈ s.out) : o ∈ s.settleDivergence.out :=
  out_mem_foldl (fun _ _ h => State.emit_out_mem h) _ (State.onDict_out_mem h)

/-- The end of a command takes nothing back that was sent. -/
theorem State.settle_out_mem {s : State} {o : Out} (h : o ∈ s.out) : o ∈ s.settle.out :=
  State.settleDivergence_out_mem (State.settleErrors_out_mem (State.sendJournal_out_mem
    (out_mem_foldl (fun _ _ h => State.liftFence_out_mem h) _ h)))

end Sys2Proof.Machine
end

