-- ==== Sys2Proof/Laws/Commands.lean ====
section
/-! SUPPORT. What the frame of a command answers, what an accepted write leaves as it was, and how the frame lemmas of the parts give the
fields. -/
namespace Sys2Proof.Machine
set_option Elab.async false

/-! ### The frame of a command -/

theorem answers_always {c : Instr} {t : Nat} {f : State → State} {s : State} {P : State → Prop} (hc : exec c s = always t f s)
    (hp : P (f (s.advance t)).settle) : answers c s P := ⟨_, by rw [hc, always], hp⟩

theorem answers_powered {c : Instr} {t : Nat} {f : State → State} {s : State} {P : State → Prop}
    (hc : exec c s = whenPowered t f s) (h : s.powered) (hp : P (f (s.advance t)).settle) : answers c s P :=
  ⟨_, by rw [hc, whenPowered, if_pos h], hp⟩

theorem answers_core {c : Instr} {t : Nat} {f : State → State} {s : State} {P : State → Prop}
    (hc : exec c s = whenCore t f s) (h : s.coreOn) (hp : P (f (s.advance t)).settle) : answers c s P :=
  ⟨_, by rw [hc, whenCore, if_pos h], hp⟩

theorem answers_served {c : Instr} {t : Nat} {f : State → State} {s : State} {P : State → Prop}
    (hc : exec c s = whenServed t f s) (h : s.coreOn || (s.powered && s.boot.state == 4)) (hp : P (f (s.advance t)).settle) :
    answers c s P := ⟨_, by rw [hc, whenServed, if_pos h], hp⟩

/-! ### Objects -/

@[simp] theorem State.incr_now (s : State) (k n : Nat) : (s.incr k n).now = s.now := rfl
@[simp] theorem State.incr_free (s : State) (k n : Nat) : (s.incr k n).free = s.free := rfl
@[simp] theorem State.incr_inForce (s : State) (k n : Nat) : (s.incr k n).inForce = s.inForce := rfl
@[simp] theorem State.incr_actual (s : State) (k n : Nat) : (s.incr k n).actual = s.actual := rfl
@[simp] theorem State.incr_time (s : State) (k n : Nat) : (s.incr k n).time = s.time := rfl
@[simp] theorem State.incr_ptp (s : State) (k n : Nat) : (s.incr k n).ptp = s.ptp := rfl
@[simp] theorem State.incr_tick (s : State) (k n : Nat) : (s.incr k n).tick = s.tick := rfl
@[simp] theorem State.incr_head (s : State) (k n : Nat) : (s.incr k n).head = s.head := rfl
@[simp] theorem State.incr_streams (s : State) (k n : Nat) : (s.incr k n).streams = s.streams := rfl
@[simp] theorem State.incr_alarm (s : State) (k n : Nat) : (s.incr k n).alarm = s.alarm := rfl
@[simp] theorem State.incr_codec (s : State) (k n : Nat) : (s.incr k n).codec = s.codec := rfl
@[simp] theorem State.incr_noise (s : State) (k n : Nat) : (s.incr k n).noise = s.noise := rfl
@[simp] theorem State.incr_xfer (s : State) (k n : Nat) : (s.incr k n).xfer = s.xfer := rfl
@[simp] theorem State.incr_comp (s : State) (k n : Nat) : (s.incr k n).comp = s.comp := rfl
@[simp] theorem State.incr_link (s : State) (k n : Nat) : (s.incr k n).link = s.link := rfl
@[simp] theorem State.incr_red (s : State) (k n : Nat) : (s.incr k n).red = s.red := rfl
@[simp] theorem State.incr_net (s : State) (k n : Nat) : (s.incr k n).net = s.net := rfl
@[simp] theorem State.incr_dict (s : State) (k n : Nat) : (s.incr k n).dict = s.dict := rfl
@[simp] theorem State.incr_power (s : State) (k n : Nat) : (s.incr k n).power = s.power := rfl
@[simp] theorem State.incr_log (s : State) (k n : Nat) : (s.incr k n).log = s.log := rfl
@[simp] theorem State.incr_health (s : State) (k n : Nat) : (s.incr k n).health = s.health := rfl
@[simp] theorem State.incr_boot (s : State) (k n : Nat) : (s.incr k n).boot = s.boot := rfl
@[simp] theorem State.incr_sram (s : State) (k n : Nat) : (s.incr k n).sram = s.sram := rfl
@[simp] theorem State.incr_dram (s : State) (k n : Nat) : (s.incr k n).dram = s.dram := rfl
@[simp] theorem State.incr_out (s : State) (k n : Nat) : (s.incr k n).out = s.out := rfl
@[simp] theorem State.incr_pending (s : State) (k n : Nat) : (s.incr k n).pending = s.pending := rfl
@[simp] theorem State.incr_cfg (s : State) (k n j : Nat) : (s.incr k n).cfg j = s.cfg j := rfl

/-! ### Writes -/

theorem State.mayWrite_iff (s : State) (t : Nat) (p : Path) (k v : Nat) :
    s.mayWrite t p k v = true ↔
      (s.advance t).served p = true ∧ (s.advance t).writeError p k (leBytes (objWidth k / 8) v) = 0 := by
  simp [State.mayWrite]

theorem State.controlledNum_may {s : State} {t : Nat} {p : Path} {k v : Nat} (h : s.mayWrite t p k v) (eff : State → State) :
    (s.advance t).controlledNum p k v eff = eff ((s.advance t).acceptWrite p k (leBytes (objWidth k / 8) v)) := by
  have h := (State.mayWrite_iff ..).mp h
  simp [State.controlledNum, State.controlled, h.1, h.2]

theorem State.journalWrite_od (s : State) (p : Path) (k : Nat) (d : List Byte) : (s.journalWrite p k d).od = s.od := by
  simp only [State.journalWrite]; split <;> rfl

theorem State.acceptWrite_obj (s : State) (p : Path) (k : Nat) (d : List Byte) {j : Nat}
    (h : j ≠ 0x200201 ∧ j ≠ 0x200202 ∧ j ≠ 0x200203 ∧ j ≠ 0x200204) : (s.acceptWrite p k d).obj j = s.obj j := by
  obtain ⟨h1, h2, h3, h4⟩ := h
  cases p <;> simp [State.acceptWrite, pathSlot, State.obj, State.journalWrite_od, State.incr, State.setObj, tget_tset_ne, *]

theorem State.acceptWrite_answer (s : State) (p : Path) (k : Nat) (d : List Byte) :
    .answer p k 0 [] ∈ (s.acceptWrite p k d).out := State.sent ..

@[simp] theorem State.acceptWrite_now (s : State) (p : Path) (k : Nat) (d : List Byte) : (s.acceptWrite p k d).now = s.now := by
  have h := congrArg State.now (State.acceptWrite_same (part := .now) (by decide) s p k d)
  exact h

@[simp] theorem State.acceptWrite_free (s : State) (p : Path) (k : Nat) (d : List Byte) : (s.acceptWrite p k d).free = s.free := by
  have h := congrArg State.free (State.acceptWrite_same (part := .free) (by decide) s p k d)
  exact h

@[simp] theorem State.acceptWrite_inForce (s : State) (p : Path) (k : Nat) (d : List Byte) : (s.acceptWrite p k d).inForce = s.inForce := by
  have h := congrArg State.inForce (State.acceptWrite_same (part := .inForce) (by decide) s p k d)
  exact h

@[simp] theorem State.acceptWrite_actual (s : State) (p : Path) (k : Nat) (d : List Byte) : (s.acceptWrite p k d).actual = s.actual := by
  have h := congrArg State.actual (State.acceptWrite_same (part := .actual) (by decide) s p k d)
  exact h

@[simp] theorem State.acceptWrite_time (s : State) (p : Path) (k : Nat) (d : List Byte) : (s.acceptWrite p k d).time = s.time := by
  have h := congrArg State.time (State.acceptWrite_same (part := .time) (by decide) s p k d)
  exact h

@[simp] theorem State.acceptWrite_ptp (s : State) (p : Path) (k : Nat) (d : List Byte) : (s.acceptWrite p k d).ptp = s.ptp := by
  have h := congrArg State.ptp (State.acceptWrite_same (part := .ptp) (by decide) s p k d)
  exact h

@[simp] theorem State.acceptWrite_tick (s : State) (p : Path) (k : Nat) (d : List Byte) : (s.acceptWrite p k d).tick = s.tick := by
  have h := congrArg State.tick (State.acceptWrite_same (part := .tick) (by decide) s p k d)
  exact h

@[simp] theorem State.acceptWrite_head (s : State) (p : Path) (k : Nat) (d : List Byte) : (s.acceptWrite p k d).head = s.head := by
  have h := congrArg State.head (State.acceptWrite_same (part := .head) (by decide) s p k d)
  exact h

@[simp] theorem State.acceptWrite_streams (s : State) (p : Path) (k : Nat) (d : List Byte) : (s.acceptWrite p k d).streams = s.streams := by
  have h := congrArg State.streams (State.acceptWrite_same (part := .streams) (by decide) s p k d)
  exact h

@[simp] theorem State.acceptWrite_alarm (s : State) (p : Path) (k : Nat) (d : List Byte) : (s.acceptWrite p k d).alarm = s.alarm := by
  have h := congrArg State.alarm (State.acceptWrite_same (part := .alarm) (by decide) s p k d)
  exact h

@[simp] theorem State.acceptWrite_codec (s : State) (p : Path) (k : Nat) (d : List Byte) : (s.acceptWrite p k d).codec = s.codec := by
  have h := congrArg State.codec (State.acceptWrite_same (part := .codec) (by decide) s p k d)
  exact h

@[simp] theorem State.acceptWrite_noise (s : State) (p : Path) (k : Nat) (d : List Byte) : (s.acceptWrite p k d).noise = s.noise := by
  have h := congrArg State.noise (State.acceptWrite_same (part := .noise) (by decide) s p k d)
  exact h

@[simp] theorem State.acceptWrite_xfer (s : State) (p : Path) (k : Nat) (d : List Byte) : (s.acceptWrite p k d).xfer = s.xfer := by
  have h := congrArg State.xfer (State.acceptWrite_same (part := .xfer) (by decide) s p k d)
  exact h

@[simp] theorem State.acceptWrite_comp (s : State) (p : Path) (k : Nat) (d : List Byte) : (s.acceptWrite p k d).comp = s.comp := by
  have h := congrArg State.comp (State.acceptWrite_same (part := .comp) (by decide) s p k d)
  exact h

@[simp] theorem State.acceptWrite_link (s : State) (p : Path) (k : Nat) (d : List Byte) : (s.acceptWrite p k d).link = s.link := by
  have h := congrArg State.link (State.acceptWrite_same (part := .link) (by decide) s p k d)
  exact h

@[simp] theorem State.acceptWrite_net (s : State) (p : Path) (k : Nat) (d : List Byte) : (s.acceptWrite p k d).net = s.net := by
  have h := congrArg State.net (State.acceptWrite_same (part := .net) (by decide) s p k d)
  exact h

@[simp] theorem State.acceptWrite_dict (s : State) (p : Path) (k : Nat) (d : List Byte) : (s.acceptWrite p k d).dict = s.dict := by
  have h := congrArg State.dict (State.acceptWrite_same (part := .dict) (by decide) s p k d)
  exact h

@[simp] theorem State.acceptWrite_power (s : State) (p : Path) (k : Nat) (d : List Byte) : (s.acceptWrite p k d).power = s.power := by
  have h := congrArg State.power (State.acceptWrite_same (part := .power) (by decide) s p k d)
  exact h

@[simp] theorem State.acceptWrite_log (s : State) (p : Path) (k : Nat) (d : List Byte) : (s.acceptWrite p k d).log = s.log := by
  have h := congrArg State.log (State.acceptWrite_same (part := .log) (by decide) s p k d)
  exact h

@[simp] theorem State.acceptWrite_health (s : State) (p : Path) (k : Nat) (d : List Byte) : (s.acceptWrite p k d).health = s.health := by
  have h := congrArg State.health (State.acceptWrite_same (part := .health) (by decide) s p k d)
  exact h

@[simp] theorem State.acceptWrite_boot (s : State) (p : Path) (k : Nat) (d : List Byte) : (s.acceptWrite p k d).boot = s.boot := by
  have h := congrArg State.boot (State.acceptWrite_same (part := .boot) (by decide) s p k d)
  exact h

@[simp] theorem State.acceptWrite_sram (s : State) (p : Path) (k : Nat) (d : List Byte) : (s.acceptWrite p k d).sram = s.sram := by
  have h := congrArg State.sram (State.acceptWrite_same (part := .sram) (by decide) s p k d)
  exact h

@[simp] theorem State.acceptWrite_dram (s : State) (p : Path) (k : Nat) (d : List Byte) : (s.acceptWrite p k d).dram = s.dram := by
  have h := congrArg State.dram (State.acceptWrite_same (part := .dram) (by decide) s p k d)
  exact h

@[simp] theorem State.acceptWrite_pending (s : State) (p : Path) (k : Nat) (d : List Byte) : (s.acceptWrite p k d).pending = s.pending := by
  have h := congrArg State.pending (State.acceptWrite_same (part := .pending) (by decide) s p k d)
  exact h

@[simp] theorem State.acceptWrite_cfg (s : State) (p : Path) (k : Nat) (d : List Byte) (j : Nat) :
    (s.acceptWrite p k d).cfg j = s.cfg j := State.cfg_congr (by simp) j

@[simp] theorem State.acceptWrite_red_config (s : State) (p : Path) (k : Nat) (d : List Byte) :
    (s.acceptWrite p k d).red.config = s.red.config := by
  simp only [State.acceptWrite, State.journalWrite]
  repeat' split
  all_goals rfl

@[simp] theorem State.acceptWrite_red_role (s : State) (p : Path) (k : Nat) (d : List Byte) :
    (s.acceptWrite p k d).red.role = s.red.role := by
  simp only [State.acceptWrite, State.journalWrite]
  repeat' split
  all_goals rfl

@[simp] theorem State.acceptWrite_red_since (s : State) (p : Path) (k : Nat) (d : List Byte) :
    (s.acceptWrite p k d).red.since = s.red.since := by
  simp only [State.acceptWrite, State.journalWrite]
  repeat' split
  all_goals rfl

@[simp] theorem State.acceptWrite_red_roleOut (s : State) (p : Path) (k : Nat) (d : List Byte) :
    (s.acceptWrite p k d).red.roleOut = s.red.roleOut := by
  simp only [State.acceptWrite, State.journalWrite]
  repeat' split
  all_goals rfl

@[simp] theorem State.acceptWrite_red_roleOutAt (s : State) (p : Path) (k : Nat) (d : List Byte) :
    (s.acceptWrite p k d).red.roleOutAt = s.red.roleOutAt := by
  simp only [State.acceptWrite, State.journalWrite]
  repeat' split
  all_goals rfl

@[simp] theorem State.acceptWrite_red_peerIn (s : State) (p : Path) (k : Nat) (d : List Byte) :
    (s.acceptWrite p k d).red.peerIn = s.red.peerIn := by
  simp only [State.acceptWrite, State.journalWrite]
  repeat' split
  all_goals rfl

@[simp] theorem State.acceptWrite_red_peerInAt (s : State) (p : Path) (k : Nat) (d : List Byte) :
    (s.acceptWrite p k d).red.peerInAt = s.red.peerInAt := by
  simp only [State.acceptWrite, State.journalWrite]
  repeat' split
  all_goals rfl

@[simp] theorem State.acceptWrite_red_gate (s : State) (p : Path) (k : Nat) (d : List Byte) :
    (s.acceptWrite p k d).red.gate = s.red.gate := by
  simp only [State.acceptWrite, State.journalWrite]
  repeat' split
  all_goals rfl

@[simp] theorem State.acceptWrite_red_keeperRuns (s : State) (p : Path) (k : Nat) (d : List Byte) :
    (s.acceptWrite p k d).red.keeperRuns = s.red.keeperRuns := by
  simp only [State.acceptWrite, State.journalWrite]
  repeat' split
  all_goals rfl

@[simp] theorem State.acceptWrite_red_keeperAt (s : State) (p : Path) (k : Nat) (d : List Byte) :
    (s.acceptWrite p k d).red.keeperAt = s.red.keeperAt := by
  simp only [State.acceptWrite, State.journalWrite]
  repeat' split
  all_goals rfl

@[simp] theorem State.acceptWrite_red_lapsed (s : State) (p : Path) (k : Nat) (d : List Byte) :
    (s.acceptWrite p k d).red.lapsed = s.red.lapsed := by
  simp only [State.acceptWrite, State.journalWrite]
  repeat' split
  all_goals rfl

@[simp] theorem State.acceptWrite_red_entered (s : State) (p : Path) (k : Nat) (d : List Byte) :
    (s.acceptWrite p k d).red.entered = s.red.entered := by
  simp only [State.acceptWrite, State.journalWrite]
  repeat' split
  all_goals rfl

@[simp] theorem State.acceptWrite_red_handover (s : State) (p : Path) (k : Nat) (d : List Byte) :
    (s.acceptWrite p k d).red.handover = s.red.handover := by
  simp only [State.acceptWrite, State.journalWrite]
  repeat' split
  all_goals rfl

@[simp] theorem State.acceptWrite_red_committed (s : State) (p : Path) (k : Nat) (d : List Byte) :
    (s.acceptWrite p k d).red.committed = s.red.committed := by
  simp only [State.acceptWrite, State.journalWrite]
  repeat' split
  all_goals rfl

@[simp] theorem State.acceptWrite_red_open_ (s : State) (p : Path) (k : Nat) (d : List Byte) :
    (s.acceptWrite p k d).red.open_ = s.red.open_ := by
  simp only [State.acceptWrite, State.journalWrite]
  repeat' split
  all_goals rfl

@[simp] theorem State.request_now (s : State) (k v : Nat) : (s.request k v).now = s.now := by
  have h := congrArg State.now (State.request_same (part := .now) (by decide) s k v)
  exact h

@[simp] theorem State.request_free (s : State) (k v : Nat) : (s.request k v).free = s.free := by
  have h := congrArg State.free (State.request_same (part := .free) (by decide) s k v)
  exact h

@[simp] theorem State.request_actual (s : State) (k v : Nat) : (s.request k v).actual = s.actual := by
  have h := congrArg State.actual (State.request_same (part := .actual) (by decide) s k v)
  exact h

@[simp] theorem State.request_time (s : State) (k v : Nat) : (s.request k v).time = s.time := by
  have h := congrArg State.time (State.request_same (part := .time) (by decide) s k v)
  exact h

@[simp] theorem State.request_ptp (s : State) (k v : Nat) : (s.request k v).ptp = s.ptp := by
  have h := congrArg State.ptp (State.request_same (part := .ptp) (by decide) s k v)
  exact h

@[simp] theorem State.request_tick (s : State) (k v : Nat) : (s.request k v).tick = s.tick := by
  have h := congrArg State.tick (State.request_same (part := .tick) (by decide) s k v)
  exact h

@[simp] theorem State.request_head (s : State) (k v : Nat) : (s.request k v).head = s.head := by
  have h := congrArg State.head (State.request_same (part := .head) (by decide) s k v)
  exact h

@[simp] theorem State.request_alarm (s : State) (k v : Nat) : (s.request k v).alarm = s.alarm := by
  have h := congrArg State.alarm (State.request_same (part := .alarm) (by decide) s k v)
  exact h

@[simp] theorem State.request_codec (s : State) (k v : Nat) : (s.request k v).codec = s.codec := by
  have h := congrArg State.codec (State.request_same (part := .codec) (by decide) s k v)
  exact h

@[simp] theorem State.request_noise (s : State) (k v : Nat) : (s.request k v).noise = s.noise := by
  have h := congrArg State.noise (State.request_same (part := .noise) (by decide) s k v)
  exact h

@[simp] theorem State.request_xfer (s : State) (k v : Nat) : (s.request k v).xfer = s.xfer := by
  have h := congrArg State.xfer (State.request_same (part := .xfer) (by decide) s k v)
  exact h

@[simp] theorem State.request_comp (s : State) (k v : Nat) : (s.request k v).comp = s.comp := by
  have h := congrArg State.comp (State.request_same (part := .comp) (by decide) s k v)
  exact h

@[simp] theorem State.request_link (s : State) (k v : Nat) : (s.request k v).link = s.link := by
  have h := congrArg State.link (State.request_same (part := .link) (by decide) s k v)
  exact h

@[simp] theorem State.request_red (s : State) (k v : Nat) : (s.request k v).red = s.red := by
  have h := congrArg State.red (State.request_same (part := .red) (by decide) s k v)
  exact h

@[simp] theorem State.request_net (s : State) (k v : Nat) : (s.request k v).net = s.net := by
  have h := congrArg State.net (State.request_same (part := .net) (by decide) s k v)
  exact h

@[simp] theorem State.request_dict (s : State) (k v : Nat) : (s.request k v).dict = s.dict := by
  have h := congrArg State.dict (State.request_same (part := .dict) (by decide) s k v)
  exact h

@[simp] theorem State.request_power (s : State) (k v : Nat) : (s.request k v).power = s.power := by
  have h := congrArg State.power (State.request_same (part := .power) (by decide) s k v)
  exact h

@[simp] theorem State.request_log (s : State) (k v : Nat) : (s.request k v).log = s.log := by
  have h := congrArg State.log (State.request_same (part := .log) (by decide) s k v)
  exact h

@[simp] theorem State.request_health (s : State) (k v : Nat) : (s.request k v).health = s.health := by
  have h := congrArg State.health (State.request_same (part := .health) (by decide) s k v)
  exact h

@[simp] theorem State.request_boot (s : State) (k v : Nat) : (s.request k v).boot = s.boot := by
  have h := congrArg State.boot (State.request_same (part := .boot) (by decide) s k v)
  exact h

@[simp] theorem State.request_sram (s : State) (k v : Nat) : (s.request k v).sram = s.sram := by
  have h := congrArg State.sram (State.request_same (part := .sram) (by decide) s k v)
  exact h

@[simp] theorem State.request_dram (s : State) (k v : Nat) : (s.request k v).dram = s.dram := by
  have h := congrArg State.dram (State.request_same (part := .dram) (by decide) s k v)
  exact h

@[simp] theorem State.request_out (s : State) (k v : Nat) : (s.request k v).out = s.out := by
  have h := congrArg State.out (State.request_same (part := .out) (by decide) s k v)
  exact h

@[simp] theorem State.request_pending (s : State) (k v : Nat) : (s.request k v).pending = s.pending := by
  have h := congrArg State.pending (State.request_same (part := .pending) (by decide) s k v)
  exact h

theorem State.noteLimits_obj (s : State) (k j : Nat) : (s.noteLimits k).obj j = s.obj j := by
  simp only [State.noteLimits]; split <;> rfl

theorem State.request_obj (s : State) (k v j : Nat) : (s.request k v).obj j = if j = k then v else s.obj j := by
  have h : (s.request k v).obj j = (s.setObj k v).obj j := by
    simp only [State.request]
    split
    · exact State.noteLimits_obj ..
    · exact State.noteLimits_obj ..
  rw [h]
  split
  · next e => rw [e, State.setObj_obj_same]
  · next e => exact State.setObj_obj_ne _ _ e

/-! ### Fields from the frames of the parts -/

theorem only_now {s s' : State} (h : s'.only .now = s.only .now) : s'.now = s.now := by
  have h := congrArg State.now h
  exact h

theorem only_free {s s' : State} (h : s'.only .free = s.only .free) : s'.free = s.free := by
  have h := congrArg State.free h
  exact h

theorem only_od {s s' : State} (h : s'.only .od = s.only .od) : s'.od = s.od := by
  have h := congrArg State.od h
  exact h

theorem only_inForce {s s' : State} (h : s'.only .inForce = s.only .inForce) : s'.inForce = s.inForce := by
  have h := congrArg State.inForce h
  exact h

theorem only_actual {s s' : State} (h : s'.only .actual = s.only .actual) : s'.actual = s.actual := by
  have h := congrArg State.actual h
  exact h

theorem only_time {s s' : State} (h : s'.only .time = s.only .time) : s'.time = s.time := by
  have h := congrArg State.time h
  exact h

theorem only_ptp {s s' : State} (h : s'.only .ptp = s.only .ptp) : s'.ptp = s.ptp := by
  have h := congrArg State.ptp h
  exact h

theorem only_tick {s s' : State} (h : s'.only .tick = s.only .tick) : s'.tick = s.tick := by
  have h := congrArg State.tick h
  exact h

theorem only_head {s s' : State} (h : s'.only .head = s.only .head) : s'.head = s.head := by
  have h := congrArg State.head h
  exact h

theorem only_streams {s s' : State} (h : s'.only .streams = s.only .streams) : s'.streams = s.streams := by
  have h := congrArg State.streams h
  exact h

theorem only_alarm {s s' : State} (h : s'.only .alarm = s.only .alarm) : s'.alarm = s.alarm := by
  have h := congrArg State.alarm h
  exact h

theorem only_codec {s s' : State} (h : s'.only .codec = s.only .codec) : s'.codec = s.codec := by
  have h := congrArg State.codec h
  exact h

theorem only_noise {s s' : State} (h : s'.only .noise = s.only .noise) : s'.noise = s.noise := by
  have h := congrArg State.noise h
  exact h

theorem only_xfer {s s' : State} (h : s'.only .xfer = s.only .xfer) : s'.xfer = s.xfer := by
  have h := congrArg State.xfer h
  exact h

theorem only_comp {s s' : State} (h : s'.only .comp = s.only .comp) : s'.comp = s.comp := by
  have h := congrArg State.comp h
  exact h

theorem only_link {s s' : State} (h : s'.only .link = s.only .link) : s'.link = s.link := by
  have h := congrArg State.link h
  exact h

theorem only_red {s s' : State} (h : s'.only .red = s.only .red) : s'.red = s.red := by
  have h := congrArg State.red h
  exact h

theorem only_net {s s' : State} (h : s'.only .net = s.only .net) : s'.net = s.net := by
  have h := congrArg State.net h
  exact h

theorem only_dict {s s' : State} (h : s'.only .dict = s.only .dict) : s'.dict = s.dict := by
  have h := congrArg State.dict h
  exact h

theorem only_power {s s' : State} (h : s'.only .power = s.only .power) : s'.power = s.power := by
  have h := congrArg State.power h
  exact h

theorem only_log {s s' : State} (h : s'.only .log = s.only .log) : s'.log = s.log := by
  have h := congrArg State.log h
  exact h

theorem only_health {s s' : State} (h : s'.only .health = s.only .health) : s'.health = s.health := by
  have h := congrArg State.health h
  exact h

theorem only_boot {s s' : State} (h : s'.only .boot = s.only .boot) : s'.boot = s.boot := by
  have h := congrArg State.boot h
  exact h

theorem only_sram {s s' : State} (h : s'.only .sram = s.only .sram) : s'.sram = s.sram := by
  have h := congrArg State.sram h
  exact h

theorem only_dram {s s' : State} (h : s'.only .dram = s.only .dram) : s'.dram = s.dram := by
  have h := congrArg State.dram h
  exact h

theorem only_out {s s' : State} (h : s'.only .out = s.only .out) : s'.out = s.out := by
  have h := congrArg State.out h
  exact h

theorem only_pending {s s' : State} (h : s'.only .pending = s.only .pending) : s'.pending = s.pending := by
  have h := congrArg State.pending h
  exact h

end Sys2Proof.Machine
end

