-- ==== Sys2Proof/Laws/FrameRecorder.lean ====
section
/-! SUPPORT. The frames of the operations of Machine/Recorder.lean: the parts of the state that each one keeps. -/
namespace Sys2Proof.Machine
set_option linter.unusedSimpArgs false
set_option Elab.async false

theorem State.countErase_same {part : Part} (hp : part ∉ [.health]) (s : State) (sector : Nat) :
    (State.countErase s sector).only part = s.only part := by
  simp only [State.countErase, ↓State.onHealth_same hp, ite_self, implies_true, id_eq]

theorem State.countErases_same {part : Part} (hp : part ∉ [.health]) (s : State) (first n : Nat) :
    (State.countErases s first n).only part = s.only part := by
  simp only [State.countErases, ↓State.countErase_same hp, only_foldl, only_foldlFst, ite_self, implies_true, id_eq]

theorem State.wrapErase_same {part : Part} (hp : part ∉ [.net, .log, .health, .out]) (s : State) :
    (State.wrapErase s).only part = s.only part := by
  simp only [State.wrapErase, ↓State.onLog_same (away hp (by decide)), ↓State.emit_same (away hp (by decide)),
    ↓State.countErase_same (away hp (by decide)), ite_self, implies_true, id_eq]
  all_goals repeat' split <;> try simp only [↓State.onLog_same (away hp (by decide)),
    ↓State.emit_same (away hp (by decide)), ↓State.countErase_same (away hp (by decide)), ite_self, implies_true,
    id_eq]

theorem State.thaw_same {part : Part} (hp : part ∉ [.net, .log, .out]) (s : State) (cause : Nat) :
    (State.thaw s cause).only part = s.only part := by
  simp only [State.thaw, ↓State.onLog_same (away hp (by decide)), ↓State.emit_same hp, ite_self, implies_true, id_eq]

theorem State.eraseAhead_same {part : Part} (hp : part ∉ [.net, .log, .health, .out]) (s : State) :
    (State.eraseAhead s).only part = s.only part := by
  simp only [State.eraseAhead, ↓State.wrapErase_same hp, ↓State.thaw_same (away hp (by decide)), ↓only_ite,
    ↓only_iteFst, ↓only_iteSnd, ite_self, implies_true, id_eq]

theorem State.retire_same {part : Part} (hp : part ∉ [.net, .log, .out]) (s : State) (k : Nat) :
    (State.retire s k).only part = s.only part := by
  simp only [State.retire, ↓State.onLog_same (away hp (by decide)), ↓State.emit_same hp, ite_self, implies_true, id_eq]

theorem State.ringWrite_same {part : Part} (hp : part ∉ [.net, .log, .health, .out]) (s : State) (r : EventRec) (fails : Bool) :
    (State.ringWrite s r fails).only part = s.only part := by
  simp only [State.ringWrite, ↓State.onLog_same (away hp (by decide)), ↓State.eraseAhead_same hp,
    ↓State.retire_same (away hp (by decide)), ↓only_ite, ↓only_iteFst, ↓only_iteSnd, ite_self, implies_true, id_eq]
  all_goals repeat' split <;> try simp only [↓State.onLog_same (away hp (by decide)), ↓State.eraseAhead_same hp,
    ↓State.retire_same (away hp (by decide)), ↓only_ite, ↓only_iteFst, ↓only_iteSnd, ite_self, implies_true, id_eq]

theorem State.nvWrite_same {part : Part} (hp : part ∉ [.net, .log, .health, .out]) (s : State) (r : EventRec) (fails : Bool) :
    (State.nvWrite s r fails).only part = s.only part := by
  simp only [State.nvWrite, ↓State.onLog_same (away hp (by decide)), ↓State.retire_same (away hp (by decide)),
    ↓State.ringWrite_same hp, ↓only_ite, ↓only_iteFst, ↓only_iteSnd, ite_self, implies_true, id_eq]

theorem State.nvWriteAll_same {part : Part} (hp : part ∉ [.net, .log, .health, .out]) (s : State) (z1 : List EventRec) (z2 : Nat) (z3 : Option Nat) :
    (State.nvWriteAll s z1 z2 z3).only part = s.only part := by
  induction z1 generalizing s z2 z3 with
  | nil => simp only [State.nvWriteAll]
  | cons z zs ih =>
    simp only [State.nvWriteAll, ↓State.nvWrite_same hp, ih, ite_self, implies_true, id_eq]

theorem State.flushAll_same {part : Part} (hp : part ∉ [.net, .log, .health, .out]) (s : State) (failAt : Option Nat) :
    (State.flushAll s failAt).only part = s.only part := by
  simp only [State.flushAll, ↓State.onLog_same (away hp (by decide)), ↓State.nvWriteAll_same hp, ite_self,
    implies_true, id_eq]

theorem State.appendLifetime_same {part : Part} (hp : part ∉ [.net, .log, .health, .out]) (s : State) (writeOk : Bool) :
    (State.appendLifetime s writeOk).only part = s.only part := by
  simp only [State.appendLifetime, ↓State.onHealth_same (away hp (by decide)),
    ↓State.emit_same (away hp (by decide)), ↓only_ite, ↓only_iteFst, ↓only_iteSnd, ite_self, implies_true, id_eq]

theorem State.writeEraseTable_same {part : Part} (hp : part ∉ [.net, .log, .health, .out]) (s : State) (writeOk : Bool) :
    (State.writeEraseTable s writeOk).only part = s.only part := by
  simp only [State.writeEraseTable, ↓State.onHealth_same (away hp (by decide)),
    ↓State.emit_same (away hp (by decide)), ↓only_ite, ↓only_iteFst, ↓only_iteSnd, ite_self, implies_true, id_eq]

theorem State.powerFailFlush_same {part : Part} (hp : part ∉ [.net, .log, .health, .out]) (s : State) :
    (State.powerFailFlush s).only part = s.only part := by
  simp only [State.powerFailFlush, ↓State.onLog_same (away hp (by decide)), ↓State.nvWriteAll_same hp, ite_self,
    implies_true, id_eq]

theorem State.startLifetime_same {part : Part} (hp : part ∉ [.net, .log, .health, .out]) (s : State) :
    (State.startLifetime s).only part = s.only part := by
  simp only [State.startLifetime, ↓State.onHealth_same (away hp (by decide)), ↓State.emit_same (away hp (by decide)),
    ↓only_ite, ↓only_iteFst, ↓only_iteSnd, ite_self, implies_true, id_eq]

theorem State.noteCalendar_same {part : Part} (hp : part ∉ [.net, .log, .health, .out]) (s : State) :
    (State.noteCalendar s).only part = s.only part := by
  simp only [State.noteCalendar, ↓State.onHealth_same (away hp (by decide)), ↓State.emit_same (away hp (by decide)),
    ↓only_ite, ↓only_iteFst, ↓only_iteSnd, ite_self, implies_true, id_eq]

theorem State.lifetimeSample_same {part : Part} (hp : part ∉ [.health]) (s : State) (hot : Int) :
    (State.lifetimeSample s hot).only part = s.only part := by
  simp only [State.lifetimeSample, ↓State.onHealth_same hp, ↓only_ite, ↓only_iteFst, ↓only_iteSnd, ite_self,
    implies_true, id_eq]

theorem State.setMonitor_same {part : Part} (hp : part ∉ [.health]) (s : State) (m : Nat) (v : Monitor) :
    (State.setMonitor s m v).only part = s.only part := by
  simp only [State.setMonitor, ↓State.onHealth_same hp, ite_self, implies_true, id_eq]

theorem State.monitorSample_same {part : Part} (hp : part ∉ [.od, .net, .log, .health, .out]) (s : State) (m : Nat) (v : Int) :
    (State.monitorSample s m v).only part = s.only part := by
  simp only [State.monitorSample, ↓State.incr_same (away hp (by decide)),
    ↓State.emitLimited_same (away hp (by decide)), ↓State.setMonitor_same (away hp (by decide)), ↓only_ite,
    ↓only_iteFst, ↓only_iteSnd, ite_self, implies_true, id_eq]

theorem State.observe_same {part : Part} (hp : part ∉ [.od, .net, .log, .health, .out]) (s : State) (source inst : Nat) (v : Int) :
    (State.observe s source inst v).only part = s.only part := by
  simp only [State.observe, ↓State.monitorSample_same hp, ↓only_ite, ↓only_iteFst, ↓only_iteSnd, only_foldl,
    only_foldlFst, ite_self, implies_true, id_eq]

theorem State.adoptMonitors_same {part : Part} (hp : part ∉ [.health]) (s : State) :
    (State.adoptMonitors s).only part = s.only part := by
  simp only [State.adoptMonitors, ↓State.setMonitor_same hp, ↓only_ite, ↓only_iteFst, ↓only_iteSnd, only_foldl,
    only_foldlFst, ite_self, implies_true, id_eq]

theorem State.setDog_same {part : Part} (hp : part ∉ [.health]) (s : State) (k : Nat) (v : Watchdog) :
    (State.setDog s k v).only part = s.only part := by
  simp only [State.setDog, ↓State.onHealth_same hp, ite_self, implies_true, id_eq]

theorem State.dogExpires_same {part : Part} (hp : part ∉ [.net, .log, .health, .out]) (s : State) (k reason pc : Nat) :
    (State.dogExpires s k reason pc).only part = s.only part := by
  simp only [State.dogExpires, ↓State.onHealth_same (away hp (by decide)), ↓State.emit_same (away hp (by decide)),
    ↓State.setDog_same (away hp (by decide)), ↓only_ite, ↓only_iteFst, ↓only_iteSnd, ite_self, implies_true, id_eq]

theorem State.dogRestart_same {part : Part} (hp : part ∉ [.health]) (s : State) (k : Nat) :
    (State.dogRestart s k).only part = s.only part := by
  simp only [State.dogRestart, ↓State.setDog_same hp, ite_self, implies_true, id_eq]

end Sys2Proof.Machine
end

