-- ==== Sys2Proof/Laws/FrameWake.lean ====
section
/-! SUPPORT. The frames of the operations of Machine/Wake.lean: the parts of the state that each one keeps. -/
namespace Sys2Proof.Machine
set_option linter.unusedSimpArgs false
set_option Elab.async false

theorem State.wakeCause_same {part : Part} (hp : part ∉ [.od, .net, .power, .log, .out]) (s : State) (n : Nat) :
    (State.wakeCause s n).only part = s.only part := by
  simp only [State.wakeCause, ↓State.onPower_same (away hp (by decide)), ↓State.setObj_same (away hp (by decide)),
    ↓State.emit_same (away hp (by decide)), ↓only_ite, ↓only_iteFst, ↓only_iteSnd, ite_self, implies_true, id_eq]

theorem State.wakeFrame_same {part : Part} (hp : part ∉ [.od, .net, .power, .log, .out]) (s : State) (c cob : Nat) (data : List Byte) :
    (State.wakeFrame s c cob data).only part = s.only part := by
  simp only [State.wakeFrame, ↓State.onNet_same (away hp (by decide)), ↓State.wakeCause_same hp, ↓only_ite,
    ↓only_iteFst, ↓only_iteSnd, ite_self, implies_true, id_eq]

end Sys2Proof.Machine
end

