-- ==== Sys2Proof/Laws/FrameAlarm.lean ====
section
/-! SUPPORT. The frames of the operations of Machine/Alarm.lean: the parts of the state that each one keeps. -/
namespace Sys2Proof.Machine
set_option linter.unusedSimpArgs false
set_option Elab.async false

theorem State.setTap_same {part : Part} (hp : part ∉ [.alarm]) (s : State) (n : Nat) (v : TapSt) :
    (State.setTap s n v).only part = s.only part := by
  simp only [State.setTap, ↓State.onAlarm_same hp, ite_self, implies_true, id_eq]

theorem State.drivePins_same {part : Part} (hp : part ∉ [.alarm]) (s : State) :
    (State.drivePins s).only part = s.only part := by
  simp only [State.drivePins, ↓State.onAlarm_same hp, ↓only_ite, ↓only_iteFst, ↓only_iteSnd, only_foldl,
    only_foldlFst, ite_self, implies_true, id_eq]

theorem State.tripMessage_same {part : Part} (hp : part ∉ [.od, .net, .log, .out]) (s : State) (k : Nat) :
    (State.tripMessage s k).only part = s.only part := by
  simp only [State.tripMessage, ↓State.emcy_same (away hp (by decide)), ↓State.gateDrop_same hp, ↓only_ite,
    ↓only_iteFst, ↓only_iteSnd, ite_self, implies_true, id_eq]

theorem State.notifyTrip_same {part : Part} (hp : part ∉ [.od, .alarm, .net, .log, .out]) (s : State) (k : Nat) :
    (State.notifyTrip s k).only part = s.only part := by
  simp only [State.notifyTrip, ↓State.onAlarm_same (away hp (by decide)), ↓State.incr_same (away hp (by decide)),
    ↓State.tripMessage_same (away hp (by decide)), ↓only_ite, ↓only_iteFst, ↓only_iteSnd, ite_self, implies_true,
    id_eq]

theorem State.alarmRecord_same {part : Part} (hp : part ∉ [.od, .log]) (s : State) (code k : Nat) :
    (State.alarmRecord s code k).only part = s.only part := by
  simp only [State.alarmRecord, ↓State.incr_same (away hp (by decide)), ↓State.noted_same (away hp (by decide)),
    ↓State.record_same (away hp (by decide)), ↓only_ite, ↓only_iteFst, ↓only_iteSnd, ite_self, implies_true, id_eq]

theorem State.condRise_same {part : Part} (hp : part ∉ [.od, .alarm, .net, .power, .log, .out]) (s : State) (k : Nat) :
    (State.condRise s k).only part = s.only part := by
  simp only [State.condRise, ↓State.emcy_same (away hp (by decide)), ↓State.wakeCause_same (away hp (by decide)),
    ↓State.notifyTrip_same (away hp (by decide)), ↓State.alarmRecord_same (away hp (by decide)), ↓only_ite,
    ↓only_iteFst, ↓only_iteSnd, ite_self, implies_true, id_eq]

theorem State.condFall_same {part : Part} (hp : part ∉ [.od, .log]) (s : State) (k : Nat) :
    (State.condFall s k).only part = s.only part := by
  simp only [State.condFall, ↓State.alarmRecord_same hp, ite_self, implies_true, id_eq]

theorem State.matrix_same {part : Part} (hp : part ∉ [.od, .alarm, .net, .power, .log, .out]) (s : State) :
    (State.matrix s).only part = s.only part := by
  simp only [State.matrix, ↓State.onAlarm_same (away hp (by decide)), ↓State.drivePins_same (away hp (by decide)),
    ↓State.condRise_same hp, ↓State.condFall_same (away hp (by decide)), only_foldl, only_foldlFst, ite_self,
    implies_true, id_eq]

theorem State.tapWord_same {part : Part} (hp : part ∉ [.od, .alarm, .net, .power, .log, .out]) (s : State) (tap raw : Nat) :
    (State.tapWord s tap raw).only part = s.only part := by
  simp only [State.tapWord, ↓State.setObj_same (away hp (by decide)), ↓State.incr_same (away hp (by decide)),
    ↓State.setTap_same (away hp (by decide)), ↓State.matrix_same hp, ↓only_ite, ↓only_iteFst, ↓only_iteSnd, ite_self,
    implies_true, id_eq]

theorem State.swapBank_same {part : Part} (hp : part ∉ [.od, .alarm, .net, .power, .log, .out]) (s : State) (b : Table Nat) :
    (State.swapBank s b).only part = s.only part := by
  simp only [State.swapBank, ↓State.onAlarm_same (away hp (by decide)), ↓State.incr_same (away hp (by decide)),
    ↓State.emit_same (away hp (by decide)), ↓State.matrix_same hp, ↓only_ite, ↓only_iteFst, ↓only_iteSnd, ite_self,
    implies_true, id_eq]

theorem State.requestCommit_same {part : Part} (hp : part ∉ [.od, .alarm, .net, .log, .out]) (s : State) :
    (State.requestCommit s).only part = s.only part := by
  simp only [State.requestCommit, ↓State.onAlarm_same (away hp (by decide)),
    ↓State.setObj_same (away hp (by decide)), ↓State.emit_same (away hp (by decide)), ite_self, implies_true, id_eq]
  all_goals repeat' split <;> try simp only [↓State.onAlarm_same (away hp (by decide)),
    ↓State.setObj_same (away hp (by decide)), ↓State.emit_same (away hp (by decide)), ite_self, implies_true, id_eq]

theorem State.startCommit_same {part : Part} (hp : part ∉ [.od, .alarm, .net, .power, .log, .out]) (s : State) :
    (State.startCommit s).only part = s.only part := by
  simp only [State.startCommit, ↓State.swapBank_same hp, ↓State.requestCommit_same (away hp (by decide)), ite_self,
    implies_true, id_eq]
  all_goals repeat' split <;> try simp only [↓State.swapBank_same hp,
    ↓State.requestCommit_same (away hp (by decide)), ite_self, implies_true, id_eq]

theorem State.alarmFault_same {part : Part} (hp : part ∉ [.alarm, .net, .log, .out]) (s : State) (code : Nat) :
    (State.alarmFault s code).only part = s.only part := by
  simp only [State.alarmFault, ↓State.onAlarm_same (away hp (by decide)), ↓State.emit_same (away hp (by decide)),
    ↓State.drivePins_same (away hp (by decide)), ite_self, implies_true, id_eq]

theorem State.edgeTrips_same {part : Part} (hp : part ∉ [.od, .alarm, .net, .log, .out]) (s : State) :
    (State.edgeTrips s).only part = s.only part := by
  simp only [State.edgeTrips, ↓State.onAlarm_same (away hp (by decide)), ↓State.drivePins_same (away hp (by decide)),
    ↓State.tripMessage_same (away hp (by decide)), only_foldl, only_foldlFst, ite_self, implies_true, id_eq]

theorem State.clearLatches_same {part : Part} (hp : part ∉ [.od, .alarm, .net, .power, .log, .out]) (s : State) (mask : Mask64) :
    (State.clearLatches s mask).only part = s.only part := by
  simp only [State.clearLatches, ↓State.onAlarm_same (away hp (by decide)), ↓State.emit_same (away hp (by decide)),
    ↓State.matrix_same hp, only_foldl, only_foldlFst, ite_self, implies_true, id_eq]

end Sys2Proof.Machine
end

