-- ==== Sys2Proof/Laws/FrameChannels.lean ====
section
/-! SUPPORT. The frames of the operations of Machine/Channels.lean: the parts of the state that each one keeps. -/
namespace Sys2Proof.Machine
set_option linter.unusedSimpArgs false
set_option Elab.async false

theorem State.setChan_same {part : Part} (hp : part ∉ [.comp]) (s : State) (c : Nat) (v : Channel) :
    (State.setChan s c v).only part = s.only part := by
  simp only [State.setChan, ↓State.onComp_same hp, ite_self, implies_true, id_eq]

theorem State.sendAll_same {part : Part} (hp : part ∉ [.out]) (s : State) (os : List Out) :
    (State.sendAll s os).only part = s.only part := by
  simp only [State.sendAll, ↓State.send_same hp, only_foldl, only_foldlFst, ite_self, implies_true, id_eq]

theorem State.pump_same {part : Part} (hp : part ∉ [.od, .streams, .codec, .comp, .net, .log, .out]) (s : State) (c : Nat) :
    (State.pump s c).only part = s.only part := by
  simp only [State.pump, ↓State.setChan_same (away hp (by decide)), ↓State.sendAll_same (away hp (by decide)),
    ↓only_ite, ↓only_iteFst, ↓only_iteSnd, ite_self, implies_true, id_eq]

theorem State.sendTok_same {part : Part} (hp : part ∉ [.od, .streams, .codec, .comp, .net, .log, .out]) (s : State) (c : Nat) (k : Tok) :
    (State.sendTok s c k).only part = s.only part := by
  simp only [State.sendTok, ↓State.incr_same (away hp (by decide)), ↓State.setChan_same (away hp (by decide)),
    ↓State.pump_same hp, ↓only_ite, ↓only_iteFst, ↓only_iteSnd, ite_self, implies_true, id_eq]

theorem State.returnCredits_same {part : Part} (hp : part ∉ [.od, .streams, .codec, .comp, .net, .log, .out]) (s : State) (c n : Nat) :
    (State.returnCredits s c n).only part = s.only part := by
  simp only [State.returnCredits, ↓State.setChan_same (away hp (by decide)), ↓State.pump_same hp, ↓only_ite,
    ↓only_iteFst, ↓only_iteSnd, ite_self, implies_true, id_eq]

theorem State.poisonAll_same {part : Part} (hp : part ∉ [.od, .streams, .codec, .comp, .net, .log, .out]) (s : State) (chans : List Nat) (job tick reason : Nat) :
    (State.poisonAll s chans job tick reason).only part = s.only part := by
  simp only [State.poisonAll, ↓State.sendTok_same hp, only_foldl, only_foldlFst, ite_self, implies_true, id_eq]

theorem State.announce_same {part : Part} (hp : part ∉ [.od, .streams, .codec, .comp, .net, .log, .out]) (s : State) (chans : List Nat) (job tick status : Nat) (data : Bool) :
    (State.announce s chans job tick status data).only part = s.only part := by
  simp only [State.announce, ↓State.sendTok_same hp, ↓only_ite, ↓only_iteFst, ↓only_iteSnd, only_foldl,
    only_foldlFst, ite_self, implies_true, id_eq]

theorem State.consume_same {part : Part} (hp : part ∉ [.od, .streams, .codec, .comp, .net, .log, .out]) (s : State) (j : Nat) :
    (State.consume s j).1.only part = s.only part := by
  simp only [State.consume, ↓State.setChan_same (away hp (by decide)), ↓State.pump_same hp, only_foldl,
    only_foldlFst, ite_self, implies_true, id_eq]

end Sys2Proof.Machine
end

