-- ==== Sys2Proof/Laws/FrameIngest.lean ====
section
/-! SUPPORT. The frames of the operations of Machine/Ingest.lean: the parts of the state that each one keeps. -/
namespace Sys2Proof.Machine
set_option linter.unusedSimpArgs false
set_option Elab.async false

theorem State.setStream_same {part : Part} (hp : part ∉ [.streams]) (s : State) (n : Nat) (v : StreamSt) :
    (State.setStream s n v).only part = s.only part := by
  simp only [State.setStream, ↓State.setStreams_same hp, ite_self, implies_true, id_eq]

theorem State.onStream_same {part : Part} (hp : part ∉ [.streams]) (s : State) (n : Nat) (f : StreamSt → StreamSt) :
    (State.onStream s n f).only part = s.only part := by
  simp only [State.onStream, ↓State.setStream_same hp, ite_self, implies_true, id_eq]

theorem State.setH264_same {part : Part} (hp : part ∉ [.codec]) (s : State) (c : Nat) (x : H264Ctx) :
    (State.setH264 s c x).only part = s.only part := by
  simp only [State.setH264, ↓State.onCodec_same hp, ite_self, implies_true, id_eq]

theorem State.enterResync_same {part : Part} (hp : part ∉ [.codec, .net, .log, .out]) (s : State) (c : Nat) :
    (State.enterResync s c).only part = s.only part := by
  simp only [State.enterResync, ↓State.emit_same (away hp (by decide)), ↓State.setH264_same (away hp (by decide)),
    ↓only_ite, ↓only_iteFst, ↓only_iteSnd, ite_self, implies_true, id_eq]

theorem State.missingPicture_same {part : Part} (hp : part ∉ [.codec, .net, .log, .out]) (s : State) (c : Nat) :
    (State.missingPicture s c).only part = s.only part := by
  simp only [State.missingPicture, ↓State.setH264_same (away hp (by decide)), ↓State.enterResync_same hp, ↓only_ite,
    ↓only_iteFst, ↓only_iteSnd, ite_self, implies_true, id_eq]

theorem State.dropBeforeDecode_same {part : Part} (hp : part ∉ [.codec, .net, .log, .out]) (s : State) (n : Nat) :
    (State.dropBeforeDecode s n).only part = s.only part := by
  simp only [State.dropBeforeDecode, ↓State.missingPicture_same hp, only_foldl, only_foldlFst, ite_self,
    implies_true, id_eq]

theorem State.startUnit_same {part : Part} (hp : part ∉ [.od, .streams, .codec, .net, .log, .out]) (s : State) (n : Nat) (u : CapturedUnit) :
    (State.startUnit s n u).only part = s.only part := by
  simp only [State.startUnit, ↓State.incr_same (away hp (by decide)), ↓State.emit_same (away hp (by decide)),
    ↓State.onStream_same (away hp (by decide)), ↓State.dropBeforeDecode_same (away hp (by decide)), ite_self,
    implies_true, id_eq]
  all_goals repeat' split <;> try simp only [↓State.incr_same (away hp (by decide)),
    ↓State.emit_same (away hp (by decide)), ↓State.onStream_same (away hp (by decide)),
    ↓State.dropBeforeDecode_same (away hp (by decide)), ite_self, implies_true, id_eq]

theorem State.completeUnit_same {part : Part} (hp : part ∉ [.od, .streams, .codec, .comp, .net, .log, .out]) (s : State) (n : Nat) :
    (State.completeUnit s n).only part = s.only part := by
  simp only [State.completeUnit, ↓State.send_same (away hp (by decide)), ↓State.incr_same (away hp (by decide)),
    ↓State.sendTok_same hp, ↓State.onStream_same (away hp (by decide)), ite_self, implies_true, id_eq]
  all_goals repeat' split <;> try simp only [↓State.send_same (away hp (by decide)),
    ↓State.incr_same (away hp (by decide)), ↓State.sendTok_same hp, ↓State.onStream_same (away hp (by decide)),
    ite_self, implies_true, id_eq]

theorem State.damageUnit_same {part : Part} (hp : part ∉ [.od, .streams, .net, .log, .out]) (s : State) (n code : Nat) :
    (State.damageUnit s n code).only part = s.only part := by
  simp only [State.damageUnit, ↓State.incr_same (away hp (by decide)), ↓State.emit_same (away hp (by decide)),
    ↓State.onStream_same (away hp (by decide)), ↓only_ite, ↓only_iteFst, ↓only_iteSnd, ite_self, implies_true, id_eq]
  all_goals repeat' split <;> try simp only [↓State.incr_same (away hp (by decide)),
    ↓State.emit_same (away hp (by decide)), ↓State.onStream_same (away hp (by decide)), ↓only_ite, ↓only_iteFst,
    ↓only_iteSnd, ite_self, implies_true, id_eq]

theorem State.failUnit_same {part : Part} (hp : part ∉ [.od, .streams, .codec, .net, .log, .out]) (s : State) (n code : Nat) :
    (State.failUnit s n code).only part = s.only part := by
  simp only [State.failUnit, ↓State.incr_same (away hp (by decide)), ↓State.emit_same (away hp (by decide)),
    ↓State.onStream_same (away hp (by decide)), ↓State.dropBeforeDecode_same (away hp (by decide)), ite_self,
    implies_true, id_eq]

theorem State.captureStart_same {part : Part} (hp : part ∉ [.od, .streams, .codec, .net, .log, .out]) (s : State) (n : Nat) (u : CapturedUnit) :
    (State.captureStart s n u).only part = s.only part := by
  simp only [State.captureStart, ↓State.incr_same (away hp (by decide)), ↓State.onStream_same (away hp (by decide)),
    ↓State.dropBeforeDecode_same (away hp (by decide)), ↓State.startUnit_same hp, ↓only_ite, ↓only_iteFst,
    ↓only_iteSnd, ite_self, implies_true, id_eq]

theorem State.endFrame_same {part : Part} (hp : part ∉ [.od, .streams, .codec, .comp, .net, .log, .out]) (s : State) (n : Nat) :
    (State.endFrame s n).only part = s.only part := by
  simp only [State.endFrame, ↓State.onStream_same (away hp (by decide)), ↓State.completeUnit_same hp, ↓only_ite,
    ↓only_iteFst, ↓only_iteSnd, ite_self, implies_true, id_eq]
  all_goals repeat' split <;> try simp only [↓State.onStream_same (away hp (by decide)), ↓State.completeUnit_same hp,
    ↓only_ite, ↓only_iteFst, ↓only_iteSnd, ite_self, implies_true, id_eq]

theorem State.foreignPacket_same {part : Part} (hp : part ∉ [.od, .net, .log, .out]) (s : State) (n : Nat) :
    (State.foreignPacket s n).only part = s.only part := by
  simp only [State.foreignPacket, ↓State.incr_same (away hp (by decide)), ↓State.emit_same (away hp (by decide)),
    ite_self, implies_true, id_eq]

theorem State.takeLine_same {part : Part} (hp : part ∉ [.od, .streams, .codec, .net, .log, .out]) (s : State) (n dt bytes : Nat) :
    (State.takeLine s n dt bytes).only part = s.only part := by
  simp only [State.takeLine, ↓State.onStream_same (away hp (by decide)), ↓State.failUnit_same hp, ↓only_ite,
    ↓only_iteFst, ↓only_iteSnd, ite_self, implies_true, id_eq]

theorem State.startBlock_same {part : Part} (hp : part ∉ [.od, .streams, .codec, .net, .log, .out]) (s : State) (n : Nat) :
    (State.startBlock s n).only part = s.only part := by
  simp only [State.startBlock, ↓State.incr_same (away hp (by decide)), ↓State.onStream_same (away hp (by decide)),
    ↓State.startUnit_same hp, ↓only_ite, ↓only_iteFst, ↓only_iteSnd, ite_self, implies_true, id_eq]

theorem State.endBlock_same {part : Part} (hp : part ∉ [.od, .streams, .codec, .comp, .net, .log, .out]) (s : State) (n : Nat) (samples : List Int) :
    (State.endBlock s n samples).only part = s.only part := by
  simp only [State.endBlock, ↓State.incr_same (away hp (by decide)), ↓State.block_same (away hp (by decide)),
    ↓State.onStream_same (away hp (by decide)), ↓State.completeUnit_same hp, ↓only_ite, ↓only_iteFst, ↓only_iteSnd,
    ite_self, implies_true, id_eq]

theorem State.takeSample_same {part : Part} (hp : part ∉ [.od, .streams, .codec, .comp, .net, .log, .out]) (s : State) (n : Nat) (v : Int) :
    (State.takeSample s n v).only part = s.only part := by
  simp only [State.takeSample, ↓State.block_same (away hp (by decide)), ↓State.onStream_same (away hp (by decide)),
    ↓State.startBlock_same (away hp (by decide)), ↓State.endBlock_same hp, ↓only_ite, ↓only_iteFst, ↓only_iteSnd,
    ite_self, implies_true, id_eq]

theorem State.loseSample_same {part : Part} (hp : part ∉ [.od, .streams]) (s : State) (n : Nat) :
    (State.loseSample s n).only part = s.only part := by
  simp only [State.loseSample, ↓State.incr_same (away hp (by decide)), ↓State.onStream_same (away hp (by decide)),
    ↓only_ite, ↓only_iteFst, ↓only_iteSnd, ite_self, implies_true, id_eq]

theorem State.slotWord_same {part : Part} (hp : part ∉ [.od, .streams, .alarm, .codec, .comp, .net, .power, .log, .out]) (s : State) (port slot : Nat) (w : BitVec 32) :
    (State.slotWord s port slot w).only part = s.only part := by
  simp only [State.slotWord, ↓State.tapWord_same (away hp (by decide)), ↓State.takeSample_same (away hp (by decide)),
    ite_self, implies_true, id_eq]
  all_goals repeat' split <;> try simp only [↓State.tapWord_same (away hp (by decide)),
    ↓State.takeSample_same (away hp (by decide)), ite_self, implies_true, id_eq]

theorem State.takeSps_same {part : Part} (hp : part ∉ [.od, .streams, .net, .log, .out]) (s : State) (n : Nat) (x : SpsInfo) :
    (State.takeSps s n x).only part = s.only part := by
  simp only [State.takeSps, ↓State.incr_same (away hp (by decide)), ↓State.emit_same (away hp (by decide)),
    ↓State.onStream_same (away hp (by decide)), ↓only_ite, ↓only_iteFst, ↓only_iteSnd, ite_self, implies_true, id_eq]

theorem State.endAccessUnit_same {part : Part} (hp : part ∉ [.od, .streams, .codec, .comp, .net, .log, .out]) (s : State) (n : Nat) :
    (State.endAccessUnit s n).only part = s.only part := by
  simp only [State.endAccessUnit, ↓State.onStream_same (away hp (by decide)), ↓State.completeUnit_same hp, ite_self,
    implies_true, id_eq]

theorem State.startAccessUnit_same {part : Part} (hp : part ∉ [.od, .streams, .codec, .net, .log, .out]) (s : State) (n : Nat) (pkt : RtpPacket) :
    (State.startAccessUnit s n pkt).only part = s.only part := by
  simp only [State.startAccessUnit, ↓State.incr_same (away hp (by decide)),
    ↓State.onStream_same (away hp (by decide)), ↓State.captureStart_same hp,
    ↓State.takeSps_same (away hp (by decide)), ↓only_ite, ↓only_iteFst, ↓only_iteSnd, ite_self, implies_true, id_eq]
  all_goals repeat' split <;> try simp only [↓State.incr_same (away hp (by decide)),
    ↓State.onStream_same (away hp (by decide)), ↓State.captureStart_same hp,
    ↓State.takeSps_same (away hp (by decide)), ↓only_ite, ↓only_iteFst, ↓only_iteSnd, ite_self, implies_true, id_eq]

theorem State.addPacket_same {part : Part} (hp : part ∉ [.od, .streams, .codec, .net, .log, .out]) (s : State) (n : Nat) (pkt : RtpPacket) :
    (State.addPacket s n pkt).only part = s.only part := by
  simp only [State.addPacket, ↓State.onStream_same (away hp (by decide)), ↓State.failUnit_same hp, ↓only_ite,
    ↓only_iteFst, ↓only_iteSnd, ite_self, implies_true, id_eq]

theorem State.rtpData_same {part : Part} (hp : part ∉ [.od, .streams, .codec, .comp, .net, .log, .out]) (s : State) (n : Nat) (pkt : RtpPacket) :
    (State.rtpData s n pkt).only part = s.only part := by
  simp only [State.rtpData, ↓State.emit_same (away hp (by decide)), ↓State.onStream_same (away hp (by decide)),
    ↓State.damageUnit_same (away hp (by decide)), ↓State.endAccessUnit_same hp,
    ↓State.startAccessUnit_same (away hp (by decide)), ↓State.addPacket_same (away hp (by decide)), ↓only_ite,
    ↓only_iteFst, ↓only_iteSnd, ite_self, implies_true, id_eq]

theorem State.deliver_same {part : Part} (hp : part ∉ [.od, .streams, .codec, .comp, .net, .log, .out]) (s : State) (n bytes : Nat) (data : List Byte) (formatOk : Bool) (hostTime : Option Nat) (at_ : Stamp) :
    (State.deliver s n bytes data formatOk hostTime at_).only part = s.only part := by
  simp only [State.deliver, ↓State.incr_same (away hp (by decide)), ↓State.emit_same (away hp (by decide)),
    ↓State.completeUnit_same hp, ↓State.captureStart_same (away hp (by decide)), ↓only_ite, ↓only_iteFst,
    ↓only_iteSnd, ite_self, implies_true, id_eq]

theorem State.drain_same {part : Part} (hp : part ∉ [.od, .streams, .net, .log, .out]) (s : State) (n : Nat) :
    (State.drain s n).only part = s.only part := by
  simp only [State.drain, ↓State.incr_same (away hp (by decide)), ↓State.emit_same (away hp (by decide)),
    ↓State.onStream_same (away hp (by decide)), ↓only_ite, ↓only_iteFst, ↓only_iteSnd, ite_self, implies_true, id_eq]
  all_goals repeat' split <;> try simp only [↓State.incr_same (away hp (by decide)),
    ↓State.emit_same (away hp (by decide)), ↓State.onStream_same (away hp (by decide)), ↓only_ite, ↓only_iteFst,
    ↓only_iteSnd, ite_self, implies_true, id_eq]

theorem State.finishRecut_same {part : Part} (hp : part ∉ [.streams, .codec, .net, .log, .out]) (s : State) (n : Nat) :
    (State.finishRecut s n).only part = s.only part := by
  simp only [State.finishRecut, ↓State.emit_same (away hp (by decide)), ↓State.block_same (away hp (by decide)),
    ↓State.onStream_same (away hp (by decide)), ↓State.setH264_same (away hp (by decide)),
    ↓State.enterResync_same (away hp (by decide)), ↓only_ite, ↓only_iteFst, ↓only_iteSnd, only_foldl, only_foldlFst,
    ite_self, implies_true, id_eq]

theorem State.abortUnit_same {part : Part} (hp : part ∉ [.od, .streams, .out]) (s : State) (n : Nat) :
    (State.abortUnit s n).only part = s.only part := by
  simp only [State.abortUnit, ↓State.incr_same (away hp (by decide)), ↓State.block_same (away hp (by decide)),
    ↓State.onStream_same (away hp (by decide)), ↓only_ite, ↓only_iteFst, ↓only_iteSnd, ite_self, implies_true, id_eq]

theorem State.rebind_same {part : Part} (hp : part ∉ [.od, .streams, .net, .log, .out]) (s : State) (n : Nat) :
    (State.rebind s n).only part = s.only part := by
  simp only [State.rebind, ↓State.emit_same (away hp (by decide)), ↓State.block_same (away hp (by decide)),
    ↓State.onStream_same (away hp (by decide)), ↓State.abortUnit_same (away hp (by decide)), ↓only_ite, ↓only_iteFst,
    ↓only_iteSnd, ite_self, implies_true, id_eq]

theorem State.edgeStream_same {part : Part} (hp : part ∉ [.od, .streams, .codec, .net, .log, .out]) (s : State) (n : Nat) :
    (State.edgeStream s n).only part = s.only part := by
  simp only [State.edgeStream, ↓State.emit_same (away hp (by decide)), ↓State.onStream_same (away hp (by decide)),
    ↓State.drain_same (away hp (by decide)), ↓State.finishRecut_same (away hp (by decide)),
    ↓State.rebind_same (away hp (by decide)), ↓only_ite, ↓only_iteFst, ↓only_iteSnd, ite_self, implies_true, id_eq]

theorem State.edgeStreams_same {part : Part} (hp : part ∉ [.od, .streams, .codec, .net, .log, .out]) (s : State) :
    (State.edgeStreams s).only part = s.only part := by
  simp only [State.edgeStreams, ↓State.edgeStream_same hp, only_foldl, only_foldlFst, ite_self, implies_true, id_eq]

theorem State.stopChucks_same {part : Part} (hp : part ∉ [.od, .streams, .out]) (s : State) :
    (State.stopChucks s).only part = s.only part := by
  simp only [State.stopChucks, ↓State.abortUnit_same hp, ↓only_ite, ↓only_iteFst, ↓only_iteSnd, only_foldl,
    only_foldlFst, ite_self, implies_true, id_eq]

theorem State.observeAge_same {part : Part} (hp : part ∉ [.od, .net, .log, .health, .out]) (s : State) (n stage : Nat) (x : Stamp) :
    (State.observeAge s n stage x).only part = s.only part := by
  simp only [State.observeAge, ↓State.observe_same hp, ite_self, implies_true, id_eq]
  all_goals repeat' split <;> try simp only [↓State.observe_same hp, ite_self, implies_true, id_eq]

theorem State.staleDrop_same {part : Part} (hp : part ∉ [.od, .codec, .net, .log, .out]) (s : State) (n stage : Nat) :
    (State.staleDrop s n stage).only part = s.only part := by
  simp only [State.staleDrop, ↓State.incr_same (away hp (by decide)), ↓State.emitLimited_same (away hp (by decide)),
    ↓State.dropBeforeDecode_same (away hp (by decide)), ↓only_ite, ↓only_iteFst, ↓only_iteSnd, ite_self,
    implies_true, id_eq]

theorem State.endResync_same {part : Part} (hp : part ∉ [.codec, .net, .log, .out]) (s : State) (ctx : Option Nat) :
    (State.endResync s ctx).only part = s.only part := by
  simp only [State.endResync, ↓State.emit_same (away hp (by decide)), ↓State.setH264_same (away hp (by decide)),
    ↓only_ite, ↓only_iteFst, ↓only_iteSnd, ite_self, implies_true, id_eq]
  all_goals repeat' split <;> try simp only [↓State.emit_same (away hp (by decide)),
    ↓State.setH264_same (away hp (by decide)), ↓only_ite, ↓only_iteFst, ↓only_iteSnd, ite_self, implies_true, id_eq]

theorem State.takeUnit_same {part : Part} (hp : part ∉ [.od, .streams, .codec, .net, .log, .health, .out]) (s : State) (n stage rid : Nat) (ctx : Option Nat) (z1 : Nat) :
    (State.takeUnit s n stage rid ctx z1).1.only part = s.only part := by
  induction z1 generalizing s n stage rid ctx with
  | zero => simp only [State.takeUnit]
  | succ z1 ih =>
    simp only [State.takeUnit, ↓State.incr_same (away hp (by decide)),
      ↓State.onStream_same (away hp (by decide)), ↓State.observeAge_same (away hp (by decide)),
      ↓State.staleDrop_same (away hp (by decide)), ↓State.endResync_same (away hp (by decide)), ↓only_ite,
      ↓only_iteFst, ↓only_iteSnd, ih, ite_self, implies_true, id_eq]
    all_goals repeat' split <;> try simp only [↓State.incr_same (away hp (by decide)),
      ↓State.onStream_same (away hp (by decide)), ↓State.observeAge_same (away hp (by decide)),
      ↓State.staleDrop_same (away hp (by decide)), ↓State.endResync_same (away hp (by decide)), ↓only_ite,
      ↓only_iteFst, ↓only_iteSnd, ih, ite_self, implies_true, id_eq]

theorem State.releaseUnits_same {part : Part} (hp : part ∉ [.streams]) (s : State) (rid : Nat) :
    (State.releaseUnits s rid).only part = s.only part := by
  simp only [State.releaseUnits, ↓State.onStream_same hp, ↓only_ite, ↓only_iteFst, ↓only_iteSnd, only_foldl,
    only_foldlFst, ite_self, implies_true, id_eq]
  all_goals repeat' split <;> try simp only [↓State.onStream_same hp, ↓only_ite, ↓only_iteFst, ↓only_iteSnd,
    only_foldl, only_foldlFst, ite_self, implies_true, id_eq]

theorem State.rewaitUnits_same {part : Part} (hp : part ∉ [.streams]) (s : State) (rid : Nat) :
    (State.rewaitUnits s rid).only part = s.only part := by
  simp only [State.rewaitUnits, ↓State.onStream_same hp, ↓only_ite, ↓only_iteFst, ↓only_iteSnd, only_foldl,
    only_foldlFst, ite_self, implies_true, id_eq]
  all_goals repeat' split <;> try simp only [↓State.onStream_same hp, ↓only_ite, ↓only_iteFst, ↓only_iteSnd,
    only_foldl, only_foldlFst, ite_self, implies_true, id_eq]

theorem State.takeWindow_same {part : Part} (hp : part ∉ [.od, .streams, .codec, .net, .log, .health, .out]) (s : State) (n stage rid : Nat) :
    (State.takeWindow s n stage rid).1.only part = s.only part := by
  simp only [State.takeWindow, ↓State.incr_same (away hp (by decide)), ↓State.onStream_same (away hp (by decide)),
    ↓State.observeAge_same (away hp (by decide)), ↓State.staleDrop_same (away hp (by decide)), ↓only_ite,
    ↓only_iteFst, ↓only_iteSnd, only_foldl, only_foldlFst, ite_self, implies_true, id_eq]
  all_goals repeat' split <;> try simp only [↓State.incr_same (away hp (by decide)),
    ↓State.onStream_same (away hp (by decide)), ↓State.observeAge_same (away hp (by decide)),
    ↓State.staleDrop_same (away hp (by decide)), ↓only_ite, ↓only_iteFst, ↓only_iteSnd, only_foldl, only_foldlFst,
    ite_self, implies_true, id_eq]

end Sys2Proof.Machine
end

