-- ==== Sys2Proof/Laws/FrameCodec.lean ====
section
/-! SUPPORT. The frames of the operations of Machine/Codec.lean: the parts of the state that each one keeps. -/
namespace Sys2Proof.Machine
set_option linter.unusedSimpArgs false
set_option Elab.async false

theorem State.setJpeg_same {part : Part} (hp : part ∉ [.codec]) (s : State) (c : Nat) (x : JpegCtx) :
    (State.setJpeg s c x).only part = s.only part := by
  simp only [State.setJpeg, ↓State.onCodec_same hp, ite_self, implies_true, id_eq]

theorem State.jpegReject_same {part : Part} (hp : part ∉ [.od, .codec, .net, .log, .out]) (s : State) (c : Nat) (r : Run) (last : Bool) :
    (State.jpegReject s c r last).1.only part = s.only part := by
  simp only [State.jpegReject, ↓State.incr_same (away hp (by decide)), ↓State.emit_same (away hp (by decide)),
    ↓State.setJpeg_same (away hp (by decide)), ite_self, implies_true, id_eq]

theorem State.jpegDamage_same {part : Part} (hp : part ∉ [.od, .codec, .net, .log, .out]) (s : State) (c n : Nat) :
    (State.jpegDamage s c n).only part = s.only part := by
  simp only [State.jpegDamage, ↓State.incr_same (away hp (by decide)), ↓State.emit_same (away hp (by decide)),
    ↓State.setJpeg_same (away hp (by decide)), ↓only_ite, ↓only_iteFst, ↓only_iteSnd, ite_self, implies_true, id_eq]

theorem State.jpegJob_same {part : Part} (hp : part ∉ [.od, .codec, .net, .log, .out]) (s : State) (c : Nat) (r : Run) (x : JpegReport) :
    (State.jpegJob s c r x).1.only part = s.only part := by
  simp only [State.jpegJob, ↓State.incr_same (away hp (by decide)), ↓State.setJpeg_same (away hp (by decide)),
    ↓State.jpegReject_same hp, ↓State.jpegDamage_same hp, ↓only_ite, ↓only_iteFst, ↓only_iteSnd, ite_self,
    implies_true, id_eq]

theorem State.entryEnd_same {part : Part} (hp : part ∉ [.od, .net, .log, .out]) (s : State) (n : Nat) (e : EntryEnd) :
    (State.entryEnd s n e).only part = s.only part := by
  simp only [State.entryEnd, ↓State.incr_same (away hp (by decide)), ↓State.emitLimited_same (away hp (by decide)),
    ite_self, implies_true, id_eq]
  all_goals repeat' split <;> try simp only [↓State.incr_same (away hp (by decide)),
    ↓State.emitLimited_same (away hp (by decide)), ite_self, implies_true, id_eq]

theorem State.recordFields_same {part : Part} (hp : part ∉ [.od, .net, .log, .out]) (s : State) (job n : Nat) (fields : List (RecPath × Leaf)) :
    (State.recordFields s job n fields).only part = s.only part := by
  simp only [State.recordFields, ↓State.send_same (away hp (by decide)), ↓State.incr_same (away hp (by decide)),
    ↓State.record_same (away hp (by decide)), ↓State.entryEnd_same hp, only_foldl, only_foldlFst, ite_self,
    implies_true, id_eq]

theorem State.recordJob_same {part : Part} (hp : part ∉ [.od, .net, .log, .out]) (s : State) (n : Nat) (r : Run) (bs : List Byte) :
    (State.recordJob s n r bs).1.only part = s.only part := by
  simp only [State.recordJob, ↓State.incr_same (away hp (by decide)), ↓State.emit_same (away hp (by decide)),
    ↓State.recordFields_same hp, ite_self, implies_true, id_eq]
  all_goals repeat' split <;> try simp only [↓State.incr_same (away hp (by decide)),
    ↓State.emit_same (away hp (by decide)), ↓State.recordFields_same hp, ite_self, implies_true, id_eq]

theorem State.takeParameters_same {part : Part} (hp : part ∉ [.codec, .net, .log, .out]) (s : State) (c : Nat) (x : H264Report) :
    (State.takeParameters s c x).only part = s.only part := by
  simp only [State.takeParameters, ↓State.emit_same (away hp (by decide)), ↓State.setH264_same (away hp (by decide)),
    ↓only_ite, ↓only_iteFst, ↓only_iteSnd, ite_self, implies_true, id_eq]
  all_goals repeat' split <;> try simp only [↓State.emit_same (away hp (by decide)),
    ↓State.setH264_same (away hp (by decide)), ↓only_ite, ↓only_iteFst, ↓only_iteSnd, ite_self, implies_true, id_eq]

theorem State.h264Damage_same {part : Part} (hp : part ∉ [.od, .codec, .net, .log, .out]) (s : State) (c : Nat) (x : H264Report) :
    (State.h264Damage s c x).only part = s.only part := by
  simp only [State.h264Damage, ↓State.incr_same (away hp (by decide)), ↓State.emit_same (away hp (by decide)),
    ↓State.setH264_same (away hp (by decide)), ↓only_ite, ↓only_iteFst, ↓only_iteSnd, ite_self, implies_true, id_eq]

theorem State.h264Picture_same {part : Part} (hp : part ∉ [.od, .codec]) (s : State) (c : Nat) (r : Run) (idr : Bool) :
    (State.h264Picture s c r idr).1.only part = s.only part := by
  simp only [State.h264Picture, ↓State.setObj_same (away hp (by decide)), ↓State.incr_same (away hp (by decide)),
    ↓State.setH264_same (away hp (by decide)), ↓only_ite, ↓only_iteFst, ↓only_iteSnd, ite_self, implies_true, id_eq]

theorem State.frameNumGap_same {part : Part} (hp : part ∉ [.od, .codec, .net, .log, .out]) (s : State) (c : Nat) :
    (State.frameNumGap s c).only part = s.only part := by
  simp only [State.frameNumGap, ↓State.incr_same (away hp (by decide)),
    ↓State.missingPicture_same (away hp (by decide)), ↓only_ite, ↓only_iteFst, ↓only_iteSnd, ite_self, implies_true,
    id_eq]

theorem State.h264Job_same {part : Part} (hp : part ∉ [.od, .codec, .net, .log, .out]) (s : State) (c : Nat) (r : Run) (x : H264Report) :
    (State.h264Job s c r x).1.only part = s.only part := by
  simp only [State.h264Job, ↓State.incr_same (away hp (by decide)), ↓State.takeParameters_same (away hp (by decide)),
    ↓State.h264Damage_same hp, ↓State.h264Picture_same (away hp (by decide)), ↓State.frameNumGap_same hp, ↓only_ite,
    ↓only_iteFst, ↓only_iteSnd, ite_self, implies_true, id_eq]

theorem State.h264Abort_same {part : Part} (hp : part ∉ [.free, .od, .codec]) (s : State) (c : Nat) :
    (State.h264Abort s c).only part = s.only part := by
  simp only [State.h264Abort, ↓State.incr_same (away hp (by decide)), ↓State.draw_same (away hp (by decide)),
    ↓State.setH264_same (away hp (by decide)), ite_self, implies_true, id_eq]

theorem State.cutContext_same {part : Part} (hp : part ∉ [.od, .codec]) (s : State) (k : JobKind) (conc : Nat) :
    (State.cutContext s k conc).only part = s.only part := by
  simp only [State.cutContext, ↓State.incr_same (away hp (by decide)), ↓State.setH264_same (away hp (by decide)),
    ↓State.setJpeg_same (away hp (by decide)), ite_self, implies_true, id_eq]
  all_goals repeat' split <;> try simp only [↓State.incr_same (away hp (by decide)),
    ↓State.setH264_same (away hp (by decide)), ↓State.setJpeg_same (away hp (by decide)), ite_self, implies_true,
    id_eq]

theorem State.setEnc_same {part : Part} (hp : part ∉ [.codec]) (s : State) (e : Nat) (x : EncCtx) :
    (State.setEnc s e x).only part = s.only part := by
  simp only [State.setEnc, ↓State.onCodec_same hp, ite_self, implies_true, id_eq]

theorem State.encAdopt_same {part : Part} (hp : part ∉ [.actual]) (s : State) (e : Nat) :
    (State.encAdopt s e).only part = s.only part := by
  simp only [State.encAdopt, ↓State.setActual_same hp, only_foldl, only_foldlFst, ite_self, implies_true, id_eq]

theorem State.encAdmit_same {part : Part} (hp : part ∉ [.od, .codec, .net, .log, .out]) (s : State) (e source : Nat) (src : Option UnitMeta) :
    (State.encAdmit s e source src).only part = s.only part := by
  simp only [State.encAdmit, ↓State.incr_same (away hp (by decide)), ↓State.emit_same (away hp (by decide)),
    ↓State.emitLimited_same (away hp (by decide)), ↓State.setEnc_same (away hp (by decide)), ↓only_ite, ↓only_iteFst,
    ↓only_iteSnd, ite_self, implies_true, id_eq]
  all_goals repeat' split <;> try simp only [↓State.incr_same (away hp (by decide)),
    ↓State.emit_same (away hp (by decide)), ↓State.emitLimited_same (away hp (by decide)),
    ↓State.setEnc_same (away hp (by decide)), ↓only_ite, ↓only_iteFst, ↓only_iteSnd, ite_self, implies_true, id_eq]

theorem State.encStart_same {part : Part} (hp : part ∉ [.od, .actual, .codec, .net, .log, .out]) (s : State) (e : Nat) (i : EncodeImage) (w h : Nat) :
    (State.encStart s e i w h).only part = s.only part := by
  simp only [State.encStart, ↓State.incr_same (away hp (by decide)), ↓State.emit_same (away hp (by decide)),
    ↓State.setEnc_same (away hp (by decide)), ↓State.encAdopt_same (away hp (by decide)), ↓only_ite, ↓only_iteFst,
    ↓only_iteSnd, ite_self, implies_true, id_eq]

theorem State.rtpSend_same {part : Part} (hp : part ∉ [.codec, .out]) (s : State) (e : Nat) (pieces : List Nat) (last : Bool) :
    (State.rtpSend s e pieces last).only part = s.only part := by
  induction pieces generalizing s e last with
  | nil => simp only [State.rtpSend]
  | cons z pieces ih =>
    simp only [State.rtpSend, ↓State.send_same (away hp (by decide)),
      ↓State.setEnc_same (away hp (by decide)), ih, ite_self, implies_true, id_eq]

theorem State.encSend_same {part : Part} (hp : part ∉ [.codec, .out]) (s : State) (e : Nat) (nals : List Nat) (last : Bool) :
    (State.encSend s e nals last).only part = s.only part := by
  simp only [State.encSend, ↓State.rtpSend_same hp, ↓only_ite, ↓only_iteFst, ↓only_iteSnd, ite_self, implies_true,
    id_eq]

theorem State.encDegrade_same {part : Part} (hp : part ∉ [.od, .codec, .net, .log, .out]) (s : State) (e : Nat) (d : Bool) :
    (State.encDegrade s e d).only part = s.only part := by
  simp only [State.encDegrade, ↓State.incr_same (away hp (by decide)), ↓State.emit_same (away hp (by decide)),
    ↓State.setEnc_same (away hp (by decide)), ↓only_ite, ↓only_iteFst, ↓only_iteSnd, ite_self, implies_true, id_eq]

theorem State.encFinish_same {part : Part} (hp : part ∉ [.od, .codec]) (s : State) (e : Nat) :
    (State.encFinish s e).only part = s.only part := by
  simp only [State.encFinish, ↓State.setObj_same (away hp (by decide)), ↓State.incr_same (away hp (by decide)),
    ↓State.setEnc_same (away hp (by decide)), ↓only_ite, ↓only_iteFst, ↓only_iteSnd, ite_self, implies_true, id_eq]

theorem State.encodeJob_same {part : Part} (hp : part ∉ [.od, .actual, .codec, .net, .log, .out]) (s : State) (e : Nat) (r : Run) (x : EncodeReport) :
    (State.encodeJob s e r x).1.only part = s.only part := by
  simp only [State.encodeJob, ↓State.setEnc_same (away hp (by decide)), ↓State.encStart_same hp,
    ↓State.encSend_same (away hp (by decide)), ↓State.encDegrade_same (away hp (by decide)),
    ↓State.encFinish_same (away hp (by decide)), ↓only_ite, ↓only_iteFst, ↓only_iteSnd, ite_self, implies_true, id_eq]
  all_goals repeat' split <;> try simp only [↓State.setEnc_same (away hp (by decide)), ↓State.encStart_same hp,
    ↓State.encSend_same (away hp (by decide)), ↓State.encDegrade_same (away hp (by decide)),
    ↓State.encFinish_same (away hp (by decide)), ↓only_ite, ↓only_iteFst, ↓only_iteSnd, ite_self, implies_true, id_eq]

theorem State.encAbort_same {part : Part} (hp : part ∉ [.codec]) (s : State) (e : Nat) :
    (State.encAbort s e).only part = s.only part := by
  simp only [State.encAbort, ↓State.setEnc_same hp, ↓only_ite, ↓only_iteFst, ↓only_iteSnd, ite_self, implies_true,
    id_eq]

theorem State.nextQp_same {part : Part} (hp : part ∉ [.free]) (s : State) (e : Nat) (i : EncodeImage) (tn : Int) (last : Option (Nat × Nat)) :
    (State.nextQp s e i tn last).2.only part = s.only part := by
  simp only [State.nextQp, ↓State.draw_same hp, ↓only_ite, ↓only_iteFst, ↓only_iteSnd, ite_self, implies_true, id_eq]
  all_goals repeat' split <;> try simp only [↓State.draw_same hp, ↓only_ite, ↓only_iteFst, ↓only_iteSnd, ite_self,
    implies_true, id_eq]

theorem State.rateControlJob_same {part : Part} (hp : part ∉ [.free, .od, .codec, .net, .log, .out]) (s : State) (e : Nat) (r : Run) :
    (State.rateControlJob s e r).1.only part = s.only part := by
  simp only [State.rateControlJob, ↓State.setObj_same (away hp (by decide)), ↓State.incr_same (away hp (by decide)),
    ↓State.emit_same (away hp (by decide)), ↓State.setEnc_same (away hp (by decide)),
    ↓State.nextQp_same (away hp (by decide)), ↓only_ite, ↓only_iteFst, ↓only_iteSnd, ite_self, implies_true, id_eq]
  all_goals repeat' split <;> try simp only [↓State.setObj_same (away hp (by decide)),
    ↓State.incr_same (away hp (by decide)), ↓State.emit_same (away hp (by decide)),
    ↓State.setEnc_same (away hp (by decide)), ↓State.nextQp_same (away hp (by decide)), ↓only_ite, ↓only_iteFst,
    ↓only_iteSnd, ite_self, implies_true, id_eq]

theorem State.encRestart_same {part : Part} (hp : part ∉ [.od, .codec]) (s : State) (e : Nat) :
    (State.encRestart s e).only part = s.only part := by
  simp only [State.encRestart, ↓State.setObj_same (away hp (by decide)), ↓State.setEnc_same (away hp (by decide)),
    ite_self, implies_true, id_eq]

theorem State.forceIdr_same {part : Part} (hp : part ∉ [.codec, .net, .log, .out]) (s : State) (e : Nat) :
    (State.forceIdr s e).only part = s.only part := by
  simp only [State.forceIdr, ↓State.emit_same (away hp (by decide)), ↓State.setEnc_same (away hp (by decide)),
    ite_self, implies_true, id_eq]

end Sys2Proof.Machine
end

