-- ==== Sys2Proof/Laws/FrameMemory.lean ====
section
/-! SUPPORT. The frames of the operations of Machine/Memory.lean: the parts of the state that each one keeps. -/
namespace Sys2Proof.Machine
set_option linter.unusedSimpArgs false
set_option Elab.async false

theorem State.writeByte_same {part : Part} (hp : part ∉ [.sram, .dram]) (s : State) (mem pa : Nat) (v : Byte) :
    (State.writeByte s mem pa v).only part = s.only part := by
  simp only [State.writeByte, ↓State.setSram_same (away hp (by decide)), ↓State.setDram_same (away hp (by decide)),
    ↓only_ite, ↓only_iteFst, ↓only_iteSnd, ite_self, implies_true, id_eq]

theorem State.writeBytes_same {part : Part} (hp : part ∉ [.sram, .dram]) (s : State) (mem pa : Nat) (z1 : List Byte) :
    (State.writeBytes s mem pa z1).only part = s.only part := by
  induction z1 generalizing s mem pa with
  | nil => simp only [State.writeBytes]
  | cons z zs ih =>
    simp only [State.writeBytes, ↓State.writeByte_same hp, ih, ite_self, implies_true, id_eq]

theorem State.metBadWord_same {part : Part} (hp : part ∉ [.od, .net, .log, .out]) (s : State) (pa : Nat) :
    (State.metBadWord s pa).only part = s.only part := by
  simp only [State.metBadWord, ↓State.setObj_same (away hp (by decide)), ↓State.incr_same (away hp (by decide)),
    ↓State.emit_same (away hp (by decide)), ite_self, implies_true, id_eq]

theorem State.lookup_same {part : Part} (hp : part ∉ [.od, .xfer]) (s : State) (engine pd va access mem : Nat) :
    (State.lookup s engine pd va access mem).only part = s.only part := by
  simp only [State.lookup, ↓State.onXfer_same (away hp (by decide)), ↓State.incr_same (away hp (by decide)),
    ite_self, implies_true, id_eq]
  all_goals repeat' split <;> try simp only [↓State.onXfer_same (away hp (by decide)),
    ↓State.incr_same (away hp (by decide)), ite_self, implies_true, id_eq]

theorem State.dropCached_same {part : Part} (hp : part ∉ [.xfer]) (s : State) (pd base len : Nat) :
    (State.dropCached s pd base len).only part = s.only part := by
  simp only [State.dropCached, ↓State.onXfer_same hp, ite_self, implies_true, id_eq]

end Sys2Proof.Machine
end

