-- ==== Sys2Proof/Laws/FrameDescriptors.lean ====
section
/-! SUPPORT. The frames of the operations of Machine/Descriptors.lean: the parts of the state that each one keeps. -/
namespace Sys2Proof.Machine
set_option linter.unusedSimpArgs false
set_option Elab.async false

theorem State.reportDescriptor_same {part : Part} (hp : part ∉ [.od, .net, .log, .out]) (s : State) (addr event : Nat) :
    (State.reportDescriptor s addr event).only part = s.only part := by
  simp only [State.reportDescriptor, ↓State.setObj_same (away hp (by decide)),
    ↓State.incr_same (away hp (by decide)), ↓State.emit_same (away hp (by decide)), ite_self, implies_true, id_eq]

theorem State.loadDescriptors_same {part : Part} (hp : part ∉ [.od, .net, .log, .out]) (s : State) (e : JobEntry) (given : List (Nat × Option Nat)) (pd : Nat) :
    (State.loadDescriptors s e given pd).1.only part = s.only part := by
  simp only [State.loadDescriptors, ↓State.incr_same (away hp (by decide)), ↓State.reportDescriptor_same hp,
    only_foldl, only_foldlFst, ite_self, implies_true, id_eq]

theorem State.checkUnit_same {part : Part} (hp : part ∉ [.od, .net, .log, .out]) (s : State) (pd addr content : Nat) :
    (State.checkUnit s pd addr content).only part = s.only part := by
  simp only [State.checkUnit, ↓State.incr_same (away hp (by decide)), ↓State.reportDescriptor_same hp, ↓only_ite,
    ↓only_iteFst, ↓only_iteSnd, ite_self, implies_true, id_eq]

end Sys2Proof.Machine
end

