-- ==== Sys2Proof/Laws/FrameTransfers.lean ====
section
/-! SUPPORT. The frames of the operations of Machine/Transfers.lean: the parts of the state that each one keeps. -/
namespace Sys2Proof.Machine
set_option linter.unusedSimpArgs false
set_option Elab.async false

theorem State.countSelections_same {part : Part} (hp : part ∉ [.od, .net, .log, .out]) (s : State) (x : Xfer) (k : Nat) (data : List Byte) :
    (State.countSelections s x k data).only part = s.only part := by
  simp only [State.countSelections, ↓State.incr_same (away hp (by decide)),
    ↓State.emitLimited_same (away hp (by decide)), ↓only_ite, ↓only_iteFst, ↓only_iteSnd, ite_self, implies_true,
    id_eq]

theorem State.writeElem_same {part : Part} (hp : part ∉ [.sram, .dram, .out]) (s : State) (g : Grain) (p : Place) (ix : List Nat) (v : Nat) :
    (State.writeElem s g p ix v).only part = s.only part := by
  simp only [State.writeElem, ↓State.send_same (away hp (by decide)), ↓State.writeByte_same (away hp (by decide)),
    ↓State.writeBytes_same (away hp (by decide)), ↓only_ite, ↓only_iteFst, ↓only_iteSnd, ite_self, implies_true, id_eq]

theorem State.countScales_same {part : Part} (hp : part ∉ [.od, .net, .log, .out]) (s : State) (x : Xfer) (ps : List Pair) :
    (State.countScales s x ps).only part = s.only part := by
  simp only [State.countScales, ↓State.badGroups_same hp, ite_self, implies_true, id_eq]

theorem State.moveScale_same {part : Part} (hp : part ∉ [.sram, .dram]) (s : State) (x : Xfer) (p : Pair) :
    (State.moveScale s x p).only part = s.only part := by
  simp only [State.moveScale, ↓State.writeByte_same hp, ↓only_ite, ↓only_iteFst, ↓only_iteSnd, ite_self,
    implies_true, id_eq]
  all_goals repeat' split <;> try simp only [↓State.writeByte_same hp, ↓only_ite, ↓only_iteFst, ↓only_iteSnd,
    ite_self, implies_true, id_eq]

theorem State.movePairs_same {part : Part} (hp : part ∉ [.sram, .dram, .out]) (s : State) (x : Xfer) (pv : List (Pair × Nat)) :
    (State.movePairs s x pv).only part = s.only part := by
  simp only [State.movePairs, ↓State.writeElem_same hp, ↓State.moveScale_same (away hp (by decide)), only_foldl,
    only_foldlFst, ite_self, implies_true, id_eq]

theorem State.accumulateElem_same {part : Part} (hp : part ∉ [.od, .sram, .dram, .out]) (s : State) (x : Xfer) (ix : List Nat) (cs : List Nat) :
    (State.accumulateElem s x ix cs).only part = s.only part := by
  simp only [State.accumulateElem, ↓State.send_same (away hp (by decide)), ↓State.incr_same (away hp (by decide)),
    ↓State.writeElem_same (away hp (by decide)), ↓only_ite, ↓only_iteFst, ↓only_iteSnd, only_foldl, only_foldlFst,
    ite_self, implies_true, id_eq]

theorem State.accumulatePairs_same {part : Part} (hp : part ∉ [.od, .sram, .dram, .out]) (s : State) (x : Xfer) (pv : List (Pair × Nat)) :
    (State.accumulatePairs s x pv).only part = s.only part := by
  simp only [State.accumulatePairs, ↓State.incr_same (away hp (by decide)), ↓State.accumulateElem_same hp,
    only_foldl, only_foldlFst, ite_self, implies_true, id_eq]

theorem State.failRun_same {part : Part} (hp : part ∉ [.head]) (s : State) (rid : Nat) :
    (State.failRun s rid).only part = s.only part := by
  simp only [State.failRun, ↓State.onHead_same hp, ↓only_ite, ↓only_iteFst, ↓only_iteSnd, ite_self, implies_true,
    id_eq]

theorem State.setXfer_same {part : Part} (hp : part ∉ [.xfer]) (s : State) (x : Xfer) :
    (State.setXfer s x).only part = s.only part := by
  simp only [State.setXfer, ↓State.onXfer_same hp, ↓only_ite, ↓only_iteFst, ↓only_iteSnd, ite_self, implies_true,
    id_eq]

theorem State.dropXfer_same {part : Part} (hp : part ∉ [.xfer, .link]) (s : State) (xid : Nat) :
    (State.dropXfer s xid).only part = s.only part := by
  simp only [State.dropXfer, ↓State.onXfer_same (away hp (by decide)), ↓State.onLink_same (away hp (by decide)),
    ite_self, implies_true, id_eq]

theorem State.abandonOne_same {part : Part} (hp : part ∉ [.od, .head, .streams, .codec, .xfer, .comp, .link, .net, .log, .out]) (s : State) (x : Xfer) (reason : Nat) :
    (State.abandonOne s x reason).only part = s.only part := by
  simp only [State.abandonOne, ↓State.incr_same (away hp (by decide)), ↓State.sendTok_same (away hp (by decide)),
    ↓State.failRun_same (away hp (by decide)), ↓State.dropXfer_same (away hp (by decide)), only_foldl, only_foldlFst,
    ite_self, implies_true, id_eq]

theorem State.abandon_same {part : Part} (hp : part ∉ [.od, .head, .streams, .codec, .xfer, .comp, .link, .net, .log, .out]) (s : State) (x : Xfer) (reason : Nat) :
    (State.abandon s x reason).only part = s.only part := by
  simp only [State.abandon, ↓State.abandonOne_same hp, only_foldl, only_foldlFst, ite_self, implies_true, id_eq]

theorem State.abandonAll_same {part : Part} (hp : part ∉ [.od, .head, .streams, .codec, .xfer, .comp, .link, .net, .log, .out]) (s : State) (p : Xfer → Bool) (reason : Nat) :
    (State.abandonAll s p reason).only part = s.only part := by
  simp only [State.abandonAll, ↓State.abandon_same hp, only_foldl, only_foldlFst, ite_self, implies_true, id_eq]

theorem State.portDown_same {part : Part} (hp : part ∉ [.od, .head, .streams, .codec, .xfer, .comp, .link, .net, .log, .out]) (s : State) (mem : Nat) :
    (State.portDown s mem).only part = s.only part := by
  simp only [State.portDown, ↓State.abandonAll_same hp, ite_self, implies_true, id_eq]

theorem State.postFault_same {part : Part} (hp : part ∉ [.od, .xfer, .out]) (s : State) (r : FaultRec) :
    (State.postFault s r).only part = s.only part := by
  simp only [State.postFault, ↓State.onXfer_same (away hp (by decide)), ↓State.send_same (away hp (by decide)),
    ↓State.incr_same (away hp (by decide)), ↓only_ite, ↓only_iteFst, ↓only_iteSnd, ite_self, implies_true, id_eq]

theorem State.mapSpare_same {part : Part} (hp : part ∉ [.xfer, .sram, .dram]) (s : State) (r : FaultRec) (entry : Place) :
    (State.mapSpare s r entry).only part = s.only part := by
  simp only [State.mapSpare, ↓State.onXfer_same (away hp (by decide)), ↓State.writeBytes_same (away hp (by decide)),
    ↓only_ite, ↓only_iteFst, ↓only_iteSnd, ite_self, implies_true, id_eq]
  all_goals repeat' split <;> try simp only [↓State.onXfer_same (away hp (by decide)),
    ↓State.writeBytes_same (away hp (by decide)), ↓only_ite, ↓only_iteFst, ↓only_iteSnd, ite_self, implies_true, id_eq]

theorem State.resumed_same {part : Part} (hp : part ∉ [.od, .xfer, .net, .log, .out]) (s : State) (x : Xfer) :
    (State.resumed s x).only part = s.only part := by
  simp only [State.resumed, ↓State.incr_same (away hp (by decide)), ↓State.emit_same (away hp (by decide)),
    ↓State.setXfer_same (away hp (by decide)), ite_self, implies_true, id_eq]

theorem State.firmwareAnswer_same {part : Part} (hp : part ∉ [.od, .head, .streams, .codec, .xfer, .comp, .link, .net, .log, .sram, .dram, .out]) (s : State) (x : Xfer) (r : FaultRec) (entry : Place) :
    (State.firmwareAnswer s x r entry).only part = s.only part := by
  simp only [State.firmwareAnswer, ↓State.emit_same (away hp (by decide)), ↓State.abandon_same (away hp (by decide)),
    ↓State.mapSpare_same (away hp (by decide)), ↓State.resumed_same (away hp (by decide)), ↓only_ite, ↓only_iteFst,
    ↓only_iteSnd, ite_self, implies_true, id_eq]

theorem State.raiseFault_same {part : Part} (hp : part ∉ [.od, .head, .streams, .codec, .xfer, .comp, .link, .net, .log, .sram, .dram, .out]) (s : State) (x : Xfer) (chunk : Nat) (n : Need) (kind level : Nat) (entry : Place) :
    (State.raiseFault s x chunk n kind level entry).only part = s.only part := by
  simp only [State.raiseFault, ↓State.onXfer_same (away hp (by decide)), ↓State.incr_same (away hp (by decide)),
    ↓State.emit_same (away hp (by decide)), ↓State.setXfer_same (away hp (by decide)),
    ↓State.postFault_same (away hp (by decide)), ↓State.firmwareAnswer_same hp, ↓only_ite, ↓only_iteFst,
    ↓only_iteSnd, ite_self, implies_true, id_eq]

theorem State.healWords_same {part : Part} (hp : part ∉ [.comp]) (s : State) (x : Xfer) (ps : List Pair) :
    (State.healWords s x ps).only part = s.only part := by
  simp only [State.healWords, ↓State.onComp_same hp, ↓only_ite, ↓only_iteFst, ↓only_iteSnd, ite_self, implies_true,
    id_eq]

theorem State.request256_same {part : Part} (hp : part ∉ [.od, .head, .streams, .codec, .xfer, .comp, .link, .net, .log, .out]) (s : State) (x : Xfer) :
    (State.request256 s x).only part = s.only part := by
  simp only [State.request256, ↓State.takeTags_same (away hp (by decide)), ↓State.abandon_same hp, ↓only_ite,
    ↓only_iteFst, ↓only_iteSnd, ite_self, implies_true, id_eq]
  all_goals repeat' split <;> try simp only [↓State.takeTags_same (away hp (by decide)), ↓State.abandon_same hp,
    ↓only_ite, ↓only_iteFst, ↓only_iteSnd, ite_self, implies_true, id_eq]

theorem State.applyChunk_same {part : Part} (hp : part ∉ [.od, .head, .streams, .codec, .xfer, .comp, .link, .net, .log, .sram, .dram, .out]) (s : State) (x : Xfer) (data : List Byte) :
    (State.applyChunk s x data).only part = s.only part := by
  simp only [State.applyChunk, ↓State.incr_same (away hp (by decide)), ↓State.sendTok_same (away hp (by decide)),
    ↓State.lookup_same (away hp (by decide)), ↓State.countSelections_same (away hp (by decide)),
    ↓State.countScales_same (away hp (by decide)), ↓State.movePairs_same (away hp (by decide)),
    ↓State.accumulatePairs_same (away hp (by decide)), ↓State.setXfer_same (away hp (by decide)),
    ↓State.dropXfer_same (away hp (by decide)), ↓State.healWords_same (away hp (by decide)),
    ↓State.request256_same (away hp (by decide)), ↓only_ite, ↓only_iteFst, ↓only_iteSnd, only_foldl, only_foldlFst,
    ite_self, implies_true, id_eq]
  all_goals repeat' split <;> try simp only [↓State.incr_same (away hp (by decide)),
    ↓State.sendTok_same (away hp (by decide)), ↓State.lookup_same (away hp (by decide)),
    ↓State.countSelections_same (away hp (by decide)), ↓State.countScales_same (away hp (by decide)),
    ↓State.movePairs_same (away hp (by decide)), ↓State.accumulatePairs_same (away hp (by decide)),
    ↓State.setXfer_same (away hp (by decide)), ↓State.dropXfer_same (away hp (by decide)),
    ↓State.healWords_same (away hp (by decide)), ↓State.request256_same (away hp (by decide)), ↓only_ite,
    ↓only_iteFst, ↓only_iteSnd, only_foldl, only_foldlFst, ite_self, implies_true, id_eq]

theorem State.chunkMismatch_same {part : Part} (hp : part ∉ [.od, .head, .streams, .codec, .xfer, .comp, .link, .net, .log, .out]) (s : State) (x : Xfer) :
    (State.chunkMismatch s x).only part = s.only part := by
  simp only [State.chunkMismatch, ↓State.incr_same (away hp (by decide)), ↓State.emit_same (away hp (by decide)),
    ↓State.setXfer_same (away hp (by decide)), ↓State.abandon_same hp, ↓only_ite, ↓only_iteFst, ↓only_iteSnd,
    ite_self, implies_true, id_eq]

theorem State.applyGroup_same {part : Part} (hp : part ∉ [.od, .head, .streams, .codec, .xfer, .comp, .link, .net, .log, .sram, .dram, .out]) (s : State) (data : List Byte) (z1 : List Xfer) :
    (State.applyGroup s data z1).only part = s.only part := by
  induction z1 generalizing s data with
  | nil => simp only [State.applyGroup]
  | cons z zs ih =>
    simp only [State.applyGroup, ↓State.applyChunk_same hp, ih, ite_self, implies_true, id_eq]

theorem State.chunkVisible_same {part : Part} (hp : part ∉ [.od, .head, .streams, .codec, .xfer, .comp, .link, .net, .log, .sram, .dram, .out]) (s : State) (x : Xfer) (crcOk : Bool) (data : List Byte) :
    (State.chunkVisible s x crcOk data).only part = s.only part := by
  simp only [State.chunkVisible, ↓State.metBadWord_same (away hp (by decide)),
    ↓State.abandon_same (away hp (by decide)), ↓State.raiseFault_same hp,
    ↓State.chunkMismatch_same (away hp (by decide)), ↓State.applyGroup_same hp, ↓only_ite, ↓only_iteFst,
    ↓only_iteSnd, ite_self, implies_true, id_eq]
  all_goals repeat' split <;> try simp only [↓State.metBadWord_same (away hp (by decide)),
    ↓State.abandon_same (away hp (by decide)), ↓State.raiseFault_same hp,
    ↓State.chunkMismatch_same (away hp (by decide)), ↓State.applyGroup_same hp, ↓only_ite, ↓only_iteFst,
    ↓only_iteSnd, ite_self, implies_true, id_eq]

theorem State.resume_same {part : Part} (hp : part ∉ [.od, .head, .streams, .codec, .xfer, .comp, .link, .net, .log, .sram, .dram, .out]) (s : State) (x : Xfer) (f : FaultRec) :
    (State.resume s x f).only part = s.only part := by
  simp only [State.resume, ↓State.resumed_same (away hp (by decide)), ↓State.raiseFault_same hp, ↓only_ite,
    ↓only_iteFst, ↓only_iteSnd, ite_self, implies_true, id_eq]
  all_goals repeat' split <;> try simp only [↓State.resumed_same (away hp (by decide)), ↓State.raiseFault_same hp,
    ↓only_ite, ↓only_iteFst, ↓only_iteSnd, ite_self, implies_true, id_eq]

theorem State.respond_same {part : Part} (hp : part ∉ [.od, .head, .streams, .codec, .xfer, .comp, .link, .net, .log, .sram, .dram, .out]) (s : State) (v : Nat) :
    (State.respond s v).only part = s.only part := by
  simp only [State.respond, ↓State.emit_same (away hp (by decide)), ↓State.abandon_same (away hp (by decide)),
    ↓State.resume_same hp, ↓only_ite, ↓only_iteFst, ↓only_iteSnd, ite_self, implies_true, id_eq]
  all_goals repeat' split <;> try simp only [↓State.emit_same (away hp (by decide)),
    ↓State.abandon_same (away hp (by decide)), ↓State.resume_same hp, ↓only_ite, ↓only_iteFst, ↓only_iteSnd,
    ite_self, implies_true, id_eq]

theorem State.missDeadline_same {part : Part} (hp : part ∉ [.od, .head, .streams, .codec, .xfer, .comp, .link, .net, .log, .out]) (s : State) (x : Xfer) :
    (State.missDeadline s x).only part = s.only part := by
  simp only [State.missDeadline, ↓State.incr_same (away hp (by decide)), ↓State.emit_same (away hp (by decide)),
    ↓State.abandon_same hp, ite_self, implies_true, id_eq]

theorem State.hostFaults_same {part : Part} (hp : part ∉ [.od, .head, .streams, .codec, .xfer, .comp, .link, .net, .log, .out]) (s : State) :
    (State.hostFaults s).only part = s.only part := by
  simp only [State.hostFaults, ↓State.abandonAll_same hp, ite_self, implies_true, id_eq]

theorem State.consumeFaults_same {part : Part} (hp : part ∉ [.xfer]) (s : State) (v : Nat) :
    (State.consumeFaults s v).only part = s.only part := by
  simp only [State.consumeFaults, ↓State.onXfer_same hp, ite_self, implies_true, id_eq]

theorem State.invalidate_same {part : Part} (hp : part ∉ [.xfer]) (s : State) :
    (State.invalidate s).only part = s.only part := by
  simp only [State.invalidate, ↓State.onXfer_same hp, ↓State.dropCached_same hp, ite_self, implies_true, id_eq]

theorem State.startXfers_same {part : Part} (hp : part ∉ [.od, .head, .streams, .codec, .xfer, .comp, .link, .net, .log, .out]) (s : State) (all : List Loaded) (rid job : Nat) (z1 : Option (Xfer × Nat)) (z2 : List TransferDef) :
    (State.startXfers s all rid job z1 z2).only part = s.only part := by
  induction z2 generalizing s all rid job z1 with
  | nil => simp only [State.startXfers]
  | cons z z2 ih =>
    simp only [State.startXfers, ↓State.onXfer_same (away hp (by decide)),
      ↓State.incr_same (away hp (by decide)), ↓State.request256_same hp, ↓only_ite, ↓only_iteFst, ↓only_iteSnd, ih,
      ite_self, implies_true, id_eq]
    all_goals repeat' split <;> try simp only [↓State.onXfer_same (away hp (by decide)),
      ↓State.incr_same (away hp (by decide)), ↓State.request256_same hp, ↓only_ite, ↓only_iteFst, ↓only_iteSnd, ih,
      ite_self, implies_true, id_eq]

end Sys2Proof.Machine
end

