-- ==== Sys2Proof/Laws/FrameLedger.lean ====
section
/-! SUPPORT. The frames of the operations of Machine/Ledger.lean: the parts of the state that each one keeps. -/
namespace Sys2Proof.Machine
set_option linter.unusedSimpArgs false
set_option Elab.async false

theorem State.pickAlternative_same {part : Part} (hp : part ∉ [.tick]) (s : State) (period : Nat) (reduced : Bool) :
    (State.pickAlternative s period reduced).only part = s.only part := by
  simp only [State.pickAlternative, ↓State.onTick_same hp, ite_self, implies_true, id_eq]
  all_goals repeat' split <;> try simp only [↓State.onTick_same hp, ite_self, implies_true, id_eq]

end Sys2Proof.Machine
end

