-- ==== Sys2Proof/Laws/FramePrep.lean ====
section
/-! SUPPORT. The frames of the operations of Machine/Prep.lean: the parts of the state that each one keeps. -/
namespace Sys2Proof.Machine
set_option linter.unusedSimpArgs false
set_option Elab.async false

theorem State.passAdopt_same {part : Part} (hp : part ∉ [.actual]) (s : State) (p : Nat) :
    (State.passAdopt s p).only part = s.only part := by
  simp only [State.passAdopt, ↓State.setActual_same hp, only_foldl, only_foldlFst, ite_self, implies_true, id_eq]

theorem State.passAdmit_same {part : Part} (hp : part ∉ [.od, .actual, .net, .log, .out]) (s : State) (p : Nat) (r : Run) :
    (State.passAdmit s p r).1.only part = s.only part := by
  simp only [State.passAdmit, ↓State.setObj_same (away hp (by decide)), ↓State.incr_same (away hp (by decide)),
    ↓State.emit_same (away hp (by decide)), ↓State.passAdopt_same (away hp (by decide)), ↓only_ite, ↓only_iteFst,
    ↓only_iteSnd, ite_self, implies_true, id_eq]

theorem State.edgeBand_same {part : Part} (hp : part ∉ [.od, .net, .log, .out]) (s : State) :
    (State.edgeBand s).only part = s.only part := by
  simp only [State.edgeBand, ↓State.setObj_same (away hp (by decide)), ↓State.emit_same (away hp (by decide)),
    ↓only_ite, ↓only_iteFst, ↓only_iteSnd, ite_self, implies_true, id_eq]

theorem State.passCounts_same {part : Part} (hp : part ∉ [.od, .net, .log, .out]) (s : State) (p : Nat) (x : PassReport) :
    (State.passCounts s p x).only part = s.only part := by
  simp only [State.passCounts, ↓State.incr_same (away hp (by decide)), ↓State.emitLimited_same (away hp (by decide)),
    ↓only_ite, ↓only_iteFst, ↓only_iteSnd, ite_self, implies_true, id_eq]

theorem State.passJob_same {part : Part} (hp : part ∉ [.od, .net, .log, .out]) (s : State) (p : Nat) (r : Run) (x : PassReport) :
    (State.passJob s p r x).1.only part = s.only part := by
  simp only [State.passJob, ↓State.setObj_same (away hp (by decide)), ↓State.incr_same (away hp (by decide)),
    ↓State.emit_same (away hp (by decide)), ↓State.passCounts_same hp, ↓only_ite, ↓only_iteFst, ↓only_iteSnd,
    ite_self, implies_true, id_eq]
  all_goals repeat' split <;> try simp only [↓State.setObj_same (away hp (by decide)),
    ↓State.incr_same (away hp (by decide)), ↓State.emit_same (away hp (by decide)), ↓State.passCounts_same hp,
    ↓only_ite, ↓only_iteFst, ↓only_iteSnd, ite_self, implies_true, id_eq]

theorem State.tokeniseBlock_same {part : Part} (hp : part ∉ [.od, .net, .log, .out]) (s : State) (job n : Nat) (u : CapturedUnit) :
    (State.tokeniseBlock s job n u).only part = s.only part := by
  simp only [State.tokeniseBlock, ↓State.send_same (away hp (by decide)), ↓State.incr_same (away hp (by decide)),
    ↓State.emitLimited_same (away hp (by decide)), ↓only_ite, ↓only_iteFst, ↓only_iteSnd, ite_self, implies_true,
    id_eq]
  all_goals repeat' split <;> try simp only [↓State.send_same (away hp (by decide)),
    ↓State.incr_same (away hp (by decide)), ↓State.emitLimited_same (away hp (by decide)), ↓only_ite, ↓only_iteFst,
    ↓only_iteSnd, ite_self, implies_true, id_eq]

theorem State.tokeniseJob_same {part : Part} (hp : part ∉ [.od, .net, .log, .out]) (s : State) (r : Run) :
    (State.tokeniseJob s r).1.only part = s.only part := by
  simp only [State.tokeniseJob, ↓State.tokeniseBlock_same hp, only_foldl, only_foldlFst, ite_self, implies_true, id_eq]

end Sys2Proof.Machine
end

