-- ==== Sys2Proof/Laws/FrameRandom.lean ====
section
/-! SUPPORT. The frames of the operations of Machine/Random.lean: the parts of the state that each one keeps. -/
namespace Sys2Proof.Machine
set_option linter.unusedSimpArgs false
set_option Elab.async false

theorem State.reseed_same {part : Part} (hp : part ∉ [.od, .noise]) (s : State) :
    (State.reseed s).only part = s.only part := by
  simp only [State.reseed, ↓State.onNoise_same (away hp (by decide)), ↓State.incr_same (away hp (by decide)),
    ↓only_ite, ↓only_iteFst, ↓only_iteSnd, ite_self, implies_true, id_eq]

theorem State.passWindow_same {part : Part} (hp : part ∉ [.od, .noise]) (s : State) (raw : BitVec 1024) :
    (State.passWindow s raw).only part = s.only part := by
  simp only [State.passWindow, ↓State.onNoise_same (away hp (by decide)), ↓State.incr_same (away hp (by decide)),
    ite_self, implies_true, id_eq]

theorem State.fillLanes_same {part : Part} (hp : part ∉ [.od, .noise]) (s : State) :
    (State.fillLanes s).only part = s.only part := by
  simp only [State.fillLanes, ↓State.onNoise_same (away hp (by decide)), ↓State.incr_same (away hp (by decide)),
    ↓only_ite, ↓only_iteFst, ↓only_iteSnd, only_foldl, only_foldlFst, ite_self, implies_true, id_eq]

theorem State.noiseStep_same {part : Part} (hp : part ∉ [.od, .noise, .net, .log, .out]) (s : State) :
    (State.noiseStep s).only part = s.only part := by
  simp only [State.noiseStep, ↓State.onNoise_same (away hp (by decide)), ↓State.emit_same (away hp (by decide)),
    ↓State.fillLanes_same (away hp (by decide)), ↓only_ite, ↓only_iteFst, ↓only_iteSnd, ite_self, implies_true, id_eq]

theorem State.healthWindow_same {part : Part} (hp : part ∉ [.od, .noise, .net, .log, .out]) (s : State) (raw : BitVec 1024) :
    (State.healthWindow s raw).only part = s.only part := by
  simp only [State.healthWindow, ↓State.onNoise_same (away hp (by decide)), ↓State.incr_same (away hp (by decide)),
    ↓State.passWindow_same (away hp (by decide)), ↓State.noiseStep_same hp, ↓only_ite, ↓only_iteFst, ↓only_iteSnd,
    ite_self, implies_true, id_eq]

theorem State.noiseLost_same {part : Part} (hp : part ∉ [.noise]) (s : State) :
    (State.noiseLost s).only part = s.only part := by
  simp only [State.noiseLost, ↓State.onNoise_same hp, ite_self, implies_true, id_eq]

theorem State.laneWord_same {part : Part} (hp : part ∉ [.free, .noise]) (s : State) (group : Nat) :
    (State.laneWord s group).2.only part = s.only part := by
  simp only [State.laneWord, ↓State.onNoise_same (away hp (by decide)), ↓State.draw_same (away hp (by decide)),
    ite_self, implies_true, id_eq]

theorem State.perturb_same {part : Part} (hp : part ∉ [.free, .noise]) (s : State) (group tau : Nat) (z1 : List (Nat × Nat)) :
    (State.perturb s group tau z1).2.only part = s.only part := by
  induction z1 generalizing s group tau with
  | nil => simp only [State.perturb]
  | cons z zs ih =>
    simp only [State.perturb, ↓State.laneWord_same hp, ih, ite_self, implies_true, id_eq]

theorem State.sampleToken_same {part : Part} (hp : part ∉ [.free, .noise]) (s : State) (group tau k : Nat) (t : SampleTask) :
    (State.sampleToken s group tau k t).2.only part = s.only part := by
  simp only [State.sampleToken, ↓State.perturb_same hp, ↓only_ite, ↓only_iteFst, ↓only_iteSnd, ite_self,
    implies_true, id_eq]

theorem State.sampleAll_same {part : Part} (hp : part ∉ [.free, .noise]) (s : State) (group tau k : Nat) (z1 : List SampleTask) :
    (State.sampleAll s group tau k z1).2.only part = s.only part := by
  induction z1 generalizing s group tau k with
  | nil => simp only [State.sampleAll]
  | cons z zs ih =>
    simp only [State.sampleAll, ↓State.sampleToken_same hp, ih, ite_self, implies_true, id_eq]

theorem State.degradedDraw_same {part : Part} (hp : part ∉ [.free, .od]) (s : State) (drew : Bool) (m : Option UnitMeta) :
    (State.degradedDraw s drew m).1.only part = s.only part := by
  simp only [State.degradedDraw, ↓State.drew_same (away hp (by decide)), ↓State.incr_same (away hp (by decide)),
    ↓only_ite, ↓only_iteFst, ↓only_iteSnd, ite_self, implies_true, id_eq]

theorem State.macCounts_same {part : Part} (hp : part ∉ [.od, .net, .log, .out]) (s : State) (x : MacReport) :
    (State.macCounts s x).only part = s.only part := by
  simp only [State.macCounts, ↓State.incr_same (away hp (by decide)), ↓State.emitLimited_same (away hp (by decide)),
    ↓State.badGroups_same hp, ↓only_ite, ↓only_iteFst, ↓only_iteSnd, ite_self, implies_true, id_eq]

theorem State.macJob_same {part : Part} (hp : part ∉ [.free, .od, .noise, .net, .log, .out]) (s : State) (slot : Nat) (r : Run) (x : MacReport) :
    (State.macJob s slot r x).1.only part = s.only part := by
  simp only [State.macJob, ↓State.drew_same (away hp (by decide)), ↓State.send_same (away hp (by decide)),
    ↓State.incr_same (away hp (by decide)), ↓State.emit_same (away hp (by decide)),
    ↓State.sampleAll_same (away hp (by decide)), ↓State.degradedDraw_same (away hp (by decide)),
    ↓State.macCounts_same (away hp (by decide)), ↓only_ite, ↓only_iteFst, ↓only_iteSnd, ite_self, implies_true, id_eq]

end Sys2Proof.Machine
end

