-- ==== Sys2Proof/Laws/FrameCompute.lean ====
section
/-! SUPPORT. The frames of the operations of Machine/Compute.lean: the parts of the state that each one keeps. -/
namespace Sys2Proof.Machine
set_option linter.unusedSimpArgs false
set_option Elab.async false

theorem State.slabFails_same {part : Part} (hp : part ∉ [.comp]) (s : State) (pa : Nat) :
    (State.slabFails s pa).only part = s.only part := by
  simp only [State.slabFails, ↓State.onComp_same hp, ite_self, implies_true, id_eq]

theorem State.scrubWord_same {part : Part} (hp : part ∉ [.od, .comp, .net, .log, .out]) (s : State) (addr errors : Nat) :
    (State.scrubWord s addr errors).only part = s.only part := by
  simp only [State.scrubWord, ↓State.onComp_same (away hp (by decide)), ↓State.incr_same (away hp (by decide)),
    ↓State.emitLimited_same (away hp (by decide)), ↓State.metBadWord_same (away hp (by decide)),
    ↓State.slabFails_same (away hp (by decide)), ↓only_ite, ↓only_iteFst, ↓only_iteSnd, ite_self, implies_true, id_eq]

theorem State.edgeSlots_same {part : Part} (hp : part ∉ [.comp]) (s : State) :
    (State.edgeSlots s).only part = s.only part := by
  simp only [State.edgeSlots, ↓State.onComp_same hp, ↓only_ite, ↓only_iteFst, ↓only_iteSnd, ite_self, implies_true,
    id_eq]

theorem State.refuseImage_same {part : Part} (hp : part ∉ [.od, .head, .net, .log, .out]) (s : State) :
    (State.refuseImage s).only part = s.only part := by
  simp only [State.refuseImage, ↓State.onHead_same (away hp (by decide)), ↓State.incr_same (away hp (by decide)),
    ↓State.emit_same (away hp (by decide)), ite_self, implies_true, id_eq]

theorem State.startLoad_same {part : Part} (hp : part ∉ [.head, .net, .log, .out]) (s : State) (im : Image) (bank : Nat) :
    (State.startLoad s im bank).only part = s.only part := by
  simp only [State.startLoad, ↓State.onHead_same (away hp (by decide)), ↓State.emit_same (away hp (by decide)),
    ite_self, implies_true, id_eq]

theorem State.loadImage_same {part : Part} (hp : part ∉ [.od, .head, .net, .log, .out]) (s : State) (im : Option Image) (bank : Nat) :
    (State.loadImage s im bank).1.only part = s.only part := by
  simp only [State.loadImage, ↓State.refuseImage_same hp, ↓State.startLoad_same (away hp (by decide)), ↓only_ite,
    ↓only_iteFst, ↓only_iteSnd, ite_self, implies_true, id_eq]
  all_goals repeat' split <;> try simp only [↓State.refuseImage_same hp, ↓State.startLoad_same (away hp (by decide)),
    ↓only_ite, ↓only_iteFst, ↓only_iteSnd, ite_self, implies_true, id_eq]

theorem State.healSlabs_same {part : Part} (hp : part ∉ [.comp]) (s : State) (x : Slot) :
    (State.healSlabs s x).only part = s.only part := by
  simp only [State.healSlabs, ↓State.onComp_same hp, ite_self, implies_true, id_eq]

theorem State.hashed_same {part : Part} (hp : part ∉ [.od, .comp, .net, .log, .out]) (s : State) (n digest : Nat) (x : Slot) :
    (State.hashed s n digest x).2.only part = s.only part := by
  simp only [State.hashed, ↓State.incr_same (away hp (by decide)), ↓State.emit_same (away hp (by decide)),
    ↓State.healSlabs_same (away hp (by decide)), ↓only_ite, ↓only_iteFst, ↓only_iteSnd, ite_self, implies_true, id_eq]

theorem State.slotHash_same {part : Part} (hp : part ∉ [.od, .head, .comp, .net, .log, .out]) (s : State) (n digest : Nat) :
    (State.slotHash s n digest).only part = s.only part := by
  simp only [State.slotHash, ↓State.onHead_same (away hp (by decide)), ↓State.onComp_same (away hp (by decide)),
    ↓State.hashed_same (away hp (by decide)), ↓only_ite, ↓only_iteFst, ↓only_iteSnd, ite_self, implies_true, id_eq]
  all_goals repeat' split <;> try simp only [↓State.onHead_same (away hp (by decide)),
    ↓State.onComp_same (away hp (by decide)), ↓State.hashed_same (away hp (by decide)), ↓only_ite, ↓only_iteFst,
    ↓only_iteSnd, ite_self, implies_true, id_eq]

theorem State.reloadSlot_same {part : Part} (hp : part ∉ [.head, .comp]) (s : State) (n : Nat) :
    (State.reloadSlot s n).only part = s.only part := by
  simp only [State.reloadSlot, ↓State.onHead_same (away hp (by decide)), ↓State.onComp_same (away hp (by decide)),
    ↓only_ite, ↓only_iteFst, ↓only_iteSnd, ite_self, implies_true, id_eq]
  all_goals repeat' split <;> try simp only [↓State.onHead_same (away hp (by decide)),
    ↓State.onComp_same (away hp (by decide)), ↓only_ite, ↓only_iteFst, ↓only_iteSnd, ite_self, implies_true, id_eq]

theorem State.takeImageObjects_same {part : Part} (hp : part ∉ [.od, .inForce, .dict]) (s : State) (im : Image) :
    (State.takeImageObjects s im).only part = s.only part := by
  simp only [State.takeImageObjects, ↓State.onDict_same (away hp (by decide)),
    ↓State.setObj_same (away hp (by decide)), ↓State.adopt_same (away hp (by decide)), ↓only_ite, ↓only_iteFst,
    ↓only_iteSnd, only_foldl, only_foldlFst, ite_self, implies_true, id_eq]

theorem State.takeChips_same {part : Part} (hp : part ∉ [.od]) (s : State) (im : Image) :
    (State.takeChips s im).only part = s.only part := by
  simp only [State.takeChips, ↓State.setObj_same hp, ite_self, implies_true, id_eq]

theorem State.imageInForce_same {part : Part} (hp : part ∉ [.od, .inForce, .tick, .head, .codec, .comp, .net, .dict, .log, .out]) (s : State) (l : Loading) :
    (State.imageInForce s l).only part = s.only part := by
  simp only [State.imageInForce, ↓State.onHead_same (away hp (by decide)), ↓State.onCodec_same (away hp (by decide)),
    ↓State.onComp_same (away hp (by decide)), ↓State.emit_same (away hp (by decide)),
    ↓State.pickAlternative_same (away hp (by decide)), ↓State.takeImageObjects_same (away hp (by decide)),
    ↓State.takeChips_same (away hp (by decide)), ite_self, implies_true, id_eq]

end Sys2Proof.Machine
end

