-- ==== Sys2Proof/Laws/FrameHeadstock.lean ====
section
/-! SUPPORT. The frames of the operations of Machine/Headstock.lean: the parts of the state that each one keeps. -/
namespace Sys2Proof.Machine
set_option linter.unusedSimpArgs false
set_option Elab.async false

theorem State.holdLanes_same {part : Part} (hp : part ∉ [.head]) (s : State) (r : Run) :
    (State.holdLanes s r).only part = s.only part := by
  simp only [State.holdLanes, ↓State.onHead_same hp, only_foldl, only_foldlFst, ite_self, implies_true, id_eq]

theorem State.entryRecord_same {part : Part} (hp : part ∉ [.od, .comp, .net, .log, .out]) (s : State) (r : Run) (qstatus event out : Nat) :
    (State.entryRecord s r qstatus event out).only part = s.only part := by
  simp only [State.entryRecord, ↓State.postCompletion_same (away hp (by decide)), ↓State.refuseEntry_same hp,
    ↓only_ite, ↓only_iteFst, ↓only_iteSnd, ite_self, implies_true, id_eq]
  all_goals repeat' split <;> try simp only [↓State.postCompletion_same (away hp (by decide)),
    ↓State.refuseEntry_same hp, ↓only_ite, ↓only_iteFst, ↓only_iteSnd, ite_self, implies_true, id_eq]

theorem State.endTokens_same {part : Part} (hp : part ∉ [.od, .streams, .codec, .comp, .net, .log, .out]) (s : State) (r : Run) (status reason : Nat) (data : Bool) :
    (State.endTokens s r status reason data).only part = s.only part := by
  simp only [State.endTokens, ↓State.poisonAll_same hp, ↓State.announce_same hp, ↓only_ite, ↓only_iteFst,
    ↓only_iteSnd, ite_self, implies_true, id_eq]

theorem State.endRun_same {part : Part} (hp : part ∉ [.od, .head, .streams, .codec, .comp, .net, .log, .out]) (s : State) (r : Run) (e : JobEnd) (reason qstatus event : Nat) :
    (State.endRun s r e reason qstatus event).only part = s.only part := by
  simp only [State.endRun, ↓State.onHead_same (away hp (by decide)), ↓State.send_same (away hp (by decide)),
    ↓State.consume_same (away hp (by decide)), ↓State.releaseUnits_same (away hp (by decide)),
    ↓State.rewaitUnits_same (away hp (by decide)), ↓State.holdLanes_same (away hp (by decide)),
    ↓State.entryRecord_same (away hp (by decide)), ↓State.endTokens_same (away hp (by decide)), ↓only_ite,
    ↓only_iteFst, ↓only_iteSnd, ite_self, implies_true, id_eq]
  all_goals repeat' split <;> try simp only [↓State.onHead_same (away hp (by decide)),
    ↓State.send_same (away hp (by decide)), ↓State.consume_same (away hp (by decide)),
    ↓State.releaseUnits_same (away hp (by decide)), ↓State.rewaitUnits_same (away hp (by decide)),
    ↓State.holdLanes_same (away hp (by decide)), ↓State.entryRecord_same (away hp (by decide)),
    ↓State.endTokens_same (away hp (by decide)), ↓only_ite, ↓only_iteFst, ↓only_iteSnd, ite_self, implies_true, id_eq]

theorem State.drawStalls_same {part : Part} (hp : part ∉ [.free]) (s : State) (z1 : Nat) :
    (State.drawStalls s z1).2.only part = s.only part := by
  induction z1 generalizing s with
  | zero => simp only [State.drawStalls]
  | succ z ih =>
    simp only [State.drawStalls, ↓State.draw_same hp, ih, ite_self, implies_true, id_eq]

theorem State.addStalls_same {part : Part} (hp : part ∉ [.od]) (s : State) (old new : List Nat) :
    (State.addStalls s old new).only part = s.only part := by
  simp only [State.addStalls, ↓State.incr_same hp, only_foldl, only_foldlFst, ite_self, implies_true, id_eq]

theorem State.breach_same {part : Part} (hp : part ∉ [.od, .net, .log, .out]) (s : State) :
    (State.breach s).only part = s.only part := by
  simp only [State.breach, ↓State.setObj_same (away hp (by decide)), ↓State.incr_same (away hp (by decide)),
    ↓State.emit_same (away hp (by decide)), ite_self, implies_true, id_eq]

theorem State.overrun_same {part : Part} (hp : part ∉ [.free, .od, .net, .log, .out]) (s : State) (r : Run) (edge : Nat) :
    (State.overrun s r edge).1.only part = s.only part := by
  simp only [State.overrun, ↓State.setObj_same (away hp (by decide)), ↓State.incr_same (away hp (by decide)),
    ↓State.draw_same (away hp (by decide)), ↓State.emit_same (away hp (by decide)),
    ↓State.drawStalls_same (away hp (by decide)), ↓State.addStalls_same (away hp (by decide)),
    ↓State.breach_same (away hp (by decide)), ↓only_ite, ↓only_iteFst, ↓only_iteSnd, ite_self, implies_true, id_eq]

theorem State.setRun_same {part : Part} (hp : part ∉ [.head]) (s : State) (r : Run) :
    (State.setRun s r).only part = s.only part := by
  simp only [State.setRun, ↓State.onHead_same hp, ↓only_ite, ↓only_iteFst, ↓only_iteSnd, ite_self, implies_true, id_eq]

theorem State.hostResult_same {part : Part} (hp : part ∉ [.head]) (s : State) (r : Run) (late : Bool) :
    (State.hostResult s r late).only part = s.only part := by
  simp only [State.hostResult, ↓State.onHead_same hp, ↓only_ite, ↓only_iteFst, ↓only_iteSnd, ite_self, implies_true,
    id_eq]
  all_goals repeat' split <;> try simp only [↓State.onHead_same hp, ↓only_ite, ↓only_iteFst, ↓only_iteSnd, ite_self,
    implies_true, id_eq]

theorem State.judgeRunning_same {part : Part} (hp : part ∉ [.free, .od, .head, .net, .log, .out]) (s : State) (edge : Nat) :
    (State.judgeRunning s edge).only part = s.only part := by
  simp only [State.judgeRunning, ↓State.overrun_same (away hp (by decide)), ↓State.setRun_same (away hp (by decide)),
    ↓State.hostResult_same (away hp (by decide)), only_foldl, only_foldlFst, ite_self, implies_true, id_eq]

theorem State.abortContext_same {part : Part} (hp : part ∉ [.free, .od, .codec]) (s : State) (k : JobKind) :
    (State.abortContext s k).only part = s.only part := by
  simp only [State.abortContext, ↓State.h264Abort_same hp, ↓State.encAbort_same (away hp (by decide)), ite_self,
    implies_true, id_eq]
  all_goals repeat' split <;> try simp only [↓State.h264Abort_same hp, ↓State.encAbort_same (away hp (by decide)),
    ite_self, implies_true, id_eq]

theorem State.abortRun_same {part : Part} (hp : part ∉ [.free, .od, .head, .streams, .codec, .xfer, .comp, .link, .net, .log, .out]) (s : State) (r : Run) :
    (State.abortRun s r).only part = s.only part := by
  simp only [State.abortRun, ↓State.incr_same (away hp (by decide)), ↓State.emit_same (away hp (by decide)),
    ↓State.abandonAll_same (away hp (by decide)), ↓State.endRun_same (away hp (by decide)),
    ↓State.abortContext_same (away hp (by decide)), ite_self, implies_true, id_eq]

theorem State.abortOverruns_same {part : Part} (hp : part ∉ [.free, .od, .head, .streams, .codec, .xfer, .comp, .link, .net, .log, .out]) (s : State) :
    (State.abortOverruns s).only part = s.only part := by
  simp only [State.abortOverruns, ↓State.abortRun_same hp, only_foldl, only_foldlFst, ite_self, implies_true, id_eq]

theorem State.abortMacB_same {part : Part} (hp : part ∉ [.free, .od, .head, .streams, .codec, .xfer, .comp, .link, .net, .log, .out]) (s : State) :
    (State.abortMacB s).only part = s.only part := by
  simp only [State.abortMacB, ↓State.abortRun_same hp, only_foldl, only_foldlFst, ite_self, implies_true, id_eq]

theorem State.abortRunning_same {part : Part} (hp : part ∉ [.free, .od, .head, .streams, .codec, .xfer, .comp, .link, .net, .log, .out]) (s : State) :
    (State.abortRunning s).only part = s.only part := by
  simp only [State.abortRunning, ↓State.abortRun_same hp, only_foldl, only_foldlFst, ite_self, implies_true, id_eq]

theorem State.edgeJudge_same {part : Part} (hp : part ∉ [.free, .od, .head, .streams, .codec, .xfer, .comp, .link, .net, .log, .out]) (s : State) :
    (State.edgeJudge s).only part = s.only part := by
  simp only [State.edgeJudge, ↓State.onHead_same (away hp (by decide)),
    ↓State.judgeRunning_same (away hp (by decide)), ↓State.abortOverruns_same hp, ite_self, implies_true, id_eq]

theorem State.dropJob_same {part : Part} (hp : part ∉ [.od, .head, .streams, .codec, .comp, .net, .log, .out]) (s : State) (c : Candidate) :
    (State.dropJob s c).only part = s.only part := by
  simp only [State.dropJob, ↓State.onHead_same (away hp (by decide)), ↓State.send_same (away hp (by decide)),
    ↓State.incr_same (away hp (by decide)), ↓State.emit_same (away hp (by decide)),
    ↓State.refuseEntry_same (away hp (by decide)), ↓State.poisonAll_same (away hp (by decide)), ite_self,
    implies_true, id_eq]
  all_goals repeat' split <;> try simp only [↓State.onHead_same (away hp (by decide)),
    ↓State.send_same (away hp (by decide)), ↓State.incr_same (away hp (by decide)),
    ↓State.emit_same (away hp (by decide)), ↓State.refuseEntry_same (away hp (by decide)),
    ↓State.poisonAll_same (away hp (by decide)), ite_self, implies_true, id_eq]

theorem State.deferJob_same {part : Part} (hp : part ∉ [.od, .head]) (s : State) (c : Candidate) :
    (State.deferJob s c).only part = s.only part := by
  simp only [State.deferJob, ↓State.onHead_same (away hp (by decide)), ↓State.incr_same (away hp (by decide)),
    ite_self, implies_true, id_eq]

theorem State.notAdmitted_same {part : Part} (hp : part ∉ [.od, .head, .streams, .codec, .comp, .net, .log, .out]) (s : State) (c : Candidate) :
    (State.notAdmitted s c).only part = s.only part := by
  simp only [State.notAdmitted, ↓State.incr_same (away hp (by decide)), ↓State.emit_same (away hp (by decide)),
    ↓State.dropJob_same hp, ↓State.deferJob_same (away hp (by decide)), ↓only_ite, ↓only_iteFst, ↓only_iteSnd,
    ite_self, implies_true, id_eq]

theorem State.setStage_same {part : Part} (hp : part ∉ [.head]) (s : State) (n : Nat) (x : Stage) :
    (State.setStage s n x).only part = s.only part := by
  simp only [State.setStage, ↓State.onHead_same hp, ite_self, implies_true, id_eq]

theorem State.edgeOccupancy_same {part : Part} (hp : part ∉ [.head]) (s : State) :
    (State.edgeOccupancy s).only part = s.only part := by
  simp only [State.edgeOccupancy, ↓State.onHead_same hp, ↓State.holdLanes_same hp, ↓only_ite, ↓only_iteFst,
    ↓only_iteSnd, only_foldl, only_foldlFst, ite_self, implies_true, id_eq]

theorem State.moveStage_same {part : Part} (hp : part ∉ [.head, .codec, .net, .log, .out]) (s : State) (n : Nat) (host : Bool) :
    (State.moveStage s n host).only part = s.only part := by
  simp only [State.moveStage, ↓State.emit_same (away hp (by decide)), ↓State.setH264_same (away hp (by decide)),
    ↓State.setStage_same (away hp (by decide)), ↓only_ite, ↓only_iteFst, ↓only_iteSnd, only_foldl, only_foldlFst,
    ite_self, implies_true, id_eq]

theorem State.stageLost_same {part : Part} (hp : part ∉ [.od, .head, .streams, .codec, .comp, .net, .log, .out]) (s : State) (n : Nat) :
    (State.stageLost s n).only part = s.only part := by
  simp only [State.stageLost, ↓State.enterResync_same (away hp (by decide)), ↓State.endRun_same hp,
    ↓State.moveStage_same (away hp (by decide)), only_foldl, only_foldlFst, ite_self, implies_true, id_eq]

theorem State.edgeStage_same {part : Part} (hp : part ∉ [.od, .head, .streams, .codec, .comp, .net, .log, .out]) (s : State) (n : Nat) :
    (State.edgeStage s n).only part = s.only part := by
  simp only [State.edgeStage, ↓State.emit_same (away hp (by decide)), ↓State.setStage_same (away hp (by decide)),
    ↓State.moveStage_same (away hp (by decide)), ↓State.stageLost_same hp, ↓only_ite, ↓only_iteFst, ↓only_iteSnd,
    ite_self, implies_true, id_eq]

theorem State.edgeStages_same {part : Part} (hp : part ∉ [.od, .head, .streams, .codec, .comp, .net, .log, .out]) (s : State) :
    (State.edgeStages s).only part = s.only part := by
  simp only [State.edgeStages, ↓State.edgeStage_same hp, ↓only_ite, ↓only_iteFst, ↓only_iteSnd, only_foldl,
    only_foldlFst, ite_self, implies_true, id_eq]

theorem State.moveBefore_same {part : Part} (hp : part ∉ [.head, .codec, .net, .log, .out]) (s : State) (e : JobEntry) :
    (State.moveBefore s e).only part = s.only part := by
  simp only [State.moveBefore, ↓State.moveStage_same hp, ↓only_ite, ↓only_iteFst, ↓only_iteSnd, ite_self,
    implies_true, id_eq]
  all_goals repeat' split <;> try simp only [↓State.moveStage_same hp, ↓only_ite, ↓only_iteFst, ↓only_iteSnd,
    ite_self, implies_true, id_eq]

theorem State.entryEmpty_same {part : Part} (hp : part ∉ [.od]) (s : State) (n : Nat) :
    (State.entryEmpty s n).only part = s.only part := by
  simp only [State.entryEmpty, ↓State.incr_same hp, ite_self, implies_true, id_eq]

theorem State.takeEntry_same {part : Part} (hp : part ∉ [.od, .streams, .codec, .net, .log, .health, .out]) (s : State) (e : JobEntry) (rid : Nat) (x : Nat × Nat) :
    (State.takeEntry s e rid x).1.only part = s.only part := by
  simp only [State.takeEntry, ↓State.observeAge_same (away hp (by decide)),
    ↓State.staleDrop_same (away hp (by decide)), ↓State.takeUnit_same hp, ↓State.takeWindow_same hp,
    ↓State.entryEmpty_same (away hp (by decide)), ↓only_ite, ↓only_iteFst, ↓only_iteSnd, ite_self, implies_true, id_eq]
  all_goals repeat' split <;> try simp only [↓State.observeAge_same (away hp (by decide)),
    ↓State.staleDrop_same (away hp (by decide)), ↓State.takeUnit_same hp, ↓State.takeWindow_same hp,
    ↓State.entryEmpty_same (away hp (by decide)), ↓only_ite, ↓only_iteFst, ↓only_iteSnd, ite_self, implies_true, id_eq]

theorem State.takeEntries_same {part : Part} (hp : part ∉ [.od, .streams, .codec, .net, .log, .health, .out]) (s : State) (e : JobEntry) (rid : Nat) (z1 : List (Nat × Nat)) :
    (State.takeEntries s e rid z1).1.only part = s.only part := by
  induction z1 generalizing s e rid with
  | nil => simp only [State.takeEntries]
  | cons z zs ih =>
    simp only [State.takeEntries, ↓State.takeEntry_same hp, ih, ite_self, implies_true, id_eq]

theorem State.admitRescore_same {part : Part} (hp : part ∉ [.power]) (s : State) :
    (State.admitRescore s).only part = s.only part := by
  simp only [State.admitRescore, ↓State.onPower_same hp, ite_self, implies_true, id_eq]

theorem State.admitContext_same {part : Part} (hp : part ∉ [.od, .actual, .codec, .net, .power, .log, .out]) (s : State) (r : Run) :
    (State.admitContext s r).1.only part = s.only part := by
  simp only [State.admitContext, ↓State.setJpeg_same (away hp (by decide)),
    ↓State.encAdmit_same (away hp (by decide)), ↓State.passAdmit_same (away hp (by decide)),
    ↓State.admitRescore_same (away hp (by decide)), ↓only_ite, ↓only_iteFst, ↓only_iteSnd, ite_self, implies_true,
    id_eq]
  all_goals repeat' split <;> try simp only [↓State.setJpeg_same (away hp (by decide)),
    ↓State.encAdmit_same (away hp (by decide)), ↓State.passAdmit_same (away hp (by decide)),
    ↓State.admitRescore_same (away hp (by decide)), ↓only_ite, ↓only_iteFst, ↓only_iteSnd, ite_self, implies_true,
    id_eq]

theorem State.startDescriptors_same {part : Part} (hp : part ∉ [.od, .head, .streams, .codec, .xfer, .comp, .link, .net, .log, .out]) (s : State) (r : Run) :
    (State.startDescriptors s r).only part = s.only part := by
  simp only [State.startDescriptors, ↓State.loadDescriptors_same (away hp (by decide)), ↓State.startXfers_same hp,
    ↓State.endRun_same (away hp (by decide)), ↓only_ite, ↓only_iteFst, ↓only_iteSnd, ite_self, implies_true, id_eq]

theorem State.admitJob_same {part : Part} (hp : part ∉ [.od, .actual, .head, .streams, .codec, .xfer, .comp, .link, .net, .power, .log, .health, .out]) (s : State) (c : Candidate) (e : JobEntry) :
    (State.admitJob s c e).only part = s.only part := by
  simp only [State.admitJob, ↓State.onHead_same (away hp (by decide)), ↓State.incr_same (away hp (by decide)),
    ↓State.endRun_same (away hp (by decide)), ↓State.takeEntries_same (away hp (by decide)),
    ↓State.admitContext_same (away hp (by decide)), ↓State.startDescriptors_same (away hp (by decide)), ↓only_ite,
    ↓only_iteFst, ↓only_iteSnd, ite_self, implies_true, id_eq]

theorem State.consider_same {part : Part} (hp : part ∉ [.od, .actual, .head, .streams, .codec, .xfer, .comp, .link, .net, .power, .log, .health, .out]) (x : State × Sold) (c : Candidate) :
    (State.consider x c).1.only part = x.1.only part := by
  simp only [State.consider, ↓State.notAdmitted_same (away hp (by decide)),
    ↓State.moveBefore_same (away hp (by decide)), ↓State.admitJob_same hp, ↓only_ite, ↓only_iteFst, ↓only_iteSnd,
    ite_self, implies_true, id_eq]

theorem State.dropAbsent_same {part : Part} (hp : part ∉ [.od, .head, .streams, .codec, .comp, .net, .log, .out]) (s : State) :
    (State.dropAbsent s).only part = s.only part := by
  simp only [State.dropAbsent, ↓State.dropJob_same hp, only_foldl, only_foldlFst, ite_self, implies_true, id_eq]

theorem State.countDeferrals_same {part : Part} (hp : part ∉ [.head]) (s : State) (ns : List Nat) :
    (State.countDeferrals s ns).only part = s.only part := by
  simp only [State.countDeferrals, ↓State.onHead_same hp, ↓only_ite, ↓only_iteFst, ↓only_iteSnd, ite_self,
    implies_true, id_eq]

theorem State.admission_same {part : Part} (hp : part ∉ [.od, .actual, .head, .streams, .codec, .xfer, .comp, .link, .net, .power, .log, .health, .out]) (s : State) :
    (State.admission s).only part = s.only part := by
  simp only [State.admission, ↓State.onHead_same (away hp (by decide)), ↓State.consider_same hp,
    ↓State.dropAbsent_same (away hp (by decide)), ↓State.countDeferrals_same (away hp (by decide)), only_foldl,
    only_foldlFst, ite_self, implies_true, id_eq]

theorem State.demandJob_same {part : Part} (hp : part ∉ [.head]) (s : State) (job : Nat) (queue : Option (Nat × Nat × Nat × Bool)) (descs : List (Nat × Option Nat)) (pd : Nat) (urgent : Bool) :
    (State.demandJob s job queue descs pd urgent).only part = s.only part := by
  simp only [State.demandJob, ↓State.onHead_same hp, ite_self, implies_true, id_eq]

theorem State.edgeImage_same {part : Part} (hp : part ∉ [.od, .inForce, .tick, .head, .streams, .codec, .comp, .net, .dict, .log, .out]) (s : State) :
    (State.edgeImage s).only part = s.only part := by
  simp only [State.edgeImage, ↓State.onHead_same (away hp (by decide)), ↓State.emit_same (away hp (by decide)),
    ↓State.imageInForce_same (away hp (by decide)), ↓State.dropJob_same (away hp (by decide)), ↓only_ite,
    ↓only_iteFst, ↓only_iteSnd, only_foldl, only_foldlFst, ite_self, implies_true, id_eq]
  all_goals repeat' split <;> try simp only [↓State.onHead_same (away hp (by decide)),
    ↓State.emit_same (away hp (by decide)), ↓State.imageInForce_same (away hp (by decide)),
    ↓State.dropJob_same (away hp (by decide)), ↓only_ite, ↓only_iteFst, ↓only_iteSnd, only_foldl, only_foldlFst,
    ite_self, implies_true, id_eq]

end Sys2Proof.Machine
end

