-- ==== Sys2Proof/Laws/FrameQueues.lean ====
section
/-! SUPPORT. The frames of the operations of Machine/Queues.lean: the parts of the state that each one keeps. -/
namespace Sys2Proof.Machine
set_option linter.unusedSimpArgs false
set_option Elab.async false

theorem State.haltQueue_same {part : Part} (hp : part ∉ [.comp, .net, .log, .out]) (s : State) (q : Nat) :
    (State.haltQueue s q).only part = s.only part := by
  simp only [State.haltQueue, ↓State.emit_same (away hp (by decide)), ↓State.setQueue_same (away hp (by decide)),
    ite_self, implies_true, id_eq]

theorem State.doorbell_same {part : Part} (hp : part ∉ [.od, .comp, .net, .log, .out]) (s : State) (q tail : Nat) (entries : List Bits512) :
    (State.doorbell s q tail entries).only part = s.only part := by
  simp only [State.doorbell, ↓State.setObj_same (away hp (by decide)), ↓State.incr_same (away hp (by decide)),
    ↓State.emit_same (away hp (by decide)), ↓State.setQueue_same (away hp (by decide)), ↓State.refuseEntry_same hp,
    ↓State.haltQueue_same (away hp (by decide)), ↓only_ite, ↓only_iteFst, ↓only_iteSnd, ite_self, implies_true, id_eq]

theorem State.switchQueue_same {part : Part} (hp : part ∉ [.od, .comp]) (s : State) (q on : Nat) :
    (State.switchQueue s q on).only part = s.only part := by
  simp only [State.switchQueue, ↓State.setObj_same (away hp (by decide)), ↓State.setQueue_same (away hp (by decide)),
    ↓only_ite, ↓only_iteFst, ↓only_iteSnd, ite_self, implies_true, id_eq]

theorem State.resetQueue_same {part : Part} (hp : part ∉ [.od, .comp]) (s : State) (q : Nat) :
    (State.resetQueue s q).only part = s.only part := by
  simp only [State.resetQueue, ↓State.setObj_same (away hp (by decide)), ↓State.setQueue_same (away hp (by decide)),
    ite_self, implies_true, id_eq]

theorem State.releaseRecords_same {part : Part} (hp : part ∉ [.comp]) (s : State) (q v : Nat) :
    (State.releaseRecords s q v).only part = s.only part := by
  simp only [State.releaseRecords, ↓State.setQueue_same hp, ↓only_ite, ↓only_iteFst, ↓only_iteSnd, ite_self,
    implies_true, id_eq]

theorem State.passEntry_same {part : Part} (hp : part ∉ [.comp]) (s : State) (q : Nat) :
    (State.passEntry s q).only part = s.only part := by
  simp only [State.passEntry, ↓State.setQueue_same hp, ite_self, implies_true, id_eq]

theorem State.refuse512_same {part : Part} (hp : part ∉ [.od, .comp, .net, .log, .out]) (s : State) (q v status : Nat) :
    (State.refuse512 s q v status).only part = s.only part := by
  simp only [State.refuse512, ↓State.refuseEntry_same hp, ↓State.haltQueue_same (away hp (by decide)),
    ↓State.passEntry_same (away hp (by decide)), ↓only_ite, ↓only_iteFst, ↓only_iteSnd, ite_self, implies_true, id_eq]

theorem State.takeEntry512_same {part : Part} (hp : part ∉ [.od, .comp, .net, .log, .out]) (s : State) (q op : Nat)
    (status : State → Nat → Nat) (eff : State → Nat → Stamp → State) (he : ∀ s v x, (eff s v x).only part = s.only part) :
    (State.takeEntry512 s q op status eff).only part = s.only part := by
  simp only [State.takeEntry512]
  split
  · rfl
  · simp only [↓only_ite, he, ↓State.refuse512_same (away hp (by decide)), ↓State.incr_same (away hp (by decide)),
      ↓State.passEntry_same (away hp (by decide)), ite_self]

theorem State.entryDone_same {part : Part} (hp : part ∉ [.comp, .out]) (s : State) (q v event out : Nat) :
    (State.entryDone s q v event out).only part = s.only part := by
  simp only [State.entryDone, ↓State.postCompletion_same hp, ↓only_ite, ↓only_iteFst, ↓only_iteSnd, ite_self,
    implies_true, id_eq]

theorem State.submit_same {part : Part} (hp : part ∉ [.od, .streams, .codec, .comp, .net, .log, .out]) (s : State) (q desc : Nat) (formatOk : Bool) :
    (State.submit s q desc formatOk).only part = s.only part := by
  simp only [State.submit, ↓State.deliver_same hp, ↓State.takeEntry512_same (away hp (by decide)),
    ↓State.entryDone_same (away hp (by decide)), ↓only_ite, ↓only_iteFst, ↓only_iteSnd, ite_self, implies_true, id_eq]

theorem State.dropMoving_same {part : Part} (hp : part ∉ [.od, .comp, .out]) (s : State) (q : Nat) :
    (State.dropMoving s q).only part = s.only part := by
  simp only [State.dropMoving, ↓State.incr_same (away hp (by decide)), ↓State.passEntry_same (away hp (by decide)),
    ↓State.entryDone_same (away hp (by decide)), ite_self, implies_true, id_eq]
  all_goals repeat' split <;> try simp only [↓State.incr_same (away hp (by decide)),
    ↓State.passEntry_same (away hp (by decide)), ↓State.entryDone_same (away hp (by decide)), ite_self, implies_true,
    id_eq]

theorem State.setFence_same {part : Part} (hp : part ∉ [.comp]) (s : State) (q v : Nat) (f : Fence) :
    (State.setFence s q v f).only part = s.only part := by
  simp only [State.setFence, ↓State.setQueue_same hp, ↓only_ite, ↓only_iteFst, ↓only_iteSnd, ite_self, implies_true,
    id_eq]

end Sys2Proof.Machine
end

