-- ==== Sys2Proof/Laws/FrameLink.lean ====
section
/-! SUPPORT. The frames of the operations of Machine/Link.lean: the parts of the state that each one keeps. -/
namespace Sys2Proof.Machine
set_option linter.unusedSimpArgs false
set_option Elab.async false

theorem State.portTo_same {part : Part} (hp : part ∉ [.link]) (s : State) (k st : Nat) :
    (State.portTo s k st).only part = s.only part := by
  simp only [State.portTo, ↓State.onPort_same hp, ite_self, implies_true, id_eq]

theorem State.sendTrain_same {part : Part} (hp : part ∉ [.out]) (s : State) (k : Nat) :
    (State.sendTrain s k).only part = s.only part := by
  simp only [State.sendTrain, ↓State.block_same hp, only_foldl, only_foldlFst, ite_self, implies_true, id_eq]

theorem State.trainIn_same {part : Part} (hp : part ∉ [.free, .od, .link, .out]) (s : State) (k st : Nat) :
    (State.trainIn s k st).only part = s.only part := by
  simp only [State.trainIn, ↓State.onPort_same (away hp (by decide)), ↓State.portTo_same (away hp (by decide)),
    ↓State.sendTrain_same (away hp (by decide)), ite_self, implies_true, id_eq]

theorem State.startTrain_same {part : Part} (hp : part ∉ [.free, .od, .link, .out]) (s : State) (k : Nat) :
    (State.startTrain s k).only part = s.only part := by
  simp only [State.startTrain, ↓State.trainIn_same hp, ite_self, implies_true, id_eq]

theorem State.sliceLost_same {part : Part} (hp : part ∉ [.net, .log, .out]) (s : State) :
    (State.sliceLost s).only part = s.only part := by
  simp only [State.sliceLost, ↓State.emit_same hp, ↓only_ite, ↓only_iteFst, ↓only_iteSnd, ite_self, implies_true,
    id_eq]

theorem State.discardPartial_same {part : Part} (hp : part ∉ [.od, .red, .net, .log, .out]) (s : State) :
    (State.discardPartial s).only part = s.only part := by
  simp only [State.discardPartial, ↓State.onRed_same (away hp (by decide)), ↓State.incr_same (away hp (by decide)),
    ↓State.emit_same (away hp (by decide)), ↓only_ite, ↓only_iteFst, ↓only_iteSnd, ite_self, implies_true, id_eq]

theorem State.portGoesDown_same {part : Part} (hp : part ∉ [.od, .head, .streams, .codec, .xfer, .comp, .link, .red, .net, .log, .out]) (s : State) (k : Nat) :
    (State.portGoesDown s k).only part = s.only part := by
  simp only [State.portGoesDown, ↓State.onLink_same (away hp (by decide)), ↓State.incr_same (away hp (by decide)),
    ↓State.emit_same (away hp (by decide)), ↓State.onPort_same (away hp (by decide)),
    ↓State.abandonAll_same (away hp (by decide)), ↓State.portTo_same (away hp (by decide)),
    ↓State.sliceLost_same (away hp (by decide)), ↓State.discardPartial_same (away hp (by decide)), ite_self,
    implies_true, id_eq]

theorem State.stopPort_same {part : Part} (hp : part ∉ [.od, .head, .streams, .codec, .xfer, .comp, .link, .red, .net, .log, .out]) (s : State) (reason k : Nat) :
    (State.stopPort s reason k).only part = s.only part := by
  simp only [State.stopPort, ↓State.block_same (away hp (by decide)), ↓State.portGoesDown_same hp, ↓only_ite,
    ↓only_iteFst, ↓only_iteSnd, ite_self, implies_true, id_eq]

theorem State.stopPorts_same {part : Part} (hp : part ∉ [.od, .head, .streams, .codec, .xfer, .comp, .link, .red, .net, .log, .out]) (s : State) (reason : Nat) :
    (State.stopPorts s reason).only part = s.only part := by
  simp only [State.stopPorts, ↓State.stopPort_same hp, only_foldl, only_foldlFst, ite_self, implies_true, id_eq]

theorem State.takeTrain_same {part : Part} (hp : part ∉ [.od, .link, .out]) (s : State) (k c : Nat) :
    (State.takeTrain s k c).only part = s.only part := by
  simp only [State.takeTrain, ↓State.setObj_same (away hp (by decide)), ↓State.onPort_same (away hp (by decide)),
    ↓State.block_same (away hp (by decide)), ↓only_ite, ↓only_iteFst, ↓only_iteSnd, ite_self, implies_true, id_eq]

theorem State.adoptLink_same {part : Part} (hp : part ∉ [.link]) (s : State) :
    (State.adoptLink s).only part = s.only part := by
  simp only [State.adoptLink, ↓State.onLink_same hp, ite_self, implies_true, id_eq]

theorem State.sendIdent_same {part : Part} (hp : part ∉ [.link, .out]) (s : State) (k : Nat) :
    (State.sendIdent s k).only part = s.only part := by
  simp only [State.sendIdent, ↓State.send_same (away hp (by decide)), ↓State.adoptLink_same (away hp (by decide)),
    ite_self, implies_true, id_eq]

theorem State.repeatIdent_same {part : Part} (hp : part ∉ [.link, .out]) (s : State) :
    (State.repeatIdent s).only part = s.only part := by
  simp only [State.repeatIdent, ↓State.sendIdent_same hp, only_foldl, only_foldlFst, ite_self, implies_true, id_eq]

theorem State.trained_same {part : Part} (hp : part ∉ [.free, .od, .link, .out]) (s : State) (k : Nat) :
    (State.trained s k).only part = s.only part := by
  simp only [State.trained, ↓State.setObj_same (away hp (by decide)), ↓State.draw_same (away hp (by decide)),
    ↓State.onPort_same (away hp (by decide)), ↓State.portTo_same (away hp (by decide)),
    ↓State.sendIdent_same (away hp (by decide)), ↓only_ite, ↓only_iteFst, ↓only_iteSnd, ite_self, implies_true, id_eq]

theorem State.portUp_same {part : Part} (hp : part ∉ [.free, .od, .link, .net, .log, .out]) (s : State) (k v : Nat) :
    (State.portUp s k v).only part = s.only part := by
  simp only [State.portUp, ↓State.send_same (away hp (by decide)), ↓State.setObj_same (away hp (by decide)),
    ↓State.emit_same (away hp (by decide)), ↓State.onPort_same (away hp (by decide)),
    ↓State.pumpAll_same (away hp (by decide)), ↓State.trained_same (away hp (by decide)), ↓only_ite, ↓only_iteFst,
    ↓only_iteSnd, only_foldl, only_foldlFst, ite_self, implies_true, id_eq]

theorem State.judgeLedger_same {part : Part} (hp : part ∉ [.link, .net, .log, .out]) (s : State) (k v : Nat) :
    (State.judgeLedger s k v).only part = s.only part := by
  simp only [State.judgeLedger, ↓State.emit_same (away hp (by decide)), ↓State.onPort_same (away hp (by decide)),
    ↓only_ite, ↓only_iteFst, ↓only_iteSnd, ite_self, implies_true, id_eq]

theorem State.takeIdent_same {part : Part} (hp : part ∉ [.free, .od, .link, .net, .log, .out]) (s : State) (k v : Nat) :
    (State.takeIdent s k v).only part = s.only part := by
  simp only [State.takeIdent, ↓State.setObj_same (away hp (by decide)), ↓State.emit_same (away hp (by decide)),
    ↓State.portTo_same (away hp (by decide)), ↓State.adoptLink_same (away hp (by decide)), ↓State.portUp_same hp,
    ↓State.judgeLedger_same (away hp (by decide)), ↓only_ite, ↓only_iteFst, ↓only_iteSnd, ite_self, implies_true,
    id_eq]

theorem State.takeAck_same {part : Part} (hp : part ∉ [.od, .link, .out]) (s : State) (k c : Nat) :
    (State.takeAck s k c).only part = s.only part := by
  simp only [State.takeAck, ↓State.setPort_same (away hp (by decide)), ↓State.pumpAll_same hp, ↓only_ite,
    ↓only_iteFst, ↓only_iteSnd, ite_self, implies_true, id_eq]

theorem State.replay_same {part : Part} (hp : part ∉ [.od, .link, .out]) (s : State) (k : Nat) :
    (State.replay s k).only part = s.only part := by
  simp only [State.replay, ↓State.send_same (away hp (by decide)), ↓State.incr_same (away hp (by decide)),
    ↓State.onPort_same (away hp (by decide)), only_foldl, only_foldlFst, ite_self, implies_true, id_eq]

theorem State.nak_same {part : Part} (hp : part ∉ [.link, .out]) (s : State) (k : Nat) :
    (State.nak s k).only part = s.only part := by
  simp only [State.nak, ↓State.setPort_same (away hp (by decide)), ↓State.block_same (away hp (by decide)),
    ↓only_ite, ↓only_iteFst, ↓only_iteSnd, ite_self, implies_true, id_eq]

theorem State.blockError_same {part : Part} (hp : part ∉ [.od, .link, .out]) (s : State) (k : Nat) (inFrame : Bool) :
    (State.blockError s k inFrame).only part = s.only part := by
  simp only [State.blockError, ↓State.incr_same (away hp (by decide)), ↓State.onPort_same (away hp (by decide)),
    ↓State.nak_same (away hp (by decide)), ↓only_ite, ↓only_iteFst, ↓only_iteSnd, ite_self, implies_true, id_eq]

theorem State.acknowledge_same {part : Part} (hp : part ∉ [.out]) (s : State) (k seq tc : Nat) :
    (State.acknowledge s k seq tc).only part = s.only part := by
  simp only [State.acknowledge, ↓State.block_same hp, ite_self, implies_true, id_eq]

theorem State.acceptFrame_same {part : Part} (hp : part ∉ [.od, .link, .net, .log, .out]) (s : State) (k : Nat) (f : LinkFrame) :
    (State.acceptFrame s k f).1.only part = s.only part := by
  simp only [State.acceptFrame, ↓State.incr_same (away hp (by decide)),
    ↓State.emitLimited_same (away hp (by decide)), ↓State.setPort_same (away hp (by decide)),
    ↓State.nak_same (away hp (by decide)), ↓State.acknowledge_same (away hp (by decide)), ↓only_ite, ↓only_iteFst,
    ↓only_iteSnd, ite_self, implies_true, id_eq]

theorem State.unreachable_same {part : Part} (hp : part ∉ [.od, .link, .out]) (s : State) (i : FrameInfo) :
    (State.unreachable s i).only part = s.only part := by
  simp only [State.unreachable, ↓State.sendFrame_same hp, ↓only_ite, ↓only_iteFst, ↓only_iteSnd, ite_self,
    implies_true, id_eq]

theorem State.forward_same {part : Part} (hp : part ∉ [.od, .link, .out]) (s : State) (k : Nat) (f : LinkFrame) :
    (State.forward s k f).only part = s.only part := by
  simp only [State.forward, ↓State.incr_same (away hp (by decide)), ↓State.queueFrame_same hp,
    ↓State.unreachable_same hp, ↓only_ite, ↓only_iteFst, ↓only_iteSnd, ite_self, implies_true, id_eq]

theorem State.receive_same {part : Part} (hp : part ∉ [.od, .link, .net, .log, .out]) (s : State) (k op : Nat)
    (f : LinkFrame) (act : State → FrameInfo → State) (ha : ∀ s i, (act s i).only part = s.only part) :
    (State.receive s k op f act).only part = s.only part := by
  simp only [State.receive, ↓only_ite, ha, ↓State.acceptFrame_same (away hp (by decide)),
    ↓State.forward_same (away hp (by decide)), ite_self]

theorem State.answerRequest_same {part : Part} (hp : part ∉ [.od, .link, .out]) (s : State) (i : FrameInfo) (op status : Nat) (data : List Byte) :
    (State.answerRequest s i op status data).only part = s.only part := by
  simp only [State.answerRequest, ↓State.sendFrame_same hp, ite_self, implies_true, id_eq]

theorem State.refuseRequest_same {part : Part} (hp : part ∉ [.od, .link, .net, .log, .out]) (s : State) (i : FrameInfo) (op status : Nat) :
    (State.refuseRequest s i op status).only part = s.only part := by
  simp only [State.refuseRequest, ↓State.incr_same (away hp (by decide)), ↓State.emit_same (away hp (by decide)),
    ↓State.answerRequest_same (away hp (by decide)), ite_self, implies_true, id_eq]

theorem State.takeWrite_same {part : Part} (hp : part ∉ [.od, .link, .net, .log, .sram, .dram, .out]) (s : State) (k : Nat) (f : LinkFrame) (i : FrameInfo) :
    (State.takeWrite s k f i).only part = s.only part := by
  simp only [State.takeWrite, ↓State.writeBytes_same (away hp (by decide)),
    ↓State.answerRequest_same (away hp (by decide)), ↓State.refuseRequest_same (away hp (by decide)), ↓only_ite,
    ↓only_iteFst, ↓only_iteSnd, ite_self, implies_true, id_eq]

theorem State.applyAccums_same {part : Part} (hp : part ∉ [.od, .sram, .dram]) (s : State) (el : Elem) (es : List (Nat × Nat)) :
    (State.applyAccums s el es).only part = s.only part := by
  simp only [State.applyAccums, ↓State.incr_same (away hp (by decide)), ↓State.writeBytes_same (away hp (by decide)),
    only_foldl, only_foldlFst, ite_self, implies_true, id_eq]

theorem State.completeAccum_same {part : Part} (hp : part ∉ [.od, .comp, .link, .net, .log, .sram, .dram, .out]) (s : State) (k : Nat) (ecc : Bool) (fs : List LinkFrame) :
    (State.completeAccum s k ecc fs).only part = s.only part := by
  simp only [State.completeAccum, ↓State.onPort_same (away hp (by decide)),
    ↓State.metBadWord_same (away hp (by decide)), ↓State.slabFails_same (away hp (by decide)),
    ↓State.answerRequest_same (away hp (by decide)), ↓State.applyAccums_same (away hp (by decide)), ↓only_ite,
    ↓only_iteFst, ↓only_iteSnd, only_foldl, only_foldlFst, ite_self, implies_true, id_eq]
  all_goals repeat' split <;> try simp only [↓State.onPort_same (away hp (by decide)),
    ↓State.metBadWord_same (away hp (by decide)), ↓State.slabFails_same (away hp (by decide)),
    ↓State.answerRequest_same (away hp (by decide)), ↓State.applyAccums_same (away hp (by decide)), ↓only_ite,
    ↓only_iteFst, ↓only_iteSnd, only_foldl, only_foldlFst, ite_self, implies_true, id_eq]

theorem State.takeAccum_same {part : Part} (hp : part ∉ [.od, .comp, .link, .net, .log, .sram, .dram, .out]) (s : State) (k : Nat) (f : LinkFrame) (ecc : Bool) (i : FrameInfo) :
    (State.takeAccum s k f ecc i).only part = s.only part := by
  simp only [State.takeAccum, ↓State.onPort_same (away hp (by decide)),
    ↓State.refuseRequest_same (away hp (by decide)), ↓State.completeAccum_same hp, ↓only_ite, ↓only_iteFst,
    ↓only_iteSnd, ite_self, implies_true, id_eq]

theorem State.takeRead_same {part : Part} (hp : part ∉ [.od, .comp, .link, .net, .log, .out]) (s : State) (k : Nat) (ecc : Bool) (i : FrameInfo) :
    (State.takeRead s k ecc i).only part = s.only part := by
  simp only [State.takeRead, ↓State.metBadWord_same (away hp (by decide)),
    ↓State.slabFails_same (away hp (by decide)), ↓State.answerRequest_same (away hp (by decide)),
    ↓State.refuseRequest_same (away hp (by decide)), ↓only_ite, ↓only_iteFst, ↓only_iteSnd, ite_self, implies_true,
    id_eq]
  all_goals repeat' split <;> try simp only [↓State.metBadWord_same (away hp (by decide)),
    ↓State.slabFails_same (away hp (by decide)), ↓State.answerRequest_same (away hp (by decide)),
    ↓State.refuseRequest_same (away hp (by decide)), ↓only_ite, ↓only_iteFst, ↓only_iteSnd, ite_self, implies_true,
    id_eq]

theorem State.takeAnswer_same {part : Part} (hp : part ∉ [.od, .head, .streams, .codec, .xfer, .comp, .link, .net, .log, .out]) (s : State) (k tag reason : Nat) (ok : Bool) :
    (State.takeAnswer s k tag reason ok).only part = s.only part := by
  simp only [State.takeAnswer, ↓State.onLink_same (away hp (by decide)), ↓State.abandonAll_same hp, ↓only_ite,
    ↓only_iteFst, ↓only_iteSnd, ite_self, implies_true, id_eq]
  all_goals repeat' split <;> try simp only [↓State.onLink_same (away hp (by decide)), ↓State.abandonAll_same hp,
    ↓only_ite, ↓only_iteFst, ↓only_iteSnd, ite_self, implies_true, id_eq]

end Sys2Proof.Machine
end

