-- ==== Sys2Proof/Laws/FrameWarm.lean ====
section
/-! SUPPORT. The frames of the operations of Machine/Warm.lean: the parts of the state that each one keeps. -/
namespace Sys2Proof.Machine
set_option linter.unusedSimpArgs false
set_option Elab.async false

theorem State.restoreCursors_same {part : Part} (hp : part ∉ [.od, .codec, .net]) (s : State) (bs : List Byte) (ticks : Nat) :
    (State.restoreCursors s bs ticks).only part = s.only part := by
  simp only [State.restoreCursors, ↓State.onNet_same (away hp (by decide)), ↓State.setObj_same (away hp (by decide)),
    ↓State.setEnc_same (away hp (by decide)), only_foldl, only_foldlFst, ite_self, implies_true, id_eq]

theorem State.restoreEpoch_same {part : Part} (hp : part ∉ [.od, .head, .codec, .net, .log, .sram, .out]) (s : State) (e : Epoch) :
    (State.restoreEpoch s e).only part = s.only part := by
  simp only [State.restoreEpoch, ↓State.onHead_same (away hp (by decide)), ↓State.setSram_same (away hp (by decide)),
    ↓State.enterResync_same (away hp (by decide)), ↓State.setEnc_same (away hp (by decide)),
    ↓State.restoreCursors_same (away hp (by decide)), only_foldl, only_foldlFst, ite_self, implies_true, id_eq]

end Sys2Proof.Machine
end

