-- ==== Sys2Proof/Laws/FrameRedundancy.lean ====
section
/-! SUPPORT. The frames of the operations of Machine/Redundancy.lean: the parts of the state that each one keeps. -/
namespace Sys2Proof.Machine
set_option linter.unusedSimpArgs false
set_option Elab.async false

theorem State.roleTo_same {part : Part} (hp : part ∉ [.link, .red, .net, .log, .out]) (s : State) (r : Role) (reason : Nat) :
    (State.roleTo s r reason).only part = s.only part := by
  simp only [State.roleTo, ↓State.onLink_same (away hp (by decide)), ↓State.onRed_same (away hp (by decide)),
    ↓State.emit_same (away hp (by decide)), ↓State.blockUp_same (away hp (by decide)), ite_self, implies_true, id_eq]

theorem State.claim_same {part : Part} (hp : part ∉ [.red]) (s : State) :
    (State.claim s).only part = s.only part := by
  simp only [State.claim, ↓State.onRed_same hp, ↓only_ite, ↓only_iteFst, ↓only_iteSnd, ite_self, implies_true, id_eq]

theorem State.unclaim_same {part : Part} (hp : part ∉ [.red]) (s : State) :
    (State.unclaim s).only part = s.only part := by
  simp only [State.unclaim, ↓State.onRed_same hp, ite_self, implies_true, id_eq]

theorem State.numberEpochs_same {part : Part} (hp : part ∉ [.red]) (s : State) :
    (State.numberEpochs s).only part = s.only part := by
  simp only [State.numberEpochs, ↓State.onRed_same hp, ite_self, implies_true, id_eq]

theorem State.becomeActive_same {part : Part} (hp : part ∉ [.link, .red, .net, .log, .out]) (s : State) (reason : Nat) :
    (State.becomeActive s reason).only part = s.only part := by
  simp only [State.becomeActive, ↓State.onRed_same (away hp (by decide)), ↓State.roleTo_same hp,
    ↓State.numberEpochs_same (away hp (by decide)), ite_self, implies_true, id_eq]

theorem State.startJoins_same {part : Part} (hp : part ∉ [.link, .red, .net, .log, .out]) (s : State) :
    (State.startJoins s).only part = s.only part := by
  simp only [State.startJoins, ↓State.roleTo_same hp, ↓only_ite, ↓only_iteFst, ↓only_iteSnd, ite_self, implies_true,
    id_eq]

theorem State.refuseEpoch_same {part : Part} (hp : part ∉ [.od, .inForce, .time, .tick, .head, .alarm, .link, .red, .net, .dict, .power, .log, .health, .boot, .dram, .out]) (s : State) (leave : Bool) :
    (State.refuseEpoch s leave).only part = s.only part := by
  simp only [State.refuseEpoch, ↓State.incr_same (away hp (by decide)), ↓State.emit_same (away hp (by decide)),
    ↓State.sendFrame_same (away hp (by decide)), ↓State.roleTo_same (away hp (by decide)), ↓only_ite, ↓only_iteFst,
    ↓only_iteSnd, ite_self, implies_true, id_eq]

theorem State.passBlock_same {part : Part} (hp : part ∉ [.out]) (s : State) (k type c : Nat) :
    (State.passBlock s k type c).only part = s.only part := by
  simp only [State.passBlock, ↓State.block_same hp, ↓only_ite, ↓only_iteFst, ↓only_iteSnd, ite_self, implies_true,
    id_eq]

theorem State.judgeGroup_same {part : Part} (hp : part ∉ [.link, .net, .log, .out]) (s : State) :
    (State.judgeGroup s).only part = s.only part := by
  simp only [State.judgeGroup, ↓State.onLink_same (away hp (by decide)), ↓State.emit_same (away hp (by decide)),
    ↓only_ite, ↓only_iteFst, ↓only_iteSnd, ite_self, implies_true, id_eq]

theorem State.takeHeartbeat_same {part : Part} (hp : part ∉ [.link, .red, .net, .log, .out]) (s : State) (c : Nat) :
    (State.takeHeartbeat s c).only part = s.only part := by
  simp only [State.takeHeartbeat, ↓State.setPeer_same (away hp (by decide)), ↓State.startJoins_same hp,
    ↓State.judgeGroup_same (away hp (by decide)), ↓only_ite, ↓only_iteFst, ↓only_iteSnd, ite_self, implies_true, id_eq]

theorem State.takeRole_same {part : Part} (hp : part ∉ [.link, .red, .net, .log, .out]) (s : State) (c : Nat) :
    (State.takeRole s c).only part = s.only part := by
  simp only [State.takeRole, ↓State.onRed_same (away hp (by decide)), ↓State.setPeer_same (away hp (by decide)),
    ↓State.startJoins_same hp, ite_self, implies_true, id_eq]

theorem State.takeTick_same {part : Part} (hp : part ∉ [.od, .link, .net, .log, .out]) (s : State) (k c : Nat) :
    (State.takeTick s k c).only part = s.only part := by
  simp only [State.takeTick, ↓State.setObj_same (away hp (by decide)), ↓State.emit_same (away hp (by decide)),
    ↓State.onPort_same (away hp (by decide)), ↓State.setPeer_same (away hp (by decide)), ↓only_ite, ↓only_iteFst,
    ↓only_iteSnd, ite_self, implies_true, id_eq]

theorem State.departs_same {part : Part} (hp : part ∉ [.od, .link, .red, .net, .log, .out]) (s : State) (p : Nat) :
    (State.departs s p).only part = s.only part := by
  simp only [State.departs, ↓State.onLink_same (away hp (by decide)), ↓State.emit_same (away hp (by decide)),
    ↓State.setPeer_same (away hp (by decide)), ↓State.discardPartial_same (away hp (by decide)), ↓only_ite,
    ↓only_iteFst, ↓only_iteSnd, ite_self, implies_true, id_eq]

theorem State.reconcile_same {part : Part} (hp : part ∉ [.od, .red]) (s : State) :
    (State.reconcile s).only part = s.only part := by
  simp only [State.reconcile, ↓State.onRed_same (away hp (by decide)), ↓State.setObj_same (away hp (by decide)),
    ↓only_ite, ↓only_iteFst, ↓only_iteSnd, ite_self, implies_true, id_eq]

theorem State.restore_same {part : Part} (hp : part ∉ [.od, .inForce, .time, .tick, .head, .streams, .alarm, .codec, .xfer, .comp, .link, .red, .net, .dict, .power, .log, .health, .boot, .sram, .dram, .out]) (s : State) :
    (State.restore s).only part = s.only part := by
  simp only [State.restore, ↓State.onRed_same (away hp (by decide)), ↓State.restoreEpoch_same (away hp (by decide)),
    ite_self, implies_true, id_eq]
  all_goals repeat' split <;> try simp only [↓State.onRed_same (away hp (by decide)),
    ↓State.restoreEpoch_same (away hp (by decide)), ite_self, implies_true, id_eq]

theorem State.promote_same {part : Part} (hp : part ∉ [.od, .inForce, .time, .tick, .head, .streams, .alarm, .codec, .xfer, .comp, .link, .red, .net, .dict, .power, .log, .health, .boot, .sram, .dram, .out]) (s : State) :
    (State.promote s).only part = s.only part := by
  simp only [State.promote, ↓State.roleTo_same (away hp (by decide)), ↓State.claim_same (away hp (by decide)),
    ↓State.restore_same hp, ite_self, implies_true, id_eq]
  all_goals repeat' split <;> try simp only [↓State.roleTo_same (away hp (by decide)),
    ↓State.claim_same (away hp (by decide)), ↓State.restore_same hp, ite_self, implies_true, id_eq]

theorem State.losePeer_same {part : Part} (hp : part ∉ [.od, .link, .red, .net, .log, .out]) (s : State) (p : Nat) :
    (State.losePeer s p).only part = s.only part := by
  simp only [State.losePeer, ↓State.onLink_same (away hp (by decide)), ↓State.emit_same (away hp (by decide)),
    ↓State.setPeer_same (away hp (by decide)), ↓State.discardPartial_same (away hp (by decide)), ↓only_ite,
    ↓only_iteFst, ↓only_iteSnd, ite_self, implies_true, id_eq]

theorem State.endPeriod_same {part : Part} (hp : part ∉ [.od, .link, .red, .net, .log, .out]) (s : State) (p : Nat) :
    (State.endPeriod s p).only part = s.only part := by
  simp only [State.endPeriod, ↓State.setPeer_same (away hp (by decide)), ↓State.losePeer_same hp, ↓only_ite,
    ↓only_iteFst, ↓only_iteSnd, ite_self, implies_true, id_eq]

theorem State.sendHeartbeats_same {part : Part} (hp : part ∉ [.link, .out]) (s : State) :
    (State.sendHeartbeats s).only part = s.only part := by
  simp only [State.sendHeartbeats, ↓State.onLink_same (away hp (by decide)),
    ↓State.blockUp_same (away hp (by decide)), ↓only_ite, ↓only_iteFst, ↓only_iteSnd, ite_self, implies_true, id_eq]

theorem State.takeEntry24_same {part : Part} (hp : part ∉ [.od, .inForce, .time, .tick, .head, .alarm, .link, .red, .net, .dict, .power, .log, .health, .boot, .dram, .out]) (s : State) (e : JEntry × Bool) :
    (State.takeEntry24 s e).only part = s.only part := by
  simp only [State.takeEntry24, ↓State.onRed_same (away hp (by decide)), ↓State.incr_same (away hp (by decide)),
    ↓State.emit_same (away hp (by decide)), ↓State.refuseEpoch_same hp, ↓only_ite, ↓only_iteFst, ↓only_iteSnd,
    ite_self, implies_true, id_eq]

theorem State.takeHeader_same {part : Part} (hp : part ∉ [.od, .red, .net, .log, .out]) (s : State) (bs : List Byte) :
    (State.takeHeader s bs).only part = s.only part := by
  simp only [State.takeHeader, ↓State.onRed_same (away hp (by decide)), ↓State.discardPartial_same hp, ↓only_ite,
    ↓only_iteFst, ↓only_iteSnd, ite_self, implies_true, id_eq]

theorem State.commitEpoch_same {part : Part} (hp : part ∉ [.od, .inForce, .time, .tick, .head, .streams, .alarm, .codec, .xfer, .comp, .link, .red, .net, .dict, .power, .log, .health, .boot, .sram, .dram, .out]) (s : State) (e : Epoch) :
    (State.commitEpoch s e).only part = s.only part := by
  simp only [State.commitEpoch, ↓State.onRed_same (away hp (by decide)), ↓State.setObj_same (away hp (by decide)),
    ↓State.incr_same (away hp (by decide)), ↓State.emit_same (away hp (by decide)),
    ↓State.sendFrame_same (away hp (by decide)), ↓State.roleTo_same (away hp (by decide)), ↓only_ite, ↓only_iteFst,
    ↓only_iteSnd, ite_self, implies_true, id_eq]

theorem State.takeCommit_same {part : Part} (hp : part ∉ [.od, .inForce, .time, .tick, .head, .streams, .alarm, .codec, .xfer, .comp, .link, .red, .net, .dict, .power, .log, .health, .boot, .sram, .dram, .out]) (s : State) (bs : List Byte) :
    (State.takeCommit s bs).only part = s.only part := by
  simp only [State.takeCommit, ↓State.onRed_same (away hp (by decide)),
    ↓State.refuseEpoch_same (away hp (by decide)), ↓State.commitEpoch_same hp, ↓only_ite, ↓only_iteFst, ↓only_iteSnd,
    ite_self, implies_true, id_eq]
  all_goals repeat' split <;> try simp only [↓State.onRed_same (away hp (by decide)),
    ↓State.refuseEpoch_same (away hp (by decide)), ↓State.commitEpoch_same hp, ↓only_ite, ↓only_iteFst, ↓only_iteSnd,
    ite_self, implies_true, id_eq]

theorem State.edgeWarm_same {part : Part} (hp : part ∉ [.red]) (s : State) :
    (State.edgeWarm s).only part = s.only part := by
  simp only [State.edgeWarm, ↓State.onRed_same hp, ↓only_ite, ↓only_iteFst, ↓only_iteSnd, ite_self, implies_true,
    id_eq]

theorem State.sendSegment_same {part : Part} (hp : part ∉ [.od, .link, .out]) (s : State) (e : Epoch) (nseg n : Nat) :
    (State.sendSegment s e nseg n).only part = s.only part := by
  simp only [State.sendSegment, ↓State.sendFrame_same hp, only_foldl, only_foldlFst, ite_self, implies_true, id_eq]

theorem State.sendEpoch_same {part : Part} (hp : part ∉ [.od, .link, .out]) (s : State) (e : Epoch) :
    (State.sendEpoch s e).only part = s.only part := by
  simp only [State.sendEpoch, ↓State.sendFrame_same hp, ↓State.sendSegment_same hp, only_foldl, only_foldlFst,
    ite_self, implies_true, id_eq]

theorem State.captureEpoch_same {part : Part} (hp : part ∉ [.od, .link, .red, .out]) (s : State) :
    (State.captureEpoch s).only part = s.only part := by
  simp only [State.captureEpoch, ↓State.onRed_same (away hp (by decide)), ↓State.send_same (away hp (by decide)),
    ↓State.sendEpoch_same (away hp (by decide)), ↓only_ite, ↓only_iteFst, ↓only_iteSnd, ite_self, implies_true, id_eq]

theorem State.loseEpoch_same {part : Part} (hp : part ∉ [.od, .net, .log, .out]) (s : State) :
    (State.loseEpoch s).only part = s.only part := by
  simp only [State.loseEpoch, ↓State.incr_same (away hp (by decide)), ↓State.emit_same (away hp (by decide)),
    ite_self, implies_true, id_eq]

theorem State.epochAnswer_same {part : Part} (hp : part ∉ [.od, .inForce, .time, .tick, .head, .alarm, .link, .red, .net, .dict, .power, .log, .health, .boot, .dram, .out]) (s : State) (number : Nat) (ok : Bool) :
    (State.epochAnswer s number ok).only part = s.only part := by
  simp only [State.epochAnswer, ↓State.onRed_same (away hp (by decide)), ↓State.setObj_same (away hp (by decide)),
    ↓State.incr_same (away hp (by decide)), ↓only_ite, ↓only_iteFst, ↓only_iteSnd, ite_self, implies_true, id_eq]
  all_goals repeat' split <;> try simp only [↓State.onRed_same (away hp (by decide)),
    ↓State.setObj_same (away hp (by decide)), ↓State.incr_same (away hp (by decide)), ↓only_ite, ↓only_iteFst,
    ↓only_iteSnd, ite_self, implies_true, id_eq]

theorem State.edgeHandover_same {part : Part} (hp : part ∉ [.od, .link, .red, .net, .log, .out]) (s : State) :
    (State.edgeHandover s).only part = s.only part := by
  simp only [State.edgeHandover, ↓State.onRed_same (away hp (by decide)), ↓State.roleTo_same (away hp (by decide)),
    ↓State.unclaim_same (away hp (by decide)), ↓State.captureEpoch_same (away hp (by decide)), ↓only_ite,
    ↓only_iteFst, ↓only_iteSnd, ite_self, implies_true, id_eq]

theorem State.edgeTakeover_same {part : Part} (hp : part ∉ [.od, .inForce, .time, .tick, .head, .alarm, .link, .red, .net, .dict, .power, .log, .health, .boot, .dram, .out]) (s : State) :
    (State.edgeTakeover s).only part = s.only part := by
  simp only [State.edgeTakeover, ↓State.onRed_same (away hp (by decide)), ↓State.setObj_same (away hp (by decide)),
    ↓State.incr_same (away hp (by decide)), ↓State.emit_same (away hp (by decide)), ite_self, implies_true, id_eq]
  all_goals repeat' split <;> try simp only [↓State.onRed_same (away hp (by decide)),
    ↓State.setObj_same (away hp (by decide)), ↓State.incr_same (away hp (by decide)),
    ↓State.emit_same (away hp (by decide)), ite_self, implies_true, id_eq]

theorem State.enterDisputed_same {part : Part} (hp : part ∉ [.od, .link, .red, .net, .log, .out]) (s : State) :
    (State.enterDisputed s).only part = s.only part := by
  simp only [State.enterDisputed, ↓State.onRed_same (away hp (by decide)), ↓State.incr_same (away hp (by decide)),
    ↓State.emitArg_same (away hp (by decide)), ↓State.roleTo_same (away hp (by decide)), ite_self, implies_true, id_eq]

theorem State.resolve_same {part : Part} (hp : part ∉ [.od, .inForce, .time, .tick, .head, .alarm, .link, .red, .net, .dict, .power, .log, .health, .boot, .dram, .out]) (s : State) (reason : Nat) :
    (State.resolve s reason).only part = s.only part := by
  simp only [State.resolve, ↓State.emit_same (away hp (by decide)), ↓State.roleTo_same (away hp (by decide)),
    ↓only_ite, ↓only_iteFst, ↓only_iteSnd, ite_self, implies_true, id_eq]

theorem State.requestRole_same {part : Part} (hp : part ∉ [.od, .inForce, .streams, .link, .red, .net, .log, .out]) (s : State) (v : Nat) :
    (State.requestRole s v).only part = s.only part := by
  simp only [State.requestRole, ↓State.request_same (away hp (by decide)), ↓State.roleTo_same (away hp (by decide)),
    ↓State.unclaim_same (away hp (by decide)), ↓only_ite, ↓only_iteFst, ↓only_iteSnd, ite_self, implies_true, id_eq]

theorem State.dropRole_same {part : Part} (hp : part ∉ [.red]) (s : State) :
    (State.dropRole s).only part = s.only part := by
  simp only [State.dropRole, ↓State.onRed_same hp, ↓State.unclaim_same hp, ite_self, implies_true, id_eq]

theorem State.keeper_same {part : Part} (hp : part ∉ [.red]) (s : State) (runs : Bool) :
    (State.keeper s runs).only part = s.only part := by
  simp only [State.keeper, ↓State.onRed_same hp, ↓only_ite, ↓only_iteFst, ↓only_iteSnd, ite_self, implies_true, id_eq]

end Sys2Proof.Machine
end

