-- ==== Sys2Proof/Laws/FrameRetained.lean ====
section
/-! SUPPORT. The frames of the operations of Machine/Retained.lean: the parts of the state that each one keeps. -/
namespace Sys2Proof.Machine
set_option linter.unusedSimpArgs false
set_option Elab.async false

theorem State.setCopy_same {part : Part} (hp : part ∉ [.boot]) (s : State) (n : Nat) (c : Option Retained) :
    (State.setCopy s n c).only part = s.only part := by
  simp only [State.setCopy, ↓State.onBoot_same hp, ↓only_ite, ↓only_iteFst, ↓only_iteSnd, ite_self, implies_true,
    id_eq]

theorem State.eraseCopy_same {part : Part} (hp : part ∉ [.health, .boot]) (s : State) (n : Nat) :
    (State.eraseCopy s n).only part = s.only part := by
  simp only [State.eraseCopy, ↓State.countErases_same (away hp (by decide)),
    ↓State.setCopy_same (away hp (by decide)), ite_self, implies_true, id_eq]

theorem State.beginStore_same {part : Part} (hp : part ∉ [.dict, .health, .boot]) (s : State) (p : Path) (key : Nat) (snap : Table Nat) (marks : Nat) (isMark : Bool) (lss : Option Nat) :
    (State.beginStore s p key snap marks isMark lss).only part = s.only part := by
  simp only [State.beginStore, ↓State.onDict_same (away hp (by decide)), ↓State.eraseCopy_same (away hp (by decide)),
    ite_self, implies_true, id_eq]

theorem State.storeAnswer_same {part : Part} (hp : part ∉ [.od, .red, .net, .log, .out]) (s : State) (x : StoreSt) (code : Nat) :
    (State.storeAnswer s x code).only part = s.only part := by
  simp only [State.storeAnswer, ↓State.send_same (away hp (by decide)),
    ↓State.acceptWrite_same (away hp (by decide)), ↓State.refuse_same (away hp (by decide)), ↓only_ite, ↓only_iteFst,
    ↓only_iteSnd, ite_self, implies_true, id_eq]
  all_goals repeat' split <;> try simp only [↓State.send_same (away hp (by decide)),
    ↓State.acceptWrite_same (away hp (by decide)), ↓State.refuse_same (away hp (by decide)), ↓only_ite, ↓only_iteFst,
    ↓only_iteSnd, ite_self, implies_true, id_eq]

theorem State.storeWritten_same {part : Part} (hp : part ∉ [.od, .boot]) (s : State) (x : StoreSt) :
    (State.storeWritten s x).only part = s.only part := by
  simp only [State.storeWritten, ↓State.setObj_same (away hp (by decide)), ↓State.incr_same (away hp (by decide)),
    ↓State.setCopy_same (away hp (by decide)), ite_self, implies_true, id_eq]

theorem State.endStore_same {part : Part} (hp : part ∉ [.od, .red, .net, .dict, .log, .health, .boot, .out]) (s : State) (x : StoreSt) (ok : Bool) :
    (State.endStore s x ok).only part = s.only part := by
  simp only [State.endStore, ↓State.onDict_same (away hp (by decide)), ↓State.onBoot_same (away hp (by decide)),
    ↓State.setObj_same (away hp (by decide)), ↓State.emit_same (away hp (by decide)),
    ↓State.eraseCopy_same (away hp (by decide)), ↓State.storeAnswer_same (away hp (by decide)),
    ↓State.storeWritten_same (away hp (by decide)), ↓only_ite, ↓only_iteFst, ↓only_iteSnd, ite_self, implies_true,
    id_eq]

theorem State.dropStore_same {part : Part} (hp : part ∉ [.dict, .boot]) (s : State) :
    (State.dropStore s).only part = s.only part := by
  simp only [State.dropStore, ↓State.onDict_same (away hp (by decide)), ↓State.setCopy_same (away hp (by decide)),
    ite_self, implies_true, id_eq]
  all_goals repeat' split <;> try simp only [↓State.onDict_same (away hp (by decide)),
    ↓State.setCopy_same (away hp (by decide)), ite_self, implies_true, id_eq]

theorem State.storePowerFails_same {part : Part} (hp : part ∉ [.od, .red, .net, .dict, .log, .boot, .out]) (s : State) :
    (State.storePowerFails s).only part = s.only part := by
  simp only [State.storePowerFails, ↓State.setObj_same (away hp (by decide)), ↓State.emit_same (away hp (by decide)),
    ↓State.storeAnswer_same (away hp (by decide)), ↓State.dropStore_same (away hp (by decide)), ↓only_ite,
    ↓only_iteFst, ↓only_iteSnd, ite_self, implies_true, id_eq]
  all_goals repeat' split <;> try simp only [↓State.setObj_same (away hp (by decide)),
    ↓State.emit_same (away hp (by decide)), ↓State.storeAnswer_same (away hp (by decide)),
    ↓State.dropStore_same (away hp (by decide)), ↓only_ite, ↓only_iteFst, ↓only_iteSnd, ite_self, implies_true, id_eq]

theorem State.controlledLater_same {part : Part} (hp : part ∉ [.od, .log, .out, .net]) (s : State) (q : Path) (k : Nat)
    (data : List Byte) (eff : State → State) (he : ∀ s, (eff s).only part = s.only part) :
    (State.controlledLater s q k data eff).only part = s.only part := by
  simp only [State.controlledLater, ↓only_ite, he, ↓State.refuse_same (away hp (by decide)), ite_self]

theorem State.askStore_same {part : Part} (hp : part ∉ [.od, .net, .dict, .log, .health, .boot, .out]) (s : State) (p : Path) (sub : Nat) (data : List Byte) :
    (State.askStore s p sub data).only part = s.only part := by
  simp only [State.askStore, ↓State.beginStore_same (away hp (by decide)),
    ↓State.controlledLater_same (away hp (by decide)), ite_self, implies_true, id_eq]

theorem State.askRestore_same {part : Part} (hp : part ∉ [.od, .net, .dict, .log, .health, .boot, .out]) (s : State) (p : Path) (sub : Nat) (data : List Byte) :
    (State.askRestore s p sub data).only part = s.only part := by
  simp only [State.askRestore, ↓State.beginStore_same (away hp (by decide)),
    ↓State.controlledLater_same (away hp (by decide)), ite_self, implies_true, id_eq]

theorem State.toDefaults_same {part : Part} (hp : part ∉ [.od]) (s : State) (sets : Nat) :
    (State.toDefaults s sets).only part = s.only part := by
  simp only [State.toDefaults, ↓State.setOd_same hp, ite_self, implies_true, id_eq]

theorem State.restoreEntry_same {part : Part} (hp : part ∉ [.od]) (s : State) (sets : Nat) (e : Nat × Nat) :
    (State.restoreEntry s sets e).1.only part = s.only part := by
  simp only [State.restoreEntry, ↓State.setObj_same hp, ↓State.incr_same hp, ↓only_ite, ↓only_iteFst, ↓only_iteSnd,
    ite_self, implies_true, id_eq]

theorem State.restoreEntries_same {part : Part} (hp : part ∉ [.od]) (s : State) (sets : Nat) (z1 : List (Nat × Nat)) :
    (State.restoreEntries s sets z1).1.only part = s.only part := by
  induction z1 generalizing s sets with
  | nil => simp only [State.restoreEntries]
  | cons z zs ih =>
    simp only [State.restoreEntries, ↓State.restoreEntry_same hp, ih, ite_self, implies_true,
      id_eq]

theorem State.restoreSets_same {part : Part} (hp : part ∉ [.od]) (s : State) (sets : Nat) (c : Option Retained) :
    (State.restoreSets s sets c).1.only part = s.only part := by
  simp only [State.restoreSets, ↓State.toDefaults_same hp, ↓State.restoreEntries_same hp, ite_self, implies_true,
    id_eq]

theorem State.restoreAll_same {part : Part} (hp : part ∉ [.od, .net, .dict, .log, .boot, .out]) (s : State) :
    (State.restoreAll s).only part = s.only part := by
  simp only [State.restoreAll, ↓State.onDict_same (away hp (by decide)), ↓State.onBoot_same (away hp (by decide)),
    ↓State.setObj_same (away hp (by decide)), ↓State.emit_same (away hp (by decide)),
    ↓State.restoreSets_same (away hp (by decide)), ↓only_ite, ↓only_iteFst, ↓only_iteSnd, ite_self, implies_true,
    id_eq]
  all_goals repeat' split <;> try simp only [↓State.onDict_same (away hp (by decide)),
    ↓State.onBoot_same (away hp (by decide)), ↓State.setObj_same (away hp (by decide)),
    ↓State.emit_same (away hp (by decide)), ↓State.restoreSets_same (away hp (by decide)), ↓only_ite, ↓only_iteFst,
    ↓only_iteSnd, ite_self, implies_true, id_eq]

theorem State.restoreCommunication_same {part : Part} (hp : part ∉ [.od, .boot]) (s : State) :
    (State.restoreCommunication s).only part = s.only part := by
  simp only [State.restoreCommunication, ↓State.onBoot_same (away hp (by decide)),
    ↓State.restoreSets_same (away hp (by decide)), ite_self, implies_true, id_eq]

theorem State.storeCompletes_same {part : Part} (hp : part ∉ [.od, .red, .net, .dict, .log, .health, .boot, .out]) (s : State) (ok : Bool) :
    (State.storeCompletes s ok).only part = s.only part := by
  simp only [State.storeCompletes, ↓State.endStore_same hp, ite_self, implies_true, id_eq]
  all_goals repeat' split <;> try simp only [↓State.endStore_same hp, ite_self, implies_true, id_eq]

end Sys2Proof.Machine
end

