-- ==== Sys2Proof/Laws/FrameNetwork.lean ====
section
/-! SUPPORT. The frames of the operations of Machine/Network.lean: the parts of the state that each one keeps. -/
namespace Sys2Proof.Machine
set_option linter.unusedSimpArgs false
set_option Elab.async false

theorem State.onCtrl_same {part : Part} (hp : part ∉ [.net]) (s : State) (c : Nat) (f : Ctrl → Ctrl) :
    (State.onCtrl s c f).only part = s.only part := by
  simp only [State.onCtrl, ↓State.setCtrl_same hp, ite_self, implies_true, id_eq]

theorem State.toNmt_same {part : Part} (hp : part ∉ [.net, .log, .out]) (s : State) (x : Nmt) :
    (State.toNmt s x).only part = s.only part := by
  simp only [State.toNmt, ↓State.onNet_same (away hp (by decide)), ↓State.emit_same hp,
    ↓State.onCtrl_same (away hp (by decide)), ↓only_ite, ↓only_iteFst, ↓only_iteSnd, only_foldl, only_foldlFst,
    ite_self, implies_true, id_eq]

theorem State.nmtStart_same {part : Part} (hp : part ∉ [.net, .log, .out]) (s : State) :
    (State.nmtStart s).only part = s.only part := by
  simp only [State.nmtStart, ↓State.toNmt_same hp, ↓only_ite, ↓only_iteFst, ↓only_iteSnd, ite_self, implies_true,
    id_eq]

theorem State.nmtStop_same {part : Part} (hp : part ∉ [.net, .log, .out]) (s : State) :
    (State.nmtStop s).only part = s.only part := by
  simp only [State.nmtStop, ↓State.toNmt_same hp, ↓only_ite, ↓only_iteFst, ↓only_iteSnd, ite_self, implies_true, id_eq]

theorem State.nmtPreOp_same {part : Part} (hp : part ∉ [.net, .log, .out]) (s : State) :
    (State.nmtPreOp s).only part = s.only part := by
  simp only [State.nmtPreOp, ↓State.toNmt_same hp, ↓only_ite, ↓only_iteFst, ↓only_iteSnd, ite_self, implies_true,
    id_eq]

theorem State.nmtInWatch_same {part : Part} (hp : part ∉ [.od, .net, .power, .log, .out]) (s : State) (c node cs : Nat) :
    (State.nmtInWatch s c node cs).only part = s.only part := by
  simp only [State.nmtInWatch, ↓State.wakeFrame_same hp, ↓only_ite, ↓only_iteFst, ↓only_iteSnd, ite_self,
    implies_true, id_eq]

theorem State.startCtrl_same {part : Part} (hp : part ∉ [.net]) (s : State) (c : Nat) :
    (State.startCtrl s c).only part = s.only part := by
  simp only [State.startCtrl, ↓State.onCtrl_same hp, ↓only_ite, ↓only_iteFst, ↓only_iteSnd, ite_self, implies_true,
    id_eq]

theorem State.sendBootUp_same {part : Part} (hp : part ∉ [.net, .out]) (s : State) (c : Nat) :
    (State.sendBootUp s c).only part = s.only part := by
  simp only [State.sendBootUp, ↓State.send_same (away hp (by decide)), ↓State.setCtrl_same (away hp (by decide)),
    ↓only_ite, ↓only_iteFst, ↓only_iteSnd, ite_self, implies_true, id_eq]

theorem State.leaveInitialisation_same {part : Part} (hp : part ∉ [.net, .log, .boot, .out]) (s : State) :
    (State.leaveInitialisation s).only part = s.only part := by
  simp only [State.leaveInitialisation, ↓State.onBoot_same (away hp (by decide)),
    ↓State.toNmt_same (away hp (by decide)), ↓State.sendBootUp_same (away hp (by decide)), ↓only_ite, ↓only_iteFst,
    ↓only_iteSnd, ite_self, implies_true, id_eq]

theorem State.silence_same {part : Part} (hp : part ∉ [.od, .net, .log, .out]) (s : State) (c : Nat) :
    (State.silence s c).only part = s.only part := by
  simp only [State.silence, ↓State.incr_same (away hp (by decide)), ↓State.setCtrl_same (away hp (by decide)),
    ↓State.emcy_same (away hp (by decide)), ↓State.emit_same (away hp (by decide)), ↓only_ite, ↓only_iteFst,
    ↓only_iteSnd, ite_self, implies_true, id_eq]

theorem State.configurePartner_same {part : Part} (hp : part ∉ [.net]) (s : State) (node : Nat) :
    (State.configurePartner s node).only part = s.only part := by
  simp only [State.configurePartner, ↓State.onNet_same hp, ↓only_ite, ↓only_iteFst, ↓only_iteSnd, ite_self,
    implies_true, id_eq]

theorem State.syncPartners_same {part : Part} (hp : part ∉ [.net]) (s : State) :
    (State.syncPartners s).only part = s.only part := by
  simp only [State.syncPartners, ↓State.onNet_same hp, ↓State.configurePartner_same hp, ↓only_ite, ↓only_iteFst,
    ↓only_iteSnd, only_foldl, only_foldlFst, ite_self, implies_true, id_eq]

theorem State.learn_same {part : Part} (hp : part ∉ [.net, .log, .out]) (s : State) (c node state since : Nat) :
    (State.learn s c node state since).only part = s.only part := by
  simp only [State.learn, ↓State.onNet_same (away hp (by decide)), ↓State.emit_same hp, ↓State.emitLimited_same hp,
    ↓only_ite, ↓only_iteFst, ↓only_iteSnd, ite_self, implies_true, id_eq]
  all_goals repeat' split <;> try simp only [↓State.onNet_same (away hp (by decide)), ↓State.emit_same hp,
    ↓State.emitLimited_same hp, ↓only_ite, ↓only_iteFst, ↓only_iteSnd, ite_self, implies_true, id_eq]

theorem State.hearStranger_same {part : Part} (hp : part ∉ [.net, .log, .out]) (s : State) (c node state : Nat) :
    (State.hearStranger s c node state).only part = s.only part := by
  simp only [State.hearStranger, ↓State.onNet_same (away hp (by decide)), ↓State.learn_same hp, ↓only_ite,
    ↓only_iteFst, ↓only_iteSnd, ite_self, implies_true, id_eq]
  all_goals repeat' split <;> try simp only [↓State.onNet_same (away hp (by decide)), ↓State.learn_same hp,
    ↓only_ite, ↓only_iteFst, ↓only_iteSnd, ite_self, implies_true, id_eq]

theorem State.hear_same {part : Part} (hp : part ∉ [.net, .log, .out]) (s : State) (c node state : Nat) (boot : Bool) :
    (State.hear s c node state boot).only part = s.only part := by
  simp only [State.hear, ↓State.onNet_same (away hp (by decide)), ↓State.emit_same hp, ↓State.hearStranger_same hp,
    ↓only_ite, ↓only_iteFst, ↓only_iteSnd, ite_self, implies_true, id_eq]
  all_goals repeat' split <;> try simp only [↓State.onNet_same (away hp (by decide)), ↓State.emit_same hp,
    ↓State.hearStranger_same hp, ↓only_ite, ↓only_iteFst, ↓only_iteSnd, ite_self, implies_true, id_eq]

theorem State.losePartner_same {part : Part} (hp : part ∉ [.net, .log, .out]) (s : State) (p : Partner) :
    (State.losePartner s p).only part = s.only part := by
  simp only [State.losePartner, ↓State.onNet_same (away hp (by decide)), ↓State.emitArg_same hp, ↓only_ite,
    ↓only_iteFst, ↓only_iteSnd, ite_self, implies_true, id_eq]

theorem State.canAll_same {part : Part} (hp : part ∉ [.out]) (s : State) (cob : Nat) (data : List Byte) :
    (State.canAll s cob data).only part = s.only part := by
  simp only [State.canAll, ↓State.send_same hp, only_foldl, only_foldlFst, ite_self, implies_true, id_eq]

theorem State.transmitTpdo_same {part : Part} (hp : part ∉ [.od, .net, .log, .out]) (s : State) (n : Nat) (data : List Byte) :
    (State.transmitTpdo s n data).only part = s.only part := by
  simp only [State.transmitTpdo, ↓State.onNet_same (away hp (by decide)), ↓State.setObj_same (away hp (by decide)),
    ↓State.gateDrop_same hp, ↓State.canAll_same (away hp (by decide)), ↓only_ite, ↓only_iteFst, ↓only_iteSnd,
    ite_self, implies_true, id_eq]

theorem State.tpdoNow_same {part : Part} (hp : part ∉ [.od, .net, .log, .out]) (s : State) (n : Nat) :
    (State.tpdoNow s n).only part = s.only part := by
  simp only [State.tpdoNow, ↓State.onNet_same (away hp (by decide)), ↓State.transmitTpdo_same hp, ite_self,
    implies_true, id_eq]

theorem State.tpdoBuilt_same {part : Part} (hp : part ∉ [.od, .net, .log, .out]) (s : State) (n : Nat) (data : List Byte) :
    (State.tpdoBuilt s n data).only part = s.only part := by
  simp only [State.tpdoBuilt, ↓State.onNet_same (away hp (by decide)), ↓State.tpdoNow_same hp, ↓only_ite,
    ↓only_iteFst, ↓only_iteSnd, ite_self, implies_true, id_eq]

theorem State.forgetRecord_same {part : Part} (hp : part ∉ [.net]) (s : State) (c r : Nat) :
    (State.forgetRecord s c r).only part = s.only part := by
  simp only [State.forgetRecord, ↓State.onNet_same hp, ite_self, implies_true, id_eq]

theorem State.dropRecord_same {part : Part} (hp : part ∉ [.od, .net, .log, .out]) (s : State) (c r : Nat) :
    (State.dropRecord s c r).only part = s.only part := by
  simp only [State.dropRecord, ↓State.incr_same (away hp (by decide)), ↓State.emit_same (away hp (by decide)),
    ↓State.forgetRecord_same (away hp (by decide)), ite_self, implies_true, id_eq]

theorem State.endRecord_same {part : Part} (hp : part ∉ [.od, .streams, .codec, .comp, .net, .log, .out]) (s : State) (x : RecordBuf) :
    (State.endRecord s x).only part = s.only part := by
  simp only [State.endRecord, ↓State.deliver_same hp, ↓State.forgetRecord_same (away hp (by decide)),
    ↓State.dropRecord_same (away hp (by decide)), ↓only_ite, ↓only_iteFst, ↓only_iteSnd, ite_self, implies_true, id_eq]
  all_goals repeat' split <;> try simp only [↓State.deliver_same hp, ↓State.forgetRecord_same (away hp (by decide)),
    ↓State.dropRecord_same (away hp (by decide)), ↓only_ite, ↓only_iteFst, ↓only_iteSnd, ite_self, implies_true, id_eq]

theorem State.joinRecord_same {part : Part} (hp : part ∉ [.od, .streams, .codec, .comp, .net, .log, .out]) (s : State) (x : RecordBuf) (last : Bool) (bs : List Byte) :
    (State.joinRecord s x last bs).only part = s.only part := by
  simp only [State.joinRecord, ↓State.onNet_same (away hp (by decide)),
    ↓State.forgetRecord_same (away hp (by decide)), ↓State.dropRecord_same (away hp (by decide)),
    ↓State.endRecord_same hp, ↓only_ite, ↓only_iteFst, ↓only_iteSnd, ite_self, implies_true, id_eq]

theorem State.firstFragment_same {part : Part} (hp : part ∉ [.od, .streams, .codec, .comp, .net, .log, .out]) (s : State) (c r : Nat) (last : Bool) (data : List Byte) :
    (State.firstFragment s c r last data).only part = s.only part := by
  simp only [State.firstFragment, ↓State.incr_same (away hp (by decide)), ↓State.emit_same (away hp (by decide)),
    ↓State.dropRecord_same (away hp (by decide)), ↓State.joinRecord_same hp, ↓only_ite, ↓only_iteFst, ↓only_iteSnd,
    ite_self, implies_true, id_eq]
  all_goals repeat' split <;> try simp only [↓State.incr_same (away hp (by decide)),
    ↓State.emit_same (away hp (by decide)), ↓State.dropRecord_same (away hp (by decide)), ↓State.joinRecord_same hp,
    ↓only_ite, ↓only_iteFst, ↓only_iteSnd, ite_self, implies_true, id_eq]

theorem State.nextFragment_same {part : Part} (hp : part ∉ [.od, .streams, .codec, .comp, .net, .log, .out]) (s : State) (c r index : Nat) (last : Bool) (data : List Byte) :
    (State.nextFragment s c r index last data).only part = s.only part := by
  simp only [State.nextFragment, ↓State.dropRecord_same (away hp (by decide)), ↓State.joinRecord_same hp, ↓only_ite,
    ↓only_iteFst, ↓only_iteSnd, ite_self, implies_true, id_eq]
  all_goals repeat' split <;> try simp only [↓State.dropRecord_same (away hp (by decide)), ↓State.joinRecord_same hp,
    ↓only_ite, ↓only_iteFst, ↓only_iteSnd, ite_self, implies_true, id_eq]

theorem State.resetCommunication_same {part : Part} (hp : part ∉ [.od, .inForce, .net, .dict, .log, .boot, .out]) (s : State) :
    (State.resetCommunication s).only part = s.only part := by
  simp only [State.resetCommunication, ↓State.onDict_same (away hp (by decide)),
    ↓State.setInForce_same (away hp (by decide)), ↓State.restoreCommunication_same (away hp (by decide)),
    ↓State.toNmt_same (away hp (by decide)), ↓State.startCtrl_same (away hp (by decide)),
    ↓State.leaveInitialisation_same (away hp (by decide)), ↓State.syncPartners_same (away hp (by decide)),
    ↓State.dropRecord_same (away hp (by decide)), only_foldl, only_foldlFst, ite_self, implies_true, id_eq]

theorem State.nmtResetComm_same {part : Part} (hp : part ∉ [.od, .inForce, .net, .dict, .log, .boot, .out]) (s : State) :
    (State.nmtResetComm s).only part = s.only part := by
  simp only [State.nmtResetComm, ↓State.onDict_same (away hp (by decide)), ↓State.resetCommunication_same hp,
    ↓only_ite, ↓only_iteFst, ↓only_iteSnd, ite_self, implies_true, id_eq]

theorem State.enterBusOff_same {part : Part} (hp : part ∉ [.net, .log, .out]) (s : State) (c : Nat) :
    (State.enterBusOff s c).only part = s.only part := by
  simp only [State.enterBusOff, ↓State.setCtrl_same (away hp (by decide)), ↓State.emcy_same hp, ↓State.emit_same hp,
    ↓only_ite, ↓only_iteFst, ↓only_iteSnd, ite_self, implies_true, id_eq]

theorem State.storeEnds_same {part : Part} (hp : part ∉ [.od, .inForce, .red, .net, .dict, .log, .health, .boot, .out]) (s : State) (ok : Bool) :
    (State.storeEnds s ok).only part = s.only part := by
  simp only [State.storeEnds, ↓State.storeCompletes_same (away hp (by decide)),
    ↓State.resetCommunication_same (away hp (by decide)), ↓only_ite, ↓only_iteFst, ↓only_iteSnd, ite_self,
    implies_true, id_eq]

end Sys2Proof.Machine
end

