-- ==== Sys2Proof/Laws/FrameLss.lean ====
section
/-! SUPPORT. The frames of the operations of Machine/Lss.lean: the parts of the state that each one keeps. -/
namespace Sys2Proof.Machine
set_option linter.unusedSimpArgs false
set_option Elab.async false

theorem State.whenLss_same {part : Part} (s : State) (c : Nat) (f : State → State)
    (he : ∀ s, (f s).only part = s.only part) : (State.whenLss s c f).only part = s.only part := by
  simp only [State.whenLss, ↓only_ite, he, ite_self]

theorem State.whenConfig_same {part : Part} (s : State) (c : Nat) (f : State → State)
    (he : ∀ s, (f s).only part = s.only part) : (State.whenConfig s c f).only part = s.only part := by
  simp only [State.whenConfig, ↓State.whenLss, ↓only_ite, he, ite_self]

theorem State.scanStep_same {part : Part} (hp : part ∉ [.net, .out]) (s : State) (c id check sub next : Nat) :
    (State.scanStep s c id check sub next).only part = s.only part := by
  simp only [State.scanStep, ↓State.send_same (away hp (by decide)), ↓State.setCtrl_same (away hp (by decide)),
    ↓only_ite, ↓only_iteFst, ↓only_iteSnd, ite_self, implies_true, id_eq]

end Sys2Proof.Machine
end

