-- ==== Sys2Proof/Laws/FrameEthernet.lean ====
section
/-! SUPPORT. The frames of the operations of Machine/Ethernet.lean: the parts of the state that each one keeps. -/
namespace Sys2Proof.Machine
set_option linter.unusedSimpArgs false
set_option Elab.async false

theorem State.erroredIn_same {part : Part} (hp : part ∉ [.od, .net, .log, .out]) (s : State) (k : Nat) :
    (State.erroredIn s k).only part = s.only part := by
  simp only [State.erroredIn, ↓State.onNet_same (away hp (by decide)), ↓State.setObj_same (away hp (by decide)),
    ↓State.emitLimited_same (away hp (by decide)), ↓only_ite, ↓only_iteFst, ↓only_iteSnd, ite_self, implies_true,
    id_eq]

theorem State.transmitUdp_same {part : Part} (hp : part ∉ [.net, .out]) (s : State) (o : Out) :
    (State.transmitUdp s o).only part = s.only part := by
  simp only [State.transmitUdp, ↓State.onNet_same (away hp (by decide)), ↓State.send_same (away hp (by decide)),
    ite_self, implies_true, id_eq]

theorem State.broadcast_same {part : Part} (hp : part ∉ [.od, .net, .log, .out]) (s : State) (i : Nat) :
    (State.broadcast s i).1.only part = s.only part := by
  simp only [State.broadcast, ↓State.onNet_same (away hp (by decide)), ↓State.incr_same (away hp (by decide)),
    ↓State.emitLimited_same (away hp (by decide)), ↓only_ite, ↓only_iteFst, ↓only_iteSnd, ite_self, implies_true,
    id_eq]

theorem State.takeArp_same {part : Part} (hp : part ∉ [.net, .log, .out]) (s : State) (i sender senderMac target : Nat) (asks : Bool) :
    (State.takeArp s i sender senderMac target asks).only part = s.only part := by
  simp only [State.takeArp, ↓State.emitLimited_same hp, ↓State.transmitUdp_same (away hp (by decide)), ↓only_ite,
    ↓only_iteFst, ↓only_iteSnd, ite_self, implies_true, id_eq]

end Sys2Proof.Machine
end

