-- ==== Sys2Proof/Laws/FramePower.lean ====
section
/-! SUPPORT. The frames of the operations of Machine/Power.lean: the parts of the state that each one keeps. -/
namespace Sys2Proof.Machine
set_option linter.unusedSimpArgs false
set_option Elab.async false

theorem State.noteReturn_same {part : Part} (hp : part ∉ [.power]) (s : State) :
    (State.noteReturn s).only part = s.only part := by
  simp only [State.noteReturn, ↓State.onPower_same hp, ↓only_ite, ↓only_iteFst, ↓only_iteSnd, ite_self, implies_true,
    id_eq]

theorem State.modeTo_same {part : Part} (hp : part ∉ [.od, .net, .power, .log, .out]) (s : State) (m : Mode) :
    (State.modeTo s m).only part = s.only part := by
  simp only [State.modeTo, ↓State.onPower_same (away hp (by decide)), ↓State.incr_same (away hp (by decide)),
    ↓State.emit_same (away hp (by decide)), ↓only_ite, ↓only_iteFst, ↓only_iteSnd, ite_self, implies_true, id_eq]

theorem State.edgeMode_same {part : Part} (hp : part ∉ [.od, .tick, .net, .power, .log, .out]) (s : State) :
    (State.edgeMode s).only part = s.only part := by
  simp only [State.edgeMode, ↓State.emit_same (away hp (by decide)),
    ↓State.pickAlternative_same (away hp (by decide)), ↓State.noteReturn_same (away hp (by decide)),
    ↓State.modeTo_same (away hp (by decide)), ↓only_ite, ↓only_iteFst, ↓only_iteSnd, ite_self, implies_true, id_eq]

theorem State.lowPower_same {part : Part} (hp : part ∉ [.power]) (s : State) (v : Nat) :
    (State.lowPower s v).only part = s.only part := by
  simp only [State.lowPower, ↓State.onPower_same hp, ↓only_ite, ↓only_iteFst, ↓only_iteSnd, ite_self, implies_true,
    id_eq]

theorem State.dropDeferred_same {part : Part} (hp : part ∉ [.net, .power, .log, .out]) (s : State) :
    (State.dropDeferred s).only part = s.only part := by
  simp only [State.dropDeferred, ↓State.onPower_same (away hp (by decide)), ↓State.emit_same (away hp (by decide)),
    ↓only_ite, ↓only_iteFst, ↓only_iteSnd, ite_self, implies_true, id_eq]

theorem State.edgeDefer_same {part : Part} (hp : part ∉ [.od, .net, .power, .log, .out]) (s : State) :
    (State.edgeDefer s).only part = s.only part := by
  simp only [State.edgeDefer, ↓State.onPower_same (away hp (by decide)), ↓State.incr_same (away hp (by decide)),
    ↓State.emit_same (away hp (by decide)), ↓only_ite, ↓only_iteFst, ↓only_iteSnd, ite_self, implies_true, id_eq]

theorem State.loseUnits_same {part : Part} (hp : part ∉ [.od, .streams]) (s : State) (n : Nat) :
    (State.loseUnits s n).only part = s.only part := by
  simp only [State.loseUnits, ↓State.incr_same (away hp (by decide)), ↓State.onStream_same (away hp (by decide)),
    ↓only_ite, ↓only_iteFst, ↓only_iteSnd, ite_self, implies_true, id_eq]

theorem State.loseSram_same {part : Part} (hp : part ∉ [.comp, .sram]) (s : State) (mask : Nat) :
    (State.loseSram s mask).only part = s.only part := by
  simp only [State.loseSram, ↓State.onComp_same (away hp (by decide)), ↓State.setSram_same (away hp (by decide)),
    ite_self, implies_true, id_eq]

theorem State.stopDogs_same {part : Part} (hp : part ∉ [.health]) (s : State) :
    (State.stopDogs s).only part = s.only part := by
  simp only [State.stopDogs, ↓State.setDog_same hp, only_foldl, only_foldlFst, ite_self, implies_true, id_eq]

theorem State.entryRecords_same {part : Part} (hp : part ∉ [.net, .log, .health, .out]) (s : State) (off : Bool) :
    (State.entryRecords s off).only part = s.only part := by
  simp only [State.entryRecords, ↓State.appendLifetime_same hp, ↓State.writeEraseTable_same hp, ↓only_ite,
    ↓only_iteFst, ↓only_iteSnd, ite_self, implies_true, id_eq]

theorem State.stopWork_same {part : Part} (hp : part ∉ [.free, .od, .head, .streams, .codec, .noise, .xfer, .comp, .link, .red, .net, .log, .health, .out]) (s : State) :
    (State.stopWork s).only part = s.only part := by
  simp only [State.stopWork, ↓State.onXfer_same (away hp (by decide)), ↓State.stopChucks_same (away hp (by decide)),
    ↓State.encRestart_same (away hp (by decide)), ↓State.noiseLost_same (away hp (by decide)),
    ↓State.abortRunning_same (away hp (by decide)), ↓State.stopPorts_same (away hp (by decide)),
    ↓State.dropRole_same (away hp (by decide)), ↓State.loseUnits_same (away hp (by decide)),
    ↓State.stopDogs_same (away hp (by decide)), only_foldl, only_foldlFst, ite_self, implies_true, id_eq]

theorem State.enterWatch_same {part : Part} (hp : part ∉ [.free, .od, .head, .streams, .codec, .noise, .xfer, .comp, .link, .red, .net, .power, .log, .health, .sram, .out]) (s : State) :
    (State.enterWatch s).only part = s.only part := by
  simp only [State.enterWatch, ↓State.onPower_same (away hp (by decide)), ↓State.incr_same (away hp (by decide)),
    ↓State.modeTo_same (away hp (by decide)), ↓State.loseSram_same (away hp (by decide)),
    ↓State.entryRecords_same (away hp (by decide)), ↓State.stopWork_same (away hp (by decide)), ite_self,
    implies_true, id_eq]

theorem State.enterOff_same {part : Part} (hp : part ∉ [.free, .od, .head, .streams, .alarm, .codec, .noise, .xfer, .comp, .link, .red, .net, .power, .log, .health, .sram, .dram, .out]) (s : State) :
    (State.enterOff s).only part = s.only part := by
  simp only [State.enterOff, ↓State.onAlarm_same (away hp (by decide)), ↓State.onPower_same (away hp (by decide)),
    ↓State.setSram_same (away hp (by decide)), ↓State.setDram_same (away hp (by decide)),
    ↓State.flushAll_same (away hp (by decide)), ↓State.modeTo_same (away hp (by decide)),
    ↓State.entryRecords_same (away hp (by decide)), ↓State.stopWork_same (away hp (by decide)), ↓only_ite,
    ↓only_iteFst, ↓only_iteSnd, ite_self, implies_true, id_eq]

theorem State.startExit_same {part : Part} (hp : part ∉ [.power]) (s : State) :
    (State.startExit s).only part = s.only part := by
  simp only [State.startExit, ↓State.onPower_same hp, ite_self, implies_true, id_eq]

theorem State.resumeCores_same {part : Part} (hp : part ∉ [.head, .comp, .link, .red, .net, .power, .log, .health, .out]) (s : State) :
    (State.resumeCores s).only part = s.only part := by
  simp only [State.resumeCores, ↓State.onHead_same (away hp (by decide)), ↓State.onComp_same (away hp (by decide)),
    ↓State.onRed_same (away hp (by decide)), ↓State.onPower_same (away hp (by decide)),
    ↓State.dogRestart_same (away hp (by decide)), ↓State.roleTo_same (away hp (by decide)),
    ↓State.startJoins_same (away hp (by decide)), ↓only_ite, ↓only_iteFst, ↓only_iteSnd, only_foldl, only_foldlFst,
    ite_self, implies_true, id_eq]

theorem State.leaveWatch_same {part : Part} (hp : part ∉ [.od, .tick, .net, .power, .log, .out]) (s : State) :
    (State.leaveWatch s).only part = s.only part := by
  simp only [State.leaveWatch, ↓State.onPower_same (away hp (by decide)), ↓State.emit_same (away hp (by decide)),
    ↓State.pickAlternative_same (away hp (by decide)), ↓State.noteReturn_same (away hp (by decide)),
    ↓State.modeTo_same (away hp (by decide)), ↓only_ite, ↓only_iteFst, ↓only_iteSnd, ite_self, implies_true, id_eq]

theorem State.takeFrame_same {part : Part} (hp : part ∉ [.power]) (s : State) (samples : List (BitVec 16)) :
    (State.takeFrame s samples).only part = s.only part := by
  simp only [State.takeFrame, ↓State.onPower_same hp, ite_self, implies_true, id_eq]

theorem State.armSpotter_same {part : Part} (hp : part ∉ [.power]) (s : State) (prev score : Nat) :
    (State.armSpotter s prev score).only part = s.only part := by
  simp only [State.armSpotter, ↓State.onPower_same hp, ↓only_ite, ↓only_iteFst, ↓only_iteSnd, ite_self, implies_true,
    id_eq]

theorem State.requestRescore_same {part : Part} (hp : part ∉ [.od, .head, .net, .power, .log, .out]) (s : State) (woke : Bool) :
    (State.requestRescore s woke).only part = s.only part := by
  simp only [State.requestRescore, ↓State.onPower_same (away hp (by decide)),
    ↓State.demandJob_same (away hp (by decide)), ↓only_ite, ↓only_iteFst, ↓only_iteSnd, ite_self, implies_true, id_eq]
  all_goals repeat' split <;> try simp only [↓State.onPower_same (away hp (by decide)),
    ↓State.demandJob_same (away hp (by decide)), ↓only_ite, ↓only_iteFst, ↓only_iteSnd, ite_self, implies_true, id_eq]

theorem State.detect_same {part : Part} (hp : part ∉ [.od, .head, .net, .power, .log, .out]) (s : State) :
    (State.detect s).only part = s.only part := by
  simp only [State.detect, ↓State.onPower_same (away hp (by decide)), ↓State.incr_same (away hp (by decide)),
    ↓State.emit_same (away hp (by decide)), ↓State.wakeCause_same (away hp (by decide)),
    ↓State.dropDeferred_same (away hp (by decide)), ↓State.requestRescore_same hp, ↓only_ite, ↓only_iteFst,
    ↓only_iteSnd, ite_self, implies_true, id_eq]

theorem State.scoreFrame_same {part : Part} (hp : part ∉ [.od, .head, .net, .power, .log, .out]) (s : State) (score : Nat) :
    (State.scoreFrame s score).only part = s.only part := by
  simp only [State.scoreFrame, ↓State.onPower_same (away hp (by decide)),
    ↓State.armSpotter_same (away hp (by decide)), ↓State.detect_same hp, ↓only_ite, ↓only_iteFst, ↓only_iteSnd,
    ite_self, implies_true, id_eq]

theorem State.thermalTo_same {part : Part} (hp : part ∉ [.net, .power, .log, .out]) (s : State) (v : Nat) :
    (State.thermalTo s v).only part = s.only part := by
  simp only [State.thermalTo, ↓State.onPower_same (away hp (by decide)), ↓State.emit_same (away hp (by decide)),
    ↓State.noteReturn_same (away hp (by decide)), ↓State.startExit_same (away hp (by decide)), ↓only_ite,
    ↓only_iteFst, ↓only_iteSnd, ite_self, implies_true, id_eq]

theorem State.observeLink_same {part : Part} (hp : part ∉ [.od, .net, .log, .health, .out]) (s : State) (k : Nat) :
    (State.observeLink s k).only part = s.only part := by
  simp only [State.observeLink, ↓State.onHealth_same (away hp (by decide)), ↓State.observe_same hp, ite_self,
    implies_true, id_eq]

theorem State.observeAll_same {part : Part} (hp : part ∉ [.od, .net, .log, .health, .out]) (s : State) (source i : Nat) (vs : List Int) :
    (State.observeAll s source i vs).only part = s.only part := by
  simp only [State.observeAll, ↓State.observe_same hp, only_foldl, only_foldlFst, ite_self, implies_true, id_eq]

theorem State.observeSensors_same {part : Part} (hp : part ∉ [.od, .net, .log, .health, .out]) (s : State) :
    (State.observeSensors s).only part = s.only part := by
  simp only [State.observeSensors, ↓State.observe_same hp, ↓State.observeLink_same hp, ↓State.observeAll_same hp,
    ↓only_ite, ↓only_iteFst, ↓only_iteSnd, ite_self, implies_true, id_eq]

theorem State.countForced_same {part : Part} (hp : part ∉ [.power]) (s : State) :
    (State.countForced s).only part = s.only part := by
  simp only [State.countForced, ↓State.onPower_same hp, ↓only_ite, ↓only_iteFst, ↓only_iteSnd, ite_self,
    implies_true, id_eq]

end Sys2Proof.Machine
end

