-- ==== Sys2Proof/Laws/FrameHealth.lean ====
section
/-! SUPPORT. The frames of the operations of Machine/Health.lean: the parts of the state that each one keeps. -/
namespace Sys2Proof.Machine
set_option linter.unusedSimpArgs false
set_option Elab.async false

theorem State.monitorControl_same {part : Part} (hp : part ∉ [.health]) (s : State) (m v : Nat) :
    (State.monitorControl s m v).only part = s.only part := by
  simp only [State.monitorControl, ↓State.setMonitor_same hp, ↓only_ite, ↓only_iteFst, ↓only_iteSnd, ite_self,
    implies_true, id_eq]

theorem State.freeze_same {part : Part} (hp : part ∉ [.net, .log, .out]) (s : State) :
    (State.freeze s).only part = s.only part := by
  simp only [State.freeze, ↓State.onLog_same (away hp (by decide)), ↓State.emit_same hp, ↓only_ite, ↓only_iteFst,
    ↓only_iteSnd, ite_self, implies_true, id_eq]

theorem State.releaseFreeze_same {part : Part} (hp : part ∉ [.net, .log, .out]) (s : State) :
    (State.releaseFreeze s).only part = s.only part := by
  simp only [State.releaseFreeze, ↓State.onLog_same (away hp (by decide)), ↓State.emit_same hp, ↓only_ite,
    ↓only_iteFst, ↓only_iteSnd, ite_self, implies_true, id_eq]

theorem State.powerFails_same {part : Part} (hp : part ∉ [.od, .red, .net, .dict, .log, .health, .boot, .out]) (s : State) :
    (State.powerFails s).only part = s.only part := by
  simp only [State.powerFails, ↓State.onLog_same (away hp (by decide)), ↓State.onHealth_same (away hp (by decide)),
    ↓State.emit_same (away hp (by decide)), ↓State.powerFailFlush_same (away hp (by decide)),
    ↓State.storePowerFails_same (away hp (by decide)), ite_self, implies_true, id_eq]

theorem State.coreHalts_same {part : Part} (hp : part ∉ [.red]) (s : State) (k : Nat) :
    (State.coreHalts s k).only part = s.only part := by
  simp only [State.coreHalts, ↓State.keeper_same hp, ↓only_ite, ↓only_iteFst, ↓only_iteSnd, ite_self, implies_true,
    id_eq]

theorem State.dogHalts_same {part : Part} (hp : part ∉ [.red, .net, .log, .health, .out]) (s : State) (k reason pc : Nat) :
    (State.dogHalts s k reason pc).only part = s.only part := by
  simp only [State.dogHalts, ↓State.dogExpires_same (away hp (by decide)),
    ↓State.coreHalts_same (away hp (by decide)), ite_self, implies_true, id_eq]

theorem State.debugHalt_same {part : Part} (hp : part ∉ [.red, .health]) (s : State) (k : Nat) :
    (State.debugHalt s k).only part = s.only part := by
  simp only [State.debugHalt, ↓State.onHealth_same (away hp (by decide)), ↓State.setDog_same (away hp (by decide)),
    ↓State.coreHalts_same (away hp (by decide)), ↓only_ite, ↓only_iteFst, ↓only_iteSnd, ite_self, implies_true, id_eq]

theorem State.debugResume_same {part : Part} (hp : part ∉ [.red, .health]) (s : State) (k : Nat) :
    (State.debugResume s k).only part = s.only part := by
  simp only [State.debugResume, ↓State.onHealth_same (away hp (by decide)),
    ↓State.dogRestart_same (away hp (by decide)), ↓State.keeper_same (away hp (by decide)), ↓only_ite, ↓only_iteFst,
    ↓only_iteSnd, ite_self, implies_true, id_eq]

end Sys2Proof.Machine
end

