-- ==== Sys2Proof/Laws/FrameTickSource.lean ====
section
/-! SUPPORT. The frames of the operations of Machine/TickSource.lean: the parts of the state that each one keeps. -/
namespace Sys2Proof.Machine
set_option linter.unusedSimpArgs false
set_option Elab.async false

theorem State.beginSource_same {part : Part} (hp : part ∉ [.tick]) (s : State) :
    (State.beginSource s).only part = s.only part := by
  simp only [State.beginSource, ↓State.onTick_same hp, ite_self, implies_true, id_eq]

theorem State.startTick_same {part : Part} (hp : part ∉ [.tick]) (s : State) :
    (State.startTick s).only part = s.only part := by
  simp only [State.startTick, ↓State.onTick_same hp, ↓State.beginSource_same hp, ite_self, implies_true, id_eq]

theorem State.tickRequest_same {part : Part} (hp : part ∉ [.od, .inForce, .tick, .streams]) (s : State) (k v : Nat) :
    (State.tickRequest s k v).only part = s.only part := by
  simp only [State.tickRequest, ↓State.request_same (away hp (by decide)),
    ↓State.beginSource_same (away hp (by decide)), ↓only_ite, ↓only_iteFst, ↓only_iteSnd, ite_self, implies_true,
    id_eq]

theorem State.glitch_same {part : Part} (hp : part ∉ [.od, .net, .log, .out]) (s : State) :
    (State.glitch s).only part = s.only part := by
  simp only [State.glitch, ↓State.incr_same (away hp (by decide)), ↓State.emitLimited_same (away hp (by decide)),
    ite_self, implies_true, id_eq]

theorem State.measureEdge_same {part : Part} (hp : part ∉ [.od, .tick]) (s : State) :
    (State.measureEdge s).only part = s.only part := by
  simp only [State.measureEdge, ↓State.onTick_same (away hp (by decide)), ↓State.setObj_same (away hp (by decide)),
    ↓only_ite, ↓only_iteFst, ↓only_iteSnd, ite_self, implies_true, id_eq]
  all_goals repeat' split <;> try simp only [↓State.onTick_same (away hp (by decide)),
    ↓State.setObj_same (away hp (by decide)), ↓only_ite, ↓only_iteFst, ↓only_iteSnd, ite_self, implies_true, id_eq]

theorem State.refuseRate_same {part : Part} (hp : part ∉ [.od, .tick, .net, .log, .out]) (s : State) (period : Nat) :
    (State.refuseRate s period).only part = s.only part := by
  simp only [State.refuseRate, ↓State.onTick_same (away hp (by decide)), ↓State.incr_same (away hp (by decide)),
    ↓State.emit_same (away hp (by decide)), ↓only_ite, ↓only_iteFst, ↓only_iteSnd, ite_self, implies_true, id_eq]

theorem State.loseInput_same {part : Part} (hp : part ∉ [.od, .tick, .net, .log, .out]) (s : State) :
    (State.loseInput s).only part = s.only part := by
  simp only [State.loseInput, ↓State.onTick_same (away hp (by decide)), ↓State.incr_same (away hp (by decide)),
    ↓State.emit_same (away hp (by decide)), ite_self, implies_true, id_eq]

theorem State.startSwitch_same {part : Part} (hp : part ∉ [.tick]) (s : State) (goal : TickSource) (period : Nat) (fromQualification : Bool) :
    (State.startSwitch s goal period fromQualification).only part = s.only part := by
  simp only [State.startSwitch, ↓State.onTick_same hp, ↓only_ite, ↓only_iteFst, ↓only_iteSnd, ite_self, implies_true,
    id_eq]

theorem State.abandonSwitch_same {part : Part} (hp : part ∉ [.od, .tick, .net, .log, .out]) (s : State) (x : SwitchOver) :
    (State.abandonSwitch s x).only part = s.only part := by
  simp only [State.abandonSwitch, ↓State.onTick_same (away hp (by decide)), ↓State.incr_same (away hp (by decide)),
    ↓State.emit_same (away hp (by decide)), ↓only_ite, ↓only_iteFst, ↓only_iteSnd, ite_self, implies_true, id_eq]

theorem State.passEdge_same {part : Part} (hp : part ∉ [.free, .od, .tick, .head, .net, .log, .out]) (s : State) :
    (State.passEdge s).only part = s.only part := by
  simp only [State.passEdge, ↓State.onTick_same (away hp (by decide)), ↓State.onHead_same (away hp (by decide)),
    ↓State.incr_same (away hp (by decide)), ↓State.emit_same (away hp (by decide)),
    ↓State.overrun_same (away hp (by decide)), ↓State.judgeRunning_same (away hp (by decide)), ↓only_ite,
    ↓only_iteFst, ↓only_iteSnd, only_foldl, only_foldlFst, ite_self, implies_true, id_eq]

end Sys2Proof.Machine
end

