-- ==== Sys2Proof/Laws/FrameFirmware.lean ====
section
/-! SUPPORT. The frames of the operations of Machine/Firmware.lean: the parts of the state that each one keeps. -/
namespace Sys2Proof.Machine
set_option linter.unusedSimpArgs false
set_option Elab.async false

theorem State.confirmFirmware_same {part : Part} (hp : part ∉ [.net, .log, .boot, .out]) (s : State) :
    (State.confirmFirmware s).only part = s.only part := by
  simp only [State.confirmFirmware, ↓State.onBoot_same (away hp (by decide)), ↓State.emit_same (away hp (by decide)),
    ↓only_ite, ↓only_iteFst, ↓only_iteSnd, ite_self, implies_true, id_eq]
  all_goals repeat' split <;> try simp only [↓State.onBoot_same (away hp (by decide)),
    ↓State.emit_same (away hp (by decide)), ↓only_ite, ↓only_iteFst, ↓only_iteSnd, ite_self, implies_true, id_eq]

theorem State.setSpare_same {part : Part} (hp : part ∉ [.boot]) (s : State) (x : FwBank) :
    (State.setSpare s x).only part = s.only part := by
  simp only [State.setSpare, ↓State.onBoot_same hp, ↓only_ite, ↓only_iteFst, ↓only_iteSnd, ite_self, implies_true,
    id_eq]

theorem State.updateData_same {part : Part} (hp : part ∉ [.od, .health, .boot]) (s : State) (data : List Byte) :
    (State.updateData s data).only part = s.only part := by
  simp only [State.updateData, ↓State.setObj_same (away hp (by decide)),
    ↓State.countErases_same (away hp (by decide)), ↓State.setSpare_same (away hp (by decide)), ↓only_ite,
    ↓only_iteFst, ↓only_iteSnd, ite_self, implies_true, id_eq]

theorem State.updateCommit_same {part : Part} (hp : part ∉ [.net, .log, .boot, .out]) (s : State) :
    (State.updateCommit s).only part = s.only part := by
  simp only [State.updateCommit, ↓State.onBoot_same (away hp (by decide)), ↓State.emit_same (away hp (by decide)),
    ite_self, implies_true, id_eq]

theorem State.judgedWrite_same {part : Part} (hp : part ∉ [.od, .red, .net, .log, .out]) (s : State) (p : Path) (k : Nat) (data : List Byte) (ok : Bool) (eff bad : State → State) (h_eff : ∀ s, (eff s).only part = s.only part) (h_bad : ∀ s, (bad s).only part = s.only part) :
    (State.judgedWrite s p k data ok eff bad).only part = s.only part := by
  simp only [State.judgedWrite, ↓State.acceptWrite_same (away hp (by decide)),
    ↓State.refuse_same (away hp (by decide)), ↓only_ite, ↓only_iteFst, ↓only_iteSnd, h_eff, h_bad, ite_self,
    implies_true, id_eq]

theorem State.raiseLock_same {part : Part} (hp : part ∉ [.boot]) (s : State) (v : Nat) :
    (State.raiseLock s v).only part = s.only part := by
  simp only [State.raiseLock, ↓State.onBoot_same hp, ite_self, implies_true, id_eq]

theorem State.takeKeyBlock_same {part : Part} (hp : part ∉ [.od, .net, .log, .boot, .out]) (s : State) (data : List Byte) :
    (State.takeKeyBlock s data).only part = s.only part := by
  simp only [State.takeKeyBlock, ↓State.onBoot_same (away hp (by decide)), ↓State.incr_same (away hp (by decide)),
    ↓State.emit_same (away hp (by decide)), ite_self, implies_true, id_eq]

theorem State.keyBlock_same {part : Part} (hp : part ∉ [.od, .red, .net, .log, .boot, .out]) (s : State) (p : Path) (data : List Byte) :
    (State.keyBlock s p data).only part = s.only part := by
  simp only [State.keyBlock, ↓State.incr_same (away hp (by decide)), ↓State.judgedWrite_same (away hp (by decide)),
    ↓State.takeKeyBlock_same (away hp (by decide)), ite_self, implies_true, id_eq]

end Sys2Proof.Machine
end

