-- ==== Sys2Proof/Laws/FrameTime.lean ====
section
/-! SUPPORT. The frames of the operations of Machine/Time.lean: the parts of the state that each one keeps. -/
namespace Sys2Proof.Machine
set_option linter.unusedSimpArgs false
set_option Elab.async false

theorem State.updateUtc_same {part : Part} (hp : part ∉ [.time, .net, .log, .out]) (s : State) :
    (State.updateUtc s).only part = s.only part := by
  simp only [State.updateUtc, ↓State.onTime_same (away hp (by decide)), ↓State.emit_same (away hp (by decide)),
    ↓only_ite, ↓only_iteFst, ↓only_iteSnd, ite_self, implies_true, id_eq]

theorem State.toBase_same {part : Part} (hp : part ∉ [.time, .net, .log, .out]) (s : State) (b : BaseState) (code : Nat) :
    (State.toBase s b code).only part = s.only part := by
  simp only [State.toBase, ↓State.onTime_same (away hp (by decide)), ↓State.emit_same (away hp (by decide)),
    ↓State.updateUtc_same hp, ↓only_ite, ↓only_iteFst, ↓only_iteSnd, ite_self, implies_true, id_eq]

theorem State.setActualSource_same {part : Part} (hp : part ∉ [.time, .net, .log, .out]) (s : State) (v : Nat) :
    (State.setActualSource s v).only part = s.only part := by
  simp only [State.setActualSource, ↓State.onTime_same (away hp (by decide)), ↓State.updateUtc_same hp, ↓only_ite,
    ↓only_iteFst, ↓only_iteSnd, ite_self, implies_true, id_eq]

theorem State.adoptTimeSource_same {part : Part} (hp : part ∉ [.time, .net, .log, .out]) (s : State) :
    (State.adoptTimeSource s).only part = s.only part := by
  simp only [State.adoptTimeSource, ↓State.onTime_same (away hp (by decide)), ↓State.setActualSource_same hp,
    ↓only_ite, ↓only_iteFst, ↓only_iteSnd, ite_self, implies_true, id_eq]

theorem State.takeStep_same {part : Part} (hp : part ∉ [.time, .net, .log, .health, .out]) (s : State) (p : PendingStep) :
    (State.takeStep s p).only part = s.only part := by
  simp only [State.takeStep, ↓State.onTime_same (away hp (by decide)), ↓State.emit_same (away hp (by decide)),
    ↓State.noteCalendar_same (away hp (by decide)), ite_self, implies_true, id_eq]
  all_goals repeat' split <;> try simp only [↓State.onTime_same (away hp (by decide)),
    ↓State.emit_same (away hp (by decide)), ↓State.noteCalendar_same (away hp (by decide)), ite_self, implies_true,
    id_eq]

theorem State.stepDue_same {part : Part} (hp : part ∉ [.time, .tick, .net, .log, .health, .out]) (s : State) (p : PendingStep) :
    (State.stepDue s p).only part = s.only part := by
  simp only [State.stepDue, ↓State.onTime_same (away hp (by decide)), ↓State.onTick_same (away hp (by decide)),
    ↓State.takeStep_same (away hp (by decide)), ↓only_ite, ↓only_iteFst, ↓only_iteSnd, ite_self, implies_true, id_eq]

theorem State.edgeStep_same {part : Part} (hp : part ∉ [.time, .net, .log, .health, .out]) (s : State) :
    (State.edgeStep s).only part = s.only part := by
  simp only [State.edgeStep, ↓State.onTime_same (away hp (by decide)), ↓State.takeStep_same hp, ite_self,
    implies_true, id_eq]
  all_goals repeat' split <;> try simp only [↓State.onTime_same (away hp (by decide)), ↓State.takeStep_same hp,
    ite_self, implies_true, id_eq]

theorem State.slew_same {part : Part} (hp : part ∉ [.free, .time]) (s : State) (off : Int) :
    (State.slew s off).only part = s.only part := by
  simp only [State.slew, ↓State.onTime_same (away hp (by decide)), ↓State.drew_same (away hp (by decide)), ite_self,
    implies_true, id_eq]

theorem State.baseTransition_same {part : Part} (hp : part ∉ [.time, .net, .log, .out]) (s : State) :
    (State.baseTransition s).only part = s.only part := by
  simp only [State.baseTransition, ↓State.toBase_same hp, ↓only_ite, ↓only_iteFst, ↓only_iteSnd, ite_self,
    implies_true, id_eq]
  all_goals repeat' split <;> try simp only [↓State.toBase_same hp, ↓only_ite, ↓only_iteFst, ↓only_iteSnd, ite_self,
    implies_true, id_eq]

theorem State.measure_same {part : Part} (hp : part ∉ [.free, .od, .time, .tick, .net, .log, .health, .out]) (s : State) (off : Int) (sets : Bool) :
    (State.measure s off sets).only part = s.only part := by
  simp only [State.measure, ↓State.onTime_same (away hp (by decide)), ↓State.observe_same (away hp (by decide)),
    ↓State.stepDue_same (away hp (by decide)), ↓State.slew_same (away hp (by decide)),
    ↓State.baseTransition_same (away hp (by decide)), ↓only_ite, ↓only_iteFst, ↓only_iteSnd, ite_self, implies_true,
    id_eq]

theorem State.ptpMeasure_same {part : Part} (hp : part ∉ [.free, .od, .time, .tick, .net, .log, .health, .out]) (s : State) (off : Int) :
    (State.ptpMeasure s off).only part = s.only part := by
  simp only [State.ptpMeasure, ↓State.onTime_same (away hp (by decide)), ↓State.measure_same hp, ↓only_ite,
    ↓only_iteFst, ↓only_iteSnd, ite_self, implies_true, id_eq]

theorem State.padPasses_same {part : Part} (hp : part ∉ [.free]) (s : State) (pulse : Nat) :
    (State.padPasses s pulse).2.only part = s.only part := by
  simp only [State.padPasses, ↓State.draw_same hp, ↓only_ite, ↓only_iteFst, ↓only_iteSnd, ite_self, implies_true,
    id_eq]

theorem State.ppsEdge_same {part : Part} (hp : part ∉ [.free, .od, .time, .tick, .net, .log, .health, .out]) (s : State) :
    (State.ppsEdge s).only part = s.only part := by
  simp only [State.ppsEdge, ↓State.onTime_same (away hp (by decide)), ↓State.incr_same (away hp (by decide)),
    ↓State.setActualSource_same (away hp (by decide)), ↓State.measure_same hp, ↓only_ite, ↓only_iteFst, ↓only_iteSnd,
    ite_self, implies_true, id_eq]

theorem State.loadRtc_same {part : Part} (hp : part ∉ [.time, .net, .log, .out]) (s : State) :
    (State.loadRtc s).only part = s.only part := by
  simp only [State.loadRtc, ↓State.onTime_same (away hp (by decide)), ↓State.emit_same (away hp (by decide)),
    ↓only_ite, ↓only_iteFst, ↓only_iteSnd, ite_self, implies_true, id_eq]

end Sys2Proof.Machine
end

