-- ==== Sys2Proof/Laws/FramePtp.lean ====
section
/-! SUPPORT. The frames of the operations of Machine/Ptp.lean: the parts of the state that each one keeps. -/
namespace Sys2Proof.Machine
set_option linter.unusedSimpArgs false
set_option Elab.async false

theorem State.ptpMessage_same {part : Part} (hp : part ∉ [.od]) (s : State) (h : PtpHeader) (f : State → State) (h_f : ∀ s, (f s).only part = s.only part) :
    (State.ptpMessage s h f).only part = s.only part := by
  simp only [State.ptpMessage, ↓State.incr_same hp, ↓only_ite, ↓only_iteFst, ↓only_iteSnd, h_f, ite_self,
    implies_true, id_eq]

theorem State.syncResult_same {part : Part} (hp : part ∉ [.free, .od, .time, .ptp, .tick, .net, .log, .health, .out]) (s : State) (t1 t2 : Nat) :
    (State.syncResult s t1 t2).only part = s.only part := by
  simp only [State.syncResult, ↓State.onPtp_same (away hp (by decide)), ↓State.ptpMeasure_same (away hp (by decide)),
    ite_self, implies_true, id_eq]
  all_goals repeat' split <;> try simp only [↓State.onPtp_same (away hp (by decide)),
    ↓State.ptpMeasure_same (away hp (by decide)), ite_self, implies_true, id_eq]

theorem State.takeAnnounce_same {part : Part} (hp : part ∉ [.time, .net, .log, .out]) (s : State) (a : Announce) :
    (State.takeAnnounce s a).only part = s.only part := by
  simp only [State.takeAnnounce, ↓State.onTime_same (away hp (by decide)), ↓State.updateUtc_same hp, ↓only_ite,
    ↓only_iteFst, ↓only_iteSnd, ite_self, implies_true, id_eq]

theorem State.chooseMaster_same {part : Part} (hp : part ∉ [.od, .time, .ptp, .net, .log, .out]) (s : State) :
    (State.chooseMaster s).only part = s.only part := by
  simp only [State.chooseMaster, ↓State.onPtp_same (away hp (by decide)), ↓State.incr_same (away hp (by decide)),
    ↓State.emit_same (away hp (by decide)), ↓State.takeAnnounce_same (away hp (by decide)), ↓only_ite, ↓only_iteFst,
    ↓only_iteSnd, ite_self, implies_true, id_eq]
  all_goals repeat' split <;> try simp only [↓State.onPtp_same (away hp (by decide)),
    ↓State.incr_same (away hp (by decide)), ↓State.emit_same (away hp (by decide)),
    ↓State.takeAnnounce_same (away hp (by decide)), ↓only_ite, ↓only_iteFst, ↓only_iteSnd, ite_self, implies_true,
    id_eq]

end Sys2Proof.Machine
end

