-- ==== Sys2Proof/Laws/FrameBoot.lean ====
section
/-! SUPPORT. The frames of the operations of Machine/Boot.lean: the parts of the state that each one keeps. -/
namespace Sys2Proof.Machine
set_option linter.unusedSimpArgs false
set_option Elab.async false

theorem State.clearAll_same {part : Part} (hp : part ∉ [.od, .inForce, .actual, .time, .ptp, .tick, .head, .streams, .alarm, .codec, .noise, .xfer, .comp, .link, .red, .net, .dict, .power, .log, .health, .boot, .sram, .dram]) (s : State) (env : StartEnv) (cause : Nat) :
    (State.clearAll s env cause).only part = s.only part := by
  cases part <;> first | rfl | exact absurd (by decide) hp

theorem State.clearNode_same {part : Part} (hp : part ∉ [.od, .inForce, .actual, .time, .ptp, .tick, .head, .streams, .codec, .noise, .xfer, .comp, .link, .red, .net, .dict, .power, .log, .health, .boot]) (s : State) (env : StartEnv) (cause : Nat) :
    (State.clearNode s env cause).only part = s.only part := by
  cases part <;> first | rfl | exact absurd (by decide) hp

theorem State.recovery_same {part : Part} (hp : part ∉ [.inForce, .alarm, .net, .boot, .out]) (s : State) :
    (State.recovery s).only part = s.only part := by
  simp only [State.recovery, ↓State.onAlarm_same (away hp (by decide)), ↓State.onNet_same (away hp (by decide)),
    ↓State.onBoot_same (away hp (by decide)), ↓State.adopt_same (away hp (by decide)),
    ↓State.onCtrl_same (away hp (by decide)), ↓State.sendBootUp_same (away hp (by decide)), ite_self, implies_true,
    id_eq]

theorem State.startRole_same {part : Part} (hp : part ∉ [.link, .red, .net, .log, .out]) (s : State) :
    (State.startRole s).only part = s.only part := by
  simp only [State.startRole, ↓State.onRed_same (away hp (by decide)), ↓State.emit_same (away hp (by decide)),
    ↓State.roleTo_same hp, ↓State.startJoins_same hp, ↓only_ite, ↓only_iteFst, ↓only_iteSnd, ite_self, implies_true,
    id_eq]

theorem State.trainDram_same {part : Part} (hp : part ∉ [.net, .log, .boot, .out]) (s : State) :
    (State.trainDram s).only part = s.only part := by
  simp only [State.trainDram, ↓State.onBoot_same (away hp (by decide)), ↓State.emit_same (away hp (by decide)),
    ↓only_ite, ↓only_iteFst, ↓only_iteSnd, ite_self, implies_true, id_eq]

theorem State.startEcc_same {part : Part} (hp : part ∉ [.boot, .dram]) (s : State) :
    (State.startEcc s).only part = s.only part := by
  simp only [State.startEcc, ↓State.onBoot_same (away hp (by decide)), ↓State.setDram_same (away hp (by decide)),
    ↓only_ite, ↓only_iteFst, ↓only_iteSnd, ite_self, implies_true, id_eq]

theorem State.startImage_same {part : Part} (hp : part ∉ [.od, .head, .net, .log, .out]) (s : State) :
    (State.startImage s).only part = s.only part := by
  simp only [State.startImage, ↓State.emit_same (away hp (by decide)), ↓State.loadImage_same hp, ↓only_ite,
    ↓only_iteFst, ↓only_iteSnd, ite_self, implies_true, id_eq]

theorem State.startAdopt_same {part : Part} (hp : part ∉ [.inForce]) (s : State) :
    (State.startAdopt s).only part = s.only part := by
  simp only [State.startAdopt, ↓State.setInForce_same hp, ite_self, implies_true, id_eq]

theorem State.startMonitors_same {part : Part} (hp : part ∉ [.health]) (s : State) :
    (State.startMonitors s).only part = s.only part := by
  simp only [State.startMonitors, ↓State.onHealth_same hp, ite_self, implies_true, id_eq]

theorem State.startUtc_same {part : Part} (hp : part ∉ [.time]) (s : State) :
    (State.startUtc s).only part = s.only part := by
  simp only [State.startUtc, ↓State.onTime_same hp, ite_self, implies_true, id_eq]

theorem State.startStep3_same {part : Part} (hp : part ∉ [.od, .inForce, .time, .tick, .alarm, .net, .dict, .power, .log, .health, .boot, .out]) (s : State) (guard : Bool) :
    (State.startStep3 s guard).only part = s.only part := by
  simp only [State.startStep3, ↓State.onBoot_same (away hp (by decide)),
    ↓State.startCommit_same (away hp (by decide)), ↓State.restoreAll_same (away hp (by decide)),
    ↓State.syncPartners_same (away hp (by decide)), ↓State.startTick_same (away hp (by decide)),
    ↓State.adoptTimeSource_same (away hp (by decide)), ↓State.startAdopt_same (away hp (by decide)),
    ↓State.startMonitors_same (away hp (by decide)), ↓State.startUtc_same (away hp (by decide)), ↓only_ite,
    ↓only_iteFst, ↓only_iteSnd, ite_self, implies_true, id_eq]

theorem State.startSteps_same {part : Part} (hp : part ∉ [.od, .head, .link, .red, .net, .log, .boot, .dram, .out]) (s : State) (guard : Bool) :
    (State.startSteps s guard).only part = s.only part := by
  simp only [State.startSteps, ↓State.setObj_same (away hp (by decide)), ↓State.emit_same (away hp (by decide)),
    ↓State.startCtrl_same (away hp (by decide)), ↓State.leaveInitialisation_same (away hp (by decide)),
    ↓State.startRole_same (away hp (by decide)), ↓State.trainDram_same (away hp (by decide)),
    ↓State.startEcc_same (away hp (by decide)), ↓State.startImage_same (away hp (by decide)), ↓only_ite,
    ↓only_iteFst, ↓only_iteSnd, ite_self, implies_true, id_eq]

theorem State.bootRom_same {part : Part} (hp : part ∉ [.od, .inForce, .time, .tick, .head, .alarm, .link, .red, .net, .dict, .power, .log, .health, .boot, .dram, .out]) (s : State) (guard : Bool) :
    (State.bootRom s guard).only part = s.only part := by
  simp only [State.bootRom, ↓State.onBoot_same (away hp (by decide)), ↓State.emit_same (away hp (by decide)),
    ↓State.recovery_same (away hp (by decide)), ↓State.startStep3_same (away hp (by decide)),
    ↓State.startSteps_same (away hp (by decide)), ↓only_ite, ↓only_iteFst, ↓only_iteSnd, ite_self, implies_true, id_eq]
  all_goals repeat' split <;> try simp only [↓State.onBoot_same (away hp (by decide)),
    ↓State.emit_same (away hp (by decide)), ↓State.recovery_same (away hp (by decide)),
    ↓State.startStep3_same (away hp (by decide)), ↓State.startSteps_same (away hp (by decide)), ↓only_ite,
    ↓only_iteFst, ↓only_iteSnd, ite_self, implies_true, id_eq]

theorem State.reportTrip_same {part : Part} (hp : part ∉ [.net, .power, .log, .out]) (s : State) :
    (State.reportTrip s).only part = s.only part := by
  simp only [State.reportTrip, ↓State.onPower_same (away hp (by decide)), ↓State.emit_same (away hp (by decide)),
    ↓only_ite, ↓only_iteFst, ↓only_iteSnd, ite_self, implies_true, id_eq]

theorem State.fullStart_same {part : Part} (hp : part ∉ [.od, .inForce, .actual, .time, .ptp, .tick, .head, .streams, .alarm, .codec, .noise, .xfer, .comp, .link, .red, .net, .dict, .power, .log, .health, .boot, .sram, .dram, .out]) (s : State) (env : StartEnv) (cause : Nat) :
    (State.fullStart s env cause).only part = s.only part := by
  simp only [State.fullStart, ↓State.startLifetime_same (away hp (by decide)),
    ↓State.noteCalendar_same (away hp (by decide)), ↓State.dropStore_same (away hp (by decide)),
    ↓State.loadRtc_same (away hp (by decide)), ↓State.clearAll_same (away hp (by decide)),
    ↓State.bootRom_same (away hp (by decide)), ↓State.reportTrip_same (away hp (by decide)), ite_self, implies_true,
    id_eq]

theorem State.resetNode_same {part : Part} (hp : part ∉ [.od, .inForce, .actual, .time, .ptp, .tick, .head, .streams, .alarm, .codec, .noise, .xfer, .comp, .link, .red, .net, .dict, .power, .log, .health, .boot, .dram, .out]) (s : State) (env : StartEnv) (cause : Nat) :
    (State.resetNode s env cause).only part = s.only part := by
  simp only [State.resetNode, ↓State.stopPorts_same (away hp (by decide)), ↓State.unclaim_same (away hp (by decide)),
    ↓State.dropStore_same (away hp (by decide)), ↓State.clearNode_same (away hp (by decide)),
    ↓State.bootRom_same (away hp (by decide)), ite_self, implies_true, id_eq]

theorem State.commandReset_same {part : Part} (hp : part ∉ [.od, .inForce, .actual, .time, .ptp, .tick, .head, .streams, .alarm, .codec, .noise, .xfer, .comp, .link, .red, .net, .dict, .power, .log, .health, .boot, .dram, .out]) (s : State) (env : StartEnv) :
    (State.commandReset s env).only part = s.only part := by
  simp only [State.commandReset, ↓State.appendLifetime_same (away hp (by decide)), ↓State.resetNode_same hp,
    ↓only_ite, ↓only_iteFst, ↓only_iteSnd, ite_self, implies_true, id_eq]

theorem State.pendingReset_same {part : Part} (hp : part ∉ [.od, .inForce, .actual, .time, .ptp, .tick, .head, .streams, .alarm, .codec, .noise, .xfer, .comp, .link, .red, .net, .dict, .power, .log, .health, .boot, .dram, .out]) (s : State) :
    (State.pendingReset s).only part = s.only part := by
  simp only [State.pendingReset, ↓State.resetNode_same hp, ↓only_ite, ↓only_iteFst, ↓only_iteSnd, ite_self,
    implies_true, id_eq]

theorem State.committed_same {part : Part} (hp : part ∉ [.od, .inForce, .time, .tick, .head, .alarm, .link, .red, .net, .dict, .power, .log, .health, .boot, .dram, .out]) (s : State) :
    (State.committed s).only part = s.only part := by
  simp only [State.committed, ↓State.onNet_same (away hp (by decide)),
    ↓State.updateCommit_same (away hp (by decide)), ↓State.bootRom_same hp, ↓only_ite, ↓only_iteFst, ↓only_iteSnd,
    ite_self, implies_true, id_eq]

theorem State.commitUpdate_same {part : Part} (hp : part ∉ [.od, .inForce, .time, .tick, .head, .alarm, .link, .red, .net, .dict, .power, .log, .health, .boot, .dram, .out]) (s : State) (p : Path) (data : List Byte) :
    (State.commitUpdate s p data).only part = s.only part := by
  simp only [State.commitUpdate, ↓State.onBoot_same (away hp (by decide)),
    ↓State.judgedWrite_same (away hp (by decide)), ↓State.committed_same hp, ite_self, implies_true, id_eq]

end Sys2Proof.Machine
end

