-- ==== Sys2Proof/Laws/FrameDictionary.lean ====
section
/-! SUPPORT. The frames of the operations of Machine/Dictionary.lean: the parts of the state that each one keeps. -/
namespace Sys2Proof.Machine
set_option linter.unusedSimpArgs false
set_option Elab.async false

theorem State.writeTimed_same {part : Part} (hp : part ∉ [.od, .inForce, .time, .tick, .streams, .net, .log, .health, .out]) (s : State) (k v : Nat) :
    (State.writeTimed s k v).only part = s.only part := by
  simp only [State.writeTimed, ↓State.onTime_same (away hp (by decide)), ↓State.onTick_same (away hp (by decide)),
    ↓State.request_same (away hp (by decide)), ↓State.tickRequest_same (away hp (by decide)),
    ↓State.updateUtc_same (away hp (by decide)), ↓State.adoptTimeSource_same (away hp (by decide)),
    ↓State.stepDue_same (away hp (by decide)), ↓only_ite, ↓only_iteFst, ↓only_iteSnd, ite_self, implies_true, id_eq]

theorem State.writeAlarm_same {part : Part} (hp : part ∉ [.od, .inForce, .streams, .alarm, .net, .power, .log, .out]) (s : State) (k v : Nat) :
    (State.writeAlarm s k v).only part = s.only part := by
  simp only [State.writeAlarm, ↓State.request_same (away hp (by decide)),
    ↓State.requestCommit_same (away hp (by decide)), ↓State.clearLatches_same (away hp (by decide)), ↓only_ite,
    ↓only_iteFst, ↓only_iteSnd, ite_self, implies_true, id_eq]

theorem State.writeEngine_same {part : Part} (hp : part ∉ [.od, .inForce, .streams, .codec, .net, .log, .out]) (s : State) (k v : Nat) :
    (State.writeEngine s k v).only part = s.only part := by
  simp only [State.writeEngine, ↓State.setObj_same (away hp (by decide)), ↓State.request_same (away hp (by decide)),
    ↓State.forceIdr_same (away hp (by decide)), ↓only_ite, ↓only_iteFst, ↓only_iteSnd, ite_self, implies_true, id_eq]

theorem State.writeMove_same {part : Part} (hp : part ∉ [.od, .inForce, .head, .streams, .codec, .xfer, .comp, .link, .net, .log, .sram, .dram, .out]) (s : State) (k v : Nat) :
    (State.writeMove s k v).only part = s.only part := by
  simp only [State.writeMove, ↓State.request_same (away hp (by decide)), ↓State.respond_same (away hp (by decide)),
    ↓State.invalidate_same (away hp (by decide)), ↓State.loadImage_same (away hp (by decide)),
    ↓State.reloadSlot_same (away hp (by decide)), ↓State.switchQueue_same (away hp (by decide)),
    ↓State.resetQueue_same (away hp (by decide)), ↓only_ite, ↓only_iteFst, ↓only_iteSnd, ite_self, implies_true, id_eq]

theorem State.roleCommand_same {part : Part} (hp : part ∉ [.od, .inForce, .time, .tick, .head, .streams, .alarm, .codec, .xfer, .comp, .link, .red, .net, .dict, .power, .log, .health, .boot, .sram, .dram, .out]) (s : State) (v : Nat) :
    (State.roleCommand s v).only part = s.only part := by
  simp only [State.roleCommand, ↓State.onRed_same (away hp (by decide)), ↓State.roleTo_same (away hp (by decide)),
    ↓State.claim_same (away hp (by decide)), ↓State.unclaim_same (away hp (by decide)),
    ↓State.becomeActive_same (away hp (by decide)), ↓State.restore_same hp,
    ↓State.resolve_same (away hp (by decide)), ↓only_ite, ↓only_iteFst, ↓only_iteSnd, ite_self, implies_true, id_eq]
  all_goals repeat' split <;> try simp only [↓State.onRed_same (away hp (by decide)),
    ↓State.roleTo_same (away hp (by decide)), ↓State.claim_same (away hp (by decide)),
    ↓State.unclaim_same (away hp (by decide)), ↓State.becomeActive_same (away hp (by decide)),
    ↓State.restore_same hp, ↓State.resolve_same (away hp (by decide)), ↓only_ite, ↓only_iteFst, ↓only_iteSnd,
    ite_self, implies_true, id_eq]

theorem State.writeMode_same {part : Part} (hp : part ∉ [.od, .inForce, .time, .tick, .head, .streams, .alarm, .codec, .xfer, .comp, .link, .red, .net, .dict, .power, .log, .health, .boot, .sram, .dram, .out]) (s : State) (k v : Nat) :
    (State.writeMode s k v).only part = s.only part := by
  simp only [State.writeMode, ↓State.request_same (away hp (by decide)),
    ↓State.requestRole_same (away hp (by decide)), ↓State.noteReturn_same (away hp (by decide)),
    ↓State.lowPower_same (away hp (by decide)), ↓State.roleCommand_same hp, ↓only_ite, ↓only_iteFst, ↓only_iteSnd,
    ite_self, implies_true, id_eq]

theorem State.writeHealth_same {part : Part} (hp : part ∉ [.od, .inForce, .streams, .net, .log, .health, .out]) (s : State) (k v : Nat) :
    (State.writeHealth s k v).only part = s.only part := by
  simp only [State.writeHealth, ↓State.request_same (away hp (by decide)),
    ↓State.setMonitor_same (away hp (by decide)), ↓State.monitorControl_same (away hp (by decide)),
    ↓State.freeze_same (away hp (by decide)), ↓State.releaseFreeze_same (away hp (by decide)), ↓only_ite,
    ↓only_iteFst, ↓only_iteSnd, ite_self, implies_true, id_eq]

theorem State.writeBoot_same {part : Part} (hp : part ∉ [.od, .inForce, .streams, .net, .log, .health, .boot, .out]) (s : State) (k : Nat) (data : List Byte) :
    (State.writeBoot s k data).only part = s.only part := by
  simp only [State.writeBoot, ↓State.onBoot_same (away hp (by decide)), ↓State.request_same (away hp (by decide)),
    ↓State.confirmFirmware_same (away hp (by decide)), ↓State.updateData_same (away hp (by decide)),
    ↓State.raiseLock_same (away hp (by decide)), ↓only_ite, ↓only_iteFst, ↓only_iteSnd, ite_self, implies_true, id_eq]

theorem State.writeEffect_same {part : Part} (hp : part ∉ [.od, .inForce, .time, .tick, .head, .streams, .alarm, .codec, .xfer, .comp, .link, .red, .net, .dict, .power, .log, .health, .boot, .sram, .dram, .out]) (s : State) (k : Nat) (data : List Byte) :
    (State.writeEffect s k data).only part = s.only part := by
  simp only [State.writeEffect, ↓State.request_same (away hp (by decide)),
    ↓State.onStream_same (away hp (by decide)), ↓State.onCtrl_same (away hp (by decide)),
    ↓State.writeTimed_same (away hp (by decide)), ↓State.writeAlarm_same (away hp (by decide)),
    ↓State.writeEngine_same (away hp (by decide)), ↓State.writeMove_same (away hp (by decide)),
    ↓State.writeMode_same hp, ↓State.writeHealth_same (away hp (by decide)),
    ↓State.writeBoot_same (away hp (by decide)), ↓only_ite, ↓only_iteFst, ↓only_iteSnd, ite_self, implies_true, id_eq]
  all_goals repeat' split <;> try simp only [↓State.request_same (away hp (by decide)),
    ↓State.onStream_same (away hp (by decide)), ↓State.onCtrl_same (away hp (by decide)),
    ↓State.writeTimed_same (away hp (by decide)), ↓State.writeAlarm_same (away hp (by decide)),
    ↓State.writeEngine_same (away hp (by decide)), ↓State.writeMove_same (away hp (by decide)),
    ↓State.writeMode_same hp, ↓State.writeHealth_same (away hp (by decide)),
    ↓State.writeBoot_same (away hp (by decide)), ↓only_ite, ↓only_iteFst, ↓only_iteSnd, ite_self, implies_true, id_eq]

theorem State.applyWrite_same {part : Part} (hp : part ∉ [.od, .inForce, .time, .tick, .head, .streams, .alarm, .codec, .xfer, .comp, .link, .red, .net, .dict, .power, .log, .health, .boot, .sram, .dram, .out]) (s : State) (p : Path) (k : Nat) (data : List Byte) :
    (State.applyWrite s p k data).only part = s.only part := by
  simp only [State.applyWrite, ↓State.controlled_same (away hp (by decide)),
    ↓State.askStore_same (away hp (by decide)), ↓State.askRestore_same (away hp (by decide)),
    ↓State.keyBlock_same (away hp (by decide)), ↓State.commitUpdate_same (away hp (by decide)),
    ↓State.writeEffect_same hp, ↓only_ite, ↓only_iteFst, ↓only_iteSnd, ite_self, implies_true, id_eq]

theorem State.takeRpdo_same {part : Part} (hp : part ∉ [.od, .inForce, .time, .tick, .head, .streams, .alarm, .codec, .xfer, .comp, .link, .red, .net, .dict, .power, .log, .health, .boot, .sram, .dram, .out]) (s : State) (n : Nat) (data : List Byte) :
    (State.takeRpdo s n data).only part = s.only part := by
  simp only [State.takeRpdo, ↓State.setObj_same (away hp (by decide)), ↓State.applyWrite_same hp, ↓only_ite,
    ↓only_iteFst, ↓only_iteSnd, only_foldl, only_foldlFst, ite_self, implies_true, id_eq]

theorem State.serveUdp_same {part : Part} (hp : part ∉ [.free, .od, .inForce, .time, .tick, .head, .streams, .alarm, .codec, .xfer, .comp, .link, .red, .net, .dict, .power, .log, .health, .boot, .sram, .dram, .out]) (s : State) (r : UdpRequest) :
    (State.serveUdp s r).1.only part = s.only part := by
  simp only [State.serveUdp, ↓State.draw_same (away hp (by decide)), ↓State.refuse_same (away hp (by decide)),
    ↓State.applyWrite_same (away hp (by decide)), ↓only_ite, ↓only_iteFst, ↓only_iteSnd, ite_self, implies_true, id_eq]
  all_goals repeat' split <;> try simp only [↓State.draw_same (away hp (by decide)),
    ↓State.refuse_same (away hp (by decide)), ↓State.applyWrite_same (away hp (by decide)), ↓only_ite, ↓only_iteFst,
    ↓only_iteSnd, ite_self, implies_true, id_eq]

theorem State.answerUdp_same {part : Part} (hp : part ∉ [.free, .od, .inForce, .time, .tick, .head, .streams, .alarm, .codec, .xfer, .comp, .link, .red, .net, .dict, .power, .log, .health, .boot, .sram, .dram, .out]) (s : State) (src port : Nat) (r : UdpRequest) :
    (State.answerUdp s src port r).only part = s.only part := by
  simp only [State.answerUdp, ↓State.onDict_same (away hp (by decide)), ↓State.incr_same (away hp (by decide)),
    ↓State.transmitUdp_same (away hp (by decide)), ↓State.serveUdp_same hp, ite_self, implies_true, id_eq]
  all_goals repeat' split <;> try simp only [↓State.onDict_same (away hp (by decide)),
    ↓State.incr_same (away hp (by decide)), ↓State.transmitUdp_same (away hp (by decide)), ↓State.serveUdp_same hp,
    ite_self, implies_true, id_eq]

theorem State.selectObject_same {part : Part} (hp : part ∉ [.dict]) (s : State) (k : Nat) :
    (State.selectObject s k).only part = s.only part := by
  simp only [State.selectObject, ↓State.onDict_same hp, ↓only_ite, ↓only_iteFst, ↓only_iteSnd, ite_self,
    implies_true, id_eq]

theorem State.dropHostCopies_same {part : Part} (hp : part ∉ [.xfer, .dict]) (s : State) :
    (State.dropHostCopies s).only part = s.only part := by
  simp only [State.dropHostCopies, ↓State.onXfer_same (away hp (by decide)),
    ↓State.onDict_same (away hp (by decide)), ite_self, implies_true, id_eq]

theorem State.detachHost_same {part : Part} (hp : part ∉ [.od, .head, .streams, .codec, .xfer, .comp, .link, .net, .dict, .log, .boot, .out]) (s : State) :
    (State.detachHost s).only part = s.only part := by
  simp only [State.detachHost, ↓State.onBoot_same (away hp (by decide)), ↓State.emit_same (away hp (by decide)),
    ↓State.hostFaults_same (away hp (by decide)), ↓State.dropMoving_same (away hp (by decide)),
    ↓State.dropHostCopies_same (away hp (by decide)), ↓only_ite, ↓only_iteFst, ↓only_iteSnd, only_foldl,
    only_foldlFst, ite_self, implies_true, id_eq]

end Sys2Proof.Machine
end

