-- ==== Sys2Proof/Laws/FrameEdge.lean ====
section
/-! SUPPORT. The frames of the operations of Machine/Edge.lean: the parts of the state that each one keeps. -/
namespace Sys2Proof.Machine
set_option linter.unusedSimpArgs false
set_option Elab.async false

theorem State.numberEdge_same {part : Part} (hp : part ∉ [.tick, .health]) (s : State) :
    (State.numberEdge s).only part = s.only part := by
  simp only [State.numberEdge, ↓State.onTick_same (away hp (by decide)), ↓State.onHealth_same (away hp (by decide)),
    ite_self, implies_true, id_eq]

theorem State.takeNominal_same {part : Part} (hp : part ∉ [.od, .tick]) (s : State) (r : Nat) :
    (State.takeNominal s r).only part = s.only part := by
  simp only [State.takeNominal, ↓State.onTick_same (away hp (by decide)), ↓State.incr_same (away hp (by decide)),
    ↓only_ite, ↓only_iteFst, ↓only_iteSnd, ite_self, implies_true, id_eq]
  all_goals repeat' split <;> try simp only [↓State.onTick_same (away hp (by decide)),
    ↓State.incr_same (away hp (by decide)), ↓only_ite, ↓only_iteFst, ↓only_iteSnd, ite_self, implies_true, id_eq]

theorem State.adoptNominal_same {part : Part} (hp : part ∉ [.od, .tick, .net, .log, .out]) (s : State) :
    (State.adoptNominal s).only part = s.only part := by
  simp only [State.adoptNominal, ↓State.incr_same (away hp (by decide)), ↓State.emit_same (away hp (by decide)),
    ↓State.takeNominal_same (away hp (by decide)), ↓only_ite, ↓only_iteFst, ↓only_iteSnd, ite_self, implies_true,
    id_eq]

theorem State.sourceTickIn_same {part : Part} (hp : part ∉ [.tick, .net, .log, .out]) (s : State) :
    (State.sourceTickIn s).only part = s.only part := by
  simp only [State.sourceTickIn, ↓State.onTick_same (away hp (by decide)), ↓State.emit_same (away hp (by decide)),
    ite_self, implies_true, id_eq]

theorem State.sourceOwn_same {part : Part} (hp : part ∉ [.od, .tick, .net, .log, .out]) (s : State) (goal : TickSource) :
    (State.sourceOwn s goal).only part = s.only part := by
  simp only [State.sourceOwn, ↓State.onTick_same (away hp (by decide)), ↓State.incr_same (away hp (by decide)),
    ↓State.emit_same (away hp (by decide)), ↓State.startSwitch_same (away hp (by decide)), ↓only_ite, ↓only_iteFst,
    ↓only_iteSnd, ite_self, implies_true, id_eq]

theorem State.adoptSource_same {part : Part} (hp : part ∉ [.od, .tick, .net, .log, .out]) (s : State) :
    (State.adoptSource s).only part = s.only part := by
  simp only [State.adoptSource, ↓State.onTick_same (away hp (by decide)),
    ↓State.sourceTickIn_same (away hp (by decide)), ↓State.sourceOwn_same hp, ↓only_ite, ↓only_iteFst, ↓only_iteSnd,
    ite_self, implies_true, id_eq]

theorem State.adoptPhase_same {part : Part} (hp : part ∉ [.tick]) (s : State) :
    (State.adoptPhase s).only part = s.only part := by
  simp only [State.adoptPhase, ↓State.onTick_same hp, ↓only_ite, ↓only_iteFst, ↓only_iteSnd, ite_self, implies_true,
    id_eq]

theorem State.adoptObjects_same {part : Part} (hp : part ∉ [.inForce, .time, .net, .log, .out]) (s : State) :
    (State.adoptObjects s).only part = s.only part := by
  simp only [State.adoptObjects, ↓State.setInForce_same (away hp (by decide)),
    ↓State.syncPartners_same (away hp (by decide)), ↓State.updateUtc_same (away hp (by decide)),
    ↓State.adoptTimeSource_same (away hp (by decide)), ite_self, implies_true, id_eq]

theorem State.adoptTick_same {part : Part} (hp : part ∉ [.od, .tick, .net, .log, .out]) (s : State) :
    (State.adoptTick s).only part = s.only part := by
  simp only [State.adoptTick, ↓State.adoptNominal_same hp, ↓State.adoptSource_same hp,
    ↓State.adoptPhase_same (away hp (by decide)), ite_self, implies_true, id_eq]

theorem State.edgeTime_same {part : Part} (hp : part ∉ [.time, .tick, .net, .log, .health, .out]) (s : State) :
    (State.edgeTime s).only part = s.only part := by
  simp only [State.edgeTime, ↓State.onTick_same (away hp (by decide)), ↓State.edgeStep_same (away hp (by decide)),
    ↓only_ite, ↓only_iteFst, ↓only_iteSnd, ite_self, implies_true, id_eq]

theorem State.loadValue_same {part : Part} (hp : part ∉ [.od, .inForce, .time, .tick, .head, .streams, .alarm, .codec, .xfer, .comp, .link, .red, .net, .dict, .power, .log, .health, .boot, .sram, .dram, .out]) (s : State) (k : Nat) (data : List Byte) :
    (State.loadValue s k data).only part = s.only part := by
  simp only [State.loadValue, ↓State.writeEffect_same hp, ↓only_ite, ↓only_iteFst, ↓only_iteSnd, ite_self,
    implies_true, id_eq]

theorem State.loadConfig_same {part : Part} (hp : part ∉ [.od, .inForce, .time, .tick, .head, .streams, .alarm, .codec, .xfer, .comp, .link, .red, .net, .dict, .power, .log, .health, .boot, .sram, .dram, .out]) (s : State) (e : Epoch) :
    (State.loadConfig s e).only part = s.only part := by
  simp only [State.loadConfig, ↓State.onRed_same (away hp (by decide)), ↓State.loadValue_same hp, ↓only_ite,
    ↓only_iteFst, ↓only_iteSnd, only_foldl, only_foldlFst, ite_self, implies_true, id_eq]

theorem State.applyJournal_same {part : Part} (hp : part ∉ [.od, .inForce, .time, .tick, .head, .streams, .alarm, .codec, .xfer, .comp, .link, .red, .net, .dict, .power, .log, .health, .boot, .sram, .dram, .out]) (s : State) (z1 : List (Nat × Nat × List Byte)) :
    (State.applyJournal s z1).only part = s.only part := by
  induction z1 generalizing s with
  | nil => simp only [State.applyJournal]
  | cons z zs ih =>
    simp only [State.applyJournal, ↓State.onRed_same (away hp (by decide)),
      ↓State.incr_same (away hp (by decide)), ↓State.emit_same (away hp (by decide)),
      ↓State.refuseEpoch_same (away hp (by decide)), ↓State.applyWrite_same hp, ↓only_ite, ↓only_iteFst,
      ↓only_iteSnd, ih, ite_self, implies_true, id_eq]

theorem State.ackJournal_same {part : Part} (hp : part ∉ [.od, .inForce, .time, .tick, .head, .alarm, .link, .red, .net, .dict, .power, .log, .health, .boot, .dram, .out]) (s : State) :
    (State.ackJournal s).only part = s.only part := by
  simp only [State.ackJournal, ↓State.sendFrame_same (away hp (by decide)), ↓State.committed_same hp, ite_self,
    implies_true, id_eq]

theorem State.edgeJournal_same {part : Part} (hp : part ∉ [.od, .inForce, .time, .tick, .head, .streams, .alarm, .codec, .xfer, .comp, .link, .red, .net, .dict, .power, .log, .health, .boot, .sram, .dram, .out]) (s : State) :
    (State.edgeJournal s).only part = s.only part := by
  simp only [State.edgeJournal, ↓State.committed_same (away hp (by decide)), ↓State.loadConfig_same hp,
    ↓State.applyJournal_same hp, ↓State.ackJournal_same (away hp (by decide)), ↓only_ite, ↓only_iteFst, ↓only_iteSnd,
    ite_self, implies_true, id_eq]
  all_goals repeat' split <;> try simp only [↓State.committed_same (away hp (by decide)), ↓State.loadConfig_same hp,
    ↓State.applyJournal_same hp, ↓State.ackJournal_same (away hp (by decide)), ↓only_ite, ↓only_iteFst, ↓only_iteSnd,
    ite_self, implies_true, id_eq]

theorem State.observeEdge_same {part : Part} (hp : part ∉ [.od, .net, .log, .health, .out]) (s : State) (before : Option Nat) :
    (State.observeEdge s before).only part = s.only part := by
  simp only [State.observeEdge, ↓State.onHealth_same (away hp (by decide)), ↓State.observe_same hp, only_foldl,
    only_foldlFst, ite_self, implies_true, id_eq]
  all_goals repeat' split <;> try simp only [↓State.onHealth_same (away hp (by decide)), ↓State.observe_same hp,
    only_foldl, only_foldlFst, ite_self, implies_true, id_eq]

theorem State.tickSummary_same {part : Part} (hp : part ∉ [.net, .log, .out]) (s : State) (admitted : Nat) :
    (State.tickSummary s admitted).only part = s.only part := by
  simp only [State.tickSummary, ↓State.emit_same hp, ite_self, implies_true, id_eq]

theorem State.edgeReady_same {part : Part} (hp : part ∉ [.boot]) (s : State) :
    (State.edgeReady s).only part = s.only part := by
  simp only [State.edgeReady, ↓State.onBoot_same hp, ↓only_ite, ↓only_iteFst, ↓only_iteSnd, ite_self, implies_true,
    id_eq]

theorem State.edgeComplete_same {part : Part} (hp : part ∉ [.net, .log, .boot, .out]) (s : State) :
    (State.edgeComplete s).only part = s.only part := by
  simp only [State.edgeComplete, ↓State.onBoot_same (away hp (by decide)), ↓State.emit_same (away hp (by decide)),
    ↓State.confirmFirmware_same hp, ↓only_ite, ↓only_iteFst, ↓only_iteSnd, ite_self, implies_true, id_eq]

theorem State.sendTicks_same {part : Part} (hp : part ∉ [.out]) (s : State) :
    (State.sendTicks s).only part = s.only part := by
  simp only [State.sendTicks, ↓State.blockUp_same hp, ite_self, implies_true, id_eq]

theorem State.restartFrames_same {part : Part} (hp : part ∉ [.od, .link, .red, .out]) (s : State) :
    (State.restartFrames s).only part = s.only part := by
  simp only [State.restartFrames, ↓State.onRed_same (away hp (by decide)), ↓State.onPort_same (away hp (by decide)),
    ↓State.pumpAll_same (away hp (by decide)), only_foldl, only_foldlFst, ite_self, implies_true, id_eq]

theorem State.edgeLoad_same {part : Part} (hp : part ∉ [.od, .inForce, .tick, .head, .streams, .codec, .comp, .link, .net, .dict, .log, .out]) (s : State) :
    (State.edgeLoad s).only part = s.only part := by
  simp only [State.edgeLoad, ↓State.edgeImage_same (away hp (by decide)),
    ↓State.repeatIdent_same (away hp (by decide)), ↓only_ite, ↓only_iteFst, ↓only_iteSnd, ite_self, implies_true,
    id_eq]

theorem State.skippedEpoch_same {part : Part} (hp : part ∉ [.od, .net, .log, .out]) (s : State) :
    (State.skippedEpoch s).only part = s.only part := by
  simp only [State.skippedEpoch, ↓State.loseEpoch_same hp, ↓only_ite, ↓only_iteFst, ↓only_iteSnd, ite_self,
    implies_true, id_eq]

theorem State.edgeAdmit_same {part : Part} (hp : part ∉ [.od, .actual, .head, .streams, .codec, .xfer, .comp, .link, .net, .power, .log, .health, .out]) (s : State) :
    (State.edgeAdmit s).only part = s.only part := by
  simp only [State.edgeAdmit, ↓State.admission_same hp, ↓State.skippedEpoch_same (away hp (by decide)), ite_self,
    implies_true, id_eq]

theorem State.edgeWork_same {part : Part} (hp : part ∉ [.free, .od, .actual, .head, .streams, .alarm, .codec, .noise, .xfer, .comp, .link, .red, .net, .power, .log, .health, .sram, .dram, .out]) (s : State) :
    (State.edgeWork s).only part = s.only part := by
  simp only [State.edgeWork, ↓State.edgeDefer_same (away hp (by decide)),
    ↓State.enterWatch_same (away hp (by decide)), ↓State.enterOff_same (away hp (by decide)),
    ↓State.tickSummary_same (away hp (by decide)), ↓State.edgeAdmit_same (away hp (by decide)), ite_self,
    implies_true, id_eq]
  all_goals repeat' split <;> try simp only [↓State.edgeDefer_same (away hp (by decide)),
    ↓State.enterWatch_same (away hp (by decide)), ↓State.enterOff_same (away hp (by decide)),
    ↓State.tickSummary_same (away hp (by decide)), ↓State.edgeAdmit_same (away hp (by decide)), ite_self,
    implies_true, id_eq]

theorem State.edgeCeiling_same {part : Part} (hp : part ∉ [.tick]) (s : State) :
    (State.edgeCeiling s).only part = s.only part := by
  simp only [State.edgeCeiling, ↓State.onTick_same hp, ↓State.pickAlternative_same hp, ite_self, implies_true, id_eq]

theorem State.edgeModes_same {part : Part} (hp : part ∉ [.od, .tick, .net, .power, .log, .out]) (s : State) (leaves : Bool) :
    (State.edgeModes s leaves).only part = s.only part := by
  simp only [State.edgeModes, ↓State.edgeMode_same hp, ↓State.leaveWatch_same hp, ↓only_ite, ↓only_iteFst,
    ↓only_iteSnd, ite_self, implies_true, id_eq]

theorem State.edgeEnds_same {part : Part} (hp : part ∉ [.free, .od, .head, .streams, .codec, .xfer, .comp, .link, .net, .log, .out]) (s : State) :
    (State.edgeEnds s).only part = s.only part := by
  simp only [State.edgeEnds, ↓State.abortMacB_same hp, ↓State.edgeJudge_same hp,
    ↓State.edgeOccupancy_same (away hp (by decide)), ↓only_ite, ↓only_iteFst, ↓only_iteSnd, ite_self, implies_true,
    id_eq]

theorem State.edgePair_same {part : Part} (hp : part ∉ [.od, .inForce, .time, .tick, .head, .alarm, .link, .red, .net, .dict, .power, .log, .health, .boot, .dram, .out]) (s : State) :
    (State.edgePair s).only part = s.only part := by
  simp only [State.edgePair, ↓State.edgeWarm_same (away hp (by decide)),
    ↓State.edgeHandover_same (away hp (by decide)), ↓State.edgeTakeover_same hp, ite_self, implies_true, id_eq]

theorem State.edgeUnits_same {part : Part} (hp : part ∉ [.od, .inForce, .tick, .head, .streams, .alarm, .codec, .comp, .link, .net, .dict, .log, .health, .out]) (s : State) :
    (State.edgeUnits s).only part = s.only part := by
  simp only [State.edgeUnits, ↓State.adoptMonitors_same (away hp (by decide)),
    ↓State.edgeTrips_same (away hp (by decide)), ↓State.edgeStreams_same (away hp (by decide)),
    ↓State.edgeBand_same (away hp (by decide)), ↓State.edgeSlots_same (away hp (by decide)),
    ↓State.edgeLoad_same (away hp (by decide)), ite_self, implies_true, id_eq]

theorem State.workingEdge_same {part : Part} (hp : part ∉ [.free, .od, .inForce, .actual, .time, .tick, .head, .streams, .alarm, .codec, .noise, .xfer, .comp, .link, .red, .net, .dict, .power, .log, .health, .boot, .sram, .dram, .out]) (s : State) (rate : State → State) (leaves : Bool) (before : Option Nat) (h_rate : ∀ s, (rate s).only part = s.only part) :
    (State.workingEdge s rate leaves before).only part = s.only part := by
  simp only [State.workingEdge, ↓State.edgeStages_same (away hp (by decide)),
    ↓State.adoptObjects_same (away hp (by decide)), ↓State.adoptTick_same (away hp (by decide)),
    ↓State.edgeTime_same (away hp (by decide)), ↓State.edgeJournal_same (away hp (by decide)),
    ↓State.observeEdge_same (away hp (by decide)), ↓State.edgeReady_same (away hp (by decide)),
    ↓State.edgeComplete_same (away hp (by decide)), ↓State.sendTicks_same (away hp (by decide)),
    ↓State.restartFrames_same (away hp (by decide)), ↓State.edgeWork_same (away hp (by decide)),
    ↓State.edgeCeiling_same (away hp (by decide)), ↓State.edgeModes_same (away hp (by decide)),
    ↓State.edgeEnds_same (away hp (by decide)), ↓State.edgePair_same (away hp (by decide)),
    ↓State.edgeUnits_same (away hp (by decide)), h_rate, ite_self, implies_true, id_eq]

theorem State.watchEdge_same {part : Part} (hp : part ∉ [.od, .inForce, .time, .tick, .net, .log, .health, .out]) (s : State) (rate : State → State) (h_rate : ∀ s, (rate s).only part = s.only part) :
    (State.watchEdge s rate).only part = s.only part := by
  simp only [State.watchEdge, ↓State.adoptObjects_same (away hp (by decide)),
    ↓State.adoptTick_same (away hp (by decide)), ↓State.edgeTime_same (away hp (by decide)), ↓only_ite, ↓only_iteFst,
    ↓only_iteSnd, h_rate, ite_self, implies_true, id_eq]

theorem State.acceptEdge_same {part : Part} (hp : part ∉ [.free, .od, .inForce, .actual, .time, .tick, .head, .streams, .alarm, .codec, .noise, .xfer, .comp, .link, .red, .net, .dict, .power, .log, .health, .boot, .sram, .dram, .out]) (s : State) (rate : State → State) (h_rate : ∀ s, (rate s).only part = s.only part) :
    (State.acceptEdge s rate).only part = s.only part := by
  simp only [State.acceptEdge, ↓State.numberEdge_same (away hp (by decide)), ↓State.workingEdge_same hp,
    ↓State.watchEdge_same (away hp (by decide)), ↓only_ite, ↓only_iteFst, ↓only_iteSnd, h_rate, ite_self,
    implies_true, id_eq]

theorem State.finishSwitch_same {part : Part} (hp : part ∉ [.od, .tick, .net, .log, .out]) (s : State) (x : SwitchOver) :
    (State.finishSwitch s x).only part = s.only part := by
  simp only [State.finishSwitch, ↓State.onTick_same (away hp (by decide)), ↓State.incr_same (away hp (by decide)),
    ↓State.emit_same (away hp (by decide)), ↓only_ite, ↓only_iteFst, ↓only_iteSnd, ite_self, implies_true, id_eq]

theorem State.switchEdge_same {part : Part} (hp : part ∉ [.free, .od, .inForce, .actual, .time, .tick, .head, .streams, .alarm, .codec, .noise, .xfer, .comp, .link, .red, .net, .dict, .power, .log, .health, .boot, .sram, .dram, .out]) (s : State) (x : SwitchOver) :
    (State.switchEdge s x).only part = s.only part := by
  simp only [State.switchEdge, ↓State.refuseRate_same (away hp (by decide)),
    ↓State.abandonSwitch_same (away hp (by decide)), ↓State.acceptEdge_same hp,
    ↓State.finishSwitch_same (away hp (by decide)), ↓only_ite, ↓only_iteFst, ↓only_iteSnd, ite_self, implies_true,
    id_eq]

theorem State.trySwitch_same {part : Part} (hp : part ∉ [.free, .od, .inForce, .actual, .time, .tick, .head, .streams, .alarm, .codec, .noise, .xfer, .comp, .link, .red, .net, .dict, .power, .log, .health, .boot, .sram, .dram, .out]) (s : State) (goal : TickSource) :
    (State.trySwitch s goal).only part = s.only part := by
  simp only [State.trySwitch, ↓State.switchEdge_same hp, ↓only_ite, ↓only_iteFst, ↓only_iteSnd, ite_self,
    implies_true, id_eq]
  all_goals repeat' split <;> try simp only [↓State.switchEdge_same hp, ↓only_ite, ↓only_iteFst, ↓only_iteSnd,
    ite_self, implies_true, id_eq]

theorem State.lockFirst_same {part : Part} (hp : part ∉ [.od, .tick]) (s : State) (period : Nat) :
    (State.lockFirst s period).only part = s.only part := by
  simp only [State.lockFirst, ↓State.onTick_same (away hp (by decide)), ↓State.incr_same (away hp (by decide)),
    ite_self, implies_true, id_eq]

theorem State.tickInEdge_same {part : Part} (hp : part ∉ [.free, .od, .inForce, .actual, .time, .tick, .head, .streams, .alarm, .codec, .noise, .xfer, .comp, .link, .red, .net, .dict, .power, .log, .health, .boot, .sram, .dram, .out]) (s : State) :
    (State.tickInEdge s).only part = s.only part := by
  simp only [State.tickInEdge, ↓State.incr_same (away hp (by decide)), ↓State.refuseRate_same (away hp (by decide)),
    ↓State.startSwitch_same (away hp (by decide)), ↓State.acceptEdge_same hp, ↓State.trySwitch_same hp,
    ↓State.lockFirst_same (away hp (by decide)), ↓only_ite, ↓only_iteFst, ↓only_iteSnd, ite_self, implies_true, id_eq]
  all_goals repeat' split <;> try simp only [↓State.incr_same (away hp (by decide)),
    ↓State.refuseRate_same (away hp (by decide)), ↓State.startSwitch_same (away hp (by decide)),
    ↓State.acceptEdge_same hp, ↓State.trySwitch_same hp, ↓State.lockFirst_same (away hp (by decide)), ↓only_ite,
    ↓only_iteFst, ↓only_iteSnd, ite_self, implies_true, id_eq]

theorem State.tickInPulse_same {part : Part} (hp : part ∉ [.free, .od, .inForce, .actual, .time, .tick, .head, .streams, .alarm, .codec, .noise, .xfer, .comp, .link, .red, .net, .dict, .power, .log, .health, .boot, .sram, .dram, .out]) (s : State) :
    (State.tickInPulse s).only part = s.only part := by
  simp only [State.tickInPulse, ↓State.glitch_same (away hp (by decide)),
    ↓State.measureEdge_same (away hp (by decide)), ↓State.trySwitch_same hp, ↓State.tickInEdge_same hp, ↓only_ite,
    ↓only_iteFst, ↓only_iteSnd, ite_self, implies_true, id_eq]

theorem State.ownRate_same {part : Part} (hp : part ∉ [.od, .tick]) (s : State) :
    (State.ownRate s).only part = s.only part := by
  simp only [State.ownRate, ↓State.lockFirst_same hp, ↓only_ite, ↓only_iteFst, ↓only_iteSnd, ite_self, implies_true,
    id_eq]

theorem State.generatorRate_same {part : Part} (hp : part ∉ [.tick]) (s : State) :
    (State.generatorRate s).only part = s.only part := by
  simp only [State.generatorRate, ↓State.onTick_same hp, ite_self, implies_true, id_eq]

theorem State.startGenerator_same {part : Part} (hp : part ∉ [.tick, .net, .log, .out]) (s : State) :
    (State.startGenerator s).only part = s.only part := by
  simp only [State.startGenerator, ↓State.onTick_same (away hp (by decide)), ↓State.emit_same (away hp (by decide)),
    ite_self, implies_true, id_eq]

end Sys2Proof.Machine
end

