-- ==== Sys2Proof/Laws/FrameJobs.lean ====
section
/-! SUPPORT. The frames of the operations of Machine/Jobs.lean: the parts of the state that each one keeps. -/
namespace Sys2Proof.Machine
set_option linter.unusedSimpArgs false
set_option Elab.async false

theorem State.buildTpdo_same {part : Part} (hp : part ∉ [.od, .net, .log, .out]) (s : State) (n : Nat) (r : Run) (data : List Byte) :
    (State.buildTpdo s n r data).only part = s.only part := by
  simp only [State.buildTpdo, ↓State.tpdoBuilt_same hp, ↓only_ite, ↓only_iteFst, ↓only_iteSnd, ite_self,
    implies_true, id_eq]

theorem State.sendReport_same {part : Part} (hp : part ∉ [.od, .net, .log, .out]) (s : State) (kind : Nat) (r : Run) (body : List Byte) :
    (State.sendReport s kind r body).only part = s.only part := by
  simp only [State.sendReport, ↓State.onNet_same (away hp (by decide)), ↓State.incr_same (away hp (by decide)),
    ↓State.gateDrop_same hp, ↓State.transmitUdp_same (away hp (by decide)), ↓only_ite, ↓only_iteFst, ↓only_iteSnd,
    ite_self, implies_true, id_eq]

theorem State.recogniserScore_same {part : Part} (hp : part ∉ [.net, .power, .log, .out]) (s : State) (v : Nat) :
    (State.recogniserScore s v).only part = s.only part := by
  simp only [State.recogniserScore, ↓State.dropDeferred_same hp, ↓only_ite, ↓only_iteFst, ↓only_iteSnd, ite_self,
    implies_true, id_eq]

theorem State.phraseFails_same {part : Part} (hp : part ∉ [.power]) (s : State) (x : Phrase) :
    (State.phraseFails s x).only part = s.only part := by
  simp only [State.phraseFails, ↓State.lowPower_same hp, ↓only_ite, ↓only_iteFst, ↓only_iteSnd, ite_self,
    implies_true, id_eq]

theorem State.rescoreJob_same {part : Part} (hp : part ∉ [.od, .net, .power, .log, .out]) (s : State) (r : Run) (v : Nat) :
    (State.rescoreJob s r v).1.only part = s.only part := by
  simp only [State.rescoreJob, ↓State.onPower_same (away hp (by decide)), ↓State.incr_same (away hp (by decide)),
    ↓State.emit_same (away hp (by decide)), ↓State.phraseFails_same (away hp (by decide)), ↓only_ite, ↓only_iteFst,
    ↓only_iteSnd, ite_self, implies_true, id_eq]
  all_goals repeat' split <;> try simp only [↓State.onPower_same (away hp (by decide)),
    ↓State.incr_same (away hp (by decide)), ↓State.emit_same (away hp (by decide)),
    ↓State.phraseFails_same (away hp (by decide)), ↓only_ite, ↓only_iteFst, ↓only_iteSnd, ite_self, implies_true,
    id_eq]

theorem State.captureJob_same {part : Part} (hp : part ∉ [.od, .link, .red, .out]) (s : State) :
    (State.captureJob s).only part = s.only part := by
  simp only [State.captureJob, ↓State.captureEpoch_same hp, ↓only_ite, ↓only_iteFst, ↓only_iteSnd, ite_self,
    implies_true, id_eq]

theorem State.engineEnd_same {part : Part} (hp : part ∉ [.free, .od, .actual, .codec, .noise, .link, .red, .net, .power, .log, .out]) (s : State) (r : Run) (w : Work) :
    (State.engineEnd s r w).1.only part = s.only part := by
  simp only [State.engineEnd, ↓State.onPower_same (away hp (by decide)), ↓State.record_same (away hp (by decide)),
    ↓State.jpegJob_same (away hp (by decide)), ↓State.recordJob_same (away hp (by decide)),
    ↓State.h264Job_same (away hp (by decide)), ↓State.encodeJob_same (away hp (by decide)),
    ↓State.rateControlJob_same (away hp (by decide)), ↓State.passJob_same (away hp (by decide)),
    ↓State.tokeniseJob_same (away hp (by decide)), ↓State.macJob_same (away hp (by decide)),
    ↓State.buildTpdo_same (away hp (by decide)), ↓State.sendReport_same (away hp (by decide)),
    ↓State.recogniserScore_same (away hp (by decide)), ↓State.rescoreJob_same (away hp (by decide)),
    ↓State.captureJob_same (away hp (by decide)), ite_self, implies_true, id_eq]
  all_goals repeat' split <;> try simp only [↓State.onPower_same (away hp (by decide)),
    ↓State.record_same (away hp (by decide)), ↓State.jpegJob_same (away hp (by decide)),
    ↓State.recordJob_same (away hp (by decide)), ↓State.h264Job_same (away hp (by decide)),
    ↓State.encodeJob_same (away hp (by decide)), ↓State.rateControlJob_same (away hp (by decide)),
    ↓State.passJob_same (away hp (by decide)), ↓State.tokeniseJob_same (away hp (by decide)),
    ↓State.macJob_same (away hp (by decide)), ↓State.buildTpdo_same (away hp (by decide)),
    ↓State.sendReport_same (away hp (by decide)), ↓State.recogniserScore_same (away hp (by decide)),
    ↓State.rescoreJob_same (away hp (by decide)), ↓State.captureJob_same (away hp (by decide)), ite_self,
    implies_true, id_eq]

theorem State.guardIntrusion_same {part : Part} (hp : part ∉ [.od, .net, .log, .out]) (s : State) (r : Run) :
    (State.guardIntrusion s r).only part = s.only part := by
  simp only [State.guardIntrusion, ↓State.incr_same (away hp (by decide)),
    ↓State.emitLimited_same (away hp (by decide)), ↓only_ite, ↓only_iteFst, ↓only_iteSnd, ite_self, implies_true,
    id_eq]

theorem State.noteLate_same {part : Part} (hp : part ∉ [.head]) (s : State) (r : Run) :
    (State.noteLate s r).only part = s.only part := by
  simp only [State.noteLate, ↓State.onHead_same hp, ↓only_ite, ↓only_iteFst, ↓only_iteSnd, ite_self, implies_true,
    id_eq]

theorem State.endStalls_same {part : Part} (hp : part ∉ [.od, .net, .log, .out]) (s : State) (r : Run) (stalls : List Nat) :
    (State.endStalls s r stalls).only part = s.only part := by
  simp only [State.endStalls, ↓State.addStalls_same (away hp (by decide)), ↓State.breach_same hp, ↓only_ite,
    ↓only_iteFst, ↓only_iteSnd, ite_self, implies_true, id_eq]

theorem State.endHost_same {part : Part} (hp : part ∉ [.head]) (s : State) (r : Run) :
    (State.endHost s r).only part = s.only part := by
  simp only [State.endHost, ↓State.hostResult_same hp, ↓only_ite, ↓only_iteFst, ↓only_iteSnd, ite_self, implies_true,
    id_eq]

theorem State.completeJob_same {part : Part} (hp : part ∉ [.free, .od, .actual, .head, .streams, .codec, .noise, .comp, .link, .red, .net, .power, .log, .health, .out]) (s : State) (r : Run) (x : JobReport) :
    (State.completeJob s r x).only part = s.only part := by
  simp only [State.completeJob, ↓State.observe_same (away hp (by decide)), ↓State.endRun_same (away hp (by decide)),
    ↓State.engineEnd_same (away hp (by decide)), ↓State.guardIntrusion_same (away hp (by decide)),
    ↓State.noteLate_same (away hp (by decide)), ↓State.endStalls_same (away hp (by decide)),
    ↓State.endHost_same (away hp (by decide)), ite_self, implies_true, id_eq]

end Sys2Proof.Machine
end

