-- ==== Sys2Proof/Laws/FrameWakeup.lean ====
section
/-! SUPPORT. The frames of the operations of Machine/Wakeup.lean: the parts of the state that each one keeps. -/
namespace Sys2Proof.Machine
set_option linter.unusedSimpArgs false
set_option Elab.async false

theorem State.wakeOff_same {part : Part} (hp : part ∉ [.od, .power]) (s : State) (n : Nat) :
    (State.wakeOff s n).only part = s.only part := by
  simp only [State.wakeOff, ↓State.onPower_same (away hp (by decide)), ↓State.setObj_same (away hp (by decide)),
    ↓only_ite, ↓only_iteFst, ↓only_iteSnd, ite_self, implies_true, id_eq]

theorem State.wakeLogic_same {part : Part} (hp : part ∉ [.od, .net, .power, .log, .out]) (s : State) (n : Nat) :
    (State.wakeLogic s n).only part = s.only part := by
  simp only [State.wakeLogic, ↓State.wakeCause_same hp, ↓State.wakeOff_same (away hp (by decide)), ↓only_ite,
    ↓only_iteFst, ↓only_iteSnd, ite_self, implies_true, id_eq]

theorem State.heldSdo_same {part : Part} (hp : part ∉ [.od, .inForce, .time, .tick, .head, .streams, .alarm, .codec, .xfer, .comp, .link, .red, .net, .dict, .power, .log, .health, .boot, .sram, .dram, .out]) (s : State) (data : List Byte) :
    (State.heldSdo s data).only part = s.only part := by
  simp only [State.heldSdo, ↓State.applyWrite_same hp, ↓only_ite, ↓only_iteFst, ↓only_iteSnd, ite_self, implies_true,
    id_eq]

theorem State.heldNmt_same {part : Part} (hp : part ∉ [.od, .inForce, .actual, .time, .ptp, .tick, .head, .streams, .alarm, .codec, .noise, .xfer, .comp, .link, .red, .net, .dict, .power, .log, .health, .boot, .dram, .out]) (s : State) (data : List Byte) :
    (State.heldNmt s data).only part = s.only part := by
  simp only [State.heldNmt, ↓State.nmtStart_same (away hp (by decide)), ↓State.nmtStop_same (away hp (by decide)),
    ↓State.nmtPreOp_same (away hp (by decide)), ↓State.nmtResetComm_same (away hp (by decide)),
    ↓State.commandReset_same hp, ite_self, implies_true, id_eq]
  all_goals repeat' split <;> try simp only [↓State.nmtStart_same (away hp (by decide)),
    ↓State.nmtStop_same (away hp (by decide)), ↓State.nmtPreOp_same (away hp (by decide)),
    ↓State.nmtResetComm_same (away hp (by decide)), ↓State.commandReset_same hp, ite_self, implies_true, id_eq]

theorem State.heldFragment_same {part : Part} (hp : part ∉ [.od, .streams, .codec, .comp, .net, .log, .out]) (s : State) (c cob : Nat) (data : List Byte) :
    (State.heldFragment s c cob data).only part = s.only part := by
  simp only [State.heldFragment, ↓State.firstFragment_same hp, ↓State.nextFragment_same hp, ↓only_ite, ↓only_iteFst,
    ↓only_iteSnd, ite_self, implies_true, id_eq]
  all_goals repeat' split <;> try simp only [↓State.firstFragment_same hp, ↓State.nextFragment_same hp, ↓only_ite,
    ↓only_iteFst, ↓only_iteSnd, ite_self, implies_true, id_eq]

theorem State.takeHeld_same {part : Part} (hp : part ∉ [.od, .inForce, .actual, .time, .ptp, .tick, .head, .streams, .alarm, .codec, .noise, .xfer, .comp, .link, .red, .net, .dict, .power, .log, .health, .boot, .sram, .dram, .out]) (s : State) (f : Nat × Nat × List Byte) :
    (State.takeHeld s f).only part = s.only part := by
  simp only [State.takeHeld, ↓State.heldSdo_same (away hp (by decide)), ↓State.heldNmt_same (away hp (by decide)),
    ↓State.heldFragment_same (away hp (by decide)), ↓only_ite, ↓only_iteFst, ↓only_iteSnd, ite_self, implies_true,
    id_eq]

theorem State.handOver_same {part : Part} (hp : part ∉ [.od, .inForce, .actual, .time, .ptp, .tick, .head, .streams, .alarm, .codec, .noise, .xfer, .comp, .link, .red, .net, .dict, .power, .log, .health, .boot, .sram, .dram, .out]) (s : State) :
    (State.handOver s).only part = s.only part := by
  simp only [State.handOver, ↓State.onNet_same (away hp (by decide)), ↓State.takeHeld_same hp, only_foldl,
    only_foldlFst, ite_self, implies_true, id_eq]

theorem State.railsInWatch_same {part : Part} (hp : part ∉ [.od, .inForce, .actual, .time, .ptp, .tick, .head, .streams, .alarm, .codec, .noise, .xfer, .comp, .link, .red, .net, .dict, .power, .log, .health, .boot, .sram, .dram, .out]) (s : State) :
    (State.railsInWatch s).only part = s.only part := by
  simp only [State.railsInWatch, ↓State.resumeCores_same (away hp (by decide)), ↓State.handOver_same hp, ↓only_ite,
    ↓only_iteFst, ↓only_iteSnd, ite_self, implies_true, id_eq]

theorem State.railsInOff_same {part : Part} (hp : part ∉ [.od, .inForce, .actual, .time, .ptp, .tick, .head, .streams, .alarm, .codec, .noise, .xfer, .comp, .link, .red, .net, .dict, .power, .log, .health, .boot, .sram, .dram, .out]) (s : State) :
    (State.railsInOff s).only part = s.only part := by
  simp only [State.railsInOff, ↓State.setObj_same (away hp (by decide)), ↓State.emit_same (away hp (by decide)),
    ↓State.fullStart_same hp, ↓only_ite, ↓only_iteFst, ↓only_iteSnd, ite_self, implies_true, id_eq]

end Sys2Proof.Machine
end

