-- ==== Sys2Proof/Laws/FrameCommands.lean ====
section
/-! SUPPORT. The frame of every command: what it may change beside what its end settles. -/
namespace Sys2Proof.Machine
set_option linter.unusedSimpArgs false
set_option Elab.async false

theorem State.quiet_only {p : Part} {s s' : State} (h : s'.only p = s.only p) : s'.quiet.only p = s.quiet.only p := by
  have e : ∀ s : State, s.quiet.only p = ((s.only p).quiet).only p := fun s => by cases p <;> rfl
  rw [e, h, ← e]

theorem withOut {part : Part} {ps qs : List Part} (hp : part ∉ ps) (ho : part ≠ .out) (hs : qs.all (fun p => p == .out || ps.contains p) := by decide) :
    part ∉ qs := fun h => by
  have := List.all_eq_true.mp hs part h
  simp [ho, hp] at this

theorem always_frame {pt : Part} {t : Nat} {f : State → State} {s s' : State}
    (hf : pt ≠ .out → (f (s.advance t)).only pt = (s.advance t).only pt) (h : always t f s = .next s') :
    s'.quiet.only pt = (s.advance t).quiet.only pt := by
  by_cases ho : pt = .out
  · subst ho; rfl
  · rw [← Host.Outcome.next.inj h, State.settle_quiet]; exact State.quiet_only (hf ho)

theorem when_frame {pt : Part} {t : Nat} {f : State → State} {s s' : State} {c : Prop} [Decidable c]
    (hf : pt ≠ .out → (f (s.advance t)).only pt = (s.advance t).only pt)
    (h : (.next (if c then (f (s.advance t)).settle else s.advance t) : Result) = .next s') :
    s'.quiet.only pt = (s.advance t).quiet.only pt := by
  by_cases hc : c
  · rw [if_pos hc] at h; exact always_frame hf h
  · rw [if_neg hc] at h; rw [← Host.Outcome.next.inj h]

theorem powered_frame {pt : Part} {t : Nat} {f : State → State} {s s' : State}
    (hf : pt ≠ .out → (f (s.advance t)).only pt = (s.advance t).only pt) (h : whenPowered t f s = .next s') :
    s'.quiet.only pt = (s.advance t).quiet.only pt := when_frame hf h

theorem core_frame {pt : Part} {t : Nat} {f : State → State} {s s' : State}
    (hf : pt ≠ .out → (f (s.advance t)).only pt = (s.advance t).only pt) (h : whenCore t f s = .next s') :
    s'.quiet.only pt = (s.advance t).quiet.only pt := when_frame hf h

theorem served_frame {pt : Part} {t : Nat} {f : State → State} {s s' : State}
    (hf : pt ≠ .out → (f (s.advance t)).only pt = (s.advance t).only pt) (h : whenServed t f s = .next s') :
    s'.quiet.only pt = (s.advance t).quiet.only pt := when_frame hf h

theorem execTickInEdge_frame {pt : Part} (hp : pt ∉ [.free, .od, .inForce, .actual, .time, .tick, .head, .streams, .alarm, .codec, .noise, .xfer, .comp, .link, .red, .net, .dict, .power, .log, .health, .boot, .sram, .dram]) (t : Nat) (rising : Bool) (pulse : Nat) (s : State) {s' : State}
    (h : execTickInEdge t rising pulse s = .next s') : s'.quiet.only pt = (s.advance t).quiet.only pt := by
  unfold execTickInEdge at h
  refine powered_frame (fun ho => ?_) h
  have hp : pt ∉ [.free, .od, .inForce, .actual, .time, .tick, .head, .streams, .alarm, .codec, .noise, .xfer, .comp, .link, .red, .net, .dict, .power, .log, .health, .boot, .sram, .dram, .out] := withOut hp ho
  try simp only [↓State.padPasses_same (away hp (by decide)), ↓State.tickInPulse_same hp, ↓only_ite, ↓only_iteFst,
    ↓only_iteSnd, ite_self, implies_true, id_eq]

theorem execInternalEdge_frame {pt : Part} (hp : pt ∉ [.free, .od, .inForce, .actual, .time, .tick, .head, .streams, .alarm, .codec, .noise, .xfer, .comp, .link, .red, .net, .dict, .power, .log, .health, .boot, .sram, .dram]) (t : Nat) (s : State) {s' : State}
    (h : execInternalEdge t s = .next s') : s'.quiet.only pt = (s.advance t).quiet.only pt := by
  unfold execInternalEdge at h
  refine powered_frame (fun ho => ?_) h
  have hp : pt ∉ [.free, .od, .inForce, .actual, .time, .tick, .head, .streams, .alarm, .codec, .noise, .xfer, .comp, .link, .red, .net, .dict, .power, .log, .health, .boot, .sram, .dram, .out] := withOut hp ho
  try simp only [↓State.onTick_same (away hp (by decide)), ↓State.acceptEdge_same hp, ↓State.trySwitch_same hp,
    ↓State.ownRate_same (away hp (by decide)), ↓only_ite, ↓only_iteFst, ↓only_iteSnd, ite_self, implies_true, id_eq]

theorem execPtpDerivedEdge_frame {pt : Part} (hp : pt ∉ [.free, .od, .inForce, .actual, .time, .tick, .head, .streams, .alarm, .codec, .noise, .xfer, .comp, .link, .red, .net, .dict, .power, .log, .health, .boot, .sram, .dram]) (t : Nat) (s : State) {s' : State}
    (h : execPtpDerivedEdge t s = .next s') : s'.quiet.only pt = (s.advance t).quiet.only pt := by
  unfold execPtpDerivedEdge at h
  refine powered_frame (fun ho => ?_) h
  have hp : pt ∉ [.free, .od, .inForce, .actual, .time, .tick, .head, .streams, .alarm, .codec, .noise, .xfer, .comp, .link, .red, .net, .dict, .power, .log, .health, .boot, .sram, .dram, .out] := withOut hp ho
  try simp only [↓State.onTick_same (away hp (by decide)), ↓State.acceptEdge_same hp, ↓State.trySwitch_same hp,
    ↓State.ownRate_same (away hp (by decide)), ↓only_ite, ↓only_iteFst, ↓only_iteSnd, ite_self, implies_true, id_eq]

theorem execGeneratorEdge_frame {pt : Part} (hp : pt ∉ [.free, .od, .inForce, .actual, .time, .tick, .head, .streams, .alarm, .codec, .noise, .xfer, .comp, .link, .red, .net, .dict, .power, .log, .health, .boot, .sram, .dram]) (t : Nat) (s : State) {s' : State}
    (h : execGeneratorEdge t s = .next s') : s'.quiet.only pt = (s.advance t).quiet.only pt := by
  unfold execGeneratorEdge at h
  refine powered_frame (fun ho => ?_) h
  have hp : pt ∉ [.free, .od, .inForce, .actual, .time, .tick, .head, .streams, .alarm, .codec, .noise, .xfer, .comp, .link, .red, .net, .dict, .power, .log, .health, .boot, .sram, .dram, .out] := withOut hp ho
  try simp only [↓State.acceptEdge_same hp, ↓State.generatorRate_same (away hp (by decide)), ↓only_ite, ↓only_iteFst,
    ↓only_iteSnd, ite_self, implies_true, id_eq]

theorem execWindowClose_frame {pt : Part} (hp : pt ∉ [.free, .od, .tick, .head, .net, .log]) (t : Nat) (s : State) {s' : State}
    (h : execWindowClose t s = .next s') : s'.quiet.only pt = (s.advance t).quiet.only pt := by
  unfold execWindowClose at h
  refine powered_frame (fun ho => ?_) h
  have hp : pt ∉ [.free, .od, .tick, .head, .net, .log, .out] := withOut hp ho
  try simp only [↓State.passEdge_same hp, ↓only_ite, ↓only_iteFst, ↓only_iteSnd, ite_self, implies_true, id_eq]

theorem execTickInputLost_frame {pt : Part} (hp : pt ∉ [.od, .tick, .net, .log]) (t : Nat) (s : State) {s' : State}
    (h : execTickInputLost t s = .next s') : s'.quiet.only pt = (s.advance t).quiet.only pt := by
  unfold execTickInputLost at h
  refine powered_frame (fun ho => ?_) h
  have hp : pt ∉ [.od, .tick, .net, .log, .out] := withOut hp ho
  try simp only [↓State.loseInput_same hp, ↓only_ite, ↓only_iteFst, ↓only_iteSnd, ite_self, implies_true, id_eq]

theorem execTickHoldoverLimit_frame {pt : Part} (hp : pt ∉ [.tick, .net, .log]) (t : Nat) (s : State) {s' : State}
    (h : execTickHoldoverLimit t s = .next s') : s'.quiet.only pt = (s.advance t).quiet.only pt := by
  unfold execTickHoldoverLimit at h
  refine powered_frame (fun ho => ?_) h
  have hp : pt ∉ [.tick, .net, .log, .out] := withOut hp ho
  try simp only [↓State.onTick_same (away hp (by decide)), ↓State.emit_same (away hp (by decide)), ↓only_ite,
    ↓only_iteFst, ↓only_iteSnd, ite_self, implies_true, id_eq]

theorem execAcquireTimeout_frame {pt : Part} (hp : pt ∉ [.free, .od, .inForce, .actual, .time, .tick, .head, .streams, .alarm, .codec, .noise, .xfer, .comp, .link, .red, .net, .dict, .power, .log, .health, .boot, .sram, .dram]) (t : Nat) (s : State) {s' : State}
    (h : execAcquireTimeout t s = .next s') : s'.quiet.only pt = (s.advance t).quiet.only pt := by
  unfold execAcquireTimeout at h
  refine powered_frame (fun ho => ?_) h
  have hp : pt ∉ [.free, .od, .inForce, .actual, .time, .tick, .head, .streams, .alarm, .codec, .noise, .xfer, .comp, .link, .red, .net, .dict, .power, .log, .health, .boot, .sram, .dram, .out] := withOut hp ho
  try simp only [↓State.incr_same (away hp (by decide)), ↓State.acceptEdge_same hp,
    ↓State.generatorRate_same (away hp (by decide)), ↓State.startGenerator_same (away hp (by decide)), ↓only_ite,
    ↓only_iteFst, ↓only_iteSnd, ite_self, implies_true, id_eq]

theorem execSwitchOverAbandoned_frame {pt : Part} (hp : pt ∉ [.od, .tick, .net, .log]) (t : Nat) (s : State) {s' : State}
    (h : execSwitchOverAbandoned t s = .next s') : s'.quiet.only pt = (s.advance t).quiet.only pt := by
  unfold execSwitchOverAbandoned at h
  refine powered_frame (fun ho => ?_) h
  have hp : pt ∉ [.od, .tick, .net, .log, .out] := withOut hp ho
  try dsimp only
  try simp only [↓State.abandonSwitch_same hp, ↓only_ite, ↓only_iteFst, ↓only_iteSnd, ite_self, implies_true, id_eq]
  all_goals repeat' split <;> try simp only [↓State.abandonSwitch_same hp, ↓only_ite, ↓only_iteFst, ↓only_iteSnd,
    ite_self, implies_true, id_eq]

theorem execTickSourceRequest_frame {pt : Part} (hp : pt ∉ [.od, .inForce, .tick, .streams, .red, .net, .log]) (t : Nat) (p : Path) (v : Nat) (s : State) {s' : State}
    (h : execTickSourceRequest t p v s = .next s') : s'.quiet.only pt = (s.advance t).quiet.only pt := by
  unfold execTickSourceRequest at h
  refine core_frame (fun ho => ?_) h
  have hp : pt ∉ [.od, .inForce, .tick, .streams, .red, .net, .log, .out] := withOut hp ho
  try simp only [↓State.controlledNum_same (away hp (by decide)), ↓State.tickRequest_same (away hp (by decide)),
    ite_self, implies_true, id_eq]

theorem execNominalRateRequest_frame {pt : Part} (hp : pt ∉ [.od, .inForce, .tick, .streams, .red, .net, .log]) (t : Nat) (p : Path) (v : Nat) (s : State) {s' : State}
    (h : execNominalRateRequest t p v s = .next s') : s'.quiet.only pt = (s.advance t).quiet.only pt := by
  unfold execNominalRateRequest at h
  refine core_frame (fun ho => ?_) h
  have hp : pt ∉ [.od, .inForce, .tick, .streams, .red, .net, .log, .out] := withOut hp ho
  try simp only [↓State.controlledNum_same (away hp (by decide)), ↓State.tickRequest_same (away hp (by decide)),
    ite_self, implies_true, id_eq]

theorem execJobCompletion_frame {pt : Part} (hp : pt ∉ [.free, .od, .actual, .head, .streams, .codec, .noise, .comp, .link, .red, .net, .power, .log, .health]) (t job : Nat) (r : JobReport) (s : State) {s' : State}
    (h : execJobCompletion t job r s = .next s') : s'.quiet.only pt = (s.advance t).quiet.only pt := by
  unfold execJobCompletion at h
  refine core_frame (fun ho => ?_) h
  have hp : pt ∉ [.free, .od, .actual, .head, .streams, .codec, .noise, .comp, .link, .red, .net, .power, .log, .health, .out] := withOut hp ho
  try dsimp only
  try simp only [↓State.completeJob_same hp, ↓only_ite, ↓only_iteFst, ↓only_iteSnd, ite_self, implies_true, id_eq]
  all_goals repeat' split <;> try simp only [↓State.completeJob_same hp, ↓only_ite, ↓only_iteFst, ↓only_iteSnd,
    ite_self, implies_true, id_eq]

theorem execBudgetCut_frame {pt : Part} (hp : pt ∉ [.od, .codec, .net, .log]) (t job concealed : Nat) (s : State) {s' : State}
    (h : execBudgetCut t job concealed s = .next s') : s'.quiet.only pt = (s.advance t).quiet.only pt := by
  unfold execBudgetCut at h
  refine core_frame (fun ho => ?_) h
  have hp : pt ∉ [.od, .codec, .net, .log, .out] := withOut hp ho
  try dsimp only
  try simp only [↓State.incr_same (away hp (by decide)), ↓State.emit_same (away hp (by decide)),
    ↓State.cutContext_same (away hp (by decide)), ite_self, implies_true, id_eq]
  all_goals repeat' split <;> try simp only [↓State.incr_same (away hp (by decide)),
    ↓State.emit_same (away hp (by decide)), ↓State.cutContext_same (away hp (by decide)), ite_self, implies_true,
    id_eq]

theorem execForceIdr_frame {pt : Part} (hp : pt ∉ [.od, .codec, .red, .net, .log]) (t : Nat) (p : Path) (e : Fin 2) (v : Nat) (s : State) {s' : State}
    (h : execForceIdr t p e v s = .next s') : s'.quiet.only pt = (s.advance t).quiet.only pt := by
  unfold execForceIdr at h
  refine core_frame (fun ho => ?_) h
  have hp : pt ∉ [.od, .codec, .red, .net, .log, .out] := withOut hp ho
  try simp only [↓State.controlledNum_same (away hp (by decide)), ↓State.forceIdr_same (away hp (by decide)),
    ite_self, implies_true, id_eq]

theorem execSetTime_frame {pt : Part} (hp : pt ∉ [.od, .time, .tick, .red, .net, .log, .health]) (t : Nat) (p : Path) (v : Nat) (s : State) {s' : State}
    (h : execSetTime t p v s = .next s') : s'.quiet.only pt = (s.advance t).quiet.only pt := by
  unfold execSetTime at h
  refine core_frame (fun ho => ?_) h
  have hp : pt ∉ [.od, .time, .tick, .red, .net, .log, .health, .out] := withOut hp ho
  try simp only [↓State.controlledNum_same (away hp (by decide)), ↓State.stepDue_same (away hp (by decide)),
    ite_self, implies_true, id_eq]

theorem execPtpSync_frame {pt : Part} (hp : pt ∉ [.free, .od, .time, .ptp, .tick, .net, .log, .health]) (t : Nat) (h : PtpHeader) (twoStep : Bool) (origin : Nat) (s : State) {s' : State}
    (h : execPtpSync t h twoStep origin s = .next s') : s'.quiet.only pt = (s.advance t).quiet.only pt := by
  unfold execPtpSync at h
  refine core_frame (fun ho => ?_) h
  have hp : pt ∉ [.free, .od, .time, .ptp, .tick, .net, .log, .health, .out] := withOut hp ho
  try simp only [↓State.onPtp_same (away hp (by decide)), ↓State.ptpMessage_same (away hp (by decide)),
    ↓State.syncResult_same hp, ↓only_ite, ↓only_iteFst, ↓only_iteSnd, ite_self, implies_true, id_eq]

theorem execPpsInEdge_frame {pt : Part} (hp : pt ∉ [.free, .od, .time, .tick, .net, .log, .health]) (t : Nat) (rising : Bool) (pulse : Nat) (s : State) {s' : State}
    (h : execPpsInEdge t rising pulse s = .next s') : s'.quiet.only pt = (s.advance t).quiet.only pt := by
  unfold execPpsInEdge at h
  refine powered_frame (fun ho => ?_) h
  have hp : pt ∉ [.free, .od, .time, .tick, .net, .log, .health, .out] := withOut hp ho
  try simp only [↓State.padPasses_same (away hp (by decide)), ↓State.ppsEdge_same hp, ↓only_ite, ↓only_iteFst,
    ↓only_iteSnd, ite_self, implies_true, id_eq]

theorem execPpsSecondsMissed_frame {pt : Part} (hp : pt ∉ [.time, .net, .log]) (t : Nat) (s : State) {s' : State}
    (h : execPpsSecondsMissed t s = .next s') : s'.quiet.only pt = (s.advance t).quiet.only pt := by
  unfold execPpsSecondsMissed at h
  refine powered_frame (fun ho => ?_) h
  have hp : pt ∉ [.time, .net, .log, .out] := withOut hp ho
  try simp only [↓State.toBase_same hp, ↓State.setActualSource_same hp, ↓only_ite, ↓only_iteFst, ↓only_iteSnd,
    ite_self, implies_true, id_eq]

theorem execTimeBaseHoldover_frame {pt : Part} (hp : pt ∉ [.time, .net, .log]) (t : Nat) (s : State) {s' : State}
    (h : execTimeBaseHoldover t s = .next s') : s'.quiet.only pt = (s.advance t).quiet.only pt := by
  unfold execTimeBaseHoldover at h
  refine powered_frame (fun ho => ?_) h
  have hp : pt ∉ [.time, .net, .log, .out] := withOut hp ho
  try simp only [↓State.toBase_same hp, ↓only_ite, ↓only_iteFst, ↓only_iteSnd, ite_self, implies_true, id_eq]

theorem execTimeBaseFreeRun_frame {pt : Part} (hp : pt ∉ [.time, .net, .log]) (t : Nat) (s : State) {s' : State}
    (h : execTimeBaseFreeRun t s = .next s') : s'.quiet.only pt = (s.advance t).quiet.only pt := by
  unfold execTimeBaseFreeRun at h
  refine powered_frame (fun ho => ?_) h
  have hp : pt ∉ [.time, .net, .log, .out] := withOut hp ho
  try simp only [↓State.toBase_same hp, ↓only_ite, ↓only_iteFst, ↓only_iteSnd, ite_self, implies_true, id_eq]

theorem execLeapSecond_frame {pt : Part} (hp : pt ∉ [.time, .net, .log]) (t : Nat) (s : State) {s' : State}
    (h : execLeapSecond t s = .next s') : s'.quiet.only pt = (s.advance t).quiet.only pt := by
  unfold execLeapSecond at h
  refine powered_frame (fun ho => ?_) h
  have hp : pt ∉ [.time, .net, .log, .out] := withOut hp ho
  try simp only [↓State.onTime_same (away hp (by decide)), ↓State.updateUtc_same hp, ↓only_ite, ↓only_iteFst,
    ↓only_iteSnd, ite_self, implies_true, id_eq]

theorem execRtcWrite_frame {pt : Part} (hp : pt ∉ [.time]) (t : Nat) (s : State) {s' : State}
    (h : execRtcWrite t s = .next s') : s'.quiet.only pt = (s.advance t).quiet.only pt := by
  unfold execRtcWrite at h
  refine powered_frame (fun ho => ?_) h
  have hp : pt ∉ [.time, .out] := withOut hp ho
  try simp only [↓State.onTime_same (away hp (by decide)), ↓only_ite, ↓only_iteFst, ↓only_iteSnd, ite_self,
    implies_true, id_eq]

theorem execPtpFollowUp_frame {pt : Part} (hp : pt ∉ [.free, .od, .time, .ptp, .tick, .net, .log, .health]) (t : Nat) (h : PtpHeader) (origin : Nat) (s : State) {s' : State}
    (h : execPtpFollowUp t h origin s = .next s') : s'.quiet.only pt = (s.advance t).quiet.only pt := by
  unfold execPtpFollowUp at h
  refine core_frame (fun ho => ?_) h
  have hp : pt ∉ [.free, .od, .time, .ptp, .tick, .net, .log, .health, .out] := withOut hp ho
  refine State.ptpMessage_same (away hp (by decide)) _ _ _ fun s => ?_
  split
  · simp only [↓only_ite, ↓State.onPtp_same (away hp (by decide)), ↓State.syncResult_same (away hp (by decide)), ite_self]
  · rfl

theorem execPtpAnnounce_frame {pt : Part} (hp : pt ∉ [.od, .time, .ptp, .net, .log]) (t : Nat) (h : PtpHeader) (a : Announce) (s : State) {s' : State}
    (h : execPtpAnnounce t h a s = .next s') : s'.quiet.only pt = (s.advance t).quiet.only pt := by
  unfold execPtpAnnounce at h
  refine core_frame (fun ho => ?_) h
  have hp : pt ∉ [.od, .time, .ptp, .net, .log, .out] := withOut hp ho
  try simp only [↓State.onPtp_same (away hp (by decide)), ↓State.ptpMessage_same (away hp (by decide)),
    ↓State.chooseMaster_same hp, ite_self, implies_true, id_eq]

theorem execPtpDelayResp_frame {pt : Part} (hp : pt ∉ [.od, .ptp]) (t : Nat) (h : PtpHeader) (received : Nat) (logInterval : Int) (s : State) {s' : State}
    (h : execPtpDelayResp t h received logInterval s = .next s') : s'.quiet.only pt = (s.advance t).quiet.only pt := by
  unfold execPtpDelayResp at h
  refine core_frame (fun ho => ?_) h
  have hp : pt ∉ [.od, .ptp, .out] := withOut hp ho
  refine State.ptpMessage_same (away hp (by decide)) _ _ _ fun s => ?_
  split
  · simp only [↓only_ite, ↓State.onPtp_same (away hp (by decide)), ite_self]
  · rfl

theorem execPtpDelayReq_frame {pt : Part} (hp : pt ∉ [.ptp]) (t : Nat) (s : State) {s' : State}
    (h : execPtpDelayReq t s = .next s') : s'.quiet.only pt = (s.advance t).quiet.only pt := by
  unfold execPtpDelayReq at h
  refine core_frame (fun ho => ?_) h
  have hp : pt ∉ [.ptp, .out] := withOut hp ho
  try simp only [↓State.onPtp_same (away hp (by decide)), ↓State.send_same (away hp (by decide)), ↓only_ite,
    ↓only_iteFst, ↓only_iteSnd, ite_self, implies_true, id_eq]

theorem execPtpMasterLost_frame {pt : Part} (hp : pt ∉ [.time, .ptp, .net, .log]) (t : Nat) (s : State) {s' : State}
    (h : execPtpMasterLost t s = .next s') : s'.quiet.only pt = (s.advance t).quiet.only pt := by
  unfold execPtpMasterLost at h
  refine core_frame (fun ho => ?_) h
  have hp : pt ∉ [.time, .ptp, .net, .log, .out] := withOut hp ho
  try simp only [↓State.onTime_same (away hp (by decide)), ↓State.onPtp_same (away hp (by decide)),
    ↓State.emit_same (away hp (by decide)), ↓State.updateUtc_same (away hp (by decide)), ↓only_ite, ↓only_iteFst,
    ↓only_iteSnd, ite_self, implies_true, id_eq]

theorem execCsi2FrameStart_frame {pt : Part} (hp : pt ∉ [.od, .streams, .codec, .comp, .net, .log]) (t : Nat) (rx : Fin 2) (vc : Nat) (s : State) {s' : State}
    (h : execCsi2FrameStart t rx vc s = .next s') : s'.quiet.only pt = (s.advance t).quiet.only pt := by
  unfold execCsi2FrameStart at h
  refine core_frame (fun ho => ?_) h
  have hp : pt ∉ [.od, .streams, .codec, .comp, .net, .log, .out] := withOut hp ho
  try dsimp only
  try simp only [↓State.onStream_same (away hp (by decide)), ↓State.damageUnit_same (away hp (by decide)),
    ↓State.captureStart_same (away hp (by decide)), ↓State.endFrame_same hp,
    ↓State.foreignPacket_same (away hp (by decide)), ↓only_ite, ↓only_iteFst, ↓only_iteSnd, ite_self, implies_true,
    id_eq]
  all_goals repeat' split <;> try simp only [↓State.onStream_same (away hp (by decide)),
    ↓State.damageUnit_same (away hp (by decide)), ↓State.captureStart_same (away hp (by decide)),
    ↓State.endFrame_same hp, ↓State.foreignPacket_same (away hp (by decide)), ↓only_ite, ↓only_iteFst, ↓only_iteSnd,
    ite_self, implies_true, id_eq]

theorem execCsi2LongPacket_frame {pt : Part} (hp : pt ∉ [.od, .streams, .codec, .net, .log]) (t : Nat) (rx : Fin 2) (vc dt bytes ecc : Nat) (crcOk lineGap : Bool) (s : State) {s' : State}
    (h : execCsi2LongPacket t rx vc dt bytes ecc crcOk lineGap s = .next s') : s'.quiet.only pt = (s.advance t).quiet.only pt := by
  unfold execCsi2LongPacket at h
  refine core_frame (fun ho => ?_) h
  have hp : pt ∉ [.od, .streams, .codec, .net, .log, .out] := withOut hp ho
  try dsimp only
  try simp only [↓State.incr_same (away hp (by decide)), ↓State.emit_same (away hp (by decide)),
    ↓State.onStream_same (away hp (by decide)), ↓State.damageUnit_same (away hp (by decide)),
    ↓State.foreignPacket_same (away hp (by decide)), ↓State.takeLine_same hp, ↓only_ite, ↓only_iteFst, ↓only_iteSnd,
    ite_self, implies_true, id_eq]
  all_goals repeat' split <;> try simp only [↓State.incr_same (away hp (by decide)),
    ↓State.emit_same (away hp (by decide)), ↓State.onStream_same (away hp (by decide)),
    ↓State.damageUnit_same (away hp (by decide)), ↓State.foreignPacket_same (away hp (by decide)),
    ↓State.takeLine_same hp, ↓only_ite, ↓only_iteFst, ↓only_iteSnd, ite_self, implies_true, id_eq]

theorem execCsi2FrameEnd_frame {pt : Part} (hp : pt ∉ [.od, .streams, .codec, .comp, .net, .log]) (t : Nat) (rx : Fin 2) (vc : Nat) (s : State) {s' : State}
    (h : execCsi2FrameEnd t rx vc s = .next s') : s'.quiet.only pt = (s.advance t).quiet.only pt := by
  unfold execCsi2FrameEnd at h
  refine core_frame (fun ho => ?_) h
  have hp : pt ∉ [.od, .streams, .codec, .comp, .net, .log, .out] := withOut hp ho
  try dsimp only
  try simp only [↓State.endFrame_same hp, ↓State.foreignPacket_same (away hp (by decide)), ↓only_ite, ↓only_iteFst,
    ↓only_iteSnd, ite_self, implies_true, id_eq]
  all_goals repeat' split <;> try simp only [↓State.endFrame_same hp,
    ↓State.foreignPacket_same (away hp (by decide)), ↓only_ite, ↓only_iteFst, ↓only_iteSnd, ite_self, implies_true,
    id_eq]

theorem execTdmFrame_frame {pt : Part} (hp : pt ∉ [.od, .streams, .alarm, .codec, .comp, .net, .power, .log]) (t : Nat) (port : Fin 4) (words : List (BitVec 32)) (bclkOk : Bool) (s : State) {s' : State}
    (h : execTdmFrame t port words bclkOk s = .next s') : s'.quiet.only pt = (s.advance t).quiet.only pt := by
  unfold execTdmFrame at h
  refine powered_frame (fun ho => ?_) h
  have hp : pt ∉ [.od, .streams, .alarm, .codec, .comp, .net, .power, .log, .out] := withOut hp ho
  try dsimp only
  split
  · exact only_foldl (fun s x => State.slotWord_same (away hp (by decide)) ..) _ _
  · rw [State.emit_same (away hp (by decide))]
    refine only_foldl (fun s x => ?_) _ _
    split
    · exact State.loseSample_same (away hp (by decide)) ..
    · rfl

theorem execSpiTransaction_frame {pt : Part} (hp : pt ∉ [.od, .streams, .alarm, .codec, .comp, .net, .power, .log]) (t : Nat) (m : Fin 2) (c : Fin 4) (word : Option (BitVec 32)) (s : State) {s' : State}
    (h : execSpiTransaction t m c word s = .next s') : s'.quiet.only pt = (s.advance t).quiet.only pt := by
  unfold execSpiTransaction at h
  refine powered_frame (fun ho => ?_) h
  have hp : pt ∉ [.od, .streams, .alarm, .codec, .comp, .net, .power, .log, .out] := withOut hp ho
  try dsimp only
  try simp only [↓State.tapWord_same (away hp (by decide)), ↓State.takeSample_same (away hp (by decide)),
    ↓State.loseSample_same (away hp (by decide)), ite_self, implies_true, id_eq]
  all_goals repeat' split <;> try simp only [↓State.tapWord_same (away hp (by decide)),
    ↓State.takeSample_same (away hp (by decide)), ↓State.loseSample_same (away hp (by decide)), ite_self,
    implies_true, id_eq]

theorem execDrdyTimeout_frame {pt : Part} (hp : pt ∉ [.net, .log]) (t : Nat) (m : Fin 2) (c : Fin 4) (s : State) {s' : State}
    (h : execDrdyTimeout t m c s = .next s') : s'.quiet.only pt = (s.advance t).quiet.only pt := by
  unfold execDrdyTimeout at h
  refine powered_frame (fun ho => ?_) h
  have hp : pt ∉ [.net, .log, .out] := withOut hp ho
  try dsimp only
  try simp only [↓State.emit_same hp, ↓only_ite, ↓only_iteFst, ↓only_iteSnd, ite_self, implies_true, id_eq]
  all_goals repeat' split <;> try simp only [↓State.emit_same hp, ↓only_ite, ↓only_iteFst, ↓only_iteSnd, ite_self,
    implies_true, id_eq]

theorem execRtpPacket_frame {pt : Part} (hp : pt ∉ [.od, .streams, .codec, .comp, .net, .log]) (t : Nat) (mac : Fin 2) (port : Nat) (ipv4 : Bool) (pkt : RtpPacket) (s : State) {s' : State}
    (h : execRtpPacket t mac port ipv4 pkt s = .next s') : s'.quiet.only pt = (s.advance t).quiet.only pt := by
  unfold execRtpPacket at h
  refine core_frame (fun ho => ?_) h
  have hp : pt ∉ [.od, .streams, .codec, .comp, .net, .log, .out] := withOut hp ho
  try dsimp only
  try simp only [↓State.incr_same (away hp (by decide)), ↓State.emit_same (away hp (by decide)),
    ↓State.onStream_same (away hp (by decide)), ↓State.rtpData_same hp, ↓only_ite, ↓only_iteFst, ↓only_iteSnd,
    ite_self, implies_true, id_eq]
  all_goals repeat' split <;> try simp only [↓State.incr_same (away hp (by decide)),
    ↓State.emit_same (away hp (by decide)), ↓State.onStream_same (away hp (by decide)), ↓State.rtpData_same hp,
    ↓only_ite, ↓only_iteFst, ↓only_iteSnd, ite_self, implies_true, id_eq]

theorem execSsrcRelease_frame {pt : Part} (hp : pt ∉ [.od, .streams, .red, .net, .log]) (t : Nat) (p : Path) (n : Fin 16) (v : Nat) (s : State) {s' : State}
    (h : execSsrcRelease t p n v s = .next s') : s'.quiet.only pt = (s.advance t).quiet.only pt := by
  unfold execSsrcRelease at h
  refine core_frame (fun ho => ?_) h
  have hp : pt ∉ [.od, .streams, .red, .net, .log, .out] := withOut hp ho
  try simp only [↓State.controlledNum_same (away hp (by decide)), ↓State.onStream_same (away hp (by decide)),
    ite_self, implies_true, id_eq]

theorem execUdpRecordDatagram_frame {pt : Part} (hp : pt ∉ [.od, .streams, .codec, .comp, .net, .log]) (t : Nat) (iface : Fin 3) (port : Nat) (bytes : List Byte) (s : State) {s' : State}
    (h : execUdpRecordDatagram t iface port bytes s = .next s') : s'.quiet.only pt = (s.advance t).quiet.only pt := by
  unfold execUdpRecordDatagram at h
  refine core_frame (fun ho => ?_) h
  have hp : pt ∉ [.od, .streams, .codec, .comp, .net, .log, .out] := withOut hp ho
  try dsimp only
  try simp only [↓State.deliver_same hp, ite_self, implies_true, id_eq]
  all_goals repeat' split <;> try simp only [↓State.deliver_same hp, ite_self, implies_true, id_eq]

theorem execSampleWord_frame {pt : Part} (hp : pt ∉ [.od, .alarm, .net, .power, .log]) (t : Nat) (tap : Fin 72) (raw : BitVec 32) (s : State) {s' : State}
    (h : execSampleWord t tap raw s = .next s') : s'.quiet.only pt = (s.advance t).quiet.only pt := by
  unfold execSampleWord at h
  refine powered_frame (fun ho => ?_) h
  have hp : pt ∉ [.od, .alarm, .net, .power, .log, .out] := withOut hp ho
  try simp only [↓State.tapWord_same hp, ite_self, implies_true, id_eq]

theorem execTapSilent_frame {pt : Part} (hp : pt ∉ [.od, .alarm, .net, .power, .log]) (t : Nat) (tap : Fin 72) (s : State) {s' : State}
    (h : execTapSilent t tap s = .next s') : s'.quiet.only pt = (s.advance t).quiet.only pt := by
  unfold execTapSilent at h
  refine powered_frame (fun ho => ?_) h
  have hp : pt ∉ [.od, .alarm, .net, .power, .log, .out] := withOut hp ho
  try dsimp only
  try simp only [↓State.incr_same (away hp (by decide)), ↓State.emit_same (away hp (by decide)),
    ↓State.setTap_same (away hp (by decide)), ↓State.matrix_same hp, ↓only_ite, ↓only_iteFst, ↓only_iteSnd, ite_self,
    implies_true, id_eq]
  all_goals repeat' split <;> try simp only [↓State.incr_same (away hp (by decide)),
    ↓State.emit_same (away hp (by decide)), ↓State.setTap_same (away hp (by decide)), ↓State.matrix_same hp,
    ↓only_ite, ↓only_iteFst, ↓only_iteSnd, ite_self, implies_true, id_eq]

theorem execClearLatches_frame {pt : Part} (hp : pt ∉ [.od, .alarm, .red, .net, .power, .log]) (t : Nat) (p : Path) (mask : Mask64) (s : State) {s' : State}
    (h : execClearLatches t p mask s = .next s') : s'.quiet.only pt = (s.advance t).quiet.only pt := by
  unfold execClearLatches at h
  refine core_frame (fun ho => ?_) h
  have hp : pt ∉ [.od, .alarm, .red, .net, .power, .log, .out] := withOut hp ho
  try simp only [↓State.controlledNum_same (away hp (by decide)), ↓State.clearLatches_same (away hp (by decide)),
    ite_self, implies_true, id_eq]

theorem execBankCommit_frame {pt : Part} (hp : pt ∉ [.od, .alarm, .red, .net, .log]) (t : Nat) (p : Path) (v : Nat) (s : State) {s' : State}
    (h : execBankCommit t p v s = .next s') : s'.quiet.only pt = (s.advance t).quiet.only pt := by
  unfold execBankCommit at h
  refine core_frame (fun ho => ?_) h
  have hp : pt ∉ [.od, .alarm, .red, .net, .log, .out] := withOut hp ho
  try simp only [↓State.controlledNum_same (away hp (by decide)), ↓State.requestCommit_same (away hp (by decide)),
    ite_self, implies_true, id_eq]

theorem execBankSwap_frame {pt : Part} (hp : pt ∉ [.od, .alarm, .net, .power, .log]) (t : Nat) (s : State) {s' : State}
    (h : execBankSwap t s = .next s') : s'.quiet.only pt = (s.advance t).quiet.only pt := by
  unfold execBankSwap at h
  refine powered_frame (fun ho => ?_) h
  have hp : pt ∉ [.od, .alarm, .net, .power, .log, .out] := withOut hp ho
  try dsimp only
  try simp only [↓State.swapBank_same hp, ↓only_ite, ↓only_iteFst, ↓only_iteSnd, ite_self, implies_true, id_eq]
  all_goals repeat' split <;> try simp only [↓State.swapBank_same hp, ↓only_ite, ↓only_iteFst, ↓only_iteSnd,
    ite_self, implies_true, id_eq]

theorem execActiveBankScrub_frame {pt : Part} (hp : pt ∉ [.alarm, .net, .log]) (t : Nat) (crc : BitVec 32) (s : State) {s' : State}
    (h : execActiveBankScrub t crc s = .next s') : s'.quiet.only pt = (s.advance t).quiet.only pt := by
  unfold execActiveBankScrub at h
  refine powered_frame (fun ho => ?_) h
  have hp : pt ∉ [.alarm, .net, .log, .out] := withOut hp ho
  try simp only [↓State.alarmFault_same hp, ↓only_ite, ↓only_iteFst, ↓only_iteSnd, ite_self, implies_true, id_eq]

theorem execGclkFault_frame {pt : Part} (hp : pt ∉ [.alarm, .net, .log]) (t : Nat) (s : State) {s' : State}
    (h : execGclkFault t s = .next s') : s'.quiet.only pt = (s.advance t).quiet.only pt := by
  unfold execGclkFault at h
  refine powered_frame (fun ho => ?_) h
  have hp : pt ∉ [.alarm, .net, .log, .out] := withOut hp ho
  try simp only [↓State.onAlarm_same (away hp (by decide)), ↓State.alarmFault_same hp, ite_self, implies_true, id_eq]

theorem execReseed_frame {pt : Part} (hp : pt ∉ [.od, .noise]) (t : Nat) (s : State) {s' : State}
    (h : execReseed t s = .next s') : s'.quiet.only pt = (s.advance t).quiet.only pt := by
  unfold execReseed at h
  refine powered_frame (fun ho => ?_) h
  have hp : pt ∉ [.od, .noise, .out] := withOut hp ho
  try simp only [↓State.reseed_same (away hp (by decide)), ↓only_ite, ↓only_iteFst, ↓only_iteSnd, ite_self,
    implies_true, id_eq]

theorem execHealthWindow_frame {pt : Part} (hp : pt ∉ [.od, .noise, .net, .log]) (t : Nat) (raw : BitVec 1024) (s : State) {s' : State}
    (h : execHealthWindow t raw s = .next s') : s'.quiet.only pt = (s.advance t).quiet.only pt := by
  unfold execHealthWindow at h
  refine powered_frame (fun ho => ?_) h
  have hp : pt ∉ [.od, .noise, .net, .log, .out] := withOut hp ho
  try simp only [↓State.healthWindow_same hp, ↓only_ite, ↓only_iteFst, ↓only_iteSnd, ite_self, implies_true, id_eq]

theorem execChunkVisible_frame {pt : Part} (hp : pt ∉ [.od, .head, .streams, .codec, .xfer, .comp, .link, .net, .log, .sram, .dram]) (t xfer : Nat) (crcOk : Bool) (data : List Byte) (s : State) {s' : State}
    (h : execChunkVisible t xfer crcOk data s = .next s') : s'.quiet.only pt = (s.advance t).quiet.only pt := by
  unfold execChunkVisible at h
  split at h
  · cases h
  · refine core_frame (fun ho => ?_) h
    have hp : pt ∉ [.od, .head, .streams, .codec, .xfer, .comp, .link, .net, .log, .sram, .dram, .out] := withOut hp ho
    try dsimp only
    split
    · rfl
    · exact State.chunkVisible_same (away hp (by decide)) ..

theorem execTranslationFault_frame {pt : Part} (hp : pt ∉ [.free, .od, .head, .streams, .codec, .xfer, .comp, .link, .net, .log, .sram, .dram]) (t xfer chunk va access : Nat) (walkError : Bool) (s : State) {s' : State}
    (h : execTranslationFault t xfer chunk va access walkError s = .next s') : s'.quiet.only pt = (s.advance t).quiet.only pt := by
  unfold execTranslationFault at h
  split at h
  · cases h
  · refine core_frame (fun ho => ?_) h
    have hp : pt ∉ [.free, .od, .head, .streams, .codec, .xfer, .comp, .link, .net, .log, .sram, .dram, .out] := withOut hp ho
    try dsimp only
    split
    · rfl
    · split
      · exact State.raiseFault_same (away hp (by decide)) ..
      · split
        · rw [State.raiseFault_same (away hp (by decide)), State.draw_same (away hp (by decide))]
        · rfl

theorem execFaultResume_frame {pt : Part} (hp : pt ∉ [.od, .head, .streams, .codec, .xfer, .comp, .link, .red, .net, .log, .sram, .dram]) (t : Nat) (p : Path) (v : BitVec 32) (s : State) {s' : State}
    (h : execFaultResume t p v s = .next s') : s'.quiet.only pt = (s.advance t).quiet.only pt := by
  unfold execFaultResume at h
  refine core_frame (fun ho => ?_) h
  have hp : pt ∉ [.od, .head, .streams, .codec, .xfer, .comp, .link, .red, .net, .log, .sram, .dram, .out] := withOut hp ho
  try simp only [↓State.controlledNum_same (away hp (by decide)), ↓State.respond_same (away hp (by decide)),
    ite_self, implies_true, id_eq]

theorem execFaultAbandon_frame {pt : Part} (hp : pt ∉ [.od, .head, .streams, .codec, .xfer, .comp, .link, .red, .net, .log, .sram, .dram]) (t : Nat) (p : Path) (v : BitVec 32) (s : State) {s' : State}
    (h : execFaultAbandon t p v s = .next s') : s'.quiet.only pt = (s.advance t).quiet.only pt := by
  unfold execFaultAbandon at h
  refine core_frame (fun ho => ?_) h
  have hp : pt ∉ [.od, .head, .streams, .codec, .xfer, .comp, .link, .red, .net, .log, .sram, .dram, .out] := withOut hp ho
  try simp only [↓State.controlledNum_same (away hp (by decide)), ↓State.respond_same (away hp (by decide)),
    ite_self, implies_true, id_eq]

theorem execFaultDeadline_frame {pt : Part} (hp : pt ∉ [.od, .head, .streams, .codec, .xfer, .comp, .link, .net, .log]) (t : Nat) (s : State) {s' : State}
    (h : execFaultDeadline t s = .next s') : s'.quiet.only pt = (s.advance t).quiet.only pt := by
  unfold execFaultDeadline at h
  refine core_frame (fun ho => ?_) h
  have hp : pt ∉ [.od, .head, .streams, .codec, .xfer, .comp, .link, .net, .log, .out] := withOut hp ho
  try simp only [↓State.missDeadline_same hp, only_foldl, only_foldlFst, ite_self, implies_true, id_eq]

theorem execInvalidate_frame {pt : Part} (hp : pt ∉ [.od, .xfer, .red, .net, .log]) (t : Nat) (p : Path) (v : Nat) (s : State) {s' : State}
    (h : execInvalidate t p v s = .next s') : s'.quiet.only pt = (s.advance t).quiet.only pt := by
  unfold execInvalidate at h
  refine core_frame (fun ho => ?_) h
  have hp : pt ∉ [.od, .xfer, .red, .net, .log, .out] := withOut hp ho
  try simp only [↓State.controlledNum_same (away hp (by decide)), ↓State.invalidate_same (away hp (by decide)),
    ↓only_ite, ↓only_iteFst, ↓only_iteSnd, ite_self, implies_true, id_eq]

theorem execInvalidationCompleted_frame {pt : Part} (hp : pt ∉ [.xfer, .net, .log]) (t : Nat) (s : State) {s' : State}
    (h : execInvalidationCompleted t s = .next s') : s'.quiet.only pt = (s.advance t).quiet.only pt := by
  unfold execInvalidationCompleted at h
  refine core_frame (fun ho => ?_) h
  have hp : pt ∉ [.xfer, .net, .log, .out] := withOut hp ho
  try simp only [↓State.onXfer_same (away hp (by decide)), ↓State.emit_same (away hp (by decide)), ↓only_ite,
    ↓only_iteFst, ↓only_iteSnd, ite_self, implies_true, id_eq]

theorem execSramScrub_frame {pt : Part} (hp : pt ∉ [.od, .comp, .net, .log]) (t addr errors : Nat) (s : State) {s' : State}
    (h : execSramScrub t addr errors s = .next s') : s'.quiet.only pt = (s.advance t).quiet.only pt := by
  unfold execSramScrub at h
  refine powered_frame (fun ho => ?_) h
  have hp : pt ∉ [.od, .comp, .net, .log, .out] := withOut hp ho
  try simp only [↓State.scrubWord_same hp, ↓only_ite, ↓only_iteFst, ↓only_iteSnd, ite_self, implies_true, id_eq]

theorem execImageLoadFromNor_frame {pt : Part} (hp : pt ∉ [.od, .head, .red, .net, .log]) (t : Nat) (p : Path) (v : Nat) (s : State) {s' : State}
    (h : execImageLoadFromNor t p v s = .next s') : s'.quiet.only pt = (s.advance t).quiet.only pt := by
  unfold execImageLoadFromNor at h
  refine core_frame (fun ho => ?_) h
  have hp : pt ∉ [.od, .head, .red, .net, .log, .out] := withOut hp ho
  try simp only [↓State.controlledNum_same (away hp (by decide)), ↓State.loadImage_same (away hp (by decide)),
    ↓only_ite, ↓only_iteFst, ↓only_iteSnd, ite_self, implies_true, id_eq]

theorem execSlotHashComplete_frame {pt : Part} (hp : pt ∉ [.od, .head, .comp, .net, .log]) (t : Nat) (n : Fin 16) (digest : Nat) (s : State) {s' : State}
    (h : execSlotHashComplete t n digest s = .next s') : s'.quiet.only pt = (s.advance t).quiet.only pt := by
  unfold execSlotHashComplete at h
  refine core_frame (fun ho => ?_) h
  have hp : pt ∉ [.od, .head, .comp, .net, .log, .out] := withOut hp ho
  try simp only [↓State.slotHash_same hp, ite_self, implies_true, id_eq]

theorem execSlotReload_frame {pt : Part} (hp : pt ∉ [.od, .head, .comp, .red, .net, .log]) (t : Nat) (p : Path) (n : Fin 16) (v : Nat) (s : State) {s' : State}
    (h : execSlotReload t p n v s = .next s') : s'.quiet.only pt = (s.advance t).quiet.only pt := by
  unfold execSlotReload at h
  refine core_frame (fun ho => ?_) h
  have hp : pt ∉ [.od, .head, .comp, .red, .net, .log, .out] := withOut hp ho
  try simp only [↓State.controlledNum_same (away hp (by decide)), ↓State.reloadSlot_same (away hp (by decide)),
    ite_self, implies_true, id_eq]

theorem execQueueDoorbell_frame {pt : Part} (hp : pt ∉ [.od, .comp, .net, .log]) (t : Nat) (q : Fin 16) (tail : BitVec 32) (entries : List Bits512) (s : State) {s' : State}
    (h : execQueueDoorbell t q tail entries s = .next s') : s'.quiet.only pt = (s.advance t).quiet.only pt := by
  unfold execQueueDoorbell at h
  refine core_frame (fun ho => ?_) h
  have hp : pt ∉ [.od, .comp, .net, .log, .out] := withOut hp ho
  try simp only [↓State.doorbell_same hp, ite_self, implies_true, id_eq]

theorem execQueueEnable_frame {pt : Part} (hp : pt ∉ [.od, .comp, .red, .net, .log]) (t : Nat) (p : Path) (q : Fin 16) (s : State) {s' : State}
    (h : execQueueEnable t p q s = .next s') : s'.quiet.only pt = (s.advance t).quiet.only pt := by
  unfold execQueueEnable at h
  refine core_frame (fun ho => ?_) h
  have hp : pt ∉ [.od, .comp, .red, .net, .log, .out] := withOut hp ho
  try simp only [↓State.controlledNum_same (away hp (by decide)), ↓State.switchQueue_same (away hp (by decide)),
    ite_self, implies_true, id_eq]

theorem execQueueDisable_frame {pt : Part} (hp : pt ∉ [.od, .comp, .red, .net, .log]) (t : Nat) (p : Path) (q : Fin 16) (s : State) {s' : State}
    (h : execQueueDisable t p q s = .next s') : s'.quiet.only pt = (s.advance t).quiet.only pt := by
  unfold execQueueDisable at h
  refine core_frame (fun ho => ?_) h
  have hp : pt ∉ [.od, .comp, .red, .net, .log, .out] := withOut hp ho
  try simp only [↓State.controlledNum_same (away hp (by decide)), ↓State.switchQueue_same (away hp (by decide)),
    ite_self, implies_true, id_eq]

theorem execQueueReset_frame {pt : Part} (hp : pt ∉ [.od, .comp, .red, .net, .log]) (t : Nat) (p : Path) (q : Fin 16) (s : State) {s' : State}
    (h : execQueueReset t p q s = .next s') : s'.quiet.only pt = (s.advance t).quiet.only pt := by
  unfold execQueueReset at h
  refine core_frame (fun ho => ?_) h
  have hp : pt ∉ [.od, .comp, .red, .net, .log, .out] := withOut hp ho
  try simp only [↓State.controlledNum_same (away hp (by decide)), ↓State.resetQueue_same (away hp (by decide)),
    ite_self, implies_true, id_eq]

theorem execCompletionHeadWrite_frame {pt : Part} (hp : pt ∉ [.comp]) (t : Nat) (q : Fin 16) (v : BitVec 32) (s : State) {s' : State}
    (h : execCompletionHeadWrite t q v s = .next s') : s'.quiet.only pt = (s.advance t).quiet.only pt := by
  unfold execCompletionHeadWrite at h
  refine core_frame (fun ho => ?_) h
  have hp : pt ∉ [.comp, .out] := withOut hp ho
  try simp only [↓State.releaseRecords_same (away hp (by decide)), ite_self, implies_true, id_eq]

theorem execRunJob_frame {pt : Part} (hp : pt ∉ [.od, .head, .comp, .net, .log]) (t : Nat) (q : Fin 16) (descs : List Bits512) (s : State) {s' : State}
    (h : execRunJob t q descs s = .next s') : s'.quiet.only pt = (s.advance t).quiet.only pt := by
  unfold execRunJob at h
  refine core_frame (fun ho => ?_) h
  have hp : pt ∉ [.od, .head, .comp, .net, .log, .out] := withOut hp ho
  try simp only [↓State.demandJob_same (away hp (by decide)), ↓State.takeEntry512_same (away hp (by decide)),
    ite_self, implies_true, id_eq]

theorem execSubmitUnit_frame {pt : Part} (hp : pt ∉ [.od, .streams, .codec, .comp, .net, .log]) (t : Nat) (q : Fin 16) (desc : Bits512) (formatOk : Bool) (s : State) {s' : State}
    (h : execSubmitUnit t q desc formatOk s = .next s') : s'.quiet.only pt = (s.advance t).quiet.only pt := by
  unfold execSubmitUnit at h
  refine core_frame (fun ho => ?_) h
  have hp : pt ∉ [.od, .streams, .codec, .comp, .net, .log, .out] := withOut hp ho
  try dsimp only
  try simp only [↓State.refuseEntry_same (away hp (by decide)), ↓State.checkUnit_same (away hp (by decide)),
    ↓State.passEntry_same (away hp (by decide)), ↓State.submit_same hp, ↓only_ite, ↓only_iteFst, ↓only_iteSnd,
    ite_self, implies_true, id_eq]
  all_goals repeat' split <;> try simp only [↓State.refuseEntry_same (away hp (by decide)),
    ↓State.checkUnit_same (away hp (by decide)), ↓State.passEntry_same (away hp (by decide)), ↓State.submit_same hp,
    ↓only_ite, ↓only_iteFst, ↓only_iteSnd, ite_self, implies_true, id_eq]

theorem execFenceWrite_frame {pt : Part} (hp : pt ∉ [.od, .comp, .net, .log]) (t : Nat) (q : Fin 16) (s : State) {s' : State}
    (h : execFenceWrite t q s = .next s') : s'.quiet.only pt = (s.advance t).quiet.only pt := by
  unfold execFenceWrite at h
  refine core_frame (fun ho => ?_) h
  have hp : pt ∉ [.od, .comp, .net, .log, .out] := withOut hp ho
  try simp only [↓State.takeEntry512_same hp, ↓State.setFence_same (away hp (by decide)), ↓only_ite, ↓only_iteFst,
    ↓only_iteSnd, ite_self, implies_true, id_eq]

theorem execFenceToken_frame {pt : Part} (hp : pt ∉ [.od, .comp, .net, .log]) (t : Nat) (q : Fin 16) (s : State) {s' : State}
    (h : execFenceToken t q s = .next s') : s'.quiet.only pt = (s.advance t).quiet.only pt := by
  unfold execFenceToken at h
  refine core_frame (fun ho => ?_) h
  have hp : pt ∉ [.od, .comp, .net, .log, .out] := withOut hp ho
  try simp only [↓State.takeEntry512_same hp, ↓State.setFence_same (away hp (by decide)), ↓only_ite, ↓only_iteFst,
    ↓only_iteSnd, ite_self, implies_true, id_eq]

theorem execNop_frame {pt : Part} (hp : pt ∉ [.od, .comp, .net, .log]) (t : Nat) (q : Fin 16) (s : State) {s' : State}
    (h : execNop t q s = .next s') : s'.quiet.only pt = (s.advance t).quiet.only pt := by
  unfold execNop at h
  refine core_frame (fun ho => ?_) h
  have hp : pt ∉ [.od, .comp, .net, .log, .out] := withOut hp ho
  try simp only [↓State.takeEntry512_same hp, ↓State.entryDone_same (away hp (by decide)), ite_self, implies_true,
    id_eq]

theorem execLoadImage_frame {pt : Part} (hp : pt ∉ [.od, .head, .comp, .net, .log]) (t : Nat) (q : Fin 16) (img : Image) (s : State) {s' : State}
    (h : execLoadImage t q img s = .next s') : s'.quiet.only pt = (s.advance t).quiet.only pt := by
  unfold execLoadImage at h
  refine core_frame (fun ho => ?_) h
  have hp : pt ∉ [.od, .head, .comp, .net, .log, .out] := withOut hp ho
  try simp only [↓State.loadImage_same (away hp (by decide)), ↓State.takeEntry512_same (away hp (by decide)),
    ↓State.entryDone_same (away hp (by decide)), ↓only_ite, ↓only_iteFst, ↓only_iteSnd, ite_self, implies_true, id_eq]

theorem execPortTrainStart_frame {pt : Part} (hp : pt ∉ [.free, .od, .link]) (t : Nat) (k : Fin 2) (s : State) {s' : State}
    (h : execPortTrainStart t k s = .next s') : s'.quiet.only pt = (s.advance t).quiet.only pt := by
  unfold execPortTrainStart at h
  refine core_frame (fun ho => ?_) h
  have hp : pt ∉ [.free, .od, .link, .out] := withOut hp ho
  try simp only [↓State.startTrain_same hp, ↓only_ite, ↓only_iteFst, ↓only_iteSnd, ite_self, implies_true, id_eq]

theorem execTrain_frame {pt : Part} (hp : pt ∉ [.od, .link]) (t : Nat) (k : Fin 2) (c : BitVec 56) (s : State) {s' : State}
    (h : execTrain t k c s = .next s') : s'.quiet.only pt = (s.advance t).quiet.only pt := by
  unfold execTrain at h
  refine core_frame (fun ho => ?_) h
  have hp : pt ∉ [.od, .link, .out] := withOut hp ho
  try simp only [↓State.takeTrain_same hp, ↓only_ite, ↓only_iteFst, ↓only_iteSnd, ite_self, implies_true, id_eq]

theorem execTrainingComplete_frame {pt : Part} (hp : pt ∉ [.free, .od, .link]) (t : Nat) (k : Fin 2) (s : State) {s' : State}
    (h : execTrainingComplete t k s = .next s') : s'.quiet.only pt = (s.advance t).quiet.only pt := by
  unfold execTrainingComplete at h
  refine core_frame (fun ho => ?_) h
  have hp : pt ∉ [.free, .od, .link, .out] := withOut hp ho
  try simp only [↓State.trained_same hp, ↓only_ite, ↓only_iteFst, ↓only_iteSnd, ite_self, implies_true, id_eq]

theorem execTrainTimeout_frame {pt : Part} (hp : pt ∉ [.link]) (t : Nat) (k : Fin 2) (s : State) {s' : State}
    (h : execTrainTimeout t k s = .next s') : s'.quiet.only pt = (s.advance t).quiet.only pt := by
  unfold execTrainTimeout at h
  refine core_frame (fun ho => ?_) h
  have hp : pt ∉ [.link, .out] := withOut hp ho
  try simp only [↓State.portTo_same (away hp (by decide)), ↓only_ite, ↓only_iteFst, ↓only_iteSnd, ite_self,
    implies_true, id_eq]

theorem execIdent_frame {pt : Part} (hp : pt ∉ [.free, .od, .link, .red, .net, .log]) (t : Nat) (k : Fin 2) (payload : IdentPayload) (s : State) {s' : State}
    (h : execIdent t k payload s = .next s') : s'.quiet.only pt = (s.advance t).quiet.only pt := by
  unfold execIdent at h
  refine core_frame (fun ho => ?_) h
  have hp : pt ∉ [.free, .od, .link, .red, .net, .log, .out] := withOut hp ho
  try simp only [↓State.trained_same (away hp (by decide)), ↓State.takeIdent_same (away hp (by decide)),
    ↓State.roleTo_same (away hp (by decide)), ↓only_ite, ↓only_iteFst, ↓only_iteSnd, ite_self, implies_true, id_eq]

theorem execIdentTimeout_frame {pt : Part} (hp : pt ∉ [.link, .net, .log]) (t : Nat) (k : Fin 2) (s : State) {s' : State}
    (h : execIdentTimeout t k s = .next s') : s'.quiet.only pt = (s.advance t).quiet.only pt := by
  unfold execIdentTimeout at h
  refine core_frame (fun ho => ?_) h
  have hp : pt ∉ [.link, .net, .log, .out] := withOut hp ho
  try simp only [↓State.emit_same (away hp (by decide)), ↓State.portTo_same (away hp (by decide)), ↓only_ite,
    ↓only_iteFst, ↓only_iteSnd, ite_self, implies_true, id_eq]

theorem execRefusedTimeout_frame {pt : Part} (hp : pt ∉ [.free, .od, .link]) (t : Nat) (k : Fin 2) (s : State) {s' : State}
    (h : execRefusedTimeout t k s = .next s') : s'.quiet.only pt = (s.advance t).quiet.only pt := by
  unfold execRefusedTimeout at h
  refine core_frame (fun ho => ?_) h
  have hp : pt ∉ [.free, .od, .link, .out] := withOut hp ho
  try simp only [↓State.startTrain_same hp, ↓only_ite, ↓only_iteFst, ↓only_iteSnd, ite_self, implies_true, id_eq]

theorem execPortRetrain_frame {pt : Part} (hp : pt ∉ [.free, .od, .link, .net, .log]) (t : Nat) (k : Fin 2) (s : State) {s' : State}
    (h : execPortRetrain t k s = .next s') : s'.quiet.only pt = (s.advance t).quiet.only pt := by
  unfold execPortRetrain at h
  refine core_frame (fun ho => ?_) h
  have hp : pt ∉ [.free, .od, .link, .net, .log, .out] := withOut hp ho
  try simp only [↓State.incr_same (away hp (by decide)), ↓State.emit_same (away hp (by decide)),
    ↓State.onPort_same (away hp (by decide)), ↓State.trainIn_same (away hp (by decide)), ↓only_ite, ↓only_iteFst,
    ↓only_iteSnd, ite_self, implies_true, id_eq]

theorem execRetrainTimeout_frame {pt : Part} (hp : pt ∉ [.od, .head, .streams, .codec, .xfer, .comp, .link, .red, .net, .log]) (t : Nat) (k : Fin 2) (s : State) {s' : State}
    (h : execRetrainTimeout t k s = .next s') : s'.quiet.only pt = (s.advance t).quiet.only pt := by
  unfold execRetrainTimeout at h
  refine core_frame (fun ho => ?_) h
  have hp : pt ∉ [.od, .head, .streams, .codec, .xfer, .comp, .link, .red, .net, .log, .out] := withOut hp ho
  try simp only [↓State.portGoesDown_same hp, ↓only_ite, ↓only_iteFst, ↓only_iteSnd, ite_self, implies_true, id_eq]

theorem execAck_frame {pt : Part} (hp : pt ∉ [.od, .link]) (t : Nat) (k : Fin 2) (c : BitVec 56) (s : State) {s' : State}
    (h : execAck t k c s = .next s') : s'.quiet.only pt = (s.advance t).quiet.only pt := by
  unfold execAck at h
  refine core_frame (fun ho => ?_) h
  have hp : pt ∉ [.od, .link, .out] := withOut hp ho
  try simp only [↓State.takeAck_same hp, ↓only_ite, ↓only_iteFst, ↓only_iteSnd, ite_self, implies_true, id_eq]

theorem execNak_frame {pt : Part} (hp : pt ∉ [.od, .link]) (t : Nat) (k : Fin 2) (c : BitVec 56) (s : State) {s' : State}
    (h : execNak t k c s = .next s') : s'.quiet.only pt = (s.advance t).quiet.only pt := by
  unfold execNak at h
  refine core_frame (fun ho => ?_) h
  have hp : pt ∉ [.od, .link, .out] := withOut hp ho
  try simp only [↓State.replay_same hp, ↓only_ite, ↓only_iteFst, ↓only_iteSnd, ite_self, implies_true, id_eq]

theorem execReplayTimeout_frame {pt : Part} (hp : pt ∉ [.od, .link]) (t : Nat) (k : Fin 2) (s : State) {s' : State}
    (h : execReplayTimeout t k s = .next s') : s'.quiet.only pt = (s.advance t).quiet.only pt := by
  unfold execReplayTimeout at h
  refine core_frame (fun ho => ?_) h
  have hp : pt ∉ [.od, .link, .out] := withOut hp ho
  try simp only [↓State.replay_same hp, ↓only_ite, ↓only_iteFst, ↓only_iteSnd, ite_self, implies_true, id_eq]

theorem execBlockError_frame {pt : Part} (hp : pt ∉ [.od, .link]) (t : Nat) (k : Fin 2) (inFrame : Bool) (s : State) {s' : State}
    (h : execBlockError t k inFrame s = .next s') : s'.quiet.only pt = (s.advance t).quiet.only pt := by
  unfold execBlockError at h
  refine core_frame (fun ho => ?_) h
  have hp : pt ∉ [.od, .link, .out] := withOut hp ho
  try simp only [↓State.blockError_same hp, ↓only_ite, ↓only_iteFst, ↓only_iteSnd, ite_self, implies_true, id_eq]

theorem execHeartbeatInstant_frame {pt : Part} (hp : pt ∉ [.od, .inForce, .time, .tick, .head, .streams, .alarm, .codec, .xfer, .comp, .link, .red, .net, .dict, .power, .log, .health, .boot, .sram, .dram]) (t : Nat) (s : State) {s' : State}
    (h : execHeartbeatInstant t s = .next s') : s'.quiet.only pt = (s.advance t).quiet.only pt := by
  unfold execHeartbeatInstant at h
  refine core_frame (fun ho => ?_) h
  have hp : pt ∉ [.od, .inForce, .time, .tick, .head, .streams, .alarm, .codec, .xfer, .comp, .link, .red, .net, .dict, .power, .log, .health, .boot, .sram, .dram, .out] := withOut hp ho
  try simp only [↓State.onLink_same (away hp (by decide)), ↓State.reconcile_same (away hp (by decide)),
    ↓State.promote_same hp, ↓State.endPeriod_same (away hp (by decide)),
    ↓State.sendHeartbeats_same (away hp (by decide)), ↓only_ite, ↓only_iteFst, ↓only_iteSnd, only_foldl,
    only_foldlFst, ite_self, implies_true, id_eq]

theorem execHeartbeat_frame {pt : Part} (hp : pt ∉ [.link, .red, .net, .log]) (t : Nat) (k : Fin 2) (c : BitVec 56) (s : State) {s' : State}
    (h : execHeartbeat t k c s = .next s') : s'.quiet.only pt = (s.advance t).quiet.only pt := by
  unfold execHeartbeat at h
  refine core_frame (fun ho => ?_) h
  have hp : pt ∉ [.link, .red, .net, .log, .out] := withOut hp ho
  try simp only [↓State.passBlock_same (away hp (by decide)), ↓State.takeHeartbeat_same hp, ↓only_ite, ↓only_iteFst,
    ↓only_iteSnd, ite_self, implies_true, id_eq]

theorem execRole_frame {pt : Part} (hp : pt ∉ [.od, .link, .red, .net, .log]) (t : Nat) (k : Fin 2) (c : BitVec 56) (s : State) {s' : State}
    (h : execRole t k c s = .next s') : s'.quiet.only pt = (s.advance t).quiet.only pt := by
  unfold execRole at h
  refine core_frame (fun ho => ?_) h
  have hp : pt ∉ [.od, .link, .red, .net, .log, .out] := withOut hp ho
  try simp only [↓State.blockError_same (away hp (by decide)), ↓State.passBlock_same (away hp (by decide)),
    ↓State.takeRole_same (away hp (by decide)), ↓only_ite, ↓only_iteFst, ↓only_iteSnd, ite_self, implies_true, id_eq]

theorem execTick_frame {pt : Part} (hp : pt ∉ [.od, .link, .net, .log]) (t : Nat) (k : Fin 2) (c : BitVec 56) (s : State) {s' : State}
    (h : execTick t k c s = .next s') : s'.quiet.only pt = (s.advance t).quiet.only pt := by
  unfold execTick at h
  refine core_frame (fun ho => ?_) h
  have hp : pt ∉ [.od, .link, .net, .log, .out] := withOut hp ho
  try simp only [↓State.takeTick_same hp, ↓only_ite, ↓only_iteFst, ↓only_iteSnd, ite_self, implies_true, id_eq]

theorem execBye_frame {pt : Part} (hp : pt ∉ [.od, .head, .streams, .codec, .xfer, .comp, .link, .red, .net, .log]) (t : Nat) (k : Fin 2) (c : BitVec 56) (s : State) {s' : State}
    (h : execBye t k c s = .next s') : s'.quiet.only pt = (s.advance t).quiet.only pt := by
  unfold execBye at h
  refine core_frame (fun ho => ?_) h
  have hp : pt ∉ [.od, .head, .streams, .codec, .xfer, .comp, .link, .red, .net, .log, .out] := withOut hp ho
  try simp only [↓State.portGoesDown_same hp, ↓State.passBlock_same (away hp (by decide)),
    ↓State.departs_same (away hp (by decide)), ↓only_ite, ↓only_iteFst, ↓only_iteSnd, ite_self, implies_true, id_eq]

theorem execWrite_frame {pt : Part} (hp : pt ∉ [.od, .link, .net, .log, .sram, .dram]) (t : Nat) (k : Fin 2) (f : LinkFrame) (s : State) {s' : State}
    (h : execWrite t k f s = .next s') : s'.quiet.only pt = (s.advance t).quiet.only pt := by
  unfold execWrite at h
  split at h
  · cases h
  · refine core_frame (fun ho => ?_) h
    have hp : pt ∉ [.od, .link, .net, .log, .sram, .dram, .out] := withOut hp ho
    exact State.receive_same (away hp (by decide)) _ _ _ _ _ fun s i => State.takeWrite_same (away hp (by decide)) ..

theorem execAccum_frame {pt : Part} (hp : pt ∉ [.od, .comp, .link, .net, .log, .sram, .dram]) (t : Nat) (k : Fin 2) (f : LinkFrame) (ecc : Bool) (s : State) {s' : State}
    (h : execAccum t k f ecc s = .next s') : s'.quiet.only pt = (s.advance t).quiet.only pt := by
  unfold execAccum at h
  split at h
  · cases h
  · refine core_frame (fun ho => ?_) h
    have hp : pt ∉ [.od, .comp, .link, .net, .log, .sram, .dram, .out] := withOut hp ho
    exact State.receive_same (away hp (by decide)) _ _ _ _ _ fun s i => State.takeAccum_same (away hp (by decide)) ..

theorem execReadReq_frame {pt : Part} (hp : pt ∉ [.od, .comp, .link, .net, .log]) (t : Nat) (k : Fin 2) (f : LinkFrame) (ecc : Bool) (s : State) {s' : State}
    (h : execReadReq t k f ecc s = .next s') : s'.quiet.only pt = (s.advance t).quiet.only pt := by
  unfold execReadReq at h
  split at h
  · cases h
  · refine core_frame (fun ho => ?_) h
    have hp : pt ∉ [.od, .comp, .link, .net, .log, .out] := withOut hp ho
    exact State.receive_same (away hp (by decide)) _ _ _ _ _ fun s i => State.takeRead_same (away hp (by decide)) ..

theorem execReadData_frame {pt : Part} (hp : pt ∉ [.od, .head, .streams, .codec, .xfer, .comp, .link, .net, .log]) (t : Nat) (k : Fin 2) (f : LinkFrame) (s : State) {s' : State}
    (h : execReadData t k f s = .next s') : s'.quiet.only pt = (s.advance t).quiet.only pt := by
  unfold execReadData at h
  refine core_frame (fun ho => ?_) h
  have hp : pt ∉ [.od, .head, .streams, .codec, .xfer, .comp, .link, .net, .log, .out] := withOut hp ho
  try simp only [↓State.receive_same (away hp (by decide)), ↓State.takeAnswer_same hp, ite_self, implies_true, id_eq]

theorem execWriteAck_frame {pt : Part} (hp : pt ∉ [.od, .head, .streams, .codec, .xfer, .comp, .link, .net, .log]) (t : Nat) (k : Fin 2) (f : LinkFrame) (s : State) {s' : State}
    (h : execWriteAck t k f s = .next s') : s'.quiet.only pt = (s.advance t).quiet.only pt := by
  unfold execWriteAck at h
  refine core_frame (fun ho => ?_) h
  have hp : pt ∉ [.od, .head, .streams, .codec, .xfer, .comp, .link, .net, .log, .out] := withOut hp ho
  try simp only [↓State.receive_same (away hp (by decide)), ↓State.takeAnswer_same hp, ite_self, implies_true, id_eq]

theorem execToken_frame {pt : Part} (hp : pt ∉ [.od, .streams, .codec, .comp, .link, .net, .log]) (t : Nat) (k : Fin 2) (f : LinkFrame) (s : State) {s' : State}
    (h : execToken t k f s = .next s') : s'.quiet.only pt = (s.advance t).quiet.only pt := by
  unfold execToken at h
  refine core_frame (fun ho => ?_) h
  have hp : pt ∉ [.od, .streams, .codec, .comp, .link, .net, .log, .out] := withOut hp ho
  try simp only [↓State.sendTok_same (away hp (by decide)), ↓State.receive_same (away hp (by decide)),
    ↓State.refuseRequest_same (away hp (by decide)), ↓only_ite, ↓only_iteFst, ↓only_iteSnd, ite_self, implies_true,
    id_eq]

theorem execUnreach_frame {pt : Part} (hp : pt ∉ [.od, .head, .streams, .codec, .xfer, .comp, .link, .net, .log]) (t : Nat) (k : Fin 2) (f : LinkFrame) (s : State) {s' : State}
    (h : execUnreach t k f s = .next s') : s'.quiet.only pt = (s.advance t).quiet.only pt := by
  unfold execUnreach at h
  refine core_frame (fun ho => ?_) h
  have hp : pt ∉ [.od, .head, .streams, .codec, .xfer, .comp, .link, .net, .log, .out] := withOut hp ho
  try simp only [↓State.emit_same (away hp (by decide)), ↓State.receive_same (away hp (by decide)),
    ↓State.takeAnswer_same hp, ite_self, implies_true, id_eq]

theorem execJournal_frame {pt : Part} (hp : pt ∉ [.od, .inForce, .time, .tick, .head, .alarm, .link, .red, .net, .dict, .power, .log, .health, .boot, .dram]) (t : Nat) (k : Fin 2) (f : LinkFrame) (s : State) {s' : State}
    (h : execJournal t k f s = .next s') : s'.quiet.only pt = (s.advance t).quiet.only pt := by
  unfold execJournal at h
  refine core_frame (fun ho => ?_) h
  have hp : pt ∉ [.od, .inForce, .time, .tick, .head, .alarm, .link, .red, .net, .dict, .power, .log, .health, .boot, .dram, .out] := withOut hp ho
  try simp only [↓State.receive_same (away hp (by decide)), ↓State.takeEntry24_same hp, ↓only_ite, ↓only_iteFst,
    ↓only_iteSnd, only_foldl, only_foldlFst, ite_self, implies_true, id_eq]

theorem execSnapshot_frame {pt : Part} (hp : pt ∉ [.od, .link, .red, .net, .log]) (t : Nat) (k : Fin 2) (f : LinkFrame) (s : State) {s' : State}
    (h : execSnapshot t k f s = .next s') : s'.quiet.only pt = (s.advance t).quiet.only pt := by
  unfold execSnapshot at h
  refine core_frame (fun ho => ?_) h
  have hp : pt ∉ [.od, .link, .red, .net, .log, .out] := withOut hp ho
  try simp only [↓State.onRed_same (away hp (by decide)), ↓State.receive_same (away hp (by decide)),
    ↓State.takeHeader_same (away hp (by decide)), ↓only_ite, ↓only_iteFst, ↓only_iteSnd, ite_self, implies_true, id_eq]

theorem execCommit_frame {pt : Part} (hp : pt ∉ [.od, .inForce, .time, .tick, .head, .streams, .alarm, .codec, .xfer, .comp, .link, .red, .net, .dict, .power, .log, .health, .boot, .sram, .dram]) (t : Nat) (k : Fin 2) (f : LinkFrame) (s : State) {s' : State}
    (h : execCommit t k f s = .next s') : s'.quiet.only pt = (s.advance t).quiet.only pt := by
  unfold execCommit at h
  refine core_frame (fun ho => ?_) h
  have hp : pt ∉ [.od, .inForce, .time, .tick, .head, .streams, .alarm, .codec, .xfer, .comp, .link, .red, .net, .dict, .power, .log, .health, .boot, .sram, .dram, .out] := withOut hp ho
  try simp only [↓State.receive_same (away hp (by decide)), ↓State.takeCommit_same hp, ↓only_ite, ↓only_iteFst,
    ↓only_iteSnd, ite_self, implies_true, id_eq]

theorem execReplAck_frame {pt : Part} (hp : pt ∉ [.od, .inForce, .time, .tick, .head, .alarm, .link, .red, .net, .dict, .power, .log, .health, .boot, .dram]) (t : Nat) (k : Fin 2) (f : LinkFrame) (s : State) {s' : State}
    (h : execReplAck t k f s = .next s') : s'.quiet.only pt = (s.advance t).quiet.only pt := by
  unfold execReplAck at h
  refine core_frame (fun ho => ?_) h
  have hp : pt ∉ [.od, .inForce, .time, .tick, .head, .alarm, .link, .red, .net, .dict, .power, .log, .health, .boot, .dram, .out] := withOut hp ho
  refine State.receive_same (away hp (by decide)) _ _ _ _ _ fun s i => ?_
  split
  · dsimp only
    split
    · exact State.onRed_same (away hp (by decide)) ..
    · exact State.epochAnswer_same (away hp (by decide)) ..
    · exact State.epochAnswer_same (away hp (by decide)) ..
  · rfl

theorem execEpochAbandoned_frame {pt : Part} (hp : pt ∉ [.od, .red, .net, .log]) (t : Nat) (s : State) {s' : State}
    (h : execEpochAbandoned t s = .next s') : s'.quiet.only pt = (s.advance t).quiet.only pt := by
  unfold execEpochAbandoned at h
  refine core_frame (fun ho => ?_) h
  have hp : pt ∉ [.od, .red, .net, .log, .out] := withOut hp ho
  try simp only [↓State.onRed_same (away hp (by decide)), ↓State.loseEpoch_same (away hp (by decide)), ↓only_ite,
    ↓only_iteFst, ↓only_iteSnd, ite_self, implies_true, id_eq]

theorem execStartWaitExpiry_frame {pt : Part} (hp : pt ∉ [.link, .red, .net, .log]) (t : Nat) (s : State) {s' : State}
    (h : execStartWaitExpiry t s = .next s') : s'.quiet.only pt = (s.advance t).quiet.only pt := by
  unfold execStartWaitExpiry at h
  refine core_frame (fun ho => ?_) h
  have hp : pt ∉ [.link, .red, .net, .log, .out] := withOut hp ho
  try simp only [↓State.claim_same (away hp (by decide)), ↓State.becomeActive_same hp, ↓only_ite, ↓only_iteFst,
    ↓only_iteSnd, ite_self, implies_true, id_eq]

theorem execPromotionComplete_frame {pt : Part} (hp : pt ∉ [.link, .red, .net, .log]) (t : Nat) (s : State) {s' : State}
    (h : execPromotionComplete t s = .next s') : s'.quiet.only pt = (s.advance t).quiet.only pt := by
  unfold execPromotionComplete at h
  refine core_frame (fun ho => ?_) h
  have hp : pt ∉ [.link, .red, .net, .log, .out] := withOut hp ho
  try simp only [↓State.becomeActive_same hp, ↓only_ite, ↓only_iteFst, ↓only_iteSnd, ite_self, implies_true, id_eq]

theorem execPromotionGateTimeout_frame {pt : Part} (hp : pt ∉ [.od, .link, .red, .net, .log]) (t : Nat) (s : State) {s' : State}
    (h : execPromotionGateTimeout t s = .next s') : s'.quiet.only pt = (s.advance t).quiet.only pt := by
  unfold execPromotionGateTimeout at h
  refine core_frame (fun ho => ?_) h
  have hp : pt ∉ [.od, .link, .red, .net, .log, .out] := withOut hp ho
  try simp only [↓State.unclaim_same (away hp (by decide)), ↓State.enterDisputed_same hp, ↓only_ite, ↓only_iteFst,
    ↓only_iteSnd, ite_self, implies_true, id_eq]

theorem execDisputedEntered_frame {pt : Part} (hp : pt ∉ [.od, .link, .red, .net, .log]) (t : Nat) (s : State) {s' : State}
    (h : execDisputedEntered t s = .next s') : s'.quiet.only pt = (s.advance t).quiet.only pt := by
  unfold execDisputedEntered at h
  refine core_frame (fun ho => ?_) h
  have hp : pt ∉ [.od, .link, .red, .net, .log, .out] := withOut hp ho
  try simp only [↓State.enterDisputed_same hp, ↓only_ite, ↓only_iteFst, ↓only_iteSnd, ite_self, implies_true, id_eq]

theorem execDisputedResolved_frame {pt : Part} (hp : pt ∉ [.od, .inForce, .time, .tick, .head, .alarm, .link, .red, .net, .dict, .power, .log, .health, .boot, .dram]) (t : Nat) (s : State) {s' : State}
    (h : execDisputedResolved t s = .next s') : s'.quiet.only pt = (s.advance t).quiet.only pt := by
  unfold execDisputedResolved at h
  refine core_frame (fun ho => ?_) h
  have hp : pt ∉ [.od, .inForce, .time, .tick, .head, .alarm, .link, .red, .net, .dict, .power, .log, .health, .boot, .dram, .out] := withOut hp ho
  try simp only [↓State.resolve_same hp, ↓only_ite, ↓only_iteFst, ↓only_iteSnd, ite_self, implies_true, id_eq]

theorem execSwitchOverCommand_frame {pt : Part} (hp : pt ∉ [.od, .red, .net, .log]) (t : Nat) (p : Path) (s : State) {s' : State}
    (h : execSwitchOverCommand t p s = .next s') : s'.quiet.only pt = (s.advance t).quiet.only pt := by
  unfold execSwitchOverCommand at h
  refine core_frame (fun ho => ?_) h
  have hp : pt ∉ [.od, .red, .net, .log, .out] := withOut hp ho
  try simp only [↓State.onRed_same (away hp (by decide)), ↓State.controlledNum_same (away hp (by decide)), ↓only_ite,
    ↓only_iteFst, ↓only_iteSnd, ite_self, implies_true, id_eq]

theorem execResolve_frame {pt : Part} (hp : pt ∉ [.od, .inForce, .time, .tick, .head, .alarm, .link, .red, .net, .dict, .power, .log, .health, .boot, .dram]) (t : Nat) (p : Path) (s : State) {s' : State}
    (h : execResolve t p s = .next s') : s'.quiet.only pt = (s.advance t).quiet.only pt := by
  unfold execResolve at h
  refine core_frame (fun ho => ?_) h
  have hp : pt ∉ [.od, .inForce, .time, .tick, .head, .alarm, .link, .red, .net, .dict, .power, .log, .health, .boot, .dram, .out] := withOut hp ho
  try simp only [↓State.controlledNum_same (away hp (by decide)), ↓State.resolve_same hp, ite_self, implies_true,
    id_eq]

theorem execForceActive_frame {pt : Part} (hp : pt ∉ [.od, .inForce, .time, .tick, .head, .streams, .alarm, .codec, .xfer, .comp, .link, .red, .net, .dict, .power, .log, .health, .boot, .sram, .dram]) (t : Nat) (p : Path) (s : State) {s' : State}
    (h : execForceActive t p s = .next s') : s'.quiet.only pt = (s.advance t).quiet.only pt := by
  unfold execForceActive at h
  refine core_frame (fun ho => ?_) h
  have hp : pt ∉ [.od, .inForce, .time, .tick, .head, .streams, .alarm, .codec, .xfer, .comp, .link, .red, .net, .dict, .power, .log, .health, .boot, .sram, .dram, .out] := withOut hp ho
  try simp only [↓State.controlledNum_same (away hp (by decide)), ↓State.claim_same (away hp (by decide)),
    ↓State.becomeActive_same (away hp (by decide)), ↓State.restore_same hp, ite_self, implies_true, id_eq]

theorem execForceStandby_frame {pt : Part} (hp : pt ∉ [.od, .link, .red, .net, .log]) (t : Nat) (p : Path) (s : State) {s' : State}
    (h : execForceStandby t p s = .next s') : s'.quiet.only pt = (s.advance t).quiet.only pt := by
  unfold execForceStandby at h
  refine core_frame (fun ho => ?_) h
  have hp : pt ∉ [.od, .link, .red, .net, .log, .out] := withOut hp ho
  try simp only [↓State.controlledNum_same (away hp (by decide)), ↓State.roleTo_same (away hp (by decide)),
    ↓State.unclaim_same (away hp (by decide)), ite_self, implies_true, id_eq]

theorem execRequestedRoleWrite_frame {pt : Part} (hp : pt ∉ [.od, .inForce, .streams, .link, .red, .net, .log]) (t : Nat) (p : Path) (v : Nat) (s : State) {s' : State}
    (h : execRequestedRoleWrite t p v s = .next s') : s'.quiet.only pt = (s.advance t).quiet.only pt := by
  unfold execRequestedRoleWrite at h
  refine core_frame (fun ho => ?_) h
  have hp : pt ∉ [.od, .inForce, .streams, .link, .red, .net, .log, .out] := withOut hp ho
  try simp only [↓State.controlledNum_same (away hp (by decide)), ↓State.requestRole_same hp, ite_self, implies_true,
    id_eq]

theorem execPeerRoleInChange_frame {pt : Part} (hp : pt ∉ [.link, .red, .net, .log]) (t : Nat) (level : Bool) (s : State) {s' : State}
    (h : execPeerRoleInChange t level s = .next s') : s'.quiet.only pt = (s.advance t).quiet.only pt := by
  unfold execPeerRoleInChange at h
  refine powered_frame (fun ho => ?_) h
  have hp : pt ∉ [.link, .red, .net, .log, .out] := withOut hp ho
  try simp only [↓State.onRed_same (away hp (by decide)), ↓State.startJoins_same hp, ↓only_ite, ↓only_iteFst,
    ↓only_iteSnd, ite_self, implies_true, id_eq]

theorem execGateOpen_frame {pt : Part} (hp : pt ∉ [.red]) (t : Nat) (s : State) {s' : State}
    (h : execGateOpen t s = .next s') : s'.quiet.only pt = (s.advance t).quiet.only pt := by
  unfold execGateOpen at h
  refine powered_frame (fun ho => ?_) h
  have hp : pt ∉ [.red, .out] := withOut hp ho
  try simp only [↓State.onRed_same (away hp (by decide)), ↓only_ite, ↓only_iteFst, ↓only_iteSnd, ite_self,
    implies_true, id_eq]

theorem execInterlockConflict_frame {pt : Part} (hp : pt ∉ [.red, .net, .log]) (t : Nat) (s : State) {s' : State}
    (h : execInterlockConflict t s = .next s') : s'.quiet.only pt = (s.advance t).quiet.only pt := by
  unfold execInterlockConflict at h
  refine powered_frame (fun ho => ?_) h
  have hp : pt ∉ [.red, .net, .log, .out] := withOut hp ho
  try simp only [↓State.emit_same (away hp (by decide)), ↓State.unclaim_same (away hp (by decide)), ↓only_ite,
    ↓only_iteFst, ↓only_iteSnd, ite_self, implies_true, id_eq]

theorem execRoleKeeperLapse_frame {pt : Part} (hp : pt ∉ [.red]) (t : Nat) (s : State) {s' : State}
    (h : execRoleKeeperLapse t s = .next s') : s'.quiet.only pt = (s.advance t).quiet.only pt := by
  unfold execRoleKeeperLapse at h
  refine powered_frame (fun ho => ?_) h
  have hp : pt ∉ [.red, .out] := withOut hp ho
  try simp only [↓State.dropRole_same (away hp (by decide)), ↓only_ite, ↓only_iteFst, ↓only_iteSnd, ite_self,
    implies_true, id_eq]

theorem execStartRemoteNode_frame {pt : Part} (hp : pt ∉ [.od, .net, .power, .log]) (t : Nat) (c : Fin 2) (node : Nat) (s : State) {s' : State}
    (h : execStartRemoteNode t c node s = .next s') : s'.quiet.only pt = (s.advance t).quiet.only pt := by
  unfold execStartRemoteNode nmtCommand at h
  refine powered_frame (fun ho => ?_) h
  have hp : pt ∉ [.od, .net, .power, .log, .out] := withOut hp ho
  simp only [↓State.nmtStart_same (away hp (by decide)), ↓State.nmtInWatch_same (away hp (by decide)), ↓only_ite, ite_self]

theorem execStopRemoteNode_frame {pt : Part} (hp : pt ∉ [.od, .net, .power, .log]) (t : Nat) (c : Fin 2) (node : Nat) (s : State) {s' : State}
    (h : execStopRemoteNode t c node s = .next s') : s'.quiet.only pt = (s.advance t).quiet.only pt := by
  unfold execStopRemoteNode nmtCommand at h
  refine powered_frame (fun ho => ?_) h
  have hp : pt ∉ [.od, .net, .power, .log, .out] := withOut hp ho
  simp only [↓State.nmtStop_same (away hp (by decide)), ↓State.nmtInWatch_same (away hp (by decide)), ↓only_ite, ite_self]

theorem execEnterPreOperational_frame {pt : Part} (hp : pt ∉ [.od, .net, .power, .log]) (t : Nat) (c : Fin 2) (node : Nat) (s : State) {s' : State}
    (h : execEnterPreOperational t c node s = .next s') : s'.quiet.only pt = (s.advance t).quiet.only pt := by
  unfold execEnterPreOperational nmtCommand at h
  refine powered_frame (fun ho => ?_) h
  have hp : pt ∉ [.od, .net, .power, .log, .out] := withOut hp ho
  simp only [↓State.nmtPreOp_same (away hp (by decide)), ↓State.nmtInWatch_same (away hp (by decide)), ↓only_ite, ite_self]

theorem execResetCommunication_frame {pt : Part} (hp : pt ∉ [.od, .inForce, .net, .dict, .power, .log, .boot]) (t : Nat) (c : Fin 2) (node : Nat) (s : State) {s' : State}
    (h : execResetCommunication t c node s = .next s') : s'.quiet.only pt = (s.advance t).quiet.only pt := by
  unfold execResetCommunication nmtCommand at h
  refine powered_frame (fun ho => ?_) h
  have hp : pt ∉ [.od, .inForce, .net, .dict, .power, .log, .boot, .out] := withOut hp ho
  simp only [↓State.nmtResetComm_same (away hp (by decide)), ↓State.nmtInWatch_same (away hp (by decide)), ↓only_ite, ite_self]

theorem execResetNode_frame {pt : Part} (hp : pt ∉ [.od, .inForce, .actual, .time, .ptp, .tick, .head, .streams, .alarm, .codec, .noise, .xfer, .comp, .link, .red, .net, .dict, .power, .log, .health, .boot, .dram]) (t : Nat) (c : Fin 2) (node : Nat) (env : StartEnv) (s : State) {s' : State}
    (h : execResetNode t c node env s = .next s') : s'.quiet.only pt = (s.advance t).quiet.only pt := by
  unfold execResetNode nmtCommand at h
  refine powered_frame (fun ho => ?_) h
  have hp : pt ∉ [.od, .inForce, .actual, .time, .ptp, .tick, .head, .streams, .alarm, .codec, .noise, .xfer, .comp, .link, .red, .net, .dict, .power, .log, .health, .boot, .dram, .out] := withOut hp ho
  simp only [↓State.commandReset_same (away hp (by decide)), ↓State.nmtInWatch_same (away hp (by decide)), ↓only_ite, ite_self]

theorem execDuplicateListenEnd_frame {pt : Part} (hp : pt ∉ [.net, .log, .boot]) (t : Nat) (c : Fin 2) (s : State) {s' : State}
    (h : execDuplicateListenEnd t c s = .next s') : s'.quiet.only pt = (s.advance t).quiet.only pt := by
  unfold execDuplicateListenEnd at h
  refine core_frame (fun ho => ?_) h
  have hp : pt ∉ [.net, .log, .boot, .out] := withOut hp ho
  try simp only [↓State.onCtrl_same (away hp (by decide)), ↓State.leaveInitialisation_same hp, ↓only_ite,
    ↓only_iteFst, ↓only_iteSnd, ite_self, implies_true, id_eq]

theorem execDuplicate_frame {pt : Part} (hp : pt ∉ [.od, .net, .log]) (t : Nat) (c : Fin 2) (cob : Nat) (s : State) {s' : State}
    (h : execDuplicate t c cob s = .next s') : s'.quiet.only pt = (s.advance t).quiet.only pt := by
  unfold execDuplicate at h
  refine core_frame (fun ho => ?_) h
  have hp : pt ∉ [.od, .net, .log, .out] := withOut hp ho
  try simp only [↓State.silence_same hp, ↓only_ite, ↓only_iteFst, ↓only_iteSnd, ite_self, implies_true, id_eq]

theorem execHeartbeatProduction_frame {pt : Part} (hp : pt ∉ [.net]) (t : Nat) (c : Fin 2) (s : State) {s' : State}
    (h : execHeartbeatProduction t c s = .next s') : s'.quiet.only pt = (s.advance t).quiet.only pt := by
  unfold execHeartbeatProduction at h
  refine powered_frame (fun ho => ?_) h
  have hp : pt ∉ [.net, .out] := withOut hp ho
  try simp only [↓State.send_same (away hp (by decide)), ↓State.setCtrl_same (away hp (by decide)), ↓only_ite,
    ↓only_iteFst, ↓only_iteSnd, ite_self, implies_true, id_eq]

theorem execPartnerHeartbeat_frame {pt : Part} (hp : pt ∉ [.net, .log]) (t : Nat) (c : Fin 2) (node state : Nat) (s : State) {s' : State}
    (h : execPartnerHeartbeat t c node state s = .next s') : s'.quiet.only pt = (s.advance t).quiet.only pt := by
  unfold execPartnerHeartbeat at h
  refine core_frame (fun ho => ?_) h
  have hp : pt ∉ [.net, .log, .out] := withOut hp ho
  try simp only [↓State.hear_same hp, ↓only_ite, ↓only_iteFst, ↓only_iteSnd, ite_self, implies_true, id_eq]

theorem execBootUp_frame {pt : Part} (hp : pt ∉ [.net, .log]) (t : Nat) (c : Fin 2) (node : Nat) (s : State) {s' : State}
    (h : execBootUp t c node s = .next s') : s'.quiet.only pt = (s.advance t).quiet.only pt := by
  unfold execBootUp at h
  refine core_frame (fun ho => ?_) h
  have hp : pt ∉ [.net, .log, .out] := withOut hp ho
  try simp only [↓State.hear_same hp, ↓only_ite, ↓only_iteFst, ↓only_iteSnd, ite_self, implies_true, id_eq]

theorem execPartnerLost_frame {pt : Part} (hp : pt ∉ [.net, .log]) (t : Nat) (c : Fin 2) (node : Nat) (s : State) {s' : State}
    (h : execPartnerLost t c node s = .next s') : s'.quiet.only pt = (s.advance t).quiet.only pt := by
  unfold execPartnerLost at h
  refine core_frame (fun ho => ?_) h
  have hp : pt ∉ [.net, .log, .out] := withOut hp ho
  try dsimp only
  try simp only [↓State.losePartner_same hp, ↓only_ite, ↓only_iteFst, ↓only_iteSnd, ite_self, implies_true, id_eq]
  all_goals repeat' split <;> try simp only [↓State.losePartner_same hp, ↓only_ite, ↓only_iteFst, ↓only_iteSnd,
    ite_self, implies_true, id_eq]

theorem execPartnerForget_frame {pt : Part} (hp : pt ∉ [.net]) (t : Nat) (c : Fin 2) (node : Nat) (s : State) {s' : State}
    (h : execPartnerForget t c node s = .next s') : s'.quiet.only pt = (s.advance t).quiet.only pt := by
  unfold execPartnerForget at h
  refine core_frame (fun ho => ?_) h
  have hp : pt ∉ [.net, .out] := withOut hp ho
  try dsimp only
  try simp only [↓State.onNet_same (away hp (by decide)), ↓only_ite, ↓only_iteFst, ↓only_iteSnd, ite_self,
    implies_true, id_eq]
  all_goals repeat' split <;> try simp only [↓State.onNet_same (away hp (by decide)), ↓only_ite, ↓only_iteFst,
    ↓only_iteSnd, ite_self, implies_true, id_eq]

theorem execSync_frame {pt : Part} (hp : pt ∉ [.od, .net, .log]) (t : Nat) (c : Fin 2) (s : State) {s' : State}
    (h : execSync t c s = .next s') : s'.quiet.only pt = (s.advance t).quiet.only pt := by
  unfold execSync at h
  refine core_frame (fun ho => ?_) h
  have hp : pt ∉ [.od, .net, .log, .out] := withOut hp ho
  try simp only [↓State.onNet_same (away hp (by decide)), ↓State.transmitTpdo_same hp, ↓only_ite, ↓only_iteFst,
    ↓only_iteSnd, only_foldl, only_foldlFst, ite_self, implies_true, id_eq]

theorem execRpdo_frame {pt : Part} (hp : pt ∉ [.od, .inForce, .time, .tick, .head, .streams, .alarm, .codec, .xfer, .comp, .link, .red, .net, .dict, .power, .log, .health, .boot, .sram, .dram]) (t : Nat) (c : Fin 2) (n : Fin 8) (data : List Byte) (s : State) {s' : State}
    (h : execRpdo t c n data s = .next s') : s'.quiet.only pt = (s.advance t).quiet.only pt := by
  unfold execRpdo at h
  refine core_frame (fun ho => ?_) h
  have hp : pt ∉ [.od, .inForce, .time, .tick, .head, .streams, .alarm, .codec, .xfer, .comp, .link, .red, .net, .dict, .power, .log, .health, .boot, .sram, .dram, .out] := withOut hp ho
  try simp only [↓State.takeRpdo_same hp, ↓only_ite, ↓only_iteFst, ↓only_iteSnd, ite_self, implies_true, id_eq]

theorem execCanRecordFragment_frame {pt : Part} (hp : pt ∉ [.od, .streams, .codec, .comp, .net, .log]) (t : Nat) (c : Fin 2) (cob : Nat) (data : List Byte) (s : State) {s' : State}
    (h : execCanRecordFragment t c cob data s = .next s') : s'.quiet.only pt = (s.advance t).quiet.only pt := by
  unfold execCanRecordFragment at h
  refine core_frame (fun ho => ?_) h
  have hp : pt ∉ [.od, .streams, .codec, .comp, .net, .log, .out] := withOut hp ho
  try dsimp only
  try simp only [↓State.firstFragment_same hp, ↓State.nextFragment_same hp, ↓only_ite, ↓only_iteFst, ↓only_iteSnd,
    ite_self, implies_true, id_eq]
  all_goals repeat' split <;> try simp only [↓State.firstFragment_same hp, ↓State.nextFragment_same hp, ↓only_ite,
    ↓only_iteFst, ↓only_iteSnd, ite_self, implies_true, id_eq]

theorem execRecordReassemblyTimeout_frame {pt : Part} (hp : pt ∉ [.od, .net, .log]) (t : Nat) (c : Fin 2) (chan : Nat) (s : State) {s' : State}
    (h : execRecordReassemblyTimeout t c chan s = .next s') : s'.quiet.only pt = (s.advance t).quiet.only pt := by
  unfold execRecordReassemblyTimeout at h
  refine core_frame (fun ho => ?_) h
  have hp : pt ∉ [.od, .net, .log, .out] := withOut hp ho
  try dsimp only
  try simp only [↓State.dropRecord_same hp, ↓only_ite, ↓only_iteFst, ↓only_iteSnd, ite_self, implies_true, id_eq]
  all_goals repeat' split <;> try simp only [↓State.dropRecord_same hp, ↓only_ite, ↓only_iteFst, ↓only_iteSnd,
    ite_self, implies_true, id_eq]

theorem execErrorPassive_frame {pt : Part} (hp : pt ∉ [.net, .log]) (t : Nat) (c : Fin 2) (s : State) {s' : State}
    (h : execErrorPassive t c s = .next s') : s'.quiet.only pt = (s.advance t).quiet.only pt := by
  unfold execErrorPassive at h
  refine core_frame (fun ho => ?_) h
  have hp : pt ∉ [.net, .log, .out] := withOut hp ho
  try simp only [↓State.emit_same hp, ↓State.onCtrl_same (away hp (by decide)), ↓only_ite, ↓only_iteFst,
    ↓only_iteSnd, ite_self, implies_true, id_eq]

theorem execBusOff_frame {pt : Part} (hp : pt ∉ [.net, .log]) (t : Nat) (c : Fin 2) (s : State) {s' : State}
    (h : execBusOff t c s = .next s') : s'.quiet.only pt = (s.advance t).quiet.only pt := by
  unfold execBusOff at h
  refine core_frame (fun ho => ?_) h
  have hp : pt ∉ [.net, .log, .out] := withOut hp ho
  try simp only [↓State.enterBusOff_same hp, ↓only_ite, ↓only_iteFst, ↓only_iteSnd, ite_self, implies_true, id_eq]

theorem execBusOffRecovery_frame {pt : Part} (hp : pt ∉ [.net, .log]) (t : Nat) (c : Fin 2) (s : State) {s' : State}
    (h : execBusOffRecovery t c s = .next s') : s'.quiet.only pt = (s.advance t).quiet.only pt := by
  unfold execBusOffRecovery at h
  refine core_frame (fun ho => ?_) h
  have hp : pt ∉ [.net, .log, .out] := withOut hp ho
  try simp only [↓State.setCtrl_same (away hp (by decide)), ↓State.emit_same hp, ↓only_ite, ↓only_iteFst,
    ↓only_iteSnd, ite_self, implies_true, id_eq]

theorem execReleaseHeldOffController_frame {pt : Part} (hp : pt ∉ [.od, .red, .net, .log]) (t : Nat) (p : Path) (c : Fin 2) (v : Nat) (s : State) {s' : State}
    (h : execReleaseHeldOffController t p c v s = .next s') : s'.quiet.only pt = (s.advance t).quiet.only pt := by
  unfold execReleaseHeldOffController at h
  refine core_frame (fun ho => ?_) h
  have hp : pt ∉ [.od, .red, .net, .log, .out] := withOut hp ho
  try simp only [↓State.controlledNum_same (away hp (by decide)), ↓State.onCtrl_same (away hp (by decide)),
    ↓only_ite, ↓only_iteFst, ↓only_iteSnd, ite_self, implies_true, id_eq]

theorem execBusLoadWindow_frame {pt : Part} (hp : pt ∉ [.od, .net, .log, .health]) (t : Nat) (c : Fin 2) (load busiest : Nat) (s : State) {s' : State}
    (h : execBusLoadWindow t c load busiest s = .next s') : s'.quiet.only pt = (s.advance t).quiet.only pt := by
  unfold execBusLoadWindow at h
  refine core_frame (fun ho => ?_) h
  have hp : pt ∉ [.od, .net, .log, .health, .out] := withOut hp ho
  try simp only [↓State.setObj_same (away hp (by decide)), ↓State.emitLimited_same (away hp (by decide)),
    ↓State.observe_same hp, ↓only_ite, ↓only_iteFst, ↓only_iteSnd, ite_self, implies_true, id_eq]

theorem execSwitchStateGlobal_frame {pt : Part} (hp : pt ∉ [.net]) (t : Nat) (c : Fin 2) (config : Bool) (s : State) {s' : State}
    (h : execSwitchStateGlobal t c config s = .next s') : s'.quiet.only pt = (s.advance t).quiet.only pt := by
  unfold execSwitchStateGlobal at h
  refine core_frame (fun ho => ?_) h
  have hp : pt ∉ [.net, .out] := withOut hp ho
  try simp only [↓State.onCtrl_same (away hp (by decide)), ↓State.whenLss_same, ite_self, implies_true, id_eq]

theorem execSwitchStateSelective_frame {pt : Part} (hp : pt ∉ [.net]) (t : Nat) (c : Fin 2) (addr : List Nat) (s : State) {s' : State}
    (h : execSwitchStateSelective t c addr s = .next s') : s'.quiet.only pt = (s.advance t).quiet.only pt := by
  unfold execSwitchStateSelective at h
  refine core_frame (fun ho => ?_) h
  have hp : pt ∉ [.net, .out] := withOut hp ho
  try simp only [↓State.send_same (away hp (by decide)), ↓State.onCtrl_same (away hp (by decide)),
    ↓State.whenLss_same, ↓only_ite, ↓only_iteFst, ↓only_iteSnd, ite_self, implies_true, id_eq]

theorem execConfigureNodeId_frame {pt : Part} (hp : pt ∉ [.od, .net, .log]) (t : Nat) (c : Fin 2) (v : Nat) (s : State) {s' : State}
    (h : execConfigureNodeId t c v s = .next s') : s'.quiet.only pt = (s.advance t).quiet.only pt := by
  unfold execConfigureNodeId at h
  refine core_frame (fun ho => ?_) h
  have hp : pt ∉ [.od, .net, .log, .out] := withOut hp ho
  try simp only [↓State.send_same (away hp (by decide)), ↓State.setObj_same (away hp (by decide)),
    ↓State.emit_same (away hp (by decide)), ↓State.onCtrl_same (away hp (by decide)), ↓State.whenConfig_same,
    ↓only_ite, ↓only_iteFst, ↓only_iteSnd, ite_self, implies_true, id_eq]

theorem execConfigureBitTiming_frame {pt : Part} (hp : pt ∉ [.net]) (t : Nat) (c : Fin 2) (v : Nat) (s : State) {s' : State}
    (h : execConfigureBitTiming t c v s = .next s') : s'.quiet.only pt = (s.advance t).quiet.only pt := by
  unfold execConfigureBitTiming at h
  refine core_frame (fun ho => ?_) h
  have hp : pt ∉ [.net, .out] := withOut hp ho
  try dsimp only
  try simp only [↓State.send_same (away hp (by decide)), ↓State.onCtrl_same (away hp (by decide)),
    ↓State.whenConfig_same, ite_self, implies_true, id_eq]
  all_goals repeat' split <;> try simp only [↓State.send_same (away hp (by decide)),
    ↓State.onCtrl_same (away hp (by decide)), ↓State.whenConfig_same, ite_self, implies_true, id_eq]

theorem execActivateBitTiming_frame {pt : Part} (hp : pt ∉ [.od, .net]) (t : Nat) (c : Fin 2) (s : State) {s' : State}
    (h : execActivateBitTiming t c s = .next s') : s'.quiet.only pt = (s.advance t).quiet.only pt := by
  unfold execActivateBitTiming at h
  refine core_frame (fun ho => ?_) h
  have hp : pt ∉ [.od, .net, .out] := withOut hp ho
  refine State.whenConfig_same _ _ _ fun s => ?_
  split
  · simp only [↓State.setObj_same (away hp (by decide)), ↓State.onCtrl_same (away hp (by decide))]
  · rfl

theorem execStoreConfiguration_frame {pt : Part} (hp : pt ∉ [.dict, .health, .boot]) (t : Nat) (c : Fin 2) (s : State) {s' : State}
    (h : execStoreConfiguration t c s = .next s') : s'.quiet.only pt = (s.advance t).quiet.only pt := by
  unfold execStoreConfiguration at h
  refine core_frame (fun ho => ?_) h
  have hp : pt ∉ [.dict, .health, .boot, .out] := withOut hp ho
  try simp only [↓State.send_same (away hp (by decide)), ↓State.beginStore_same (away hp (by decide)),
    ↓State.whenConfig_same, ↓only_ite, ↓only_iteFst, ↓only_iteSnd, ite_self, implies_true, id_eq]

theorem execInquireIdentity_frame {pt : Part} (hp : pt ∉ []) (t : Nat) (c : Fin 2) (part : Fin 4) (s : State) {s' : State}
    (h : execInquireIdentity t c part s = .next s') : s'.quiet.only pt = (s.advance t).quiet.only pt := by
  unfold execInquireIdentity at h
  refine core_frame (fun ho => ?_) h
  have hp : pt ∉ [.out] := withOut hp ho
  try simp only [↓State.send_same hp, ↓State.whenConfig_same, ite_self, implies_true, id_eq]

theorem execInquireNodeId_frame {pt : Part} (hp : pt ∉ []) (t : Nat) (c : Fin 2) (s : State) {s' : State}
    (h : execInquireNodeId t c s = .next s') : s'.quiet.only pt = (s.advance t).quiet.only pt := by
  unfold execInquireNodeId at h
  refine core_frame (fun ho => ?_) h
  have hp : pt ∉ [.out] := withOut hp ho
  try simp only [↓State.send_same hp, ↓State.whenConfig_same, ite_self, implies_true, id_eq]

theorem execIdentifyRemoteSlave_frame {pt : Part} (hp : pt ∉ []) (t : Nat) (c : Fin 2) (vendor product revLo revHi serLo serHi : Nat) (s : State) {s' : State}
    (h : execIdentifyRemoteSlave t c vendor product revLo revHi serLo serHi s = .next s') : s'.quiet.only pt = (s.advance t).quiet.only pt := by
  unfold execIdentifyRemoteSlave at h
  refine core_frame (fun ho => ?_) h
  have hp : pt ∉ [.out] := withOut hp ho
  try simp only [↓State.send_same hp, ↓State.whenLss_same, ↓only_ite, ↓only_iteFst, ↓only_iteSnd, ite_self,
    implies_true, id_eq]

theorem execIdentifyNonConfiguredSlave_frame {pt : Part} (hp : pt ∉ []) (t : Nat) (c : Fin 2) (s : State) {s' : State}
    (h : execIdentifyNonConfiguredSlave t c s = .next s') : s'.quiet.only pt = (s.advance t).quiet.only pt := by
  unfold execIdentifyNonConfiguredSlave at h
  refine core_frame (fun ho => ?_) h
  have hp : pt ∉ [.out] := withOut hp ho
  try simp only [↓State.send_same hp, ↓State.whenLss_same, ↓only_ite, ↓only_iteFst, ↓only_iteSnd, ite_self,
    implies_true, id_eq]

theorem execFastscan_frame {pt : Part} (hp : pt ∉ [.net]) (t : Nat) (c : Fin 2) (id bitCheck sub next : Nat) (s : State) {s' : State}
    (h : execFastscan t c id bitCheck sub next s = .next s') : s'.quiet.only pt = (s.advance t).quiet.only pt := by
  unfold execFastscan at h
  refine core_frame (fun ho => ?_) h
  have hp : pt ∉ [.net, .out] := withOut hp ho
  try simp only [↓State.whenLss_same, ↓State.scanStep_same hp, ↓only_ite, ↓only_iteFst, ↓only_iteSnd, ite_self,
    implies_true, id_eq]

theorem execPlcaStatusChange_frame {pt : Part} (hp : pt ∉ [.net, .log]) (t : Nat) (ok : Bool) (s : State) {s' : State}
    (h : execPlcaStatusChange t ok s = .next s') : s'.quiet.only pt = (s.advance t).quiet.only pt := by
  unfold execPlcaStatusChange at h
  refine core_frame (fun ho => ?_) h
  have hp : pt ∉ [.net, .log, .out] := withOut hp ho
  try simp only [↓State.onNet_same (away hp (by decide)), ↓State.emit_same hp, ↓only_ite, ↓only_iteFst, ↓only_iteSnd,
    ite_self, implies_true, id_eq]

theorem execErroredTransmission_frame {pt : Part} (hp : pt ∉ [.od, .net, .log]) (t opp : Nat) (s : State) {s' : State}
    (h : execErroredTransmission t opp s = .next s') : s'.quiet.only pt = (s.advance t).quiet.only pt := by
  unfold execErroredTransmission at h
  refine core_frame (fun ho => ?_) h
  have hp : pt ∉ [.od, .net, .log, .out] := withOut hp ho
  try simp only [↓State.erroredIn_same hp, ↓only_ite, ↓only_iteFst, ↓only_iteSnd, ite_self, implies_true, id_eq]

theorem execCollision_frame {pt : Part} (hp : pt ∉ [.od, .net, .log]) (t : Nat) (s : State) {s' : State}
    (h : execCollision t s = .next s') : s'.quiet.only pt = (s.advance t).quiet.only pt := by
  unfold execCollision at h
  refine core_frame (fun ho => ?_) h
  have hp : pt ∉ [.od, .net, .log, .out] := withOut hp ho
  try simp only [↓State.onNet_same (away hp (by decide)), ↓State.incr_same (away hp (by decide)),
    ↓State.emit_same (away hp (by decide)), ↓only_ite, ↓only_iteFst, ↓only_iteSnd, ite_self, implies_true, id_eq]

theorem execTransmitLimit_frame {pt : Part} (hp : pt ∉ [.net]) (t : Nat) (s : State) {s' : State}
    (h : execTransmitLimit t s = .next s') : s'.quiet.only pt = (s.advance t).quiet.only pt := by
  unfold execTransmitLimit at h
  refine core_frame (fun ho => ?_) h
  have hp : pt ∉ [.net, .out] := withOut hp ho
  try simp only [↓State.onNet_same (away hp (by decide)), ite_self, implies_true, id_eq]

theorem execArp_frame {pt : Part} (hp : pt ∉ [.od, .net, .log]) (t : Nat) (iface : Fin 3) (asks : Bool) (sender senderMac target : Nat) (s : State) {s' : State}
    (h : execArp t iface asks sender senderMac target s = .next s') : s'.quiet.only pt = (s.advance t).quiet.only pt := by
  unfold execArp at h
  refine core_frame (fun ho => ?_) h
  have hp : pt ∉ [.od, .net, .log, .out] := withOut hp ho
  try simp only [↓State.broadcast_same hp, ↓State.takeArp_same (away hp (by decide)), ↓only_ite, ↓only_iteFst,
    ↓only_iteSnd, ite_self, implies_true, id_eq]

theorem execIcmpEcho_frame {pt : Part} (hp : pt ∉ [.net]) (t : Nat) (iface : Fin 3) (src dst : Nat) (data : List Byte) (s : State) {s' : State}
    (h : execIcmpEcho t iface src dst data s = .next s') : s'.quiet.only pt = (s.advance t).quiet.only pt := by
  unfold execIcmpEcho at h
  refine core_frame (fun ho => ?_) h
  have hp : pt ∉ [.net, .out] := withOut hp ho
  try simp only [↓State.transmitUdp_same hp, ↓only_ite, ↓only_iteFst, ↓only_iteSnd, ite_self, implies_true, id_eq]

theorem execUdpObjectAccess_frame {pt : Part} (hp : pt ∉ [.free, .od, .inForce, .time, .tick, .head, .streams, .alarm, .codec, .xfer, .comp, .link, .red, .net, .dict, .power, .log, .health, .boot, .sram, .dram]) (t : Nat) (src port : Nat) (data : List Byte) (s : State) {s' : State}
    (h : execUdpObjectAccess t src port data s = .next s') : s'.quiet.only pt = (s.advance t).quiet.only pt := by
  unfold execUdpObjectAccess at h
  refine core_frame (fun ho => ?_) h
  have hp : pt ∉ [.free, .od, .inForce, .time, .tick, .head, .streams, .alarm, .codec, .xfer, .comp, .link, .red, .net, .dict, .power, .log, .health, .boot, .sram, .dram, .out] := withOut hp ho
  try dsimp only
  try simp only [↓State.incr_same (away hp (by decide)), ↓State.answerUdp_same hp, ↓only_ite, ↓only_iteFst,
    ↓only_iteSnd, ite_self, implies_true, id_eq]
  all_goals repeat' split <;> try simp only [↓State.incr_same (away hp (by decide)), ↓State.answerUdp_same hp,
    ↓only_ite, ↓only_iteFst, ↓only_iteSnd, ite_self, implies_true, id_eq]

theorem execObjectWrite_frame {pt : Part} (hp : pt ∉ [.od, .inForce, .time, .tick, .head, .streams, .alarm, .codec, .xfer, .comp, .link, .red, .net, .dict, .power, .log, .health, .boot, .sram, .dram]) (t : Nat) (p : Path) (key : Nat) (data : List Byte) (s : State) {s' : State}
    (h : execObjectWrite t p key data s = .next s') : s'.quiet.only pt = (s.advance t).quiet.only pt := by
  unfold execObjectWrite at h
  refine served_frame (fun ho => ?_) h
  have hp : pt ∉ [.od, .inForce, .time, .tick, .head, .streams, .alarm, .codec, .xfer, .comp, .link, .red, .net, .dict, .power, .log, .health, .boot, .sram, .dram, .out] := withOut hp ho
  try simp only [↓State.applyWrite_same hp, ite_self, implies_true, id_eq]

theorem execDivergencePersisted_frame {pt : Part} (hp : pt ∉ [.od, .net, .dict, .log]) (t : Nat) (key : Nat) (s : State) {s' : State}
    (h : execDivergencePersisted t key s = .next s') : s'.quiet.only pt = (s.advance t).quiet.only pt := by
  unfold execDivergencePersisted at h
  refine core_frame (fun ho => ?_) h
  have hp : pt ∉ [.od, .net, .dict, .log, .out] := withOut hp ho
  try simp only [↓State.onDict_same (away hp (by decide)), ↓State.incr_same (away hp (by decide)),
    ↓State.emit_same (away hp (by decide)), ↓only_ite, ↓only_iteFst, ↓only_iteSnd, ite_self, implies_true, id_eq]

theorem execStore_frame {pt : Part} (hp : pt ∉ [.od, .net, .dict, .log, .health, .boot]) (t : Nat) (p : Path) (sub v : Nat) (s : State) {s' : State}
    (h : execStore t p sub v s = .next s') : s'.quiet.only pt = (s.advance t).quiet.only pt := by
  unfold execStore at h
  refine core_frame (fun ho => ?_) h
  have hp : pt ∉ [.od, .net, .dict, .log, .health, .boot, .out] := withOut hp ho
  try simp only [↓State.askStore_same hp, ite_self, implies_true, id_eq]

theorem execStoreComplete_frame {pt : Part} (hp : pt ∉ [.od, .inForce, .red, .net, .dict, .log, .health, .boot]) (t : Nat) (readBackOk : Bool) (s : State) {s' : State}
    (h : execStoreComplete t readBackOk s = .next s') : s'.quiet.only pt = (s.advance t).quiet.only pt := by
  unfold execStoreComplete at h
  refine core_frame (fun ho => ?_) h
  have hp : pt ∉ [.od, .inForce, .red, .net, .dict, .log, .health, .boot, .out] := withOut hp ho
  try simp only [↓State.storeEnds_same hp, ↓only_ite, ↓only_iteFst, ↓only_iteSnd, ite_self, implies_true, id_eq]

theorem execRestoreDefaults_frame {pt : Part} (hp : pt ∉ [.od, .net, .dict, .log, .health, .boot]) (t : Nat) (p : Path) (sub v : Nat) (s : State) {s' : State}
    (h : execRestoreDefaults t p sub v s = .next s') : s'.quiet.only pt = (s.advance t).quiet.only pt := by
  unfold execRestoreDefaults at h
  refine core_frame (fun ho => ?_) h
  have hp : pt ∉ [.od, .net, .dict, .log, .health, .boot, .out] := withOut hp ho
  try simp only [↓State.askRestore_same hp, ite_self, implies_true, id_eq]

theorem execDomainPortSelect_frame {pt : Part} (hp : pt ∉ [.od, .net, .dict, .log]) (t : Nat) (v : BitVec 32) (s : State) {s' : State}
    (h : execDomainPortSelect t v s = .next s') : s'.quiet.only pt = (s.advance t).quiet.only pt := by
  unfold execDomainPortSelect at h
  refine core_frame (fun ho => ?_) h
  have hp : pt ∉ [.od, .net, .dict, .log, .out] := withOut hp ho
  try simp only [↓State.refuse_same (away hp (by decide)), ↓State.selectObject_same (away hp (by decide)), ↓only_ite,
    ↓only_iteFst, ↓only_iteSnd, ite_self, implies_true, id_eq]

theorem execDomainPortCommit_frame {pt : Part} (hp : pt ∉ [.od, .inForce, .time, .tick, .head, .streams, .alarm, .codec, .xfer, .comp, .link, .red, .net, .dict, .power, .log, .health, .boot, .sram, .dram]) (t : Nat) (v : Nat) (data : List Byte) (s : State) {s' : State}
    (h : execDomainPortCommit t v data s = .next s') : s'.quiet.only pt = (s.advance t).quiet.only pt := by
  unfold execDomainPortCommit at h
  refine core_frame (fun ho => ?_) h
  have hp : pt ∉ [.od, .inForce, .time, .tick, .head, .streams, .alarm, .codec, .xfer, .comp, .link, .red, .net, .dict, .power, .log, .health, .boot, .sram, .dram, .out] := withOut hp ho
  try dsimp only
  try simp only [↓State.onDict_same (away hp (by decide)), ↓State.refuse_same (away hp (by decide)),
    ↓State.applyWrite_same hp, ↓only_ite, ↓only_iteFst, ↓only_iteSnd, ite_self, implies_true, id_eq]
  all_goals repeat' split <;> try simp only [↓State.onDict_same (away hp (by decide)),
    ↓State.refuse_same (away hp (by decide)), ↓State.applyWrite_same hp, ↓only_ite, ↓only_iteFst, ↓only_iteSnd,
    ite_self, implies_true, id_eq]

theorem execLivenessDoorbell_frame {pt : Part} (hp : pt ∉ [.od, .net, .log, .boot]) (t : Nat) (s : State) {s' : State}
    (h : execLivenessDoorbell t s = .next s') : s'.quiet.only pt = (s.advance t).quiet.only pt := by
  unfold execLivenessDoorbell at h
  refine core_frame (fun ho => ?_) h
  have hp : pt ∉ [.od, .net, .log, .boot, .out] := withOut hp ho
  try simp only [↓State.onBoot_same (away hp (by decide)), ↓State.incr_same (away hp (by decide)),
    ↓State.emit_same (away hp (by decide)), ↓only_ite, ↓only_iteFst, ↓only_iteSnd, ite_self, implies_true, id_eq]

theorem execHostLivenessLapse_frame {pt : Part} (hp : pt ∉ [.od, .head, .streams, .codec, .xfer, .comp, .link, .net, .dict, .log, .boot]) (t : Nat) (s : State) {s' : State}
    (h : execHostLivenessLapse t s = .next s') : s'.quiet.only pt = (s.advance t).quiet.only pt := by
  unfold execHostLivenessLapse at h
  refine powered_frame (fun ho => ?_) h
  have hp : pt ∉ [.od, .head, .streams, .codec, .xfer, .comp, .link, .net, .dict, .log, .boot, .out] := withOut hp ho
  try simp only [↓State.detachHost_same hp, ↓only_ite, ↓only_iteFst, ↓only_iteSnd, ite_self, implies_true, id_eq]

theorem execPcieReset_frame {pt : Part} (hp : pt ∉ [.od, .head, .streams, .codec, .xfer, .comp, .link, .net, .dict, .log, .boot]) (t : Nat) (s : State) {s' : State}
    (h : execPcieReset t s = .next s') : s'.quiet.only pt = (s.advance t).quiet.only pt := by
  unfold execPcieReset at h
  refine powered_frame (fun ho => ?_) h
  have hp : pt ∉ [.od, .head, .streams, .codec, .xfer, .comp, .link, .net, .dict, .log, .boot, .out] := withOut hp ho
  try simp only [↓State.onBoot_same (away hp (by decide)), ↓State.portDown_same (away hp (by decide)),
    ↓State.dropHostCopies_same (away hp (by decide)), ↓State.detachHost_same hp, ite_self, implies_true, id_eq]

theorem execPcieLinkDown_frame {pt : Part} (hp : pt ∉ [.od, .head, .streams, .codec, .xfer, .comp, .link, .net, .dict, .log, .boot]) (t : Nat) (s : State) {s' : State}
    (h : execPcieLinkDown t s = .next s') : s'.quiet.only pt = (s.advance t).quiet.only pt := by
  unfold execPcieLinkDown at h
  refine powered_frame (fun ho => ?_) h
  have hp : pt ∉ [.od, .head, .streams, .codec, .xfer, .comp, .link, .net, .dict, .log, .boot, .out] := withOut hp ho
  try simp only [↓State.portDown_same (away hp (by decide)), ↓State.detachHost_same hp, ite_self, implies_true, id_eq]

theorem execWorkingModeRequest_frame {pt : Part} (hp : pt ∉ [.od, .inForce, .streams, .red, .net, .power, .log]) (t : Nat) (p : Path) (v : Nat) (s : State) {s' : State}
    (h : execWorkingModeRequest t p v s = .next s') : s'.quiet.only pt = (s.advance t).quiet.only pt := by
  unfold execWorkingModeRequest at h
  refine core_frame (fun ho => ?_) h
  have hp : pt ∉ [.od, .inForce, .streams, .red, .net, .power, .log, .out] := withOut hp ho
  try simp only [↓State.request_same (away hp (by decide)), ↓State.controlledNum_same (away hp (by decide)),
    ↓State.noteReturn_same (away hp (by decide)), ite_self, implies_true, id_eq]

theorem execWatchCommand_frame {pt : Part} (hp : pt ∉ [.od, .red, .net, .power, .log]) (t : Nat) (p : Path) (s : State) {s' : State}
    (h : execWatchCommand t p s = .next s') : s'.quiet.only pt = (s.advance t).quiet.only pt := by
  unfold execWatchCommand at h
  refine core_frame (fun ho => ?_) h
  have hp : pt ∉ [.od, .red, .net, .power, .log, .out] := withOut hp ho
  try simp only [↓State.controlledNum_same (away hp (by decide)), ↓State.lowPower_same (away hp (by decide)),
    ite_self, implies_true, id_eq]

theorem execRetainedOffCommand_frame {pt : Part} (hp : pt ∉ [.od, .red, .net, .power, .log]) (t : Nat) (p : Path) (s : State) {s' : State}
    (h : execRetainedOffCommand t p s = .next s') : s'.quiet.only pt = (s.advance t).quiet.only pt := by
  unfold execRetainedOffCommand at h
  refine core_frame (fun ho => ?_) h
  have hp : pt ∉ [.od, .red, .net, .power, .log, .out] := withOut hp ho
  try simp only [↓State.controlledNum_same (away hp (by decide)), ↓State.lowPower_same (away hp (by decide)),
    ite_self, implies_true, id_eq]

theorem execDeferralTimeout_frame {pt : Part} (hp : pt ∉ [.power]) (t : Nat) (s : State) {s' : State}
    (h : execDeferralTimeout t s = .next s') : s'.quiet.only pt = (s.advance t).quiet.only pt := by
  unfold execDeferralTimeout at h
  refine powered_frame (fun ho => ?_) h
  have hp : pt ∉ [.power, .out] := withOut hp ho
  try simp only [↓State.onPower_same (away hp (by decide)), ↓only_ite, ↓only_iteFst, ↓only_iteSnd, ite_self,
    implies_true, id_eq]

theorem execSpotterFrameEnd_frame {pt : Part} (hp : pt ∉ [.od, .head, .net, .power, .log]) (t : Nat) (score : BitVec 16) (samples : List (BitVec 16)) (s : State) {s' : State}
    (h : execSpotterFrameEnd t score samples s = .next s') : s'.quiet.only pt = (s.advance t).quiet.only pt := by
  unfold execSpotterFrameEnd at h
  refine powered_frame (fun ho => ?_) h
  have hp : pt ∉ [.od, .head, .net, .power, .log, .out] := withOut hp ho
  try simp only [↓State.takeFrame_same (away hp (by decide)), ↓State.scoreFrame_same hp, ↓only_ite, ↓only_iteFst,
    ↓only_iteSnd, ite_self, implies_true, id_eq]

theorem execWakeN_frame {pt : Part} (hp : pt ∉ [.od, .net, .power, .log]) (t : Nat) (s : State) {s' : State}
    (h : execWakeN t s = .next s') : s'.quiet.only pt = (s.advance t).quiet.only pt := by
  unfold execWakeN at h
  refine always_frame (fun ho => ?_) h
  have hp : pt ∉ [.od, .net, .power, .log, .out] := withOut hp ho
  try simp only [↓State.wakeLogic_same hp, ite_self, implies_true, id_eq]

theorem execRtcWakeTime_frame {pt : Part} (hp : pt ∉ [.od, .net, .power, .log]) (t : Nat) (s : State) {s' : State}
    (h : execRtcWakeTime t s = .next s') : s'.quiet.only pt = (s.advance t).quiet.only pt := by
  unfold execRtcWakeTime at h
  refine always_frame (fun ho => ?_) h
  have hp : pt ∉ [.od, .net, .power, .log, .out] := withOut hp ho
  try simp only [↓State.wakeLogic_same hp, ↓only_ite, ↓only_iteFst, ↓only_iteSnd, ite_self, implies_true, id_eq]

theorem execRailsNotGood_frame {pt : Part} (hp : pt ∉ [.net, .power, .log]) (t : Nat) (s : State) {s' : State}
    (h : execRailsNotGood t s = .next s') : s'.quiet.only pt = (s.advance t).quiet.only pt := by
  unfold execRailsNotGood at h
  refine powered_frame (fun ho => ?_) h
  have hp : pt ∉ [.net, .power, .log, .out] := withOut hp ho
  try simp only [↓State.onPower_same (away hp (by decide)), ↓State.emit_same (away hp (by decide)), ↓only_ite,
    ↓only_iteFst, ↓only_iteSnd, ite_self, implies_true, id_eq]

theorem execWakeRetry_frame {pt : Part} (hp : pt ∉ [.power]) (t : Nat) (s : State) {s' : State}
    (h : execWakeRetry t s = .next s') : s'.quiet.only pt = (s.advance t).quiet.only pt := by
  unfold execWakeRetry at h
  refine powered_frame (fun ho => ?_) h
  have hp : pt ∉ [.power, .out] := withOut hp ho
  try simp only [↓State.startExit_same (away hp (by decide)), ↓only_ite, ↓only_iteFst, ↓only_iteSnd, ite_self,
    implies_true, id_eq]

theorem execThermalSample_frame {pt : Part} (hp : pt ∉ [.od, .net, .power, .log, .health]) (t : Nat) (r : Readings) (s : State) {s' : State}
    (h : execThermalSample t r s = .next s') : s'.quiet.only pt = (s.advance t).quiet.only pt := by
  unfold execThermalSample at h
  refine powered_frame (fun ho => ?_) h
  have hp : pt ∉ [.od, .net, .power, .log, .health, .out] := withOut hp ho
  try simp only [↓State.onPower_same (away hp (by decide)), ↓State.lifetimeSample_same (away hp (by decide)),
    ↓State.thermalTo_same (away hp (by decide)), ↓State.observeSensors_same (away hp (by decide)),
    ↓State.countForced_same (away hp (by decide)), ite_self, implies_true, id_eq]

theorem execThermalTrip_frame {pt : Part} (hp : pt ∉ [.alarm, .red, .power, .boot]) (t : Nat) (s : State) {s' : State}
    (h : execThermalTrip t s = .next s') : s'.quiet.only pt = (s.advance t).quiet.only pt := by
  unfold execThermalTrip at h
  refine powered_frame (fun ho => ?_) h
  have hp : pt ∉ [.alarm, .red, .power, .boot, .out] := withOut hp ho
  try simp only [↓State.onAlarm_same (away hp (by decide)), ↓State.onPower_same (away hp (by decide)),
    ↓State.onBoot_same (away hp (by decide)), ↓State.unclaim_same (away hp (by decide)), ite_self, implies_true, id_eq]

theorem execMonitorSnapshot_frame {pt : Part} (hp : pt ∉ [.od, .red, .net, .log, .health]) (t : Nat) (p : Path) (m : Fin 48) (s : State) {s' : State}
    (h : execMonitorSnapshot t p m s = .next s') : s'.quiet.only pt = (s.advance t).quiet.only pt := by
  unfold execMonitorSnapshot at h
  refine core_frame (fun ho => ?_) h
  have hp : pt ∉ [.od, .red, .net, .log, .health, .out] := withOut hp ho
  try simp only [↓State.controlledNum_same (away hp (by decide)), ↓State.monitorControl_same (away hp (by decide)),
    ite_self, implies_true, id_eq]

theorem execMonitorSnapshotAndClear_frame {pt : Part} (hp : pt ∉ [.od, .red, .net, .log, .health]) (t : Nat) (p : Path) (m : Fin 48) (s : State) {s' : State}
    (h : execMonitorSnapshotAndClear t p m s = .next s') : s'.quiet.only pt = (s.advance t).quiet.only pt := by
  unfold execMonitorSnapshotAndClear at h
  refine core_frame (fun ho => ?_) h
  have hp : pt ∉ [.od, .red, .net, .log, .health, .out] := withOut hp ho
  try simp only [↓State.controlledNum_same (away hp (by decide)), ↓State.monitorControl_same (away hp (by decide)),
    ite_self, implies_true, id_eq]

theorem execMonitorClear_frame {pt : Part} (hp : pt ∉ [.od, .red, .net, .log, .health]) (t : Nat) (p : Path) (m : Fin 48) (s : State) {s' : State}
    (h : execMonitorClear t p m s = .next s') : s'.quiet.only pt = (s.advance t).quiet.only pt := by
  unfold execMonitorClear at h
  refine core_frame (fun ho => ?_) h
  have hp : pt ∉ [.od, .red, .net, .log, .health, .out] := withOut hp ho
  try simp only [↓State.controlledNum_same (away hp (by decide)), ↓State.monitorControl_same (away hp (by decide)),
    ite_self, implies_true, id_eq]

theorem execFlush_frame {pt : Part} (hp : pt ∉ [.od, .inForce, .actual, .time, .ptp, .tick, .head, .streams, .alarm, .codec, .noise, .xfer, .comp, .link, .red, .net, .dict, .power, .log, .health, .boot, .dram]) (t : Nat) (programFailAt : Option Nat) (s : State) {s' : State}
    (h : execFlush t programFailAt s = .next s') : s'.quiet.only pt = (s.advance t).quiet.only pt := by
  unfold execFlush at h
  refine powered_frame (fun ho => ?_) h
  have hp : pt ∉ [.od, .inForce, .actual, .time, .ptp, .tick, .head, .streams, .alarm, .codec, .noise, .xfer, .comp, .link, .red, .net, .dict, .power, .log, .health, .boot, .dram, .out] := withOut hp ho
  try simp only [↓State.flushAll_same (away hp (by decide)), ↓State.pendingReset_same hp, ↓only_ite, ↓only_iteFst,
    ↓only_iteSnd, ite_self, implies_true, id_eq]

theorem execFreeze_frame {pt : Part} (hp : pt ∉ [.od, .red, .net, .log]) (t : Nat) (p : Path) (s : State) {s' : State}
    (h : execFreeze t p s = .next s') : s'.quiet.only pt = (s.advance t).quiet.only pt := by
  unfold execFreeze at h
  refine core_frame (fun ho => ?_) h
  have hp : pt ∉ [.od, .red, .net, .log, .out] := withOut hp ho
  try simp only [↓State.controlledNum_same (away hp (by decide)), ↓State.freeze_same (away hp (by decide)), ite_self,
    implies_true, id_eq]

theorem execFreezeRelease_frame {pt : Part} (hp : pt ∉ [.od, .red, .net, .log]) (t : Nat) (p : Path) (s : State) {s' : State}
    (h : execFreezeRelease t p s = .next s') : s'.quiet.only pt = (s.advance t).quiet.only pt := by
  unfold execFreezeRelease at h
  refine core_frame (fun ho => ?_) h
  have hp : pt ∉ [.od, .red, .net, .log, .out] := withOut hp ho
  try simp only [↓State.controlledNum_same (away hp (by decide)), ↓State.releaseFreeze_same (away hp (by decide)),
    ite_self, implies_true, id_eq]

theorem execFreezeTimeout_frame {pt : Part} (hp : pt ∉ [.net, .log]) (t : Nat) (s : State) {s' : State}
    (h : execFreezeTimeout t s = .next s') : s'.quiet.only pt = (s.advance t).quiet.only pt := by
  unfold execFreezeTimeout at h
  refine powered_frame (fun ho => ?_) h
  have hp : pt ∉ [.net, .log, .out] := withOut hp ho
  try simp only [↓State.thaw_same hp, ↓only_ite, ↓only_iteFst, ↓only_iteSnd, ite_self, implies_true, id_eq]

theorem execPwrfailAsserted_frame {pt : Part} (hp : pt ∉ [.od, .red, .net, .dict, .log, .health, .boot]) (t : Nat) (s : State) {s' : State}
    (h : execPwrfailAsserted t s = .next s') : s'.quiet.only pt = (s.advance t).quiet.only pt := by
  unfold execPwrfailAsserted at h
  refine powered_frame (fun ho => ?_) h
  have hp : pt ∉ [.od, .red, .net, .dict, .log, .health, .boot, .out] := withOut hp ho
  try simp only [↓State.onLog_same (away hp (by decide)), ↓State.powerFails_same hp, ↓only_ite, ↓only_iteFst,
    ↓only_iteSnd, ite_self, implies_true, id_eq]

theorem execPowerRestored_frame {pt : Part} (hp : pt ∉ [.net, .log, .health]) (t : Nat) (s : State) {s' : State}
    (h : execPowerRestored t s = .next s') : s'.quiet.only pt = (s.advance t).quiet.only pt := by
  unfold execPowerRestored at h
  refine powered_frame (fun ho => ?_) h
  have hp : pt ∉ [.net, .log, .health, .out] := withOut hp ho
  try simp only [↓State.onLog_same (away hp (by decide)), ↓State.emit_same (away hp (by decide)),
    ↓State.eraseAhead_same hp, ↓only_ite, ↓only_iteFst, ↓only_iteSnd, ite_self, implies_true, id_eq]

theorem execWatchdogService_frame {pt : Part} (hp : pt ∉ [.free, .red, .net, .log, .health]) (t : Nat) (k : Fin 5) (s : State) {s' : State}
    (h : execWatchdogService t k s = .next s') : s'.quiet.only pt = (s.advance t).quiet.only pt := by
  unfold execWatchdogService at h
  refine powered_frame (fun ho => ?_) h
  have hp : pt ∉ [.free, .red, .net, .log, .health, .out] := withOut hp ho
  try simp only [↓State.draw_same (away hp (by decide)), ↓State.setDog_same (away hp (by decide)),
    ↓State.dogHalts_same (away hp (by decide)), ↓only_ite, ↓only_iteFst, ↓only_iteSnd, ite_self, implies_true, id_eq]

theorem execWatchdogExpiry_frame {pt : Part} (hp : pt ∉ [.red, .net, .log, .health]) (t : Nat) (k : Fin 5) (pc : BitVec 32) (s : State) {s' : State}
    (h : execWatchdogExpiry t k pc s = .next s') : s'.quiet.only pt = (s.advance t).quiet.only pt := by
  unfold execWatchdogExpiry at h
  refine powered_frame (fun ho => ?_) h
  have hp : pt ∉ [.red, .net, .log, .health, .out] := withOut hp ho
  try simp only [↓State.dogHalts_same hp, ↓only_ite, ↓only_iteFst, ↓only_iteSnd, ite_self, implies_true, id_eq]

theorem execDebugHalt_frame {pt : Part} (hp : pt ∉ [.red, .net, .log, .health]) (t : Nat) (k : Fin 5) (s : State) {s' : State}
    (h : execDebugHalt t k s = .next s') : s'.quiet.only pt = (s.advance t).quiet.only pt := by
  unfold execDebugHalt at h
  refine powered_frame (fun ho => ?_) h
  have hp : pt ∉ [.red, .net, .log, .health, .out] := withOut hp ho
  try simp only [↓State.emitLimited_same (away hp (by decide)), ↓State.debugHalt_same (away hp (by decide)),
    ↓only_ite, ↓only_iteFst, ↓only_iteSnd, ite_self, implies_true, id_eq]

theorem execDebugResume_frame {pt : Part} (hp : pt ∉ [.od, .inForce, .actual, .time, .ptp, .tick, .head, .streams, .alarm, .codec, .noise, .xfer, .comp, .link, .red, .net, .dict, .power, .log, .health, .boot, .dram]) (t : Nat) (k : Fin 5) (s : State) {s' : State}
    (h : execDebugResume t k s = .next s') : s'.quiet.only pt = (s.advance t).quiet.only pt := by
  unfold execDebugResume at h
  refine powered_frame (fun ho => ?_) h
  have hp : pt ∉ [.od, .inForce, .actual, .time, .ptp, .tick, .head, .streams, .alarm, .codec, .noise, .xfer, .comp, .link, .red, .net, .dict, .power, .log, .health, .boot, .dram, .out] := withOut hp ho
  try simp only [↓State.debugResume_same (away hp (by decide)), ↓State.pendingReset_same hp, ite_self, implies_true,
    id_eq]

theorem execParityError_frame {pt : Part} (hp : pt ∉ [.od, .inForce, .actual, .time, .ptp, .tick, .head, .streams, .alarm, .codec, .noise, .xfer, .comp, .link, .red, .net, .dict, .power, .log, .health, .boot, .dram]) (t : Nat) (core : Fin 4) (env : StartEnv) (s : State) {s' : State}
    (h : execParityError t core env s = .next s') : s'.quiet.only pt = (s.advance t).quiet.only pt := by
  unfold execParityError at h
  refine core_frame (fun ho => ?_) h
  have hp : pt ∉ [.od, .inForce, .actual, .time, .ptp, .tick, .head, .streams, .alarm, .codec, .noise, .xfer, .comp, .link, .red, .net, .dict, .power, .log, .health, .boot, .dram, .out] := withOut hp ho
  try simp only [↓State.incr_same (away hp (by decide)), ↓State.emit_same (away hp (by decide)),
    ↓State.resetNode_same hp, ite_self, implies_true, id_eq]

theorem execLifetimeEntry_frame {pt : Part} (hp : pt ∉ [.net, .log, .health]) (t : Nat) (writeOk : Bool) (s : State) {s' : State}
    (h : execLifetimeEntry t writeOk s = .next s') : s'.quiet.only pt = (s.advance t).quiet.only pt := by
  unfold execLifetimeEntry at h
  refine powered_frame (fun ho => ?_) h
  have hp : pt ∉ [.net, .log, .health, .out] := withOut hp ho
  try simp only [↓State.appendLifetime_same hp, ↓only_ite, ↓only_iteFst, ↓only_iteSnd, ite_self, implies_true, id_eq]

theorem execEraseCountWrite_frame {pt : Part} (hp : pt ∉ [.net, .log, .health]) (t : Nat) (writeOk : Bool) (s : State) {s' : State}
    (h : execEraseCountWrite t writeOk s = .next s') : s'.quiet.only pt = (s.advance t).quiet.only pt := by
  unfold execEraseCountWrite at h
  refine powered_frame (fun ho => ?_) h
  have hp : pt ∉ [.net, .log, .health, .out] := withOut hp ho
  try simp only [↓State.writeEraseTable_same hp, ↓only_ite, ↓only_iteFst, ↓only_iteSnd, ite_self, implies_true, id_eq]

theorem execPowerOnReset_frame {pt : Part} (hp : pt ∉ [.od, .inForce, .actual, .time, .ptp, .tick, .head, .streams, .alarm, .codec, .noise, .xfer, .comp, .link, .red, .net, .dict, .power, .log, .health, .boot, .sram, .dram]) (t : Nat) (env : StartEnv) (s : State) {s' : State}
    (h : execPowerOnReset t env s = .next s') : s'.quiet.only pt = (s.advance t).quiet.only pt := by
  unfold execPowerOnReset at h
  refine always_frame (fun ho => ?_) h
  have hp : pt ∉ [.od, .inForce, .actual, .time, .ptp, .tick, .head, .streams, .alarm, .codec, .noise, .xfer, .comp, .link, .red, .net, .dict, .power, .log, .health, .boot, .sram, .dram, .out] := withOut hp ho
  exact State.fullStart_same hp ..

theorem execPinReset_frame {pt : Part} (hp : pt ∉ [.od, .inForce, .actual, .time, .ptp, .tick, .head, .streams, .alarm, .codec, .noise, .xfer, .comp, .link, .red, .net, .dict, .power, .log, .health, .boot, .sram, .dram]) (t : Nat) (env : StartEnv) (s : State) {s' : State}
    (h : execPinReset t env s = .next s') : s'.quiet.only pt = (s.advance t).quiet.only pt := by
  unfold execPinReset at h
  refine always_frame (fun ho => ?_) h
  have hp : pt ∉ [.od, .inForce, .actual, .time, .ptp, .tick, .head, .streams, .alarm, .codec, .noise, .xfer, .comp, .link, .red, .net, .dict, .power, .log, .health, .boot, .sram, .dram, .out] := withOut hp ho
  try simp only [↓State.fullStart_same hp, ↓only_ite, ↓only_iteFst, ↓only_iteSnd, ite_self, implies_true, id_eq]

theorem execConfirmFirmware_frame {pt : Part} (hp : pt ∉ [.od, .red, .net, .log, .boot]) (t : Nat) (p : Path) (v : Nat) (s : State) {s' : State}
    (h : execConfirmFirmware t p v s = .next s') : s'.quiet.only pt = (s.advance t).quiet.only pt := by
  unfold execConfirmFirmware at h
  refine core_frame (fun ho => ?_) h
  have hp : pt ∉ [.od, .red, .net, .log, .boot, .out] := withOut hp ho
  try simp only [↓State.controlledNum_same (away hp (by decide)), ↓State.confirmFirmware_same (away hp (by decide)),
    ite_self, implies_true, id_eq]

theorem execUpdateData_frame {pt : Part} (hp : pt ∉ [.od, .red, .net, .log, .health, .boot]) (t : Nat) (p : Path) (data : List Byte) (s : State) {s' : State}
    (h : execUpdateData t p data s = .next s') : s'.quiet.only pt = (s.advance t).quiet.only pt := by
  unfold execUpdateData at h
  refine served_frame (fun ho => ?_) h
  have hp : pt ∉ [.od, .red, .net, .log, .health, .boot, .out] := withOut hp ho
  try simp only [↓State.controlled_same (away hp (by decide)), ↓State.updateData_same (away hp (by decide)),
    ite_self, implies_true, id_eq]

theorem execUpdateCommit_frame {pt : Part} (hp : pt ∉ [.od, .inForce, .time, .tick, .head, .alarm, .link, .red, .net, .dict, .power, .log, .health, .boot, .dram]) (t : Nat) (p : Path) (v : Nat) (s : State) {s' : State}
    (h : execUpdateCommit t p v s = .next s') : s'.quiet.only pt = (s.advance t).quiet.only pt := by
  unfold execUpdateCommit at h
  refine served_frame (fun ho => ?_) h
  have hp : pt ∉ [.od, .inForce, .time, .tick, .head, .alarm, .link, .red, .net, .dict, .power, .log, .health, .boot, .dram, .out] := withOut hp ho
  try simp only [↓State.commitUpdate_same hp, ite_self, implies_true, id_eq]

theorem execUnlock_frame {pt : Part} (hp : pt ∉ [.net, .log, .boot]) (t : Nat) (tok : List Byte) (s : State) {s' : State}
    (h : execUnlock t tok s = .next s') : s'.quiet.only pt = (s.advance t).quiet.only pt := by
  unfold execUnlock at h
  refine powered_frame (fun ho => ?_) h
  have hp : pt ∉ [.net, .log, .boot, .out] := withOut hp ho
  try simp only [↓State.onBoot_same (away hp (by decide)), ↓State.emit_same (away hp (by decide)), ↓only_ite,
    ↓only_iteFst, ↓only_iteSnd, ite_self, implies_true, id_eq]

theorem execLock_frame {pt : Part} (hp : pt ∉ [.od, .red, .net, .log, .boot]) (t : Nat) (p : Path) (s : State) {s' : State}
    (h : execLock t p s = .next s') : s'.quiet.only pt = (s.advance t).quiet.only pt := by
  unfold execLock at h
  refine core_frame (fun ho => ?_) h
  have hp : pt ∉ [.od, .red, .net, .log, .boot, .out] := withOut hp ho
  try simp only [↓State.controlledNum_same (away hp (by decide)), ↓State.raiseLock_same (away hp (by decide)),
    ite_self, implies_true, id_eq]

theorem execSealDevice_frame {pt : Part} (hp : pt ∉ [.od, .red, .net, .log, .boot]) (t : Nat) (p : Path) (s : State) {s' : State}
    (h : execSealDevice t p s = .next s') : s'.quiet.only pt = (s.advance t).quiet.only pt := by
  unfold execSealDevice at h
  refine core_frame (fun ho => ?_) h
  have hp : pt ∉ [.od, .red, .net, .log, .boot, .out] := withOut hp ho
  try simp only [↓State.controlledNum_same (away hp (by decide)), ↓State.raiseLock_same (away hp (by decide)),
    ite_self, implies_true, id_eq]

theorem execKeyBlock_frame {pt : Part} (hp : pt ∉ [.od, .red, .net, .log, .boot]) (t : Nat) (p : Path) (data : List Byte) (s : State) {s' : State}
    (h : execKeyBlock t p data s = .next s') : s'.quiet.only pt = (s.advance t).quiet.only pt := by
  unfold execKeyBlock at h
  refine core_frame (fun ho => ?_) h
  have hp : pt ∉ [.od, .red, .net, .log, .boot, .out] := withOut hp ho
  try simp only [↓State.keyBlock_same hp, ite_self, implies_true, id_eq]

theorem execRetentionLost_frame {pt : Part} (hp : pt ∉ [.time]) (t : Nat) (s : State) {s' : State}
    (h : execRetentionLost t s = .next s') : s'.quiet.only pt = (s.advance t).quiet.only pt := by
  unfold execRetentionLost at h
  refine always_frame (fun ho => ?_) h
  have hp : pt ∉ [.time, .out] := withOut hp ho
  try simp only [↓State.onTime_same (away hp (by decide)), ite_self, implies_true, id_eq]

theorem execGclkRelock_frame {pt : Part} (hp : pt ∉ [.alarm]) (t : Nat) (s : State) {s' : State}
    (h : execGclkRelock t s = .next s') : s'.quiet.only pt = (s.advance t).quiet.only pt := by
  unfold execGclkRelock at h
  refine powered_frame (fun ho => ?_) h
  have hp : pt ∉ [.alarm, .out] := withOut hp ho
  try simp only [↓State.onAlarm_same (away hp (by decide)), ite_self, implies_true, id_eq]

theorem execFaultRingConsumerWrite_frame {pt : Part} (hp : pt ∉ [.xfer]) (t : Nat) (v : BitVec 32) (s : State) {s' : State}
    (h : execFaultRingConsumerWrite t v s = .next s') : s'.quiet.only pt = (s.advance t).quiet.only pt := by
  unfold execFaultRingConsumerWrite at h
  refine core_frame (fun ho => ?_) h
  have hp : pt ∉ [.xfer, .out] := withOut hp ho
  try simp only [↓State.consumeFaults_same (away hp (by decide)), ite_self, implies_true, id_eq]

theorem execCanWakeFrame_frame {pt : Part} (hp : pt ∉ [.od, .net, .power, .log]) (t : Nat) (c : Fin 2) (cob : Nat) (data : List Byte) (s : State) {s' : State}
    (h : execCanWakeFrame t c cob data s = .next s') : s'.quiet.only pt = (s.advance t).quiet.only pt := by
  unfold execCanWakeFrame at h
  refine powered_frame (fun ho => ?_) h
  have hp : pt ∉ [.od, .net, .power, .log, .out] := withOut hp ho
  try simp only [↓State.wakeFrame_same hp, ↓only_ite, ↓only_iteFst, ↓only_iteSnd, ite_self, implies_true, id_eq]

theorem execPwrfailDeasserted_frame {pt : Part} (hp : pt ∉ [.log]) (t : Nat) (s : State) {s' : State}
    (h : execPwrfailDeasserted t s = .next s') : s'.quiet.only pt = (s.advance t).quiet.only pt := by
  unfold execPwrfailDeasserted at h
  refine powered_frame (fun ho => ?_) h
  have hp : pt ∉ [.log, .out] := withOut hp ho
  try simp only [↓State.onLog_same (away hp (by decide)), ↓only_ite, ↓only_iteFst, ↓only_iteSnd, ite_self,
    implies_true, id_eq]

theorem execHostAssistStageRegistered_frame {pt : Part} (hp : pt ∉ [.head]) (t : Nat) (stage : Fin 32) (cost : Nat) (s : State) {s' : State}
    (h : execHostAssistStageRegistered t stage cost s = .next s') : s'.quiet.only pt = (s.advance t).quiet.only pt := by
  unfold execHostAssistStageRegistered at h
  refine core_frame (fun ho => ?_) h
  have hp : pt ∉ [.head, .out] := withOut hp ho
  try simp only [↓State.setStage_same (away hp (by decide)), ite_self, implies_true, id_eq]

theorem execCarrierInOwnTo_frame {pt : Part} (hp : pt ∉ [.od, .net, .log]) (t : Nat) (s : State) {s' : State}
    (h : execCarrierInOwnTo t s = .next s') : s'.quiet.only pt = (s.advance t).quiet.only pt := by
  unfold execCarrierInOwnTo at h
  refine core_frame (fun ho => ?_) h
  have hp : pt ∉ [.od, .net, .log, .out] := withOut hp ho
  try simp only [↓State.onNet_same (away hp (by decide)), ↓State.setObj_same (away hp (by decide)),
    ↓State.emit_same (away hp (by decide)), ↓only_ite, ↓only_iteFst, ↓only_iteSnd, ite_self, implies_true, id_eq]

theorem execTpdoEventTimer_frame {pt : Part} (hp : pt ∉ [.od, .net, .log]) (t : Nat) (n : Fin 16) (s : State) {s' : State}
    (h : execTpdoEventTimer t n s = .next s') : s'.quiet.only pt = (s.advance t).quiet.only pt := by
  unfold execTpdoEventTimer at h
  refine core_frame (fun ho => ?_) h
  have hp : pt ∉ [.od, .net, .log, .out] := withOut hp ho
  try simp only [↓State.tpdoNow_same hp, ↓only_ite, ↓only_iteFst, ↓only_iteSnd, ite_self, implies_true, id_eq]

theorem execEmergencyInhibitExpiry_frame {pt : Part} (hp : pt ∉ [.net, .log]) (t : Nat) (c : Fin 2) (s : State) {s' : State}
    (h : execEmergencyInhibitExpiry t c s = .next s') : s'.quiet.only pt = (s.advance t).quiet.only pt := by
  unfold execEmergencyInhibitExpiry at h
  refine powered_frame (fun ho => ?_) h
  have hp : pt ∉ [.net, .log, .out] := withOut hp ho
  try simp only [↓State.startEmcy_same hp, ite_self, implies_true, id_eq]

theorem execEmergencyFrameSent_frame {pt : Part} (hp : pt ∉ [.net, .log]) (t : Nat) (c : Fin 2) (s : State) {s' : State}
    (h : execEmergencyFrameSent t c s = .next s') : s'.quiet.only pt = (s.advance t).quiet.only pt := by
  unfold execEmergencyFrameSent at h
  refine powered_frame (fun ho => ?_) h
  have hp : pt ∉ [.net, .log, .out] := withOut hp ho
  try simp only [↓State.onNet_same (away hp (by decide)), ↓State.setCtrl_same (away hp (by decide)),
    ↓State.startEmcy_same hp, ↓State.emcy_same hp, ↓only_ite, ↓only_iteFst, ↓only_iteSnd, ite_self, implies_true,
    id_eq]

theorem execCoreRailsGood_frame {pt : Part} (hp : pt ∉ [.od, .inForce, .actual, .time, .ptp, .tick, .head, .streams, .alarm, .codec, .noise, .xfer, .comp, .link, .red, .net, .dict, .power, .log, .health, .boot, .sram, .dram]) (t : Nat) (s : State) {s' : State}
    (h : execCoreRailsGood t s = .next s') : s'.quiet.only pt = (s.advance t).quiet.only pt := by
  unfold execCoreRailsGood at h
  refine always_frame (fun ho => ?_) h
  have hp : pt ∉ [.od, .inForce, .actual, .time, .ptp, .tick, .head, .streams, .alarm, .codec, .noise, .xfer, .comp, .link, .red, .net, .dict, .power, .log, .health, .boot, .sram, .dram, .out] := withOut hp ho
  try simp only [↓State.railsInWatch_same hp, ↓State.railsInOff_same hp, ↓only_ite, ↓only_iteFst, ↓only_iteSnd,
    ite_self, implies_true, id_eq]

theorem execRtcpSenderReport_frame {pt : Part} (hp : pt ∉ [.net]) (t : Nat) (mac : Fin 2) (port : Nat) (data : List Byte) (s : State) {s' : State}
    (h : execRtcpSenderReport t mac port data s = .next s') : s'.quiet.only pt = (s.advance t).quiet.only pt := by
  unfold execRtcpSenderReport at h
  refine core_frame (fun ho => ?_) h
  have hp : pt ∉ [.net, .out] := withOut hp ho
  try dsimp only
  try simp only [↓State.onNet_same (away hp (by decide)), ↓only_ite, ↓only_iteFst, ↓only_iteSnd, ite_self,
    implies_true, id_eq]
  all_goals repeat' split <;> try simp only [↓State.onNet_same (away hp (by decide)), ↓only_ite, ↓only_iteFst,
    ↓only_iteSnd, ite_self, implies_true, id_eq]

end Sys2Proof.Machine
end

