-- ==== Sys2Proof/Laws/Lock.lean ====
section
/-! SUPPORT. No operation lets the lock level fall (R580). -/
namespace Sys2Proof.Machine
set_option linter.unusedSimpArgs false
set_option Elab.async false

theorem lock_ite {lo : Nat} {c : Prop} [Decidable c] (a b : State) :
    (lo ≤ ((if c then a else b).only .boot).boot.lockLevel) = if c then lo ≤ (a.only .boot).boot.lockLevel else lo ≤ (b.only .boot).boot.lockLevel := by
  by_cases h : c
  · rw [if_pos h, if_pos h]
  · rw [if_neg h, if_neg h]

theorem lock_iteFst {lo : Nat} {α : Type} {c : Prop} [Decidable c] (a b : State × α) :
    (lo ≤ ((if c then a else b).1.only .boot).boot.lockLevel) = if c then lo ≤ (a.1.only .boot).boot.lockLevel else lo ≤ (b.1.only .boot).boot.lockLevel := by
  by_cases h : c
  · rw [if_pos h, if_pos h]
  · rw [if_neg h, if_neg h]

theorem lock_iteSnd {lo : Nat} {α : Type} {c : Prop} [Decidable c] (a b : α × State) :
    (lo ≤ ((if c then a else b).2.only .boot).boot.lockLevel) = if c then lo ≤ (a.2.only .boot).boot.lockLevel else lo ≤ (b.2.only .boot).boot.lockLevel := by
  by_cases h : c
  · rw [if_pos h, if_pos h]
  · rw [if_neg h, if_neg h]

theorem lock_foldl {lo : Nat} {α : Type} {f : State → α → State} (l : List α) (s : State)
    (hf : ∀ s x, lo ≤ (s.only .boot).boot.lockLevel → lo ≤ ((f s x).only .boot).boot.lockLevel) (h : lo ≤ (s.only .boot).boot.lockLevel) :
    lo ≤ ((l.foldl f s).only .boot).boot.lockLevel := by
  induction l generalizing s with
  | nil => exact h
  | cons x r ih => exact ih _ (hf s x h)

theorem onBoot_lock {lo : Nat} (s : State) (f : BootSt → BootSt) (hf : lo ≤ s.boot.lockLevel → lo ≤ (f s.boot).lockLevel)
    (h : lo ≤ (s.only .boot).boot.lockLevel) : lo ≤ ((s.onBoot f).only .boot).boot.lockLevel := hf h

theorem BootSt.putHeader_lock (b : BootSt) (h : BootHeader) : (b.putHeader h).lockLevel = b.lockLevel := by
  unfold BootSt.putHeader; dsimp only; split <;> rfl

theorem BootSt.trialBoot_lock (b : BootSt) : b.trialBoot.1.lockLevel = b.lockLevel := by
  unfold BootSt.trialBoot; dsimp only; split
  · split <;> exact BootSt.putHeader_lock ..
  · rfl

theorem State.controlled_lock {lo : Nat} (s : State) (p : Path) (k : Nat) (data : List Byte) (eff : State → State) (h_eff : ∀ s, lo ≤ (s.only .boot).boot.lockLevel → lo ≤ ((eff s).only .boot).boot.lockLevel)
    (h : lo ≤ (s.only .boot).boot.lockLevel) : lo ≤ ((State.controlled s p k data eff).only .boot).boot.lockLevel := by
  simp (maxDischargeDepth := 40) (contextual := true) only [BootSt.putHeader_lock, BootSt.trialBoot_lock, State.controlled,
    ↓State.acceptWrite_same (show Part.boot ∉ [.od, .red, .out] by decide),
    ↓State.refuse_same (show Part.boot ∉ [.od, .net, .log, .out] by decide), ↓lock_ite, ↓lock_iteFst, ↓lock_iteSnd,
    h_eff, h, ite_self, implies_true, id_eq]

theorem State.controlledNum_lock {lo : Nat} (s : State) (p : Path) (k v : Nat) (eff : State → State) (h_eff : ∀ s, lo ≤ (s.only .boot).boot.lockLevel → lo ≤ ((eff s).only .boot).boot.lockLevel)
    (h : lo ≤ (s.only .boot).boot.lockLevel) : lo ≤ ((State.controlledNum s p k v eff).only .boot).boot.lockLevel := by
  simp (maxDischargeDepth := 40) (contextual := true) only [BootSt.putHeader_lock, BootSt.trialBoot_lock, State.controlledNum, ↓State.controlled_lock, h_eff, h,
    ite_self, implies_true, id_eq]

theorem State.refuseEpoch_lock {lo : Nat} (s : State) (leave : Bool)
    (h : lo ≤ (s.only .boot).boot.lockLevel) : lo ≤ ((State.refuseEpoch s leave).only .boot).boot.lockLevel := by
  simp (maxDischargeDepth := 40) (contextual := true) only [BootSt.putHeader_lock, BootSt.trialBoot_lock, State.refuseEpoch,
    ↓State.incr_same (show Part.boot ∉ [.od] by decide),
    ↓State.emit_same (show Part.boot ∉ [.net, .log, .out] by decide),
    ↓State.sendFrame_same (show Part.boot ∉ [.od, .link, .out] by decide),
    ↓State.roleTo_same (show Part.boot ∉ [.link, .red, .net, .log, .out] by decide), ↓lock_ite, ↓lock_iteFst,
    ↓lock_iteSnd, h, ite_self, implies_true, id_eq]

theorem State.restore_lock {lo : Nat} (s : State)
    (h : lo ≤ (s.only .boot).boot.lockLevel) : lo ≤ ((State.restore s).only .boot).boot.lockLevel := by
  simp (maxDischargeDepth := 40) (contextual := true) only [BootSt.putHeader_lock, BootSt.trialBoot_lock, State.restore,
    ↓State.onRed_same (show Part.boot ∉ [.red] by decide),
    ↓State.restoreEpoch_same (show Part.boot ∉ [.od, .head, .codec, .net, .log, .sram, .out] by decide), h, ite_self,
    implies_true, id_eq]
  all_goals repeat' split <;> try simp (maxDischargeDepth := 40) (contextual := true) only [BootSt.putHeader_lock, BootSt.trialBoot_lock, 
    ↓State.onRed_same (show Part.boot ∉ [.red] by decide),
    ↓State.restoreEpoch_same (show Part.boot ∉ [.od, .head, .codec, .net, .log, .sram, .out] by decide), h, ite_self,
    implies_true, id_eq]

theorem State.promote_lock {lo : Nat} (s : State)
    (h : lo ≤ (s.only .boot).boot.lockLevel) : lo ≤ ((State.promote s).only .boot).boot.lockLevel := by
  simp (maxDischargeDepth := 40) (contextual := true) only [BootSt.putHeader_lock, BootSt.trialBoot_lock, State.promote,
    ↓State.roleTo_same (show Part.boot ∉ [.link, .red, .net, .log, .out] by decide),
    ↓State.claim_same (show Part.boot ∉ [.red] by decide), ↓State.restore_lock, h, ite_self, implies_true, id_eq]
  all_goals repeat' split <;> try simp (maxDischargeDepth := 40) (contextual := true) only [BootSt.putHeader_lock, BootSt.trialBoot_lock, 
    ↓State.roleTo_same (show Part.boot ∉ [.link, .red, .net, .log, .out] by decide),
    ↓State.claim_same (show Part.boot ∉ [.red] by decide), ↓State.restore_lock, h, ite_self, implies_true, id_eq]

theorem State.takeEntry24_lock {lo : Nat} (s : State) (e : JEntry × Bool)
    (h : lo ≤ (s.only .boot).boot.lockLevel) : lo ≤ ((State.takeEntry24 s e).only .boot).boot.lockLevel := by
  simp (maxDischargeDepth := 40) (contextual := true) only [BootSt.putHeader_lock, BootSt.trialBoot_lock, State.takeEntry24,
    ↓State.onRed_same (show Part.boot ∉ [.red] by decide), ↓State.incr_same (show Part.boot ∉ [.od] by decide),
    ↓State.emit_same (show Part.boot ∉ [.net, .log, .out] by decide), ↓State.refuseEpoch_lock, ↓lock_ite,
    ↓lock_iteFst, ↓lock_iteSnd, h, ite_self, implies_true, id_eq]

theorem State.commitEpoch_lock {lo : Nat} (s : State) (e : Epoch)
    (h : lo ≤ (s.only .boot).boot.lockLevel) : lo ≤ ((State.commitEpoch s e).only .boot).boot.lockLevel := by
  simp (maxDischargeDepth := 40) (contextual := true) only [BootSt.putHeader_lock, BootSt.trialBoot_lock, State.commitEpoch,
    ↓State.onRed_same (show Part.boot ∉ [.red] by decide), ↓State.setObj_same (show Part.boot ∉ [.od] by decide),
    ↓State.incr_same (show Part.boot ∉ [.od] by decide),
    ↓State.emit_same (show Part.boot ∉ [.net, .log, .out] by decide),
    ↓State.sendFrame_same (show Part.boot ∉ [.od, .link, .out] by decide),
    ↓State.roleTo_same (show Part.boot ∉ [.link, .red, .net, .log, .out] by decide), ↓lock_ite, ↓lock_iteFst,
    ↓lock_iteSnd, h, ite_self, implies_true, id_eq]

theorem State.takeCommit_lock {lo : Nat} (s : State) (bs : List Byte)
    (h : lo ≤ (s.only .boot).boot.lockLevel) : lo ≤ ((State.takeCommit s bs).only .boot).boot.lockLevel := by
  simp (maxDischargeDepth := 40) (contextual := true) only [BootSt.putHeader_lock, BootSt.trialBoot_lock, State.takeCommit,
    ↓State.onRed_same (show Part.boot ∉ [.red] by decide), ↓State.refuseEpoch_lock, ↓State.commitEpoch_lock,
    ↓lock_ite, ↓lock_iteFst, ↓lock_iteSnd, h, ite_self, implies_true, id_eq]
  all_goals repeat' split <;> try simp (maxDischargeDepth := 40) (contextual := true) only [BootSt.putHeader_lock, BootSt.trialBoot_lock, 
    ↓State.onRed_same (show Part.boot ∉ [.red] by decide), ↓State.refuseEpoch_lock, ↓State.commitEpoch_lock,
    ↓lock_ite, ↓lock_iteFst, ↓lock_iteSnd, h, ite_self, implies_true, id_eq]

theorem State.epochAnswer_lock {lo : Nat} (s : State) (number : Nat) (ok : Bool)
    (h : lo ≤ (s.only .boot).boot.lockLevel) : lo ≤ ((State.epochAnswer s number ok).only .boot).boot.lockLevel := by
  simp (maxDischargeDepth := 40) (contextual := true) only [BootSt.putHeader_lock, BootSt.trialBoot_lock, State.epochAnswer,
    ↓State.onRed_same (show Part.boot ∉ [.red] by decide), ↓State.setObj_same (show Part.boot ∉ [.od] by decide),
    ↓State.incr_same (show Part.boot ∉ [.od] by decide), ↓lock_ite, ↓lock_iteFst, ↓lock_iteSnd, h, ite_self,
    implies_true, id_eq]
  all_goals repeat' split <;> try simp (maxDischargeDepth := 40) (contextual := true) only [BootSt.putHeader_lock, BootSt.trialBoot_lock, 
    ↓State.onRed_same (show Part.boot ∉ [.red] by decide), ↓State.setObj_same (show Part.boot ∉ [.od] by decide),
    ↓State.incr_same (show Part.boot ∉ [.od] by decide), ↓lock_ite, ↓lock_iteFst, ↓lock_iteSnd, h, ite_self,
    implies_true, id_eq]

theorem State.edgeTakeover_lock {lo : Nat} (s : State)
    (h : lo ≤ (s.only .boot).boot.lockLevel) : lo ≤ ((State.edgeTakeover s).only .boot).boot.lockLevel := by
  simp (maxDischargeDepth := 40) (contextual := true) only [BootSt.putHeader_lock, BootSt.trialBoot_lock, State.edgeTakeover,
    ↓State.onRed_same (show Part.boot ∉ [.red] by decide), ↓State.setObj_same (show Part.boot ∉ [.od] by decide),
    ↓State.incr_same (show Part.boot ∉ [.od] by decide),
    ↓State.emit_same (show Part.boot ∉ [.net, .log, .out] by decide), h, ite_self, implies_true, id_eq]
  all_goals repeat' split <;> try simp (maxDischargeDepth := 40) (contextual := true) only [BootSt.putHeader_lock, BootSt.trialBoot_lock, 
    ↓State.onRed_same (show Part.boot ∉ [.red] by decide), ↓State.setObj_same (show Part.boot ∉ [.od] by decide),
    ↓State.incr_same (show Part.boot ∉ [.od] by decide),
    ↓State.emit_same (show Part.boot ∉ [.net, .log, .out] by decide), h, ite_self, implies_true, id_eq]

theorem State.resolve_lock {lo : Nat} (s : State) (reason : Nat)
    (h : lo ≤ (s.only .boot).boot.lockLevel) : lo ≤ ((State.resolve s reason).only .boot).boot.lockLevel := by
  simp (maxDischargeDepth := 40) (contextual := true) only [BootSt.putHeader_lock, BootSt.trialBoot_lock, State.resolve,
    ↓State.emit_same (show Part.boot ∉ [.net, .log, .out] by decide),
    ↓State.roleTo_same (show Part.boot ∉ [.link, .red, .net, .log, .out] by decide), ↓lock_ite, ↓lock_iteFst,
    ↓lock_iteSnd, h, ite_self, implies_true, id_eq]

theorem State.setCopy_lock {lo : Nat} (s : State) (n : Nat) (c : Option Retained)
    (h : lo ≤ (s.only .boot).boot.lockLevel) : lo ≤ ((State.setCopy s n c).only .boot).boot.lockLevel := by
  unfold State.setCopy State.onBoot; dsimp only [State.only] at *; split <;> exact h

theorem State.eraseCopy_lock {lo : Nat} (s : State) (n : Nat)
    (h : lo ≤ (s.only .boot).boot.lockLevel) : lo ≤ ((State.eraseCopy s n).only .boot).boot.lockLevel := by
  simp (maxDischargeDepth := 40) (contextual := true) only [BootSt.putHeader_lock, BootSt.trialBoot_lock, State.eraseCopy,
    ↓State.countErases_same (show Part.boot ∉ [.health] by decide), ↓State.setCopy_lock, h, ite_self, implies_true,
    id_eq]

theorem State.beginStore_lock {lo : Nat} (s : State) (p : Path) (key : Nat) (snap : Table Nat) (marks : Nat) (isMark : Bool) (lss : Option Nat)
    (h : lo ≤ (s.only .boot).boot.lockLevel) : lo ≤ ((State.beginStore s p key snap marks isMark lss).only .boot).boot.lockLevel := by
  simp (maxDischargeDepth := 40) (contextual := true) only [BootSt.putHeader_lock, BootSt.trialBoot_lock, State.beginStore,
    ↓State.onDict_same (show Part.boot ∉ [.dict] by decide), ↓State.eraseCopy_lock, h, ite_self, implies_true, id_eq]

theorem State.storeWritten_lock {lo : Nat} (s : State) (x : StoreSt)
    (h : lo ≤ (s.only .boot).boot.lockLevel) : lo ≤ ((State.storeWritten s x).only .boot).boot.lockLevel := by
  simp (maxDischargeDepth := 40) (contextual := true) only [BootSt.putHeader_lock, BootSt.trialBoot_lock, State.storeWritten,
    ↓State.setObj_same (show Part.boot ∉ [.od] by decide), ↓State.incr_same (show Part.boot ∉ [.od] by decide),
    ↓State.setCopy_lock, h, ite_self, implies_true, id_eq]

theorem State.endStore_lock {lo : Nat} (s : State) (x : StoreSt) (ok : Bool)
    (h : lo ≤ (s.only .boot).boot.lockLevel) : lo ≤ ((State.endStore s x ok).only .boot).boot.lockLevel := by
  simp (maxDischargeDepth := 40) (contextual := true) only [BootSt.putHeader_lock, BootSt.trialBoot_lock, State.endStore,
    ↓State.onDict_same (show Part.boot ∉ [.dict] by decide), ↓onBoot_lock,
    ↓State.setObj_same (show Part.boot ∉ [.od] by decide),
    ↓State.emit_same (show Part.boot ∉ [.net, .log, .out] by decide), ↓State.eraseCopy_lock,
    ↓State.storeAnswer_same (show Part.boot ∉ [.od, .red, .net, .log, .out] by decide), ↓State.storeWritten_lock,
    ↓lock_ite, ↓lock_iteFst, ↓lock_iteSnd, h, ite_self, implies_true, id_eq]

theorem State.dropStore_lock {lo : Nat} (s : State)
    (h : lo ≤ (s.only .boot).boot.lockLevel) : lo ≤ ((State.dropStore s).only .boot).boot.lockLevel := by
  simp (maxDischargeDepth := 40) (contextual := true) only [BootSt.putHeader_lock, BootSt.trialBoot_lock, State.dropStore,
    ↓State.onDict_same (show Part.boot ∉ [.dict] by decide), ↓State.setCopy_lock, h, ite_self, implies_true, id_eq]
  all_goals repeat' split <;> try simp (maxDischargeDepth := 40) (contextual := true) only [BootSt.putHeader_lock, BootSt.trialBoot_lock, 
    ↓State.onDict_same (show Part.boot ∉ [.dict] by decide), ↓State.setCopy_lock, h, ite_self, implies_true, id_eq]

theorem State.storePowerFails_lock {lo : Nat} (s : State)
    (h : lo ≤ (s.only .boot).boot.lockLevel) : lo ≤ ((State.storePowerFails s).only .boot).boot.lockLevel := by
  simp (maxDischargeDepth := 40) (contextual := true) only [BootSt.putHeader_lock, BootSt.trialBoot_lock, State.storePowerFails,
    ↓State.setObj_same (show Part.boot ∉ [.od] by decide),
    ↓State.emit_same (show Part.boot ∉ [.net, .log, .out] by decide),
    ↓State.storeAnswer_same (show Part.boot ∉ [.od, .red, .net, .log, .out] by decide), ↓State.dropStore_lock,
    ↓lock_ite, ↓lock_iteFst, ↓lock_iteSnd, h, ite_self, implies_true, id_eq]
  all_goals repeat' split <;> try simp (maxDischargeDepth := 40) (contextual := true) only [BootSt.putHeader_lock, BootSt.trialBoot_lock, 
    ↓State.setObj_same (show Part.boot ∉ [.od] by decide),
    ↓State.emit_same (show Part.boot ∉ [.net, .log, .out] by decide),
    ↓State.storeAnswer_same (show Part.boot ∉ [.od, .red, .net, .log, .out] by decide), ↓State.dropStore_lock,
    ↓lock_ite, ↓lock_iteFst, ↓lock_iteSnd, h, ite_self, implies_true, id_eq]

theorem State.controlledLater_lock {lo : Nat} (s : State) (p : Path) (k : Nat) (data : List Byte) (eff : State → State) (h_eff : ∀ s, lo ≤ (s.only .boot).boot.lockLevel → lo ≤ ((eff s).only .boot).boot.lockLevel)
    (h : lo ≤ (s.only .boot).boot.lockLevel) : lo ≤ ((State.controlledLater s p k data eff).only .boot).boot.lockLevel := by
  simp (maxDischargeDepth := 40) (contextual := true) only [BootSt.putHeader_lock, BootSt.trialBoot_lock, State.controlledLater,
    ↓State.refuse_same (show Part.boot ∉ [.od, .net, .log, .out] by decide), ↓lock_ite, ↓lock_iteFst, ↓lock_iteSnd,
    h_eff, h, ite_self, implies_true, id_eq]

theorem State.askStore_lock {lo : Nat} (s : State) (p : Path) (sub : Nat) (data : List Byte)
    (h : lo ≤ (s.only .boot).boot.lockLevel) : lo ≤ ((State.askStore s p sub data).only .boot).boot.lockLevel := by
  simp (maxDischargeDepth := 40) (contextual := true) only [BootSt.putHeader_lock, BootSt.trialBoot_lock, State.askStore, ↓State.beginStore_lock,
    ↓State.controlledLater_lock, h, ite_self, implies_true, id_eq]

theorem State.askRestore_lock {lo : Nat} (s : State) (p : Path) (sub : Nat) (data : List Byte)
    (h : lo ≤ (s.only .boot).boot.lockLevel) : lo ≤ ((State.askRestore s p sub data).only .boot).boot.lockLevel := by
  simp (maxDischargeDepth := 40) (contextual := true) only [BootSt.putHeader_lock, BootSt.trialBoot_lock, State.askRestore, ↓State.beginStore_lock,
    ↓State.controlledLater_lock, h, ite_self, implies_true, id_eq]

theorem State.restoreAll_lock {lo : Nat} (s : State)
    (h : lo ≤ (s.only .boot).boot.lockLevel) : lo ≤ ((State.restoreAll s).only .boot).boot.lockLevel := by
  simp (maxDischargeDepth := 40) (contextual := true) only [BootSt.putHeader_lock, BootSt.trialBoot_lock, State.restoreAll,
    ↓State.onDict_same (show Part.boot ∉ [.dict] by decide), ↓onBoot_lock,
    ↓State.setObj_same (show Part.boot ∉ [.od] by decide),
    ↓State.emit_same (show Part.boot ∉ [.net, .log, .out] by decide),
    ↓State.restoreSets_same (show Part.boot ∉ [.od] by decide), ↓lock_ite, ↓lock_iteFst, ↓lock_iteSnd, h, ite_self,
    implies_true, id_eq]
  all_goals repeat' split <;> try simp (maxDischargeDepth := 40) (contextual := true) only [BootSt.putHeader_lock, BootSt.trialBoot_lock, 
    ↓State.onDict_same (show Part.boot ∉ [.dict] by decide), ↓onBoot_lock,
    ↓State.setObj_same (show Part.boot ∉ [.od] by decide),
    ↓State.emit_same (show Part.boot ∉ [.net, .log, .out] by decide),
    ↓State.restoreSets_same (show Part.boot ∉ [.od] by decide), ↓lock_ite, ↓lock_iteFst, ↓lock_iteSnd, h, ite_self,
    implies_true, id_eq]

theorem State.restoreCommunication_lock {lo : Nat} (s : State)
    (h : lo ≤ (s.only .boot).boot.lockLevel) : lo ≤ ((State.restoreCommunication s).only .boot).boot.lockLevel := by
  simp (maxDischargeDepth := 40) (contextual := true) only [BootSt.putHeader_lock, BootSt.trialBoot_lock, State.restoreCommunication, ↓onBoot_lock,
    ↓State.restoreSets_same (show Part.boot ∉ [.od] by decide), h, ite_self, implies_true, id_eq]

theorem State.storeCompletes_lock {lo : Nat} (s : State) (ok : Bool)
    (h : lo ≤ (s.only .boot).boot.lockLevel) : lo ≤ ((State.storeCompletes s ok).only .boot).boot.lockLevel := by
  simp (maxDischargeDepth := 40) (contextual := true) only [BootSt.putHeader_lock, BootSt.trialBoot_lock, State.storeCompletes, ↓State.endStore_lock, h, ite_self,
    implies_true, id_eq]
  all_goals repeat' split <;> try simp (maxDischargeDepth := 40) (contextual := true) only [BootSt.putHeader_lock, BootSt.trialBoot_lock, ↓State.endStore_lock, h,
    ite_self, implies_true, id_eq]

theorem State.leaveInitialisation_lock {lo : Nat} (s : State)
    (h : lo ≤ (s.only .boot).boot.lockLevel) : lo ≤ ((State.leaveInitialisation s).only .boot).boot.lockLevel := by
  simp (maxDischargeDepth := 40) (contextual := true) only [BootSt.putHeader_lock, BootSt.trialBoot_lock, State.leaveInitialisation, ↓onBoot_lock,
    ↓State.toNmt_same (show Part.boot ∉ [.net, .log, .out] by decide),
    ↓State.sendBootUp_same (show Part.boot ∉ [.net, .out] by decide), ↓lock_ite, ↓lock_iteFst, ↓lock_iteSnd, h,
    ite_self, implies_true, id_eq]

theorem State.resetCommunication_lock {lo : Nat} (s : State)
    (h : lo ≤ (s.only .boot).boot.lockLevel) : lo ≤ ((State.resetCommunication s).only .boot).boot.lockLevel := by
  simp (maxDischargeDepth := 40) (contextual := true) only [BootSt.putHeader_lock, BootSt.trialBoot_lock, State.resetCommunication,
    ↓State.onDict_same (show Part.boot ∉ [.dict] by decide),
    ↓State.setInForce_same (show Part.boot ∉ [.inForce] by decide), ↓State.restoreCommunication_lock,
    ↓State.toNmt_same (show Part.boot ∉ [.net, .log, .out] by decide),
    ↓State.startCtrl_same (show Part.boot ∉ [.net] by decide), ↓State.leaveInitialisation_lock,
    ↓State.syncPartners_same (show Part.boot ∉ [.net] by decide),
    ↓State.dropRecord_same (show Part.boot ∉ [.od, .net, .log, .out] by decide), lock_foldl, only_foldl,
    only_foldlFst, h, ite_self, implies_true, id_eq]

theorem State.nmtResetComm_lock {lo : Nat} (s : State)
    (h : lo ≤ (s.only .boot).boot.lockLevel) : lo ≤ ((State.nmtResetComm s).only .boot).boot.lockLevel := by
  simp (maxDischargeDepth := 40) (contextual := true) only [BootSt.putHeader_lock, BootSt.trialBoot_lock, State.nmtResetComm,
    ↓State.onDict_same (show Part.boot ∉ [.dict] by decide), ↓State.resetCommunication_lock, ↓lock_ite, ↓lock_iteFst,
    ↓lock_iteSnd, h, ite_self, implies_true, id_eq]

theorem State.storeEnds_lock {lo : Nat} (s : State) (ok : Bool)
    (h : lo ≤ (s.only .boot).boot.lockLevel) : lo ≤ ((State.storeEnds s ok).only .boot).boot.lockLevel := by
  simp (maxDischargeDepth := 40) (contextual := true) only [BootSt.putHeader_lock, BootSt.trialBoot_lock, State.storeEnds, ↓State.storeCompletes_lock,
    ↓State.resetCommunication_lock, ↓lock_ite, ↓lock_iteFst, ↓lock_iteSnd, h, ite_self, implies_true, id_eq]

theorem State.powerFails_lock {lo : Nat} (s : State)
    (h : lo ≤ (s.only .boot).boot.lockLevel) : lo ≤ ((State.powerFails s).only .boot).boot.lockLevel := by
  simp (maxDischargeDepth := 40) (contextual := true) only [BootSt.putHeader_lock, BootSt.trialBoot_lock, State.powerFails,
    ↓State.onLog_same (show Part.boot ∉ [.log] by decide),
    ↓State.onHealth_same (show Part.boot ∉ [.health] by decide),
    ↓State.emit_same (show Part.boot ∉ [.net, .log, .out] by decide),
    ↓State.powerFailFlush_same (show Part.boot ∉ [.net, .log, .health, .out] by decide), ↓State.storePowerFails_lock,
    h, ite_self, implies_true, id_eq]

theorem State.confirmFirmware_lock {lo : Nat} (s : State)
    (h : lo ≤ (s.only .boot).boot.lockLevel) : lo ≤ ((State.confirmFirmware s).only .boot).boot.lockLevel := by
  simp (maxDischargeDepth := 40) (contextual := true) only [BootSt.putHeader_lock, BootSt.trialBoot_lock, State.confirmFirmware, ↓onBoot_lock,
    ↓State.emit_same (show Part.boot ∉ [.net, .log, .out] by decide), ↓lock_ite, ↓lock_iteFst, ↓lock_iteSnd, h,
    ite_self, implies_true, id_eq]
  all_goals repeat' split <;> try simp (maxDischargeDepth := 40) (contextual := true) only [BootSt.putHeader_lock, BootSt.trialBoot_lock, ↓onBoot_lock,
    ↓State.emit_same (show Part.boot ∉ [.net, .log, .out] by decide), ↓lock_ite, ↓lock_iteFst, ↓lock_iteSnd, h,
    ite_self, implies_true, id_eq]

theorem State.setSpare_lock {lo : Nat} (s : State) (x : FwBank)
    (h : lo ≤ (s.only .boot).boot.lockLevel) : lo ≤ ((State.setSpare s x).only .boot).boot.lockLevel := by
  unfold State.setSpare State.onBoot; dsimp only [State.only] at *; split <;> exact h

theorem State.updateData_lock {lo : Nat} (s : State) (data : List Byte)
    (h : lo ≤ (s.only .boot).boot.lockLevel) : lo ≤ ((State.updateData s data).only .boot).boot.lockLevel := by
  simp (maxDischargeDepth := 40) (contextual := true) only [BootSt.putHeader_lock, BootSt.trialBoot_lock, State.updateData,
    ↓State.setObj_same (show Part.boot ∉ [.od] by decide),
    ↓State.countErases_same (show Part.boot ∉ [.health] by decide), ↓State.setSpare_lock, ↓lock_ite, ↓lock_iteFst,
    ↓lock_iteSnd, h, ite_self, implies_true, id_eq]

theorem State.updateCommit_lock {lo : Nat} (s : State)
    (h : lo ≤ (s.only .boot).boot.lockLevel) : lo ≤ ((State.updateCommit s).only .boot).boot.lockLevel := by
  simp (maxDischargeDepth := 40) (contextual := true) only [BootSt.putHeader_lock, BootSt.trialBoot_lock, State.updateCommit, ↓onBoot_lock,
    ↓State.emit_same (show Part.boot ∉ [.net, .log, .out] by decide), h, ite_self, implies_true, id_eq]

theorem State.judgedWrite_lock {lo : Nat} (s : State) (p : Path) (k : Nat) (data : List Byte) (ok : Bool) (eff bad : State → State) (h_eff : ∀ s, lo ≤ (s.only .boot).boot.lockLevel → lo ≤ ((eff s).only .boot).boot.lockLevel) (h_bad : ∀ s, lo ≤ (s.only .boot).boot.lockLevel → lo ≤ ((bad s).only .boot).boot.lockLevel)
    (h : lo ≤ (s.only .boot).boot.lockLevel) : lo ≤ ((State.judgedWrite s p k data ok eff bad).only .boot).boot.lockLevel := by
  simp (maxDischargeDepth := 40) (contextual := true) only [BootSt.putHeader_lock, BootSt.trialBoot_lock, State.judgedWrite,
    ↓State.acceptWrite_same (show Part.boot ∉ [.od, .red, .out] by decide),
    ↓State.refuse_same (show Part.boot ∉ [.od, .net, .log, .out] by decide), ↓lock_ite, ↓lock_iteFst, ↓lock_iteSnd,
    h_eff, h_bad, h, ite_self, implies_true, id_eq]

theorem State.raiseLock_lock {lo : Nat} (s : State) (v : Nat)
    (h : lo ≤ (s.only .boot).boot.lockLevel) : lo ≤ ((State.raiseLock s v).only .boot).boot.lockLevel := by
  exact Nat.le_trans h (Nat.le_max_left ..)

theorem State.takeKeyBlock_lock {lo : Nat} (s : State) (data : List Byte)
    (h : lo ≤ (s.only .boot).boot.lockLevel) : lo ≤ ((State.takeKeyBlock s data).only .boot).boot.lockLevel := by
  simp (maxDischargeDepth := 40) (contextual := true) only [BootSt.putHeader_lock, BootSt.trialBoot_lock, State.takeKeyBlock, ↓onBoot_lock,
    ↓State.incr_same (show Part.boot ∉ [.od] by decide),
    ↓State.emit_same (show Part.boot ∉ [.net, .log, .out] by decide), h, ite_self, implies_true, id_eq]

theorem State.keyBlock_lock {lo : Nat} (s : State) (p : Path) (data : List Byte)
    (h : lo ≤ (s.only .boot).boot.lockLevel) : lo ≤ ((State.keyBlock s p data).only .boot).boot.lockLevel := by
  simp (maxDischargeDepth := 40) (contextual := true) only [BootSt.putHeader_lock, BootSt.trialBoot_lock, State.keyBlock,
    ↓State.incr_same (show Part.boot ∉ [.od] by decide), ↓State.judgedWrite_lock, ↓State.takeKeyBlock_lock, h,
    ite_self, implies_true, id_eq]

theorem State.clearAll_lock {lo : Nat} (s : State) (env : StartEnv) (cause : Nat)
    (h : lo ≤ (s.only .boot).boot.lockLevel) : lo ≤ ((State.clearAll s env cause).only .boot).boot.lockLevel := by
  exact h

theorem State.clearNode_lock {lo : Nat} (s : State) (env : StartEnv) (cause : Nat)
    (h : lo ≤ (s.only .boot).boot.lockLevel) : lo ≤ ((State.clearNode s env cause).only .boot).boot.lockLevel := by
  exact h

theorem State.recovery_lock {lo : Nat} (s : State)
    (h : lo ≤ (s.only .boot).boot.lockLevel) : lo ≤ ((State.recovery s).only .boot).boot.lockLevel := by
  simp (maxDischargeDepth := 40) (contextual := true) only [BootSt.putHeader_lock, BootSt.trialBoot_lock, State.recovery,
    ↓State.onAlarm_same (show Part.boot ∉ [.alarm] by decide), ↓State.onNet_same (show Part.boot ∉ [.net] by decide),
    ↓onBoot_lock, ↓State.adopt_same (show Part.boot ∉ [.inForce] by decide),
    ↓State.onCtrl_same (show Part.boot ∉ [.net] by decide),
    ↓State.sendBootUp_same (show Part.boot ∉ [.net, .out] by decide), h, ite_self, implies_true, id_eq]

theorem State.trainDram_lock {lo : Nat} (s : State)
    (h : lo ≤ (s.only .boot).boot.lockLevel) : lo ≤ ((State.trainDram s).only .boot).boot.lockLevel := by
  simp (maxDischargeDepth := 40) (contextual := true) only [BootSt.putHeader_lock, BootSt.trialBoot_lock, State.trainDram, ↓onBoot_lock,
    ↓State.emit_same (show Part.boot ∉ [.net, .log, .out] by decide), ↓lock_ite, ↓lock_iteFst, ↓lock_iteSnd, h,
    ite_self, implies_true, id_eq]

theorem State.startEcc_lock {lo : Nat} (s : State)
    (h : lo ≤ (s.only .boot).boot.lockLevel) : lo ≤ ((State.startEcc s).only .boot).boot.lockLevel := by
  simp (maxDischargeDepth := 40) (contextual := true) only [BootSt.putHeader_lock, BootSt.trialBoot_lock, State.startEcc, ↓onBoot_lock,
    ↓State.setDram_same (show Part.boot ∉ [.dram] by decide), ↓lock_ite, ↓lock_iteFst, ↓lock_iteSnd, h, ite_self,
    implies_true, id_eq]

theorem State.startStep3_lock {lo : Nat} (s : State) (guard : Bool)
    (h : lo ≤ (s.only .boot).boot.lockLevel) : lo ≤ ((State.startStep3 s guard).only .boot).boot.lockLevel := by
  simp (maxDischargeDepth := 40) (contextual := true) only [BootSt.putHeader_lock, BootSt.trialBoot_lock, State.startStep3, ↓onBoot_lock,
    ↓State.startCommit_same (show Part.boot ∉ [.od, .alarm, .net, .power, .log, .out] by decide),
    ↓State.restoreAll_lock, ↓State.syncPartners_same (show Part.boot ∉ [.net] by decide),
    ↓State.startTick_same (show Part.boot ∉ [.tick] by decide),
    ↓State.adoptTimeSource_same (show Part.boot ∉ [.time, .net, .log, .out] by decide),
    ↓State.startAdopt_same (show Part.boot ∉ [.inForce] by decide),
    ↓State.startMonitors_same (show Part.boot ∉ [.health] by decide),
    ↓State.startUtc_same (show Part.boot ∉ [.time] by decide), ↓lock_ite, ↓lock_iteFst, ↓lock_iteSnd, h, ite_self,
    implies_true, id_eq]

theorem State.startSteps_lock {lo : Nat} (s : State) (guard : Bool)
    (h : lo ≤ (s.only .boot).boot.lockLevel) : lo ≤ ((State.startSteps s guard).only .boot).boot.lockLevel := by
  simp (maxDischargeDepth := 40) (contextual := true) only [BootSt.putHeader_lock, BootSt.trialBoot_lock, State.startSteps,
    ↓State.setObj_same (show Part.boot ∉ [.od] by decide),
    ↓State.emit_same (show Part.boot ∉ [.net, .log, .out] by decide),
    ↓State.startCtrl_same (show Part.boot ∉ [.net] by decide), ↓State.leaveInitialisation_lock,
    ↓State.startRole_same (show Part.boot ∉ [.link, .red, .net, .log, .out] by decide), ↓State.trainDram_lock,
    ↓State.startEcc_lock, ↓State.startImage_same (show Part.boot ∉ [.od, .head, .net, .log, .out] by decide),
    ↓lock_ite, ↓lock_iteFst, ↓lock_iteSnd, h, ite_self, implies_true, id_eq]

theorem State.bootRom_lock {lo : Nat} (s : State) (guard : Bool)
    (h : lo ≤ (s.only .boot).boot.lockLevel) : lo ≤ ((State.bootRom s guard).only .boot).boot.lockLevel := by
  simp (maxDischargeDepth := 40) (contextual := true) only [BootSt.putHeader_lock, BootSt.trialBoot_lock, State.bootRom, ↓onBoot_lock,
    ↓State.emit_same (show Part.boot ∉ [.net, .log, .out] by decide), ↓State.recovery_lock, ↓State.startStep3_lock,
    ↓State.startSteps_lock, ↓lock_ite, ↓lock_iteFst, ↓lock_iteSnd, h, ite_self, implies_true, id_eq]
  all_goals repeat' split <;> try simp (maxDischargeDepth := 40) (contextual := true) only [BootSt.putHeader_lock, BootSt.trialBoot_lock, ↓onBoot_lock,
    ↓State.emit_same (show Part.boot ∉ [.net, .log, .out] by decide), ↓State.recovery_lock, ↓State.startStep3_lock,
    ↓State.startSteps_lock, ↓lock_ite, ↓lock_iteFst, ↓lock_iteSnd, h, ite_self, implies_true, id_eq]

theorem State.fullStart_lock {lo : Nat} (s : State) (env : StartEnv) (cause : Nat)
    (h : lo ≤ (s.only .boot).boot.lockLevel) : lo ≤ ((State.fullStart s env cause).only .boot).boot.lockLevel := by
  simp (maxDischargeDepth := 40) (contextual := true) only [BootSt.putHeader_lock, BootSt.trialBoot_lock, State.fullStart,
    ↓State.startLifetime_same (show Part.boot ∉ [.net, .log, .health, .out] by decide),
    ↓State.noteCalendar_same (show Part.boot ∉ [.net, .log, .health, .out] by decide), ↓State.dropStore_lock,
    ↓State.loadRtc_same (show Part.boot ∉ [.time, .net, .log, .out] by decide), ↓State.clearAll_lock,
    ↓State.bootRom_lock, ↓State.reportTrip_same (show Part.boot ∉ [.net, .power, .log, .out] by decide), h, ite_self,
    implies_true, id_eq]

theorem State.resetNode_lock {lo : Nat} (s : State) (env : StartEnv) (cause : Nat)
    (h : lo ≤ (s.only .boot).boot.lockLevel) : lo ≤ ((State.resetNode s env cause).only .boot).boot.lockLevel := by
  simp (maxDischargeDepth := 40) (contextual := true) only [BootSt.putHeader_lock, BootSt.trialBoot_lock, State.resetNode,
    ↓State.stopPorts_same (show Part.boot ∉ [.od, .head, .streams, .codec, .xfer, .comp, .link, .red, .net, .log, .out] by decide),
    ↓State.unclaim_same (show Part.boot ∉ [.red] by decide), ↓State.dropStore_lock, ↓State.clearNode_lock,
    ↓State.bootRom_lock, h, ite_self, implies_true, id_eq]

theorem State.commandReset_lock {lo : Nat} (s : State) (env : StartEnv)
    (h : lo ≤ (s.only .boot).boot.lockLevel) : lo ≤ ((State.commandReset s env).only .boot).boot.lockLevel := by
  simp (maxDischargeDepth := 40) (contextual := true) only [BootSt.putHeader_lock, BootSt.trialBoot_lock, State.commandReset,
    ↓State.appendLifetime_same (show Part.boot ∉ [.net, .log, .health, .out] by decide), ↓State.resetNode_lock,
    ↓lock_ite, ↓lock_iteFst, ↓lock_iteSnd, h, ite_self, implies_true, id_eq]

theorem State.pendingReset_lock {lo : Nat} (s : State)
    (h : lo ≤ (s.only .boot).boot.lockLevel) : lo ≤ ((State.pendingReset s).only .boot).boot.lockLevel := by
  simp (maxDischargeDepth := 40) (contextual := true) only [BootSt.putHeader_lock, BootSt.trialBoot_lock, State.pendingReset, ↓State.resetNode_lock, ↓lock_ite,
    ↓lock_iteFst, ↓lock_iteSnd, h, ite_self, implies_true, id_eq]

theorem State.committed_lock {lo : Nat} (s : State)
    (h : lo ≤ (s.only .boot).boot.lockLevel) : lo ≤ ((State.committed s).only .boot).boot.lockLevel := by
  simp (maxDischargeDepth := 40) (contextual := true) only [BootSt.putHeader_lock, BootSt.trialBoot_lock, State.committed,
    ↓State.onNet_same (show Part.boot ∉ [.net] by decide), ↓State.updateCommit_lock, ↓State.bootRom_lock, ↓lock_ite,
    ↓lock_iteFst, ↓lock_iteSnd, h, ite_self, implies_true, id_eq]

theorem State.commitUpdate_lock {lo : Nat} (s : State) (p : Path) (data : List Byte)
    (h : lo ≤ (s.only .boot).boot.lockLevel) : lo ≤ ((State.commitUpdate s p data).only .boot).boot.lockLevel := by
  simp (maxDischargeDepth := 40) (contextual := true) only [BootSt.putHeader_lock, BootSt.trialBoot_lock, State.commitUpdate, ↓onBoot_lock,
    ↓State.judgedWrite_lock, ↓State.committed_lock, h, ite_self, implies_true, id_eq]

theorem State.roleCommand_lock {lo : Nat} (s : State) (v : Nat)
    (h : lo ≤ (s.only .boot).boot.lockLevel) : lo ≤ ((State.roleCommand s v).only .boot).boot.lockLevel := by
  simp (maxDischargeDepth := 40) (contextual := true) only [BootSt.putHeader_lock, BootSt.trialBoot_lock, State.roleCommand,
    ↓State.onRed_same (show Part.boot ∉ [.red] by decide),
    ↓State.roleTo_same (show Part.boot ∉ [.link, .red, .net, .log, .out] by decide),
    ↓State.claim_same (show Part.boot ∉ [.red] by decide), ↓State.unclaim_same (show Part.boot ∉ [.red] by decide),
    ↓State.becomeActive_same (show Part.boot ∉ [.link, .red, .net, .log, .out] by decide), ↓State.restore_lock,
    ↓State.resolve_lock, ↓lock_ite, ↓lock_iteFst, ↓lock_iteSnd, h, ite_self, implies_true, id_eq]
  all_goals repeat' split <;> try simp (maxDischargeDepth := 40) (contextual := true) only [BootSt.putHeader_lock, BootSt.trialBoot_lock, 
    ↓State.onRed_same (show Part.boot ∉ [.red] by decide),
    ↓State.roleTo_same (show Part.boot ∉ [.link, .red, .net, .log, .out] by decide),
    ↓State.claim_same (show Part.boot ∉ [.red] by decide), ↓State.unclaim_same (show Part.boot ∉ [.red] by decide),
    ↓State.becomeActive_same (show Part.boot ∉ [.link, .red, .net, .log, .out] by decide), ↓State.restore_lock,
    ↓State.resolve_lock, ↓lock_ite, ↓lock_iteFst, ↓lock_iteSnd, h, ite_self, implies_true, id_eq]

theorem State.writeMode_lock {lo : Nat} (s : State) (k v : Nat)
    (h : lo ≤ (s.only .boot).boot.lockLevel) : lo ≤ ((State.writeMode s k v).only .boot).boot.lockLevel := by
  simp (maxDischargeDepth := 40) (contextual := true) only [BootSt.putHeader_lock, BootSt.trialBoot_lock, State.writeMode,
    ↓State.request_same (show Part.boot ∉ [.od, .inForce, .streams] by decide),
    ↓State.requestRole_same (show Part.boot ∉ [.od, .inForce, .streams, .link, .red, .net, .log, .out] by decide),
    ↓State.noteReturn_same (show Part.boot ∉ [.power] by decide),
    ↓State.lowPower_same (show Part.boot ∉ [.power] by decide), ↓State.roleCommand_lock, ↓lock_ite, ↓lock_iteFst,
    ↓lock_iteSnd, h, ite_self, implies_true, id_eq]

theorem State.writeBoot_lock {lo : Nat} (s : State) (k : Nat) (data : List Byte)
    (h : lo ≤ (s.only .boot).boot.lockLevel) : lo ≤ ((State.writeBoot s k data).only .boot).boot.lockLevel := by
  simp (maxDischargeDepth := 40) (contextual := true) only [BootSt.putHeader_lock, BootSt.trialBoot_lock, State.writeBoot, ↓onBoot_lock,
    ↓State.request_same (show Part.boot ∉ [.od, .inForce, .streams] by decide), ↓State.confirmFirmware_lock,
    ↓State.updateData_lock, ↓State.raiseLock_lock, ↓lock_ite, ↓lock_iteFst, ↓lock_iteSnd, h, ite_self, implies_true,
    id_eq]

theorem State.writeEffect_lock {lo : Nat} (s : State) (k : Nat) (data : List Byte)
    (h : lo ≤ (s.only .boot).boot.lockLevel) : lo ≤ ((State.writeEffect s k data).only .boot).boot.lockLevel := by
  simp (maxDischargeDepth := 40) (contextual := true) only [BootSt.putHeader_lock, BootSt.trialBoot_lock, State.writeEffect,
    ↓State.request_same (show Part.boot ∉ [.od, .inForce, .streams] by decide),
    ↓State.onStream_same (show Part.boot ∉ [.streams] by decide),
    ↓State.onCtrl_same (show Part.boot ∉ [.net] by decide),
    ↓State.writeTimed_same (show Part.boot ∉ [.od, .inForce, .time, .tick, .streams, .net, .log, .health, .out] by decide),
    ↓State.writeAlarm_same (show Part.boot ∉ [.od, .inForce, .streams, .alarm, .net, .power, .log, .out] by decide),
    ↓State.writeEngine_same (show Part.boot ∉ [.od, .inForce, .streams, .codec, .net, .log, .out] by decide),
    ↓State.writeMove_same (show Part.boot ∉ [.od, .inForce, .head, .streams, .codec, .xfer, .comp, .link, .net, .log, .sram, .dram, .out] by decide),
    ↓State.writeMode_lock,
    ↓State.writeHealth_same (show Part.boot ∉ [.od, .inForce, .streams, .net, .log, .health, .out] by decide),
    ↓State.writeBoot_lock, ↓lock_ite, ↓lock_iteFst, ↓lock_iteSnd, h, ite_self, implies_true, id_eq]
  all_goals repeat' split <;> try simp (maxDischargeDepth := 40) (contextual := true) only [BootSt.putHeader_lock, BootSt.trialBoot_lock, 
    ↓State.request_same (show Part.boot ∉ [.od, .inForce, .streams] by decide),
    ↓State.onStream_same (show Part.boot ∉ [.streams] by decide),
    ↓State.onCtrl_same (show Part.boot ∉ [.net] by decide),
    ↓State.writeTimed_same (show Part.boot ∉ [.od, .inForce, .time, .tick, .streams, .net, .log, .health, .out] by decide),
    ↓State.writeAlarm_same (show Part.boot ∉ [.od, .inForce, .streams, .alarm, .net, .power, .log, .out] by decide),
    ↓State.writeEngine_same (show Part.boot ∉ [.od, .inForce, .streams, .codec, .net, .log, .out] by decide),
    ↓State.writeMove_same (show Part.boot ∉ [.od, .inForce, .head, .streams, .codec, .xfer, .comp, .link, .net, .log, .sram, .dram, .out] by decide),
    ↓State.writeMode_lock,
    ↓State.writeHealth_same (show Part.boot ∉ [.od, .inForce, .streams, .net, .log, .health, .out] by decide),
    ↓State.writeBoot_lock, ↓lock_ite, ↓lock_iteFst, ↓lock_iteSnd, h, ite_self, implies_true, id_eq]

theorem State.applyWrite_lock {lo : Nat} (s : State) (p : Path) (k : Nat) (data : List Byte)
    (h : lo ≤ (s.only .boot).boot.lockLevel) : lo ≤ ((State.applyWrite s p k data).only .boot).boot.lockLevel := by
  simp (maxDischargeDepth := 40) (contextual := true) only [BootSt.putHeader_lock, BootSt.trialBoot_lock, State.applyWrite, ↓State.controlled_lock,
    ↓State.askStore_lock, ↓State.askRestore_lock, ↓State.keyBlock_lock, ↓State.commitUpdate_lock,
    ↓State.writeEffect_lock, ↓lock_ite, ↓lock_iteFst, ↓lock_iteSnd, h, ite_self, implies_true, id_eq]

theorem State.takeRpdo_lock {lo : Nat} (s : State) (n : Nat) (data : List Byte)
    (h : lo ≤ (s.only .boot).boot.lockLevel) : lo ≤ ((State.takeRpdo s n data).only .boot).boot.lockLevel := by
  simp (maxDischargeDepth := 40) (contextual := true) only [BootSt.putHeader_lock, BootSt.trialBoot_lock, State.takeRpdo,
    ↓State.setObj_same (show Part.boot ∉ [.od] by decide), ↓State.applyWrite_lock, ↓lock_ite, ↓lock_iteFst,
    ↓lock_iteSnd, lock_foldl, only_foldl, only_foldlFst, h, ite_self, implies_true, id_eq]

theorem State.serveUdp_lock {lo : Nat} (s : State) (r : UdpRequest)
    (h : lo ≤ (s.only .boot).boot.lockLevel) : lo ≤ ((State.serveUdp s r).1.only .boot).boot.lockLevel := by
  simp (maxDischargeDepth := 40) (contextual := true) only [BootSt.putHeader_lock, BootSt.trialBoot_lock, State.serveUdp,
    ↓State.draw_same (show Part.boot ∉ [.free] by decide),
    ↓State.refuse_same (show Part.boot ∉ [.od, .net, .log, .out] by decide), ↓State.applyWrite_lock, ↓lock_ite,
    ↓lock_iteFst, ↓lock_iteSnd, h, ite_self, implies_true, id_eq]
  all_goals repeat' split <;> try simp (maxDischargeDepth := 40) (contextual := true) only [BootSt.putHeader_lock, BootSt.trialBoot_lock, 
    ↓State.draw_same (show Part.boot ∉ [.free] by decide),
    ↓State.refuse_same (show Part.boot ∉ [.od, .net, .log, .out] by decide), ↓State.applyWrite_lock, ↓lock_ite,
    ↓lock_iteFst, ↓lock_iteSnd, h, ite_self, implies_true, id_eq]

theorem State.answerUdp_lock {lo : Nat} (s : State) (src port : Nat) (r : UdpRequest)
    (h : lo ≤ (s.only .boot).boot.lockLevel) : lo ≤ ((State.answerUdp s src port r).only .boot).boot.lockLevel := by
  simp (maxDischargeDepth := 40) (contextual := true) only [BootSt.putHeader_lock, BootSt.trialBoot_lock, State.answerUdp,
    ↓State.onDict_same (show Part.boot ∉ [.dict] by decide), ↓State.incr_same (show Part.boot ∉ [.od] by decide),
    ↓State.transmitUdp_same (show Part.boot ∉ [.net, .out] by decide), ↓State.serveUdp_lock, h, ite_self,
    implies_true, id_eq]
  all_goals repeat' split <;> try simp (maxDischargeDepth := 40) (contextual := true) only [BootSt.putHeader_lock, BootSt.trialBoot_lock, 
    ↓State.onDict_same (show Part.boot ∉ [.dict] by decide), ↓State.incr_same (show Part.boot ∉ [.od] by decide),
    ↓State.transmitUdp_same (show Part.boot ∉ [.net, .out] by decide), ↓State.serveUdp_lock, h, ite_self,
    implies_true, id_eq]

theorem State.detachHost_lock {lo : Nat} (s : State)
    (h : lo ≤ (s.only .boot).boot.lockLevel) : lo ≤ ((State.detachHost s).only .boot).boot.lockLevel := by
  simp (maxDischargeDepth := 40) (contextual := true) only [BootSt.putHeader_lock, BootSt.trialBoot_lock, State.detachHost, ↓onBoot_lock,
    ↓State.emit_same (show Part.boot ∉ [.net, .log, .out] by decide),
    ↓State.hostFaults_same (show Part.boot ∉ [.od, .head, .streams, .codec, .xfer, .comp, .link, .net, .log, .out] by decide),
    ↓State.dropMoving_same (show Part.boot ∉ [.od, .comp, .out] by decide),
    ↓State.dropHostCopies_same (show Part.boot ∉ [.xfer, .dict] by decide), ↓lock_ite, ↓lock_iteFst, ↓lock_iteSnd,
    lock_foldl, only_foldl, only_foldlFst, h, ite_self, implies_true, id_eq]

theorem State.loadValue_lock {lo : Nat} (s : State) (k : Nat) (data : List Byte)
    (h : lo ≤ (s.only .boot).boot.lockLevel) : lo ≤ ((State.loadValue s k data).only .boot).boot.lockLevel := by
  simp (maxDischargeDepth := 40) (contextual := true) only [BootSt.putHeader_lock, BootSt.trialBoot_lock, State.loadValue, ↓State.writeEffect_lock, ↓lock_ite,
    ↓lock_iteFst, ↓lock_iteSnd, h, ite_self, implies_true, id_eq]

theorem State.loadConfig_lock {lo : Nat} (s : State) (e : Epoch)
    (h : lo ≤ (s.only .boot).boot.lockLevel) : lo ≤ ((State.loadConfig s e).only .boot).boot.lockLevel := by
  simp (maxDischargeDepth := 40) (contextual := true) only [BootSt.putHeader_lock, BootSt.trialBoot_lock, State.loadConfig,
    ↓State.onRed_same (show Part.boot ∉ [.red] by decide), ↓State.loadValue_lock, ↓lock_ite, ↓lock_iteFst,
    ↓lock_iteSnd, lock_foldl, only_foldl, only_foldlFst, h, ite_self, implies_true, id_eq]

theorem State.applyJournal_lock {lo : Nat} (s : State) (z1 : List (Nat × Nat × List Byte))
    (h : lo ≤ (s.only .boot).boot.lockLevel) : lo ≤ ((State.applyJournal s z1).only .boot).boot.lockLevel := by
  induction z1 generalizing s with
  | nil => simp only [State.applyJournal, h]
  | cons z zs ih =>
    simp (maxDischargeDepth := 40) (contextual := true) only [BootSt.putHeader_lock, BootSt.trialBoot_lock, State.applyJournal,
      ↓State.onRed_same (show Part.boot ∉ [.red] by decide), ↓State.incr_same (show Part.boot ∉ [.od] by decide),
      ↓State.emit_same (show Part.boot ∉ [.net, .log, .out] by decide), ↓State.refuseEpoch_lock,
      ↓State.applyWrite_lock, ↓lock_ite, ↓lock_iteFst, ↓lock_iteSnd, h, ih, ite_self]

theorem State.ackJournal_lock {lo : Nat} (s : State)
    (h : lo ≤ (s.only .boot).boot.lockLevel) : lo ≤ ((State.ackJournal s).only .boot).boot.lockLevel := by
  simp (maxDischargeDepth := 40) (contextual := true) only [BootSt.putHeader_lock, BootSt.trialBoot_lock, State.ackJournal,
    ↓State.sendFrame_same (show Part.boot ∉ [.od, .link, .out] by decide), ↓State.committed_lock, h, ite_self,
    implies_true, id_eq]

theorem State.edgeJournal_lock {lo : Nat} (s : State)
    (h : lo ≤ (s.only .boot).boot.lockLevel) : lo ≤ ((State.edgeJournal s).only .boot).boot.lockLevel := by
  simp (maxDischargeDepth := 40) (contextual := true) only [BootSt.putHeader_lock, BootSt.trialBoot_lock, State.edgeJournal, ↓State.committed_lock,
    ↓State.loadConfig_lock, ↓State.applyJournal_lock, ↓State.ackJournal_lock, ↓lock_ite, ↓lock_iteFst, ↓lock_iteSnd,
    h, ite_self, implies_true, id_eq]
  all_goals repeat' split <;> try simp (maxDischargeDepth := 40) (contextual := true) only [BootSt.putHeader_lock, BootSt.trialBoot_lock, ↓State.committed_lock,
    ↓State.loadConfig_lock, ↓State.applyJournal_lock, ↓State.ackJournal_lock, ↓lock_ite, ↓lock_iteFst, ↓lock_iteSnd,
    h, ite_self, implies_true, id_eq]

theorem State.edgeReady_lock {lo : Nat} (s : State)
    (h : lo ≤ (s.only .boot).boot.lockLevel) : lo ≤ ((State.edgeReady s).only .boot).boot.lockLevel := by
  simp (maxDischargeDepth := 40) (contextual := true) only [BootSt.putHeader_lock, BootSt.trialBoot_lock, State.edgeReady, ↓onBoot_lock, ↓lock_ite, ↓lock_iteFst,
    ↓lock_iteSnd, h, ite_self, implies_true, id_eq]

theorem State.edgeComplete_lock {lo : Nat} (s : State)
    (h : lo ≤ (s.only .boot).boot.lockLevel) : lo ≤ ((State.edgeComplete s).only .boot).boot.lockLevel := by
  simp (maxDischargeDepth := 40) (contextual := true) only [BootSt.putHeader_lock, BootSt.trialBoot_lock, State.edgeComplete, ↓onBoot_lock,
    ↓State.emit_same (show Part.boot ∉ [.net, .log, .out] by decide), ↓State.confirmFirmware_lock, ↓lock_ite,
    ↓lock_iteFst, ↓lock_iteSnd, h, ite_self, implies_true, id_eq]

theorem State.edgePair_lock {lo : Nat} (s : State)
    (h : lo ≤ (s.only .boot).boot.lockLevel) : lo ≤ ((State.edgePair s).only .boot).boot.lockLevel := by
  simp (maxDischargeDepth := 40) (contextual := true) only [BootSt.putHeader_lock, BootSt.trialBoot_lock, State.edgePair,
    ↓State.edgeWarm_same (show Part.boot ∉ [.red] by decide),
    ↓State.edgeHandover_same (show Part.boot ∉ [.od, .link, .red, .net, .log, .out] by decide),
    ↓State.edgeTakeover_lock, h, ite_self, implies_true, id_eq]

theorem State.workingEdge_lock {lo : Nat} (s : State) (rate : State → State) (leaves : Bool) (before : Option Nat) (h_rate : ∀ s, lo ≤ (s.only .boot).boot.lockLevel → lo ≤ ((rate s).only .boot).boot.lockLevel)
    (h : lo ≤ (s.only .boot).boot.lockLevel) : lo ≤ ((State.workingEdge s rate leaves before).only .boot).boot.lockLevel := by
  simp (maxDischargeDepth := 40) (contextual := true) only [BootSt.putHeader_lock, BootSt.trialBoot_lock, State.workingEdge,
    ↓State.edgeStages_same (show Part.boot ∉ [.od, .head, .streams, .codec, .comp, .net, .log, .out] by decide),
    ↓State.adoptObjects_same (show Part.boot ∉ [.inForce, .time, .net, .log, .out] by decide),
    ↓State.adoptTick_same (show Part.boot ∉ [.od, .tick, .net, .log, .out] by decide),
    ↓State.edgeTime_same (show Part.boot ∉ [.time, .tick, .net, .log, .health, .out] by decide),
    ↓State.edgeJournal_lock, ↓State.observeEdge_same (show Part.boot ∉ [.od, .net, .log, .health, .out] by decide),
    ↓State.edgeReady_lock, ↓State.edgeComplete_lock, ↓State.sendTicks_same (show Part.boot ∉ [.out] by decide),
    ↓State.restartFrames_same (show Part.boot ∉ [.od, .link, .red, .out] by decide),
    ↓State.edgeWork_same (show Part.boot ∉ [.free, .od, .actual, .head, .streams, .alarm, .codec, .noise, .xfer, .comp, .link, .red, .net, .power, .log, .health, .sram, .dram, .out] by decide),
    ↓State.edgeCeiling_same (show Part.boot ∉ [.tick] by decide),
    ↓State.edgeModes_same (show Part.boot ∉ [.od, .tick, .net, .power, .log, .out] by decide),
    ↓State.edgeEnds_same (show Part.boot ∉ [.free, .od, .head, .streams, .codec, .xfer, .comp, .link, .net, .log, .out] by decide),
    ↓State.edgePair_lock,
    ↓State.edgeUnits_same (show Part.boot ∉ [.od, .inForce, .tick, .head, .streams, .alarm, .codec, .comp, .link, .net, .dict, .log, .health, .out] by decide),
    h_rate, h, ite_self, implies_true, id_eq]

theorem State.watchEdge_lock {lo : Nat} (s : State) (rate : State → State) (h_rate : ∀ s, lo ≤ (s.only .boot).boot.lockLevel → lo ≤ ((rate s).only .boot).boot.lockLevel)
    (h : lo ≤ (s.only .boot).boot.lockLevel) : lo ≤ ((State.watchEdge s rate).only .boot).boot.lockLevel := by
  simp (maxDischargeDepth := 40) (contextual := true) only [BootSt.putHeader_lock, BootSt.trialBoot_lock, State.watchEdge,
    ↓State.adoptObjects_same (show Part.boot ∉ [.inForce, .time, .net, .log, .out] by decide),
    ↓State.adoptTick_same (show Part.boot ∉ [.od, .tick, .net, .log, .out] by decide),
    ↓State.edgeTime_same (show Part.boot ∉ [.time, .tick, .net, .log, .health, .out] by decide), ↓lock_ite,
    ↓lock_iteFst, ↓lock_iteSnd, h_rate, h, ite_self, implies_true, id_eq]

theorem State.acceptEdge_lock {lo : Nat} (s : State) (rate : State → State) (h_rate : ∀ s, lo ≤ (s.only .boot).boot.lockLevel → lo ≤ ((rate s).only .boot).boot.lockLevel)
    (h : lo ≤ (s.only .boot).boot.lockLevel) : lo ≤ ((State.acceptEdge s rate).only .boot).boot.lockLevel := by
  simp (maxDischargeDepth := 40) (contextual := true) only [BootSt.putHeader_lock, BootSt.trialBoot_lock, State.acceptEdge,
    ↓State.numberEdge_same (show Part.boot ∉ [.tick, .health] by decide), ↓State.workingEdge_lock,
    ↓State.watchEdge_lock, ↓lock_ite, ↓lock_iteFst, ↓lock_iteSnd, h_rate, h, ite_self, implies_true, id_eq]

theorem State.switchEdge_lock {lo : Nat} (s : State) (x : SwitchOver)
    (h : lo ≤ (s.only .boot).boot.lockLevel) : lo ≤ ((State.switchEdge s x).only .boot).boot.lockLevel := by
  simp (maxDischargeDepth := 40) (contextual := true) only [BootSt.putHeader_lock, BootSt.trialBoot_lock, State.switchEdge,
    ↓State.refuseRate_same (show Part.boot ∉ [.od, .tick, .net, .log, .out] by decide),
    ↓State.abandonSwitch_same (show Part.boot ∉ [.od, .tick, .net, .log, .out] by decide), ↓State.acceptEdge_lock,
    ↓State.finishSwitch_same (show Part.boot ∉ [.od, .tick, .net, .log, .out] by decide), ↓lock_ite, ↓lock_iteFst,
    ↓lock_iteSnd, h, ite_self, implies_true, id_eq]

theorem State.trySwitch_lock {lo : Nat} (s : State) (goal : TickSource)
    (h : lo ≤ (s.only .boot).boot.lockLevel) : lo ≤ ((State.trySwitch s goal).only .boot).boot.lockLevel := by
  simp (maxDischargeDepth := 40) (contextual := true) only [BootSt.putHeader_lock, BootSt.trialBoot_lock, State.trySwitch, ↓State.switchEdge_lock, ↓lock_ite,
    ↓lock_iteFst, ↓lock_iteSnd, h, ite_self, implies_true, id_eq]
  all_goals repeat' split <;> try simp (maxDischargeDepth := 40) (contextual := true) only [BootSt.putHeader_lock, BootSt.trialBoot_lock, ↓State.switchEdge_lock,
    ↓lock_ite, ↓lock_iteFst, ↓lock_iteSnd, h, ite_self, implies_true, id_eq]

theorem State.tickInEdge_lock {lo : Nat} (s : State)
    (h : lo ≤ (s.only .boot).boot.lockLevel) : lo ≤ ((State.tickInEdge s).only .boot).boot.lockLevel := by
  simp (maxDischargeDepth := 40) (contextual := true) only [BootSt.putHeader_lock, BootSt.trialBoot_lock, State.tickInEdge,
    ↓State.incr_same (show Part.boot ∉ [.od] by decide),
    ↓State.refuseRate_same (show Part.boot ∉ [.od, .tick, .net, .log, .out] by decide),
    ↓State.startSwitch_same (show Part.boot ∉ [.tick] by decide), ↓State.acceptEdge_lock, ↓State.trySwitch_lock,
    ↓State.lockFirst_same (show Part.boot ∉ [.od, .tick] by decide), ↓lock_ite, ↓lock_iteFst, ↓lock_iteSnd, h,
    ite_self, implies_true, id_eq]
  all_goals repeat' split <;> try simp (maxDischargeDepth := 40) (contextual := true) only [BootSt.putHeader_lock, BootSt.trialBoot_lock, 
    ↓State.incr_same (show Part.boot ∉ [.od] by decide),
    ↓State.refuseRate_same (show Part.boot ∉ [.od, .tick, .net, .log, .out] by decide),
    ↓State.startSwitch_same (show Part.boot ∉ [.tick] by decide), ↓State.acceptEdge_lock, ↓State.trySwitch_lock,
    ↓State.lockFirst_same (show Part.boot ∉ [.od, .tick] by decide), ↓lock_ite, ↓lock_iteFst, ↓lock_iteSnd, h,
    ite_self, implies_true, id_eq]

theorem State.tickInPulse_lock {lo : Nat} (s : State)
    (h : lo ≤ (s.only .boot).boot.lockLevel) : lo ≤ ((State.tickInPulse s).only .boot).boot.lockLevel := by
  simp (maxDischargeDepth := 40) (contextual := true) only [BootSt.putHeader_lock, BootSt.trialBoot_lock, State.tickInPulse,
    ↓State.glitch_same (show Part.boot ∉ [.od, .net, .log, .out] by decide),
    ↓State.measureEdge_same (show Part.boot ∉ [.od, .tick] by decide), ↓State.trySwitch_lock, ↓State.tickInEdge_lock,
    ↓lock_ite, ↓lock_iteFst, ↓lock_iteSnd, h, ite_self, implies_true, id_eq]

theorem State.heldSdo_lock {lo : Nat} (s : State) (data : List Byte)
    (h : lo ≤ (s.only .boot).boot.lockLevel) : lo ≤ ((State.heldSdo s data).only .boot).boot.lockLevel := by
  simp (maxDischargeDepth := 40) (contextual := true) only [BootSt.putHeader_lock, BootSt.trialBoot_lock, State.heldSdo, ↓State.applyWrite_lock, ↓lock_ite,
    ↓lock_iteFst, ↓lock_iteSnd, h, ite_self, implies_true, id_eq]

theorem State.heldNmt_lock {lo : Nat} (s : State) (data : List Byte)
    (h : lo ≤ (s.only .boot).boot.lockLevel) : lo ≤ ((State.heldNmt s data).only .boot).boot.lockLevel := by
  simp (maxDischargeDepth := 40) (contextual := true) only [BootSt.putHeader_lock, BootSt.trialBoot_lock, State.heldNmt,
    ↓State.nmtStart_same (show Part.boot ∉ [.net, .log, .out] by decide),
    ↓State.nmtStop_same (show Part.boot ∉ [.net, .log, .out] by decide),
    ↓State.nmtPreOp_same (show Part.boot ∉ [.net, .log, .out] by decide), ↓State.nmtResetComm_lock,
    ↓State.commandReset_lock, h, ite_self, implies_true, id_eq]
  all_goals repeat' split <;> try simp (maxDischargeDepth := 40) (contextual := true) only [BootSt.putHeader_lock, BootSt.trialBoot_lock, 
    ↓State.nmtStart_same (show Part.boot ∉ [.net, .log, .out] by decide),
    ↓State.nmtStop_same (show Part.boot ∉ [.net, .log, .out] by decide),
    ↓State.nmtPreOp_same (show Part.boot ∉ [.net, .log, .out] by decide), ↓State.nmtResetComm_lock,
    ↓State.commandReset_lock, h, ite_self, implies_true, id_eq]

theorem State.takeHeld_lock {lo : Nat} (s : State) (f : Nat × Nat × List Byte)
    (h : lo ≤ (s.only .boot).boot.lockLevel) : lo ≤ ((State.takeHeld s f).only .boot).boot.lockLevel := by
  simp (maxDischargeDepth := 40) (contextual := true) only [BootSt.putHeader_lock, BootSt.trialBoot_lock, State.takeHeld, ↓State.heldSdo_lock, ↓State.heldNmt_lock,
    ↓State.heldFragment_same (show Part.boot ∉ [.od, .streams, .codec, .comp, .net, .log, .out] by decide),
    ↓lock_ite, ↓lock_iteFst, ↓lock_iteSnd, h, ite_self, implies_true, id_eq]

theorem State.handOver_lock {lo : Nat} (s : State)
    (h : lo ≤ (s.only .boot).boot.lockLevel) : lo ≤ ((State.handOver s).only .boot).boot.lockLevel := by
  simp (maxDischargeDepth := 40) (contextual := true) only [BootSt.putHeader_lock, BootSt.trialBoot_lock, State.handOver,
    ↓State.onNet_same (show Part.boot ∉ [.net] by decide), ↓State.takeHeld_lock, lock_foldl, only_foldl,
    only_foldlFst, h, ite_self, implies_true, id_eq]

theorem State.railsInWatch_lock {lo : Nat} (s : State)
    (h : lo ≤ (s.only .boot).boot.lockLevel) : lo ≤ ((State.railsInWatch s).only .boot).boot.lockLevel := by
  simp (maxDischargeDepth := 40) (contextual := true) only [BootSt.putHeader_lock, BootSt.trialBoot_lock, State.railsInWatch,
    ↓State.resumeCores_same (show Part.boot ∉ [.head, .comp, .link, .red, .net, .power, .log, .health, .out] by decide),
    ↓State.handOver_lock, ↓lock_ite, ↓lock_iteFst, ↓lock_iteSnd, h, ite_self, implies_true, id_eq]

theorem State.railsInOff_lock {lo : Nat} (s : State)
    (h : lo ≤ (s.only .boot).boot.lockLevel) : lo ≤ ((State.railsInOff s).only .boot).boot.lockLevel := by
  simp (maxDischargeDepth := 40) (contextual := true) only [BootSt.putHeader_lock, BootSt.trialBoot_lock, State.railsInOff,
    ↓State.setObj_same (show Part.boot ∉ [.od] by decide),
    ↓State.emit_same (show Part.boot ∉ [.net, .log, .out] by decide), ↓State.fullStart_lock, ↓lock_ite, ↓lock_iteFst,
    ↓lock_iteSnd, h, ite_self, implies_true, id_eq]

end Sys2Proof.Machine
end

