-- ==== Sys2Proof/Laws/LockCommands.lean ====
section
/-! SUPPORT. No command that changes the boot state lets the lock level fall. -/
namespace Sys2Proof.Machine
set_option linter.unusedSimpArgs false
set_option Elab.async false

theorem lock_on {lo : Nat} {x : State} (h : lo ≤ (x.only .boot).boot.lockLevel) : lo ≤ (x.settle.only .boot).boot.lockLevel := by
  rw [State.settle_same (show Part.boot ∉ [.od, .comp, .link, .red, .net, .dict, .log, .out] by decide)]; exact h

theorem lock_if {lo : Nat} {c : Prop} [Decidable c] {x s : State} (h : lo ≤ (x.only .boot).boot.lockLevel)
    (hs : lo ≤ (s.only .boot).boot.lockLevel) : lo ≤ ((if c then x.settle else s).only .boot).boot.lockLevel := by
  split
  · exact lock_on h
  · exact hs

theorem State.receive_lock {lo : Nat} (s : State) (k op : Nat) (f : LinkFrame) (act : State → FrameInfo → State)
    (ha : ∀ s i, lo ≤ (s.only .boot).boot.lockLevel → lo ≤ ((act s i).only .boot).boot.lockLevel)
    (h : lo ≤ (s.only .boot).boot.lockLevel) : lo ≤ ((State.receive s k op f act).only .boot).boot.lockLevel := by
  have e : lo ≤ ((s.acceptFrame k f).1.only .boot).boot.lockLevel := by
    rw [State.acceptFrame_same (show Part.boot ∉ [.od, .link, .net, .log, .out] by decide)]; exact h
  unfold State.receive
  dsimp only
  split
  · split
    · exact e
    · split
      · rw [State.forward_same (show Part.boot ∉ [.od, .link, .out] by decide)]; exact e
      · exact ha _ _ e
  · exact h

theorem execTickInEdge_lock {lo : Nat} (t : Nat) (rising : Bool) (pulse : Nat) (s : State) {s' : State}
    (h : execTickInEdge t rising pulse s = .next s') (hs : lo ≤ ((s.advance t).only .boot).boot.lockLevel) : lo ≤ (s'.only .boot).boot.lockLevel := by
  unfold execTickInEdge whenPowered at h
  cases h
  refine lock_if ?_ hs
  simp (maxDischargeDepth := 40) (contextual := true) only [BootSt.putHeader_lock, BootSt.trialBoot_lock,
    ↓State.padPasses_same (show Part.boot ∉ [.free] by decide), ↓State.tickInPulse_lock, ↓lock_ite, ↓lock_iteFst,
    ↓lock_iteSnd, hs, ite_self, implies_true, id_eq]

theorem execInternalEdge_lock {lo : Nat} (t : Nat) (s : State) {s' : State}
    (h : execInternalEdge t s = .next s') (hs : lo ≤ ((s.advance t).only .boot).boot.lockLevel) : lo ≤ (s'.only .boot).boot.lockLevel := by
  unfold execInternalEdge whenPowered at h
  cases h
  refine lock_if ?_ hs
  simp (maxDischargeDepth := 40) (contextual := true) only [BootSt.putHeader_lock, BootSt.trialBoot_lock,
    ↓State.onTick_same (show Part.boot ∉ [.tick] by decide), ↓State.acceptEdge_lock, ↓State.trySwitch_lock,
    ↓State.ownRate_same (show Part.boot ∉ [.od, .tick] by decide), ↓lock_ite, ↓lock_iteFst, ↓lock_iteSnd, hs,
    ite_self, implies_true, id_eq]

theorem execPtpDerivedEdge_lock {lo : Nat} (t : Nat) (s : State) {s' : State}
    (h : execPtpDerivedEdge t s = .next s') (hs : lo ≤ ((s.advance t).only .boot).boot.lockLevel) : lo ≤ (s'.only .boot).boot.lockLevel := by
  unfold execPtpDerivedEdge whenPowered at h
  cases h
  refine lock_if ?_ hs
  simp (maxDischargeDepth := 40) (contextual := true) only [BootSt.putHeader_lock, BootSt.trialBoot_lock,
    ↓State.onTick_same (show Part.boot ∉ [.tick] by decide), ↓State.acceptEdge_lock, ↓State.trySwitch_lock,
    ↓State.ownRate_same (show Part.boot ∉ [.od, .tick] by decide), ↓lock_ite, ↓lock_iteFst, ↓lock_iteSnd, hs,
    ite_self, implies_true, id_eq]

theorem execGeneratorEdge_lock {lo : Nat} (t : Nat) (s : State) {s' : State}
    (h : execGeneratorEdge t s = .next s') (hs : lo ≤ ((s.advance t).only .boot).boot.lockLevel) : lo ≤ (s'.only .boot).boot.lockLevel := by
  unfold execGeneratorEdge whenPowered at h
  cases h
  refine lock_if ?_ hs
  simp (maxDischargeDepth := 40) (contextual := true) only [BootSt.putHeader_lock, BootSt.trialBoot_lock,
    ↓State.acceptEdge_lock, ↓State.generatorRate_same (show Part.boot ∉ [.tick] by decide), ↓lock_ite, ↓lock_iteFst,
    ↓lock_iteSnd, hs, ite_self, implies_true, id_eq]

theorem execAcquireTimeout_lock {lo : Nat} (t : Nat) (s : State) {s' : State}
    (h : execAcquireTimeout t s = .next s') (hs : lo ≤ ((s.advance t).only .boot).boot.lockLevel) : lo ≤ (s'.only .boot).boot.lockLevel := by
  unfold execAcquireTimeout whenPowered at h
  cases h
  refine lock_if ?_ hs
  simp (maxDischargeDepth := 40) (contextual := true) only [BootSt.putHeader_lock, BootSt.trialBoot_lock,
    ↓State.incr_same (show Part.boot ∉ [.od] by decide), ↓State.acceptEdge_lock,
    ↓State.generatorRate_same (show Part.boot ∉ [.tick] by decide),
    ↓State.startGenerator_same (show Part.boot ∉ [.tick, .net, .log, .out] by decide), ↓lock_ite, ↓lock_iteFst,
    ↓lock_iteSnd, hs, ite_self, implies_true, id_eq]

theorem execHeartbeatInstant_lock {lo : Nat} (t : Nat) (s : State) {s' : State}
    (h : execHeartbeatInstant t s = .next s') (hs : lo ≤ ((s.advance t).only .boot).boot.lockLevel) : lo ≤ (s'.only .boot).boot.lockLevel := by
  unfold execHeartbeatInstant whenCore at h
  cases h
  refine lock_if ?_ hs
  simp (maxDischargeDepth := 40) (contextual := true) only [BootSt.putHeader_lock, BootSt.trialBoot_lock,
    ↓State.onLink_same (show Part.boot ∉ [.link] by decide),
    ↓State.reconcile_same (show Part.boot ∉ [.od, .red] by decide), ↓State.promote_lock,
    ↓State.endPeriod_same (show Part.boot ∉ [.od, .link, .red, .net, .log, .out] by decide),
    ↓State.sendHeartbeats_same (show Part.boot ∉ [.link, .out] by decide), ↓lock_ite, ↓lock_iteFst, ↓lock_iteSnd,
    lock_foldl, only_foldl, only_foldlFst, hs, ite_self, implies_true, id_eq]

theorem execJournal_lock {lo : Nat} (t : Nat) (k : Fin 2) (f : LinkFrame) (s : State) {s' : State}
    (h : execJournal t k f s = .next s') (hs : lo ≤ ((s.advance t).only .boot).boot.lockLevel) : lo ≤ (s'.only .boot).boot.lockLevel := by
  unfold execJournal whenCore at h
  cases h
  refine lock_if (State.receive_lock _ _ _ _ _ (fun s i hs => ?_) hs) hs
  split
  · exact lock_foldl _ _ (fun s x h => State.takeEntry24_lock s x h) hs
  · exact hs

theorem execCommit_lock {lo : Nat} (t : Nat) (k : Fin 2) (f : LinkFrame) (s : State) {s' : State}
    (h : execCommit t k f s = .next s') (hs : lo ≤ ((s.advance t).only .boot).boot.lockLevel) : lo ≤ (s'.only .boot).boot.lockLevel := by
  unfold execCommit whenCore at h
  cases h
  refine lock_if (State.receive_lock _ _ _ _ _ (fun s i hs => ?_) hs) hs
  split
  · exact State.takeCommit_lock _ _ hs
  · exact hs

theorem execReplAck_lock {lo : Nat} (t : Nat) (k : Fin 2) (f : LinkFrame) (s : State) {s' : State}
    (h : execReplAck t k f s = .next s') (hs : lo ≤ ((s.advance t).only .boot).boot.lockLevel) : lo ≤ (s'.only .boot).boot.lockLevel := by
  unfold execReplAck whenCore at h
  cases h
  refine lock_if (State.receive_lock _ _ _ _ _ (fun s i hs => ?_) hs) hs
  split
  · dsimp only
    split
    · exact hs
    · exact State.epochAnswer_lock _ _ _ hs
    · exact State.epochAnswer_lock _ _ _ hs
  · exact hs

theorem execDisputedResolved_lock {lo : Nat} (t : Nat) (s : State) {s' : State}
    (h : execDisputedResolved t s = .next s') (hs : lo ≤ ((s.advance t).only .boot).boot.lockLevel) : lo ≤ (s'.only .boot).boot.lockLevel := by
  unfold execDisputedResolved whenCore at h
  cases h
  refine lock_if ?_ hs
  simp (maxDischargeDepth := 40) (contextual := true) only [BootSt.putHeader_lock, BootSt.trialBoot_lock,
    ↓State.resolve_lock, ↓lock_ite, ↓lock_iteFst, ↓lock_iteSnd, hs, ite_self, implies_true, id_eq]

theorem execResolve_lock {lo : Nat} (t : Nat) (p : Path) (s : State) {s' : State}
    (h : execResolve t p s = .next s') (hs : lo ≤ ((s.advance t).only .boot).boot.lockLevel) : lo ≤ (s'.only .boot).boot.lockLevel := by
  unfold execResolve whenCore at h
  cases h
  refine lock_if ?_ hs
  simp (maxDischargeDepth := 40) (contextual := true) only [BootSt.putHeader_lock, BootSt.trialBoot_lock,
    ↓State.controlledNum_lock, ↓State.resolve_lock, hs, ite_self, implies_true, id_eq]

theorem execForceActive_lock {lo : Nat} (t : Nat) (p : Path) (s : State) {s' : State}
    (h : execForceActive t p s = .next s') (hs : lo ≤ ((s.advance t).only .boot).boot.lockLevel) : lo ≤ (s'.only .boot).boot.lockLevel := by
  unfold execForceActive whenCore at h
  cases h
  refine lock_if ?_ hs
  simp (maxDischargeDepth := 40) (contextual := true) only [BootSt.putHeader_lock, BootSt.trialBoot_lock,
    ↓State.controlledNum_lock, ↓State.claim_same (show Part.boot ∉ [.red] by decide),
    ↓State.becomeActive_same (show Part.boot ∉ [.link, .red, .net, .log, .out] by decide), ↓State.restore_lock, hs,
    ite_self, implies_true, id_eq]

theorem execResetCommunication_lock {lo : Nat} (t : Nat) (c : Fin 2) (node : Nat) (s : State) {s' : State}
    (h : execResetCommunication t c node s = .next s') (hs : lo ≤ ((s.advance t).only .boot).boot.lockLevel) : lo ≤ (s'.only .boot).boot.lockLevel := by
  unfold execResetCommunication nmtCommand whenPowered at h
  cases h
  refine lock_if ?_ hs
  dsimp only
  split
  · split
    · exact State.nmtResetComm_lock _ hs
    · exact hs
  · rw [State.nmtInWatch_same (show Part.boot ∉ [.od, .net, .power, .log, .out] by decide)]; exact hs

theorem execResetNode_lock {lo : Nat} (t : Nat) (c : Fin 2) (node : Nat) (env : StartEnv) (s : State) {s' : State}
    (h : execResetNode t c node env s = .next s') (hs : lo ≤ ((s.advance t).only .boot).boot.lockLevel) : lo ≤ (s'.only .boot).boot.lockLevel := by
  unfold execResetNode nmtCommand whenPowered at h
  cases h
  refine lock_if ?_ hs
  dsimp only
  split
  · split
    · exact State.commandReset_lock _ _ hs
    · exact hs
  · rw [State.nmtInWatch_same (show Part.boot ∉ [.od, .net, .power, .log, .out] by decide)]; exact hs

theorem execDuplicateListenEnd_lock {lo : Nat} (t : Nat) (c : Fin 2) (s : State) {s' : State}
    (h : execDuplicateListenEnd t c s = .next s') (hs : lo ≤ ((s.advance t).only .boot).boot.lockLevel) : lo ≤ (s'.only .boot).boot.lockLevel := by
  unfold execDuplicateListenEnd whenCore at h
  cases h
  refine lock_if ?_ hs
  simp (maxDischargeDepth := 40) (contextual := true) only [BootSt.putHeader_lock, BootSt.trialBoot_lock,
    ↓State.onCtrl_same (show Part.boot ∉ [.net] by decide), ↓State.leaveInitialisation_lock, ↓lock_ite, ↓lock_iteFst,
    ↓lock_iteSnd, hs, ite_self, implies_true, id_eq]

theorem execRpdo_lock {lo : Nat} (t : Nat) (c : Fin 2) (n : Fin 8) (data : List Byte) (s : State) {s' : State}
    (h : execRpdo t c n data s = .next s') (hs : lo ≤ ((s.advance t).only .boot).boot.lockLevel) : lo ≤ (s'.only .boot).boot.lockLevel := by
  unfold execRpdo whenCore at h
  cases h
  refine lock_if ?_ hs
  simp (maxDischargeDepth := 40) (contextual := true) only [BootSt.putHeader_lock, BootSt.trialBoot_lock,
    ↓State.takeRpdo_lock, ↓lock_ite, ↓lock_iteFst, ↓lock_iteSnd, hs, ite_self, implies_true, id_eq]

theorem execStoreConfiguration_lock {lo : Nat} (t : Nat) (c : Fin 2) (s : State) {s' : State}
    (h : execStoreConfiguration t c s = .next s') (hs : lo ≤ ((s.advance t).only .boot).boot.lockLevel) : lo ≤ (s'.only .boot).boot.lockLevel := by
  unfold execStoreConfiguration whenCore at h
  cases h
  refine lock_if ?_ hs
  simp (maxDischargeDepth := 40) (contextual := true) only [BootSt.putHeader_lock, BootSt.trialBoot_lock,
    ↓State.send_same (show Part.boot ∉ [.out] by decide), ↓State.beginStore_lock, ↓State.whenLss, ↓State.whenConfig,
    ↓lock_ite, ↓lock_iteFst, ↓lock_iteSnd, hs, ite_self, implies_true, id_eq]

theorem execUdpObjectAccess_lock {lo : Nat} (t : Nat) (src port : Nat) (data : List Byte) (s : State) {s' : State}
    (h : execUdpObjectAccess t src port data s = .next s') (hs : lo ≤ ((s.advance t).only .boot).boot.lockLevel) : lo ≤ (s'.only .boot).boot.lockLevel := by
  unfold execUdpObjectAccess whenCore at h
  cases h
  refine lock_if ?_ hs
  simp (maxDischargeDepth := 40) (contextual := true) only [BootSt.putHeader_lock, BootSt.trialBoot_lock,
    ↓State.incr_same (show Part.boot ∉ [.od] by decide), ↓State.answerUdp_lock, ↓lock_ite, ↓lock_iteFst,
    ↓lock_iteSnd, hs, ite_self, implies_true, id_eq]
  all_goals repeat' split <;> try simp (maxDischargeDepth := 40) (contextual := true) only [BootSt.putHeader_lock,
    BootSt.trialBoot_lock, ↓State.incr_same (show Part.boot ∉ [.od] by decide), ↓State.answerUdp_lock, ↓lock_ite,
    ↓lock_iteFst, ↓lock_iteSnd, hs, ite_self, implies_true, id_eq]

theorem execObjectWrite_lock {lo : Nat} (t : Nat) (p : Path) (key : Nat) (data : List Byte) (s : State) {s' : State}
    (h : execObjectWrite t p key data s = .next s') (hs : lo ≤ ((s.advance t).only .boot).boot.lockLevel) : lo ≤ (s'.only .boot).boot.lockLevel := by
  unfold execObjectWrite whenServed at h
  cases h
  refine lock_if ?_ hs
  simp (maxDischargeDepth := 40) (contextual := true) only [BootSt.putHeader_lock, BootSt.trialBoot_lock,
    ↓State.applyWrite_lock, hs, ite_self, implies_true, id_eq]

theorem execStore_lock {lo : Nat} (t : Nat) (p : Path) (sub v : Nat) (s : State) {s' : State}
    (h : execStore t p sub v s = .next s') (hs : lo ≤ ((s.advance t).only .boot).boot.lockLevel) : lo ≤ (s'.only .boot).boot.lockLevel := by
  unfold execStore whenCore at h
  cases h
  refine lock_if ?_ hs
  simp (maxDischargeDepth := 40) (contextual := true) only [BootSt.putHeader_lock, BootSt.trialBoot_lock,
    ↓State.askStore_lock, hs, ite_self, implies_true, id_eq]

theorem execStoreComplete_lock {lo : Nat} (t : Nat) (readBackOk : Bool) (s : State) {s' : State}
    (h : execStoreComplete t readBackOk s = .next s') (hs : lo ≤ ((s.advance t).only .boot).boot.lockLevel) : lo ≤ (s'.only .boot).boot.lockLevel := by
  unfold execStoreComplete whenCore at h
  cases h
  refine lock_if ?_ hs
  simp (maxDischargeDepth := 40) (contextual := true) only [BootSt.putHeader_lock, BootSt.trialBoot_lock,
    ↓State.storeEnds_lock, ↓lock_ite, ↓lock_iteFst, ↓lock_iteSnd, hs, ite_self, implies_true, id_eq]

theorem execRestoreDefaults_lock {lo : Nat} (t : Nat) (p : Path) (sub v : Nat) (s : State) {s' : State}
    (h : execRestoreDefaults t p sub v s = .next s') (hs : lo ≤ ((s.advance t).only .boot).boot.lockLevel) : lo ≤ (s'.only .boot).boot.lockLevel := by
  unfold execRestoreDefaults whenCore at h
  cases h
  refine lock_if ?_ hs
  simp (maxDischargeDepth := 40) (contextual := true) only [BootSt.putHeader_lock, BootSt.trialBoot_lock,
    ↓State.askRestore_lock, hs, ite_self, implies_true, id_eq]

theorem execDomainPortCommit_lock {lo : Nat} (t : Nat) (v : Nat) (data : List Byte) (s : State) {s' : State}
    (h : execDomainPortCommit t v data s = .next s') (hs : lo ≤ ((s.advance t).only .boot).boot.lockLevel) : lo ≤ (s'.only .boot).boot.lockLevel := by
  unfold execDomainPortCommit whenCore at h
  cases h
  refine lock_if ?_ hs
  simp (maxDischargeDepth := 40) (contextual := true) only [BootSt.putHeader_lock, BootSt.trialBoot_lock,
    ↓State.onDict_same (show Part.boot ∉ [.dict] by decide),
    ↓State.refuse_same (show Part.boot ∉ [.od, .net, .log, .out] by decide), ↓State.applyWrite_lock, ↓lock_ite,
    ↓lock_iteFst, ↓lock_iteSnd, hs, ite_self, implies_true, id_eq]
  all_goals repeat' split <;> try simp (maxDischargeDepth := 40) (contextual := true) only [BootSt.putHeader_lock,
    BootSt.trialBoot_lock, ↓State.onDict_same (show Part.boot ∉ [.dict] by decide),
    ↓State.refuse_same (show Part.boot ∉ [.od, .net, .log, .out] by decide), ↓State.applyWrite_lock, ↓lock_ite,
    ↓lock_iteFst, ↓lock_iteSnd, hs, ite_self, implies_true, id_eq]

theorem execLivenessDoorbell_lock {lo : Nat} (t : Nat) (s : State) {s' : State}
    (h : execLivenessDoorbell t s = .next s') (hs : lo ≤ ((s.advance t).only .boot).boot.lockLevel) : lo ≤ (s'.only .boot).boot.lockLevel := by
  unfold execLivenessDoorbell whenCore at h
  cases h
  refine lock_if ?_ hs
  simp (maxDischargeDepth := 40) (contextual := true) only [BootSt.putHeader_lock, BootSt.trialBoot_lock,
    ↓onBoot_lock, ↓State.incr_same (show Part.boot ∉ [.od] by decide),
    ↓State.emit_same (show Part.boot ∉ [.net, .log, .out] by decide), ↓lock_ite, ↓lock_iteFst, ↓lock_iteSnd, hs,
    ite_self, implies_true, id_eq]

theorem execHostLivenessLapse_lock {lo : Nat} (t : Nat) (s : State) {s' : State}
    (h : execHostLivenessLapse t s = .next s') (hs : lo ≤ ((s.advance t).only .boot).boot.lockLevel) : lo ≤ (s'.only .boot).boot.lockLevel := by
  unfold execHostLivenessLapse whenPowered at h
  cases h
  refine lock_if ?_ hs
  simp (maxDischargeDepth := 40) (contextual := true) only [BootSt.putHeader_lock, BootSt.trialBoot_lock,
    ↓State.detachHost_lock, ↓lock_ite, ↓lock_iteFst, ↓lock_iteSnd, hs, ite_self, implies_true, id_eq]

theorem execPcieReset_lock {lo : Nat} (t : Nat) (s : State) {s' : State}
    (h : execPcieReset t s = .next s') (hs : lo ≤ ((s.advance t).only .boot).boot.lockLevel) : lo ≤ (s'.only .boot).boot.lockLevel := by
  unfold execPcieReset whenPowered at h
  cases h
  refine lock_if ?_ hs
  simp (maxDischargeDepth := 40) (contextual := true) only [BootSt.putHeader_lock, BootSt.trialBoot_lock,
    ↓onBoot_lock,
    ↓State.portDown_same (show Part.boot ∉ [.od, .head, .streams, .codec, .xfer, .comp, .link, .net, .log, .out] by decide),
    ↓State.dropHostCopies_same (show Part.boot ∉ [.xfer, .dict] by decide), ↓State.detachHost_lock, hs, ite_self,
    implies_true, id_eq]

theorem execPcieLinkDown_lock {lo : Nat} (t : Nat) (s : State) {s' : State}
    (h : execPcieLinkDown t s = .next s') (hs : lo ≤ ((s.advance t).only .boot).boot.lockLevel) : lo ≤ (s'.only .boot).boot.lockLevel := by
  unfold execPcieLinkDown whenPowered at h
  cases h
  refine lock_if ?_ hs
  simp (maxDischargeDepth := 40) (contextual := true) only [BootSt.putHeader_lock, BootSt.trialBoot_lock,
    ↓State.portDown_same (show Part.boot ∉ [.od, .head, .streams, .codec, .xfer, .comp, .link, .net, .log, .out] by decide),
    ↓State.detachHost_lock, hs, ite_self, implies_true, id_eq]

theorem execThermalTrip_lock {lo : Nat} (t : Nat) (s : State) {s' : State}
    (h : execThermalTrip t s = .next s') (hs : lo ≤ ((s.advance t).only .boot).boot.lockLevel) : lo ≤ (s'.only .boot).boot.lockLevel := by
  unfold execThermalTrip whenPowered at h
  cases h
  refine lock_if ?_ hs
  simp (maxDischargeDepth := 40) (contextual := true) only [BootSt.putHeader_lock, BootSt.trialBoot_lock,
    ↓State.onAlarm_same (show Part.boot ∉ [.alarm] by decide),
    ↓State.onPower_same (show Part.boot ∉ [.power] by decide), ↓onBoot_lock,
    ↓State.unclaim_same (show Part.boot ∉ [.red] by decide), hs, ite_self, implies_true, id_eq]

theorem execFlush_lock {lo : Nat} (t : Nat) (programFailAt : Option Nat) (s : State) {s' : State}
    (h : execFlush t programFailAt s = .next s') (hs : lo ≤ ((s.advance t).only .boot).boot.lockLevel) : lo ≤ (s'.only .boot).boot.lockLevel := by
  unfold execFlush whenPowered at h
  cases h
  refine lock_if ?_ hs
  simp (maxDischargeDepth := 40) (contextual := true) only [BootSt.putHeader_lock, BootSt.trialBoot_lock,
    ↓State.flushAll_same (show Part.boot ∉ [.net, .log, .health, .out] by decide), ↓State.pendingReset_lock,
    ↓lock_ite, ↓lock_iteFst, ↓lock_iteSnd, hs, ite_self, implies_true, id_eq]

theorem execPwrfailAsserted_lock {lo : Nat} (t : Nat) (s : State) {s' : State}
    (h : execPwrfailAsserted t s = .next s') (hs : lo ≤ ((s.advance t).only .boot).boot.lockLevel) : lo ≤ (s'.only .boot).boot.lockLevel := by
  unfold execPwrfailAsserted whenPowered at h
  cases h
  refine lock_if ?_ hs
  simp (maxDischargeDepth := 40) (contextual := true) only [BootSt.putHeader_lock, BootSt.trialBoot_lock,
    ↓State.onLog_same (show Part.boot ∉ [.log] by decide), ↓State.powerFails_lock, ↓lock_ite, ↓lock_iteFst,
    ↓lock_iteSnd, hs, ite_self, implies_true, id_eq]

theorem execDebugResume_lock {lo : Nat} (t : Nat) (k : Fin 5) (s : State) {s' : State}
    (h : execDebugResume t k s = .next s') (hs : lo ≤ ((s.advance t).only .boot).boot.lockLevel) : lo ≤ (s'.only .boot).boot.lockLevel := by
  unfold execDebugResume whenPowered at h
  cases h
  refine lock_if ?_ hs
  simp (maxDischargeDepth := 40) (contextual := true) only [BootSt.putHeader_lock, BootSt.trialBoot_lock,
    ↓State.debugResume_same (show Part.boot ∉ [.red, .health] by decide), ↓State.pendingReset_lock, hs, ite_self,
    implies_true, id_eq]

theorem execParityError_lock {lo : Nat} (t : Nat) (core : Fin 4) (env : StartEnv) (s : State) {s' : State}
    (h : execParityError t core env s = .next s') (hs : lo ≤ ((s.advance t).only .boot).boot.lockLevel) : lo ≤ (s'.only .boot).boot.lockLevel := by
  unfold execParityError whenCore at h
  cases h
  refine lock_if ?_ hs
  simp (maxDischargeDepth := 40) (contextual := true) only [BootSt.putHeader_lock, BootSt.trialBoot_lock,
    ↓State.incr_same (show Part.boot ∉ [.od] by decide),
    ↓State.emit_same (show Part.boot ∉ [.net, .log, .out] by decide), ↓State.resetNode_lock, hs, ite_self,
    implies_true, id_eq]

theorem execPowerOnReset_lock {lo : Nat} (t : Nat) (env : StartEnv) (s : State) {s' : State}
    (h : execPowerOnReset t env s = .next s') (hs : lo ≤ ((s.advance t).only .boot).boot.lockLevel) : lo ≤ (s'.only .boot).boot.lockLevel := by
  rw [← Host.Outcome.next.inj h]
  refine lock_on ?_
  simp (maxDischargeDepth := 40) (contextual := true) only [BootSt.putHeader_lock, BootSt.trialBoot_lock,
    ↓State.fullStart_lock, hs, ite_self, implies_true, id_eq]

theorem execPinReset_lock {lo : Nat} (t : Nat) (env : StartEnv) (s : State) {s' : State}
    (h : execPinReset t env s = .next s') (hs : lo ≤ ((s.advance t).only .boot).boot.lockLevel) : lo ≤ (s'.only .boot).boot.lockLevel := by
  rw [← Host.Outcome.next.inj h]
  refine lock_on ?_
  simp (maxDischargeDepth := 40) (contextual := true) only [BootSt.putHeader_lock, BootSt.trialBoot_lock,
    ↓State.fullStart_lock, ↓lock_ite, ↓lock_iteFst, ↓lock_iteSnd, hs, ite_self, implies_true, id_eq]

theorem execConfirmFirmware_lock {lo : Nat} (t : Nat) (p : Path) (v : Nat) (s : State) {s' : State}
    (h : execConfirmFirmware t p v s = .next s') (hs : lo ≤ ((s.advance t).only .boot).boot.lockLevel) : lo ≤ (s'.only .boot).boot.lockLevel := by
  unfold execConfirmFirmware whenCore at h
  cases h
  refine lock_if ?_ hs
  simp (maxDischargeDepth := 40) (contextual := true) only [BootSt.putHeader_lock, BootSt.trialBoot_lock,
    ↓State.controlledNum_lock, ↓State.confirmFirmware_lock, hs, ite_self, implies_true, id_eq]

theorem execUpdateData_lock {lo : Nat} (t : Nat) (p : Path) (data : List Byte) (s : State) {s' : State}
    (h : execUpdateData t p data s = .next s') (hs : lo ≤ ((s.advance t).only .boot).boot.lockLevel) : lo ≤ (s'.only .boot).boot.lockLevel := by
  unfold execUpdateData whenServed at h
  cases h
  refine lock_if ?_ hs
  simp (maxDischargeDepth := 40) (contextual := true) only [BootSt.putHeader_lock, BootSt.trialBoot_lock,
    ↓State.controlled_lock, ↓State.updateData_lock, hs, ite_self, implies_true, id_eq]

theorem execUpdateCommit_lock {lo : Nat} (t : Nat) (p : Path) (v : Nat) (s : State) {s' : State}
    (h : execUpdateCommit t p v s = .next s') (hs : lo ≤ ((s.advance t).only .boot).boot.lockLevel) : lo ≤ (s'.only .boot).boot.lockLevel := by
  unfold execUpdateCommit whenServed at h
  cases h
  refine lock_if ?_ hs
  simp (maxDischargeDepth := 40) (contextual := true) only [BootSt.putHeader_lock, BootSt.trialBoot_lock,
    ↓State.commitUpdate_lock, hs, ite_self, implies_true, id_eq]

theorem execUnlock_lock {lo : Nat} (t : Nat) (tok : List Byte) (s : State) {s' : State}
    (h : execUnlock t tok s = .next s') (hs : lo ≤ ((s.advance t).only .boot).boot.lockLevel) : lo ≤ (s'.only .boot).boot.lockLevel := by
  unfold execUnlock whenPowered at h
  cases h
  refine lock_if ?_ hs
  simp (maxDischargeDepth := 40) (contextual := true) only [BootSt.putHeader_lock, BootSt.trialBoot_lock,
    ↓onBoot_lock, ↓State.emit_same (show Part.boot ∉ [.net, .log, .out] by decide), ↓lock_ite, ↓lock_iteFst,
    ↓lock_iteSnd, hs, ite_self, implies_true, id_eq]

theorem execLock_lock {lo : Nat} (t : Nat) (p : Path) (s : State) {s' : State}
    (h : execLock t p s = .next s') (hs : lo ≤ ((s.advance t).only .boot).boot.lockLevel) : lo ≤ (s'.only .boot).boot.lockLevel := by
  unfold execLock whenCore at h
  cases h
  refine lock_if ?_ hs
  simp (maxDischargeDepth := 40) (contextual := true) only [BootSt.putHeader_lock, BootSt.trialBoot_lock,
    ↓State.controlledNum_lock, ↓State.raiseLock_lock, hs, ite_self, implies_true, id_eq]

theorem execSealDevice_lock {lo : Nat} (t : Nat) (p : Path) (s : State) {s' : State}
    (h : execSealDevice t p s = .next s') (hs : lo ≤ ((s.advance t).only .boot).boot.lockLevel) : lo ≤ (s'.only .boot).boot.lockLevel := by
  unfold execSealDevice whenCore at h
  cases h
  refine lock_if ?_ hs
  simp (maxDischargeDepth := 40) (contextual := true) only [BootSt.putHeader_lock, BootSt.trialBoot_lock,
    ↓State.controlledNum_lock, ↓State.raiseLock_lock, hs, ite_self, implies_true, id_eq]

theorem execKeyBlock_lock {lo : Nat} (t : Nat) (p : Path) (data : List Byte) (s : State) {s' : State}
    (h : execKeyBlock t p data s = .next s') (hs : lo ≤ ((s.advance t).only .boot).boot.lockLevel) : lo ≤ (s'.only .boot).boot.lockLevel := by
  unfold execKeyBlock whenCore at h
  cases h
  refine lock_if ?_ hs
  simp (maxDischargeDepth := 40) (contextual := true) only [BootSt.putHeader_lock, BootSt.trialBoot_lock,
    ↓State.keyBlock_lock, hs, ite_self, implies_true, id_eq]

theorem execCoreRailsGood_lock {lo : Nat} (t : Nat) (s : State) {s' : State}
    (h : execCoreRailsGood t s = .next s') (hs : lo ≤ ((s.advance t).only .boot).boot.lockLevel) : lo ≤ (s'.only .boot).boot.lockLevel := by
  rw [← Host.Outcome.next.inj h]
  refine lock_on ?_
  simp (maxDischargeDepth := 40) (contextual := true) only [BootSt.putHeader_lock, BootSt.trialBoot_lock,
    ↓State.railsInWatch_lock, ↓State.railsInOff_lock, ↓lock_ite, ↓lock_iteFst, ↓lock_iteSnd, hs, ite_self,
    implies_true, id_eq]

end Sys2Proof.Machine
end

