-- ==== Sys2Proof/Laws/Memory.lean ====
section
/-! SUPPORT. Every operation that may change a memory keeps its canonical form. -/
namespace Sys2Proof.Machine
set_option linter.unusedSimpArgs false
set_option Elab.async false

/-- A part that is a memory lies outside a list of other parts. -/
theorem outside {part : Part} {ps : List Part} (hp : part = .sram ∨ part = .dram) (h1 : Part.sram ∉ ps) (h2 : Part.dram ∉ ps) :
    part ∉ ps := by
  rcases hp with rfl | rfl <;> assumption

theorem memoryOk_ite {c : Prop} [Decidable c] (a b : State) (p : Part) : ((if c then a else b).only p).memoryOk =
    if c then (a.only p).memoryOk else (b.only p).memoryOk := by
  by_cases h : c
  · rw [if_pos h, if_pos h]
  · rw [if_neg h, if_neg h]

theorem memoryOk_iteFst {α : Type} {c : Prop} [Decidable c] (a b : State × α) (p : Part) :
    ((if c then a else b).1.only p).memoryOk = if c then (a.1.only p).memoryOk else (b.1.only p).memoryOk := by
  by_cases h : c
  · rw [if_pos h, if_pos h]
  · rw [if_neg h, if_neg h]

theorem memoryOk_iteSnd {α : Type} {c : Prop} [Decidable c] (a b : α × State) (p : Part) :
    ((if c then a else b).2.only p).memoryOk = if c then (a.2.only p).memoryOk else (b.2.only p).memoryOk := by
  by_cases h : c
  · rw [if_pos h, if_pos h]
  · rw [if_neg h, if_neg h]

theorem memoryOk_foldl {α : Type} {p : Part} {f : State → α → State} (l : List α) (s : State)
    (hf : ∀ s x, (s.only p).memoryOk = true → ((f s x).only p).memoryOk = true) (h : (s.only p).memoryOk = true) :
    ((l.foldl f s).only p).memoryOk = true := by
  induction l generalizing s with
  | nil => exact h
  | cons x r ih => exact ih _ (hf s x h)

/-- Both memories are canonical when each is. -/
theorem State.memoryOk_iff (s : State) :
    s.memoryOk = true ↔ (s.only .sram).memoryOk = true ∧ (s.only .dram).memoryOk = true := by
  simp only [State.memoryOk, Bool.and_eq_true, State.only]
  exact ⟨fun h => ⟨⟨h.1, by decide⟩, by decide, h.2⟩, fun h => ⟨h.1.1, h.2.2⟩⟩

theorem State.setSram_memory {part : Part} (hp : part = .sram ∨ part = .dram) (s : State) (v : List Host.Cell)
    (h : (s.only part).memoryOk = true) (hv : Memory.wf v = true) : ((s.setSram v).only part).memoryOk = true := by
  rcases hp with rfl | rfl
  · simp only [State.memoryOk, Bool.and_eq_true] at h ⊢; exact ⟨hv, h.2⟩
  · exact h

theorem State.setDram_memory {part : Part} (hp : part = .sram ∨ part = .dram) (s : State) (v : List Host.Cell)
    (h : (s.only part).memoryOk = true) (hv : Memory.wf v = true) : ((s.setDram v).only part).memoryOk = true := by
  rcases hp with rfl | rfl
  · exact h
  · simp only [State.memoryOk, Bool.and_eq_true] at h ⊢; exact ⟨h.1, hv⟩

theorem State.emptySram_memory {part : Part} (hp : part = .sram ∨ part = .dram) (s : State)
    (h : (s.only part).memoryOk = true) : ((s.setSram []).only part).memoryOk = true := State.setSram_memory hp s [] h rfl

theorem State.emptyDram_memory {part : Part} (hp : part = .sram ∨ part = .dram) (s : State)
    (h : (s.only part).memoryOk = true) : ((s.setDram []).only part).memoryOk = true := State.setDram_memory hp s [] h rfl

/-- What is left of a canonical memory is canonical. -/
theorem filter_wf {m : List Host.Cell} (p : Host.Cell → Bool) (h : Memory.wf m = true) : Memory.wf (m.filter p) = true := by
  rw [wf_iff] at h ⊢
  refine ⟨?_, fun c hc => h.2 c (List.mem_filter.mp hc).1⟩
  have key : ∀ (m : List Host.Cell) b, risingFrom b (m.map (·.1)) → risingFrom b ((m.filter p).map (·.1)) := by
    intro m
    induction m with
    | nil => exact fun _ h => h
    | cons e r ih =>
      intro b hb
      simp only [List.map_cons, risingFrom, Bool.and_eq_true, decide_eq_true_eq] at hb
      by_cases he : p e
      · simp only [List.filter_cons, he, if_true, List.map_cons, risingFrom, Bool.and_eq_true, decide_eq_true_eq]
        exact ⟨hb.1, ih _ hb.2⟩
      · simp only [List.filter_cons, he]
        exact risingFrom_mono (ih _ hb.2) (by omega)
  exact key m 0 h.1

theorem State.controlled_memory {part : Part} (hp : part = .sram ∨ part = .dram) (s : State) (p : Path) (k : Nat) (data : List Byte) (eff : State → State) (h_eff : ∀ s, (s.only part).memoryOk = true → ((eff s).only part).memoryOk = true)
    (h : (s.only part).memoryOk = true) : ((State.controlled s p k data eff).only part).memoryOk = true := by
  simp (maxDischargeDepth := 40) (contextual := true) only [State.controlled,
    ↓State.acceptWrite_same (outside hp (by decide) (by decide)),
    ↓State.refuse_same (outside hp (by decide) (by decide)), ↓memoryOk_ite, ↓memoryOk_iteFst, ↓memoryOk_iteSnd,
    h_eff, h, ite_self, implies_true, id_eq]

theorem State.controlledNum_memory {part : Part} (hp : part = .sram ∨ part = .dram) (s : State) (p : Path) (k v : Nat) (eff : State → State) (h_eff : ∀ s, (s.only part).memoryOk = true → ((eff s).only part).memoryOk = true)
    (h : (s.only part).memoryOk = true) : ((State.controlledNum s p k v eff).only part).memoryOk = true := by
  simp (maxDischargeDepth := 40) (contextual := true) only [State.controlledNum, ↓State.controlled_memory hp, h_eff,
    h, ite_self, implies_true, id_eq]

theorem State.writeByte_memory {part : Part} (hp : part = .sram ∨ part = .dram) (s : State) (mem pa : Nat) (v : Byte)
    (h : (s.only part).memoryOk = true) : ((s.writeByte mem pa v).only part).memoryOk = true := by
  unfold State.writeByte
  rcases hp with rfl | rfl <;> simp only [State.memoryOk, Bool.and_eq_true] at h ⊢ <;> split <;> try split
  all_goals first | exact h | exact ⟨memWrite_wf _ _ _ h.1, h.2⟩ | exact ⟨h.1, memWrite_wf _ _ _ h.2⟩

theorem State.writeBytes_memory {part : Part} (hp : part = .sram ∨ part = .dram) (s : State) (mem pa : Nat) (z1 : List Byte)
    (h : (s.only part).memoryOk = true) : ((State.writeBytes s mem pa z1).only part).memoryOk = true := by
  induction z1 generalizing s pa with
  | nil => exact h
  | cons b bs ih => exact ih _ _ (State.writeByte_memory hp s mem pa b h)

theorem State.writeElem_memory {part : Part} (hp : part = .sram ∨ part = .dram) (s : State) (g : Grain) (p : Place) (ix : List Nat) (v : Nat)
    (h : (s.only part).memoryOk = true) : ((State.writeElem s g p ix v).only part).memoryOk = true := by
  simp (maxDischargeDepth := 40) (contextual := true) only [State.writeElem,
    ↓State.send_same (outside hp (by decide) (by decide)), ↓State.writeByte_memory hp, ↓State.writeBytes_memory hp,
    ↓memoryOk_ite, ↓memoryOk_iteFst, ↓memoryOk_iteSnd, h, ite_self, implies_true, id_eq]

theorem State.moveScale_memory {part : Part} (hp : part = .sram ∨ part = .dram) (s : State) (x : Xfer) (p : Pair)
    (h : (s.only part).memoryOk = true) : ((State.moveScale s x p).only part).memoryOk = true := by
  simp (maxDischargeDepth := 40) (contextual := true) only [State.moveScale, ↓State.writeByte_memory hp,
    ↓memoryOk_ite, ↓memoryOk_iteFst, ↓memoryOk_iteSnd, h, ite_self, implies_true, id_eq]
  all_goals repeat' split <;> try simp (maxDischargeDepth := 40) (contextual := true) only [
    ↓State.writeByte_memory hp, ↓memoryOk_ite, ↓memoryOk_iteFst, ↓memoryOk_iteSnd, h, ite_self, implies_true, id_eq]

theorem State.movePairs_memory {part : Part} (hp : part = .sram ∨ part = .dram) (s : State) (x : Xfer) (pv : List (Pair × Nat))
    (h : (s.only part).memoryOk = true) : ((State.movePairs s x pv).only part).memoryOk = true := by
  simp (maxDischargeDepth := 40) (contextual := true) only [State.movePairs, ↓State.writeElem_memory hp,
    ↓State.moveScale_memory hp, memoryOk_foldl, only_foldl, only_foldlFst, h, ite_self, implies_true, id_eq]

theorem State.accumulateElem_memory {part : Part} (hp : part = .sram ∨ part = .dram) (s : State) (x : Xfer) (ix : List Nat) (cs : List Nat)
    (h : (s.only part).memoryOk = true) : ((State.accumulateElem s x ix cs).only part).memoryOk = true := by
  simp (maxDischargeDepth := 40) (contextual := true) only [State.accumulateElem,
    ↓State.send_same (outside hp (by decide) (by decide)), ↓State.incr_same (outside hp (by decide) (by decide)),
    ↓State.writeElem_memory hp, ↓memoryOk_ite, ↓memoryOk_iteFst, ↓memoryOk_iteSnd, memoryOk_foldl, only_foldl,
    only_foldlFst, h, ite_self, implies_true, id_eq]

theorem State.accumulatePairs_memory {part : Part} (hp : part = .sram ∨ part = .dram) (s : State) (x : Xfer) (pv : List (Pair × Nat))
    (h : (s.only part).memoryOk = true) : ((State.accumulatePairs s x pv).only part).memoryOk = true := by
  simp (maxDischargeDepth := 40) (contextual := true) only [State.accumulatePairs,
    ↓State.incr_same (outside hp (by decide) (by decide)), ↓State.accumulateElem_memory hp, memoryOk_foldl,
    only_foldl, only_foldlFst, h, ite_self, implies_true, id_eq]

theorem State.mapSpare_memory {part : Part} (hp : part = .sram ∨ part = .dram) (s : State) (r : FaultRec) (entry : Place)
    (h : (s.only part).memoryOk = true) : ((State.mapSpare s r entry).only part).memoryOk = true := by
  simp (maxDischargeDepth := 40) (contextual := true) only [State.mapSpare,
    ↓State.onXfer_same (outside hp (by decide) (by decide)), ↓State.writeBytes_memory hp, ↓memoryOk_ite,
    ↓memoryOk_iteFst, ↓memoryOk_iteSnd, h, ite_self, implies_true, id_eq]
  all_goals repeat' split <;> try simp (maxDischargeDepth := 40) (contextual := true) only [
    ↓State.onXfer_same (outside hp (by decide) (by decide)), ↓State.writeBytes_memory hp, ↓memoryOk_ite,
    ↓memoryOk_iteFst, ↓memoryOk_iteSnd, h, ite_self, implies_true, id_eq]

theorem State.firmwareAnswer_memory {part : Part} (hp : part = .sram ∨ part = .dram) (s : State) (x : Xfer) (r : FaultRec) (entry : Place)
    (h : (s.only part).memoryOk = true) : ((State.firmwareAnswer s x r entry).only part).memoryOk = true := by
  simp (maxDischargeDepth := 40) (contextual := true) only [State.firmwareAnswer,
    ↓State.emit_same (outside hp (by decide) (by decide)), ↓State.abandon_same (outside hp (by decide) (by decide)),
    ↓State.mapSpare_memory hp, ↓State.resumed_same (outside hp (by decide) (by decide)), ↓memoryOk_ite,
    ↓memoryOk_iteFst, ↓memoryOk_iteSnd, h, ite_self, implies_true, id_eq]

theorem State.raiseFault_memory {part : Part} (hp : part = .sram ∨ part = .dram) (s : State) (x : Xfer) (chunk : Nat) (n : Need) (kind level : Nat) (entry : Place)
    (h : (s.only part).memoryOk = true) : ((State.raiseFault s x chunk n kind level entry).only part).memoryOk = true := by
  simp (maxDischargeDepth := 40) (contextual := true) only [State.raiseFault,
    ↓State.onXfer_same (outside hp (by decide) (by decide)), ↓State.incr_same (outside hp (by decide) (by decide)),
    ↓State.emit_same (outside hp (by decide) (by decide)), ↓State.setXfer_same (outside hp (by decide) (by decide)),
    ↓State.postFault_same (outside hp (by decide) (by decide)), ↓State.firmwareAnswer_memory hp, ↓memoryOk_ite,
    ↓memoryOk_iteFst, ↓memoryOk_iteSnd, h, ite_self, implies_true, id_eq]

theorem State.applyChunk_memory {part : Part} (hp : part = .sram ∨ part = .dram) (s : State) (x : Xfer) (data : List Byte)
    (h : (s.only part).memoryOk = true) : ((State.applyChunk s x data).only part).memoryOk = true := by
  simp (maxDischargeDepth := 40) (contextual := true) only [State.applyChunk,
    ↓State.incr_same (outside hp (by decide) (by decide)), ↓State.sendTok_same (outside hp (by decide) (by decide)),
    ↓State.lookup_same (outside hp (by decide) (by decide)),
    ↓State.countSelections_same (outside hp (by decide) (by decide)),
    ↓State.countScales_same (outside hp (by decide) (by decide)), ↓State.movePairs_memory hp,
    ↓State.accumulatePairs_memory hp, ↓State.setXfer_same (outside hp (by decide) (by decide)),
    ↓State.dropXfer_same (outside hp (by decide) (by decide)),
    ↓State.healWords_same (outside hp (by decide) (by decide)),
    ↓State.request256_same (outside hp (by decide) (by decide)), ↓memoryOk_ite, ↓memoryOk_iteFst, ↓memoryOk_iteSnd,
    memoryOk_foldl, only_foldl, only_foldlFst, h, ite_self, implies_true, id_eq]
  all_goals repeat' split <;> try simp (maxDischargeDepth := 40) (contextual := true) only [
    ↓State.incr_same (outside hp (by decide) (by decide)), ↓State.sendTok_same (outside hp (by decide) (by decide)),
    ↓State.lookup_same (outside hp (by decide) (by decide)),
    ↓State.countSelections_same (outside hp (by decide) (by decide)),
    ↓State.countScales_same (outside hp (by decide) (by decide)), ↓State.movePairs_memory hp,
    ↓State.accumulatePairs_memory hp, ↓State.setXfer_same (outside hp (by decide) (by decide)),
    ↓State.dropXfer_same (outside hp (by decide) (by decide)),
    ↓State.healWords_same (outside hp (by decide) (by decide)),
    ↓State.request256_same (outside hp (by decide) (by decide)), ↓memoryOk_ite, ↓memoryOk_iteFst, ↓memoryOk_iteSnd,
    memoryOk_foldl, only_foldl, only_foldlFst, h, ite_self, implies_true, id_eq]

theorem State.applyGroup_memory {part : Part} (hp : part = .sram ∨ part = .dram) (s : State) (data : List Byte) (z1 : List Xfer)
    (h : (s.only part).memoryOk = true) : ((State.applyGroup s data z1).only part).memoryOk = true := by
  induction z1 generalizing s data with
  | nil => simp only [State.applyGroup, h]
  | cons z zs ih =>
    simp (maxDischargeDepth := 40) (contextual := true) only [State.applyGroup,
      ↓State.applyChunk_memory hp, h, ih, ite_self]

theorem State.chunkVisible_memory {part : Part} (hp : part = .sram ∨ part = .dram) (s : State) (x : Xfer) (crcOk : Bool) (data : List Byte)
    (h : (s.only part).memoryOk = true) : ((State.chunkVisible s x crcOk data).only part).memoryOk = true := by
  simp (maxDischargeDepth := 40) (contextual := true) only [State.chunkVisible,
    ↓State.metBadWord_same (outside hp (by decide) (by decide)),
    ↓State.abandon_same (outside hp (by decide) (by decide)), ↓State.raiseFault_memory hp,
    ↓State.chunkMismatch_same (outside hp (by decide) (by decide)), ↓State.applyGroup_memory hp, ↓memoryOk_ite,
    ↓memoryOk_iteFst, ↓memoryOk_iteSnd, h, ite_self, implies_true, id_eq]
  all_goals repeat' split <;> try simp (maxDischargeDepth := 40) (contextual := true) only [
    ↓State.metBadWord_same (outside hp (by decide) (by decide)),
    ↓State.abandon_same (outside hp (by decide) (by decide)), ↓State.raiseFault_memory hp,
    ↓State.chunkMismatch_same (outside hp (by decide) (by decide)), ↓State.applyGroup_memory hp, ↓memoryOk_ite,
    ↓memoryOk_iteFst, ↓memoryOk_iteSnd, h, ite_self, implies_true, id_eq]

theorem State.resume_memory {part : Part} (hp : part = .sram ∨ part = .dram) (s : State) (x : Xfer) (f : FaultRec)
    (h : (s.only part).memoryOk = true) : ((State.resume s x f).only part).memoryOk = true := by
  simp (maxDischargeDepth := 40) (contextual := true) only [State.resume,
    ↓State.resumed_same (outside hp (by decide) (by decide)), ↓State.raiseFault_memory hp, ↓memoryOk_ite,
    ↓memoryOk_iteFst, ↓memoryOk_iteSnd, h, ite_self, implies_true, id_eq]
  all_goals repeat' split <;> try simp (maxDischargeDepth := 40) (contextual := true) only [
    ↓State.resumed_same (outside hp (by decide) (by decide)), ↓State.raiseFault_memory hp, ↓memoryOk_ite,
    ↓memoryOk_iteFst, ↓memoryOk_iteSnd, h, ite_self, implies_true, id_eq]

theorem State.respond_memory {part : Part} (hp : part = .sram ∨ part = .dram) (s : State) (v : Nat)
    (h : (s.only part).memoryOk = true) : ((State.respond s v).only part).memoryOk = true := by
  simp (maxDischargeDepth := 40) (contextual := true) only [State.respond,
    ↓State.emit_same (outside hp (by decide) (by decide)), ↓State.abandon_same (outside hp (by decide) (by decide)),
    ↓State.resume_memory hp, ↓memoryOk_ite, ↓memoryOk_iteFst, ↓memoryOk_iteSnd, h, ite_self, implies_true, id_eq]
  all_goals repeat' split <;> try simp (maxDischargeDepth := 40) (contextual := true) only [
    ↓State.emit_same (outside hp (by decide) (by decide)), ↓State.abandon_same (outside hp (by decide) (by decide)),
    ↓State.resume_memory hp, ↓memoryOk_ite, ↓memoryOk_iteFst, ↓memoryOk_iteSnd, h, ite_self, implies_true, id_eq]

theorem State.takeWrite_memory {part : Part} (hp : part = .sram ∨ part = .dram) (s : State) (k : Nat) (f : LinkFrame) (i : FrameInfo)
    (h : (s.only part).memoryOk = true) : ((State.takeWrite s k f i).only part).memoryOk = true := by
  simp (maxDischargeDepth := 40) (contextual := true) only [State.takeWrite, ↓State.writeBytes_memory hp,
    ↓State.answerRequest_same (outside hp (by decide) (by decide)),
    ↓State.refuseRequest_same (outside hp (by decide) (by decide)), ↓memoryOk_ite, ↓memoryOk_iteFst,
    ↓memoryOk_iteSnd, h, ite_self, implies_true, id_eq]

theorem State.applyAccums_memory {part : Part} (hp : part = .sram ∨ part = .dram) (s : State) (el : Elem) (es : List (Nat × Nat))
    (h : (s.only part).memoryOk = true) : ((State.applyAccums s el es).only part).memoryOk = true := by
  simp (maxDischargeDepth := 40) (contextual := true) only [State.applyAccums,
    ↓State.incr_same (outside hp (by decide) (by decide)), ↓State.writeBytes_memory hp, memoryOk_foldl, only_foldl,
    only_foldlFst, h, ite_self, implies_true, id_eq]

theorem State.completeAccum_memory {part : Part} (hp : part = .sram ∨ part = .dram) (s : State) (k : Nat) (ecc : Bool) (fs : List LinkFrame)
    (h : (s.only part).memoryOk = true) : ((State.completeAccum s k ecc fs).only part).memoryOk = true := by
  simp (maxDischargeDepth := 40) (contextual := true) only [State.completeAccum,
    ↓State.onPort_same (outside hp (by decide) (by decide)),
    ↓State.metBadWord_same (outside hp (by decide) (by decide)),
    ↓State.slabFails_same (outside hp (by decide) (by decide)),
    ↓State.answerRequest_same (outside hp (by decide) (by decide)), ↓State.applyAccums_memory hp, ↓memoryOk_ite,
    ↓memoryOk_iteFst, ↓memoryOk_iteSnd, memoryOk_foldl, only_foldl, only_foldlFst, h, ite_self, implies_true, id_eq]
  all_goals repeat' split <;> try simp (maxDischargeDepth := 40) (contextual := true) only [
    ↓State.onPort_same (outside hp (by decide) (by decide)),
    ↓State.metBadWord_same (outside hp (by decide) (by decide)),
    ↓State.slabFails_same (outside hp (by decide) (by decide)),
    ↓State.answerRequest_same (outside hp (by decide) (by decide)), ↓State.applyAccums_memory hp, ↓memoryOk_ite,
    ↓memoryOk_iteFst, ↓memoryOk_iteSnd, memoryOk_foldl, only_foldl, only_foldlFst, h, ite_self, implies_true, id_eq]

theorem State.takeAccum_memory {part : Part} (hp : part = .sram ∨ part = .dram) (s : State) (k : Nat) (f : LinkFrame) (ecc : Bool) (i : FrameInfo)
    (h : (s.only part).memoryOk = true) : ((State.takeAccum s k f ecc i).only part).memoryOk = true := by
  simp (maxDischargeDepth := 40) (contextual := true) only [State.takeAccum,
    ↓State.onPort_same (outside hp (by decide) (by decide)),
    ↓State.refuseRequest_same (outside hp (by decide) (by decide)), ↓State.completeAccum_memory hp, ↓memoryOk_ite,
    ↓memoryOk_iteFst, ↓memoryOk_iteSnd, h, ite_self, implies_true, id_eq]

theorem restoreRegions_wf (rs : List (Nat × Nat)) (bs : List Byte) (m : List Host.Cell) (h : Memory.wf m = true) :
    Memory.wf (restoreRegions bs rs m) = true := by
  induction rs generalizing bs m with
  | nil => exact h
  | cons r rs ih => exact ih _ _ (memWriteN_wf _ _ _ h)

theorem State.restoreEpoch_memory {part : Part} (hp : part = .sram ∨ part = .dram) (s : State) (e : Epoch)
    (h : (s.only part).memoryOk = true) : ((State.restoreEpoch s e).only part).memoryOk = true := by
  have ho := fun (ps : List Part) => outside (ps := ps) hp
  have e1 : ∀ bs n, Memory.wf (((s.restoreCursors bs n).only part).sram) = true := fun bs n => by
    rw [State.restoreCursors_same (ho _ (by decide) (by decide))]
    simp only [State.memoryOk, Bool.and_eq_true] at h; exact h.1
  simp (maxDischargeDepth := 40) only [State.restoreEpoch, ↓State.setEnc_same (ho _ (by decide) (by decide)),
    ↓State.enterResync_same (ho _ (by decide) (by decide)), only_foldl, implies_true]
  rcases hp with rfl | rfl
  · refine State.setSram_memory (.inl rfl) _ _ ?_ (restoreRegions_wf _ _ _ (e1 _ _))
    simp only [↓State.onHead_same (ho _ (by decide) (by decide)),
      ↓State.restoreCursors_same (ho _ (by decide) (by decide)), h]
  · simp only [↓State.setSram_same (show Part.dram ∉ [Part.sram] by decide),
      ↓State.onHead_same (ho _ (by decide) (by decide)), ↓State.restoreCursors_same (ho _ (by decide) (by decide)), h]

theorem State.refuseEpoch_memory {part : Part} (hp : part = .sram ∨ part = .dram) (s : State) (leave : Bool)
    (h : (s.only part).memoryOk = true) : ((State.refuseEpoch s leave).only part).memoryOk = true := by
  simp (maxDischargeDepth := 40) (contextual := true) only [State.refuseEpoch,
    ↓State.incr_same (outside hp (by decide) (by decide)), ↓State.emit_same (outside hp (by decide) (by decide)),
    ↓State.sendFrame_same (outside hp (by decide) (by decide)),
    ↓State.roleTo_same (outside hp (by decide) (by decide)), ↓memoryOk_ite, ↓memoryOk_iteFst, ↓memoryOk_iteSnd, h,
    ite_self, implies_true, id_eq]

theorem State.restore_memory {part : Part} (hp : part = .sram ∨ part = .dram) (s : State)
    (h : (s.only part).memoryOk = true) : ((State.restore s).only part).memoryOk = true := by
  simp (maxDischargeDepth := 40) (contextual := true) only [State.restore,
    ↓State.onRed_same (outside hp (by decide) (by decide)), ↓State.restoreEpoch_memory hp, h, ite_self, implies_true,
    id_eq]
  all_goals repeat' split <;> try simp (maxDischargeDepth := 40) (contextual := true) only [
    ↓State.onRed_same (outside hp (by decide) (by decide)), ↓State.restoreEpoch_memory hp, h, ite_self, implies_true,
    id_eq]

theorem State.promote_memory {part : Part} (hp : part = .sram ∨ part = .dram) (s : State)
    (h : (s.only part).memoryOk = true) : ((State.promote s).only part).memoryOk = true := by
  simp (maxDischargeDepth := 40) (contextual := true) only [State.promote,
    ↓State.roleTo_same (outside hp (by decide) (by decide)), ↓State.claim_same (outside hp (by decide) (by decide)),
    ↓State.restore_memory hp, h, ite_self, implies_true, id_eq]
  all_goals repeat' split <;> try simp (maxDischargeDepth := 40) (contextual := true) only [
    ↓State.roleTo_same (outside hp (by decide) (by decide)), ↓State.claim_same (outside hp (by decide) (by decide)),
    ↓State.restore_memory hp, h, ite_self, implies_true, id_eq]

theorem State.takeEntry24_memory {part : Part} (hp : part = .sram ∨ part = .dram) (s : State) (e : JEntry × Bool)
    (h : (s.only part).memoryOk = true) : ((State.takeEntry24 s e).only part).memoryOk = true := by
  simp (maxDischargeDepth := 40) (contextual := true) only [State.takeEntry24,
    ↓State.onRed_same (outside hp (by decide) (by decide)), ↓State.incr_same (outside hp (by decide) (by decide)),
    ↓State.emit_same (outside hp (by decide) (by decide)), ↓State.refuseEpoch_memory hp, ↓memoryOk_ite,
    ↓memoryOk_iteFst, ↓memoryOk_iteSnd, h, ite_self, implies_true, id_eq]

theorem State.commitEpoch_memory {part : Part} (hp : part = .sram ∨ part = .dram) (s : State) (e : Epoch)
    (h : (s.only part).memoryOk = true) : ((State.commitEpoch s e).only part).memoryOk = true := by
  simp (maxDischargeDepth := 40) (contextual := true) only [State.commitEpoch,
    ↓State.onRed_same (outside hp (by decide) (by decide)), ↓State.setObj_same (outside hp (by decide) (by decide)),
    ↓State.incr_same (outside hp (by decide) (by decide)), ↓State.emit_same (outside hp (by decide) (by decide)),
    ↓State.sendFrame_same (outside hp (by decide) (by decide)),
    ↓State.roleTo_same (outside hp (by decide) (by decide)), ↓memoryOk_ite, ↓memoryOk_iteFst, ↓memoryOk_iteSnd, h,
    ite_self, implies_true, id_eq]

theorem State.takeCommit_memory {part : Part} (hp : part = .sram ∨ part = .dram) (s : State) (bs : List Byte)
    (h : (s.only part).memoryOk = true) : ((State.takeCommit s bs).only part).memoryOk = true := by
  simp (maxDischargeDepth := 40) (contextual := true) only [State.takeCommit,
    ↓State.onRed_same (outside hp (by decide) (by decide)), ↓State.refuseEpoch_memory hp,
    ↓State.commitEpoch_memory hp, ↓memoryOk_ite, ↓memoryOk_iteFst, ↓memoryOk_iteSnd, h, ite_self, implies_true, id_eq]
  all_goals repeat' split <;> try simp (maxDischargeDepth := 40) (contextual := true) only [
    ↓State.onRed_same (outside hp (by decide) (by decide)), ↓State.refuseEpoch_memory hp,
    ↓State.commitEpoch_memory hp, ↓memoryOk_ite, ↓memoryOk_iteFst, ↓memoryOk_iteSnd, h, ite_self, implies_true, id_eq]

theorem State.epochAnswer_memory {part : Part} (hp : part = .sram ∨ part = .dram) (s : State) (number : Nat) (ok : Bool)
    (h : (s.only part).memoryOk = true) : ((State.epochAnswer s number ok).only part).memoryOk = true := by
  simp (maxDischargeDepth := 40) (contextual := true) only [State.epochAnswer,
    ↓State.onRed_same (outside hp (by decide) (by decide)), ↓State.setObj_same (outside hp (by decide) (by decide)),
    ↓State.incr_same (outside hp (by decide) (by decide)), ↓memoryOk_ite, ↓memoryOk_iteFst, ↓memoryOk_iteSnd, h,
    ite_self, implies_true, id_eq]
  all_goals repeat' split <;> try simp (maxDischargeDepth := 40) (contextual := true) only [
    ↓State.onRed_same (outside hp (by decide) (by decide)), ↓State.setObj_same (outside hp (by decide) (by decide)),
    ↓State.incr_same (outside hp (by decide) (by decide)), ↓memoryOk_ite, ↓memoryOk_iteFst, ↓memoryOk_iteSnd, h,
    ite_self, implies_true, id_eq]

theorem State.edgeTakeover_memory {part : Part} (hp : part = .sram ∨ part = .dram) (s : State)
    (h : (s.only part).memoryOk = true) : ((State.edgeTakeover s).only part).memoryOk = true := by
  simp (maxDischargeDepth := 40) (contextual := true) only [State.edgeTakeover,
    ↓State.onRed_same (outside hp (by decide) (by decide)), ↓State.setObj_same (outside hp (by decide) (by decide)),
    ↓State.incr_same (outside hp (by decide) (by decide)), ↓State.emit_same (outside hp (by decide) (by decide)), h,
    ite_self, implies_true, id_eq]
  all_goals repeat' split <;> try simp (maxDischargeDepth := 40) (contextual := true) only [
    ↓State.onRed_same (outside hp (by decide) (by decide)), ↓State.setObj_same (outside hp (by decide) (by decide)),
    ↓State.incr_same (outside hp (by decide) (by decide)), ↓State.emit_same (outside hp (by decide) (by decide)), h,
    ite_self, implies_true, id_eq]

theorem State.resolve_memory {part : Part} (hp : part = .sram ∨ part = .dram) (s : State) (reason : Nat)
    (h : (s.only part).memoryOk = true) : ((State.resolve s reason).only part).memoryOk = true := by
  simp (maxDischargeDepth := 40) (contextual := true) only [State.resolve,
    ↓State.emit_same (outside hp (by decide) (by decide)), ↓State.roleTo_same (outside hp (by decide) (by decide)),
    ↓memoryOk_ite, ↓memoryOk_iteFst, ↓memoryOk_iteSnd, h, ite_self, implies_true, id_eq]

theorem State.loseSram_memory {part : Part} (hp : part = .sram ∨ part = .dram) (s : State) (mask : Nat)
    (h : (s.only part).memoryOk = true) : ((State.loseSram s mask).only part).memoryOk = true := by
  rcases hp with rfl | rfl
  · simp only [State.memoryOk, Bool.and_eq_true] at h ⊢
    exact ⟨filter_wf _ h.1, h.2⟩
  · exact h

theorem State.enterWatch_memory {part : Part} (hp : part = .sram ∨ part = .dram) (s : State)
    (h : (s.only part).memoryOk = true) : ((State.enterWatch s).only part).memoryOk = true := by
  simp (maxDischargeDepth := 40) (contextual := true) only [State.enterWatch,
    ↓State.onPower_same (outside hp (by decide) (by decide)), ↓State.incr_same (outside hp (by decide) (by decide)),
    ↓State.modeTo_same (outside hp (by decide) (by decide)), ↓State.loseSram_memory hp,
    ↓State.entryRecords_same (outside hp (by decide) (by decide)),
    ↓State.stopWork_same (outside hp (by decide) (by decide)), h, ite_self, implies_true, id_eq]

theorem State.enterOff_memory {part : Part} (hp : part = .sram ∨ part = .dram) (s : State)
    (h : (s.only part).memoryOk = true) : ((State.enterOff s).only part).memoryOk = true := by
  simp (maxDischargeDepth := 40) (contextual := true) only [State.enterOff,
    ↓State.onAlarm_same (outside hp (by decide) (by decide)),
    ↓State.onPower_same (outside hp (by decide) (by decide)), ↓State.emptySram_memory hp, ↓State.emptyDram_memory hp,
    ↓State.flushAll_same (outside hp (by decide) (by decide)),
    ↓State.modeTo_same (outside hp (by decide) (by decide)),
    ↓State.entryRecords_same (outside hp (by decide) (by decide)),
    ↓State.stopWork_same (outside hp (by decide) (by decide)), ↓memoryOk_ite, ↓memoryOk_iteFst, ↓memoryOk_iteSnd, h,
    ite_self, implies_true, id_eq]

theorem State.judgedWrite_memory {part : Part} (hp : part = .sram ∨ part = .dram) (s : State) (p : Path) (k : Nat) (data : List Byte) (ok : Bool) (eff bad : State → State) (h_eff : ∀ s, (s.only part).memoryOk = true → ((eff s).only part).memoryOk = true) (h_bad : ∀ s, (s.only part).memoryOk = true → ((bad s).only part).memoryOk = true)
    (h : (s.only part).memoryOk = true) : ((State.judgedWrite s p k data ok eff bad).only part).memoryOk = true := by
  simp (maxDischargeDepth := 40) (contextual := true) only [State.judgedWrite,
    ↓State.acceptWrite_same (outside hp (by decide) (by decide)),
    ↓State.refuse_same (outside hp (by decide) (by decide)), ↓memoryOk_ite, ↓memoryOk_iteFst, ↓memoryOk_iteSnd,
    h_eff, h_bad, h, ite_self, implies_true, id_eq]

theorem State.clearAll_memory {part : Part} (hp : part = .sram ∨ part = .dram) (s : State) (env : StartEnv) (cause : Nat)
    (_h : (s.only part).memoryOk = true) : ((State.clearAll s env cause).only part).memoryOk = true := by
  rcases hp with rfl | rfl <;> rfl

theorem State.startEcc_memory {part : Part} (hp : part = .sram ∨ part = .dram) (s : State)
    (h : (s.only part).memoryOk = true) : ((State.startEcc s).only part).memoryOk = true := by
  simp (maxDischargeDepth := 40) (contextual := true) only [State.startEcc,
    ↓State.onBoot_same (outside hp (by decide) (by decide)), ↓State.emptyDram_memory hp, ↓memoryOk_ite,
    ↓memoryOk_iteFst, ↓memoryOk_iteSnd, h, ite_self, implies_true, id_eq]

theorem State.startSteps_memory {part : Part} (hp : part = .sram ∨ part = .dram) (s : State) (guard : Bool)
    (h : (s.only part).memoryOk = true) : ((State.startSteps s guard).only part).memoryOk = true := by
  simp (maxDischargeDepth := 40) (contextual := true) only [State.startSteps,
    ↓State.setObj_same (outside hp (by decide) (by decide)), ↓State.emit_same (outside hp (by decide) (by decide)),
    ↓State.startCtrl_same (outside hp (by decide) (by decide)),
    ↓State.leaveInitialisation_same (outside hp (by decide) (by decide)),
    ↓State.startRole_same (outside hp (by decide) (by decide)),
    ↓State.trainDram_same (outside hp (by decide) (by decide)), ↓State.startEcc_memory hp,
    ↓State.startImage_same (outside hp (by decide) (by decide)), ↓memoryOk_ite, ↓memoryOk_iteFst, ↓memoryOk_iteSnd,
    h, ite_self, implies_true, id_eq]

theorem State.bootRom_memory {part : Part} (hp : part = .sram ∨ part = .dram) (s : State) (guard : Bool)
    (h : (s.only part).memoryOk = true) : ((State.bootRom s guard).only part).memoryOk = true := by
  simp (maxDischargeDepth := 40) (contextual := true) only [State.bootRom,
    ↓State.onBoot_same (outside hp (by decide) (by decide)), ↓State.emit_same (outside hp (by decide) (by decide)),
    ↓State.recovery_same (outside hp (by decide) (by decide)),
    ↓State.startStep3_same (outside hp (by decide) (by decide)), ↓State.startSteps_memory hp, ↓memoryOk_ite,
    ↓memoryOk_iteFst, ↓memoryOk_iteSnd, h, ite_self, implies_true, id_eq]
  all_goals repeat' split <;> try simp (maxDischargeDepth := 40) (contextual := true) only [
    ↓State.onBoot_same (outside hp (by decide) (by decide)), ↓State.emit_same (outside hp (by decide) (by decide)),
    ↓State.recovery_same (outside hp (by decide) (by decide)),
    ↓State.startStep3_same (outside hp (by decide) (by decide)), ↓State.startSteps_memory hp, ↓memoryOk_ite,
    ↓memoryOk_iteFst, ↓memoryOk_iteSnd, h, ite_self, implies_true, id_eq]

theorem State.fullStart_memory {part : Part} (hp : part = .sram ∨ part = .dram) (s : State) (env : StartEnv) (cause : Nat)
    (h : (s.only part).memoryOk = true) : ((State.fullStart s env cause).only part).memoryOk = true := by
  simp (maxDischargeDepth := 40) (contextual := true) only [State.fullStart,
    ↓State.startLifetime_same (outside hp (by decide) (by decide)),
    ↓State.noteCalendar_same (outside hp (by decide) (by decide)),
    ↓State.dropStore_same (outside hp (by decide) (by decide)),
    ↓State.loadRtc_same (outside hp (by decide) (by decide)), ↓State.clearAll_memory hp, ↓State.bootRom_memory hp,
    ↓State.reportTrip_same (outside hp (by decide) (by decide)), h, ite_self, implies_true, id_eq]

theorem State.resetNode_memory {part : Part} (hp : part = .sram ∨ part = .dram) (s : State) (env : StartEnv) (cause : Nat)
    (h : (s.only part).memoryOk = true) : ((State.resetNode s env cause).only part).memoryOk = true := by
  simp (maxDischargeDepth := 40) (contextual := true) only [State.resetNode,
    ↓State.stopPorts_same (outside hp (by decide) (by decide)),
    ↓State.unclaim_same (outside hp (by decide) (by decide)),
    ↓State.dropStore_same (outside hp (by decide) (by decide)),
    ↓State.clearNode_same (outside hp (by decide) (by decide)), ↓State.bootRom_memory hp, h, ite_self, implies_true,
    id_eq]

theorem State.commandReset_memory {part : Part} (hp : part = .sram ∨ part = .dram) (s : State) (env : StartEnv)
    (h : (s.only part).memoryOk = true) : ((State.commandReset s env).only part).memoryOk = true := by
  simp (maxDischargeDepth := 40) (contextual := true) only [State.commandReset,
    ↓State.appendLifetime_same (outside hp (by decide) (by decide)), ↓State.resetNode_memory hp, ↓memoryOk_ite,
    ↓memoryOk_iteFst, ↓memoryOk_iteSnd, h, ite_self, implies_true, id_eq]

theorem State.pendingReset_memory {part : Part} (hp : part = .sram ∨ part = .dram) (s : State)
    (h : (s.only part).memoryOk = true) : ((State.pendingReset s).only part).memoryOk = true := by
  simp (maxDischargeDepth := 40) (contextual := true) only [State.pendingReset, ↓State.resetNode_memory hp,
    ↓memoryOk_ite, ↓memoryOk_iteFst, ↓memoryOk_iteSnd, h, ite_self, implies_true, id_eq]

theorem State.committed_memory {part : Part} (hp : part = .sram ∨ part = .dram) (s : State)
    (h : (s.only part).memoryOk = true) : ((State.committed s).only part).memoryOk = true := by
  simp (maxDischargeDepth := 40) (contextual := true) only [State.committed,
    ↓State.onNet_same (outside hp (by decide) (by decide)),
    ↓State.updateCommit_same (outside hp (by decide) (by decide)), ↓State.bootRom_memory hp, ↓memoryOk_ite,
    ↓memoryOk_iteFst, ↓memoryOk_iteSnd, h, ite_self, implies_true, id_eq]

theorem State.commitUpdate_memory {part : Part} (hp : part = .sram ∨ part = .dram) (s : State) (p : Path) (data : List Byte)
    (h : (s.only part).memoryOk = true) : ((State.commitUpdate s p data).only part).memoryOk = true := by
  simp (maxDischargeDepth := 40) (contextual := true) only [State.commitUpdate,
    ↓State.onBoot_same (outside hp (by decide) (by decide)), ↓State.judgedWrite_memory hp,
    ↓State.committed_memory hp, h, ite_self, implies_true, id_eq]

theorem State.writeMove_memory {part : Part} (hp : part = .sram ∨ part = .dram) (s : State) (k v : Nat)
    (h : (s.only part).memoryOk = true) : ((State.writeMove s k v).only part).memoryOk = true := by
  simp (maxDischargeDepth := 40) (contextual := true) only [State.writeMove,
    ↓State.request_same (outside hp (by decide) (by decide)), ↓State.respond_memory hp,
    ↓State.invalidate_same (outside hp (by decide) (by decide)),
    ↓State.loadImage_same (outside hp (by decide) (by decide)),
    ↓State.reloadSlot_same (outside hp (by decide) (by decide)),
    ↓State.switchQueue_same (outside hp (by decide) (by decide)),
    ↓State.resetQueue_same (outside hp (by decide) (by decide)), ↓memoryOk_ite, ↓memoryOk_iteFst, ↓memoryOk_iteSnd,
    h, ite_self, implies_true, id_eq]

theorem State.roleCommand_memory {part : Part} (hp : part = .sram ∨ part = .dram) (s : State) (v : Nat)
    (h : (s.only part).memoryOk = true) : ((State.roleCommand s v).only part).memoryOk = true := by
  simp (maxDischargeDepth := 40) (contextual := true) only [State.roleCommand,
    ↓State.onRed_same (outside hp (by decide) (by decide)), ↓State.roleTo_same (outside hp (by decide) (by decide)),
    ↓State.claim_same (outside hp (by decide) (by decide)), ↓State.unclaim_same (outside hp (by decide) (by decide)),
    ↓State.becomeActive_same (outside hp (by decide) (by decide)), ↓State.restore_memory hp,
    ↓State.resolve_memory hp, ↓memoryOk_ite, ↓memoryOk_iteFst, ↓memoryOk_iteSnd, h, ite_self, implies_true, id_eq]
  all_goals repeat' split <;> try simp (maxDischargeDepth := 40) (contextual := true) only [
    ↓State.onRed_same (outside hp (by decide) (by decide)), ↓State.roleTo_same (outside hp (by decide) (by decide)),
    ↓State.claim_same (outside hp (by decide) (by decide)), ↓State.unclaim_same (outside hp (by decide) (by decide)),
    ↓State.becomeActive_same (outside hp (by decide) (by decide)), ↓State.restore_memory hp,
    ↓State.resolve_memory hp, ↓memoryOk_ite, ↓memoryOk_iteFst, ↓memoryOk_iteSnd, h, ite_self, implies_true, id_eq]

theorem State.writeMode_memory {part : Part} (hp : part = .sram ∨ part = .dram) (s : State) (k v : Nat)
    (h : (s.only part).memoryOk = true) : ((State.writeMode s k v).only part).memoryOk = true := by
  simp (maxDischargeDepth := 40) (contextual := true) only [State.writeMode,
    ↓State.request_same (outside hp (by decide) (by decide)),
    ↓State.requestRole_same (outside hp (by decide) (by decide)),
    ↓State.noteReturn_same (outside hp (by decide) (by decide)),
    ↓State.lowPower_same (outside hp (by decide) (by decide)), ↓State.roleCommand_memory hp, ↓memoryOk_ite,
    ↓memoryOk_iteFst, ↓memoryOk_iteSnd, h, ite_self, implies_true, id_eq]

theorem State.writeEffect_memory {part : Part} (hp : part = .sram ∨ part = .dram) (s : State) (k : Nat) (data : List Byte)
    (h : (s.only part).memoryOk = true) : ((State.writeEffect s k data).only part).memoryOk = true := by
  simp (maxDischargeDepth := 40) (contextual := true) only [State.writeEffect,
    ↓State.request_same (outside hp (by decide) (by decide)),
    ↓State.onStream_same (outside hp (by decide) (by decide)),
    ↓State.onCtrl_same (outside hp (by decide) (by decide)),
    ↓State.writeTimed_same (outside hp (by decide) (by decide)),
    ↓State.writeAlarm_same (outside hp (by decide) (by decide)),
    ↓State.writeEngine_same (outside hp (by decide) (by decide)), ↓State.writeMove_memory hp,
    ↓State.writeMode_memory hp, ↓State.writeHealth_same (outside hp (by decide) (by decide)),
    ↓State.writeBoot_same (outside hp (by decide) (by decide)), ↓memoryOk_ite, ↓memoryOk_iteFst, ↓memoryOk_iteSnd, h,
    ite_self, implies_true, id_eq]
  all_goals repeat' split <;> try simp (maxDischargeDepth := 40) (contextual := true) only [
    ↓State.request_same (outside hp (by decide) (by decide)),
    ↓State.onStream_same (outside hp (by decide) (by decide)),
    ↓State.onCtrl_same (outside hp (by decide) (by decide)),
    ↓State.writeTimed_same (outside hp (by decide) (by decide)),
    ↓State.writeAlarm_same (outside hp (by decide) (by decide)),
    ↓State.writeEngine_same (outside hp (by decide) (by decide)), ↓State.writeMove_memory hp,
    ↓State.writeMode_memory hp, ↓State.writeHealth_same (outside hp (by decide) (by decide)),
    ↓State.writeBoot_same (outside hp (by decide) (by decide)), ↓memoryOk_ite, ↓memoryOk_iteFst, ↓memoryOk_iteSnd, h,
    ite_self, implies_true, id_eq]

theorem State.applyWrite_memory {part : Part} (hp : part = .sram ∨ part = .dram) (s : State) (p : Path) (k : Nat) (data : List Byte)
    (h : (s.only part).memoryOk = true) : ((State.applyWrite s p k data).only part).memoryOk = true := by
  simp (maxDischargeDepth := 40) (contextual := true) only [State.applyWrite, ↓State.controlled_memory hp,
    ↓State.askStore_same (outside hp (by decide) (by decide)),
    ↓State.askRestore_same (outside hp (by decide) (by decide)),
    ↓State.keyBlock_same (outside hp (by decide) (by decide)), ↓State.commitUpdate_memory hp,
    ↓State.writeEffect_memory hp, ↓memoryOk_ite, ↓memoryOk_iteFst, ↓memoryOk_iteSnd, h, ite_self, implies_true, id_eq]

theorem State.takeRpdo_memory {part : Part} (hp : part = .sram ∨ part = .dram) (s : State) (n : Nat) (data : List Byte)
    (h : (s.only part).memoryOk = true) : ((State.takeRpdo s n data).only part).memoryOk = true := by
  simp (maxDischargeDepth := 40) (contextual := true) only [State.takeRpdo,
    ↓State.setObj_same (outside hp (by decide) (by decide)), ↓State.applyWrite_memory hp, ↓memoryOk_ite,
    ↓memoryOk_iteFst, ↓memoryOk_iteSnd, memoryOk_foldl, only_foldl, only_foldlFst, h, ite_self, implies_true, id_eq]

theorem State.serveUdp_memory {part : Part} (hp : part = .sram ∨ part = .dram) (s : State) (r : UdpRequest)
    (h : (s.only part).memoryOk = true) : ((State.serveUdp s r).1.only part).memoryOk = true := by
  simp (maxDischargeDepth := 40) (contextual := true) only [State.serveUdp,
    ↓State.draw_same (outside hp (by decide) (by decide)), ↓State.refuse_same (outside hp (by decide) (by decide)),
    ↓State.applyWrite_memory hp, ↓memoryOk_ite, ↓memoryOk_iteFst, ↓memoryOk_iteSnd, h, ite_self, implies_true, id_eq]
  all_goals repeat' split <;> try simp (maxDischargeDepth := 40) (contextual := true) only [
    ↓State.draw_same (outside hp (by decide) (by decide)), ↓State.refuse_same (outside hp (by decide) (by decide)),
    ↓State.applyWrite_memory hp, ↓memoryOk_ite, ↓memoryOk_iteFst, ↓memoryOk_iteSnd, h, ite_self, implies_true, id_eq]

theorem State.answerUdp_memory {part : Part} (hp : part = .sram ∨ part = .dram) (s : State) (src port : Nat) (r : UdpRequest)
    (h : (s.only part).memoryOk = true) : ((State.answerUdp s src port r).only part).memoryOk = true := by
  simp (maxDischargeDepth := 40) (contextual := true) only [State.answerUdp,
    ↓State.onDict_same (outside hp (by decide) (by decide)), ↓State.incr_same (outside hp (by decide) (by decide)),
    ↓State.transmitUdp_same (outside hp (by decide) (by decide)), ↓State.serveUdp_memory hp, h, ite_self,
    implies_true, id_eq]
  all_goals repeat' split <;> try simp (maxDischargeDepth := 40) (contextual := true) only [
    ↓State.onDict_same (outside hp (by decide) (by decide)), ↓State.incr_same (outside hp (by decide) (by decide)),
    ↓State.transmitUdp_same (outside hp (by decide) (by decide)), ↓State.serveUdp_memory hp, h, ite_self,
    implies_true, id_eq]

theorem State.loadValue_memory {part : Part} (hp : part = .sram ∨ part = .dram) (s : State) (k : Nat) (data : List Byte)
    (h : (s.only part).memoryOk = true) : ((State.loadValue s k data).only part).memoryOk = true := by
  simp (maxDischargeDepth := 40) (contextual := true) only [State.loadValue, ↓State.writeEffect_memory hp,
    ↓memoryOk_ite, ↓memoryOk_iteFst, ↓memoryOk_iteSnd, h, ite_self, implies_true, id_eq]

theorem State.loadConfig_memory {part : Part} (hp : part = .sram ∨ part = .dram) (s : State) (e : Epoch)
    (h : (s.only part).memoryOk = true) : ((State.loadConfig s e).only part).memoryOk = true := by
  simp (maxDischargeDepth := 40) (contextual := true) only [State.loadConfig,
    ↓State.onRed_same (outside hp (by decide) (by decide)), ↓State.loadValue_memory hp, ↓memoryOk_ite,
    ↓memoryOk_iteFst, ↓memoryOk_iteSnd, memoryOk_foldl, only_foldl, only_foldlFst, h, ite_self, implies_true, id_eq]

theorem State.applyJournal_memory {part : Part} (hp : part = .sram ∨ part = .dram) (s : State) (z1 : List (Nat × Nat × List Byte))
    (h : (s.only part).memoryOk = true) : ((State.applyJournal s z1).only part).memoryOk = true := by
  induction z1 generalizing s with
  | nil => simp only [State.applyJournal, h]
  | cons z zs ih =>
    simp (maxDischargeDepth := 40) (contextual := true) only [State.applyJournal,
      ↓State.onRed_same (outside hp (by decide) (by decide)), ↓State.incr_same (outside hp (by decide) (by decide)),
      ↓State.emit_same (outside hp (by decide) (by decide)), ↓State.refuseEpoch_memory hp,
      ↓State.applyWrite_memory hp, ↓memoryOk_ite, ↓memoryOk_iteFst, ↓memoryOk_iteSnd, h, ih, ite_self]

theorem State.ackJournal_memory {part : Part} (hp : part = .sram ∨ part = .dram) (s : State)
    (h : (s.only part).memoryOk = true) : ((State.ackJournal s).only part).memoryOk = true := by
  simp (maxDischargeDepth := 40) (contextual := true) only [State.ackJournal,
    ↓State.sendFrame_same (outside hp (by decide) (by decide)), ↓State.committed_memory hp, h, ite_self,
    implies_true, id_eq]

theorem State.edgeJournal_memory {part : Part} (hp : part = .sram ∨ part = .dram) (s : State)
    (h : (s.only part).memoryOk = true) : ((State.edgeJournal s).only part).memoryOk = true := by
  simp (maxDischargeDepth := 40) (contextual := true) only [State.edgeJournal, ↓State.committed_memory hp,
    ↓State.loadConfig_memory hp, ↓State.applyJournal_memory hp, ↓State.ackJournal_memory hp, ↓memoryOk_ite,
    ↓memoryOk_iteFst, ↓memoryOk_iteSnd, h, ite_self, implies_true, id_eq]
  all_goals repeat' split <;> try simp (maxDischargeDepth := 40) (contextual := true) only [
    ↓State.committed_memory hp, ↓State.loadConfig_memory hp, ↓State.applyJournal_memory hp,
    ↓State.ackJournal_memory hp, ↓memoryOk_ite, ↓memoryOk_iteFst, ↓memoryOk_iteSnd, h, ite_self, implies_true, id_eq]

theorem State.edgeWork_memory {part : Part} (hp : part = .sram ∨ part = .dram) (s : State)
    (h : (s.only part).memoryOk = true) : ((State.edgeWork s).only part).memoryOk = true := by
  simp (maxDischargeDepth := 40) (contextual := true) only [State.edgeWork,
    ↓State.edgeDefer_same (outside hp (by decide) (by decide)), ↓State.enterWatch_memory hp,
    ↓State.enterOff_memory hp, ↓State.tickSummary_same (outside hp (by decide) (by decide)),
    ↓State.edgeAdmit_same (outside hp (by decide) (by decide)), h, ite_self, implies_true, id_eq]
  all_goals repeat' split <;> try simp (maxDischargeDepth := 40) (contextual := true) only [
    ↓State.edgeDefer_same (outside hp (by decide) (by decide)), ↓State.enterWatch_memory hp,
    ↓State.enterOff_memory hp, ↓State.tickSummary_same (outside hp (by decide) (by decide)),
    ↓State.edgeAdmit_same (outside hp (by decide) (by decide)), h, ite_self, implies_true, id_eq]

theorem State.edgePair_memory {part : Part} (hp : part = .sram ∨ part = .dram) (s : State)
    (h : (s.only part).memoryOk = true) : ((State.edgePair s).only part).memoryOk = true := by
  simp (maxDischargeDepth := 40) (contextual := true) only [State.edgePair,
    ↓State.edgeWarm_same (outside hp (by decide) (by decide)),
    ↓State.edgeHandover_same (outside hp (by decide) (by decide)), ↓State.edgeTakeover_memory hp, h, ite_self,
    implies_true, id_eq]

theorem State.workingEdge_memory {part : Part} (hp : part = .sram ∨ part = .dram) (s : State) (rate : State → State) (leaves : Bool) (before : Option Nat) (h_rate : ∀ s, (s.only part).memoryOk = true → ((rate s).only part).memoryOk = true)
    (h : (s.only part).memoryOk = true) : ((State.workingEdge s rate leaves before).only part).memoryOk = true := by
  simp (maxDischargeDepth := 40) (contextual := true) only [State.workingEdge,
    ↓State.edgeStages_same (outside hp (by decide) (by decide)),
    ↓State.adoptObjects_same (outside hp (by decide) (by decide)),
    ↓State.adoptTick_same (outside hp (by decide) (by decide)),
    ↓State.edgeTime_same (outside hp (by decide) (by decide)), ↓State.edgeJournal_memory hp,
    ↓State.observeEdge_same (outside hp (by decide) (by decide)),
    ↓State.edgeReady_same (outside hp (by decide) (by decide)),
    ↓State.edgeComplete_same (outside hp (by decide) (by decide)),
    ↓State.sendTicks_same (outside hp (by decide) (by decide)),
    ↓State.restartFrames_same (outside hp (by decide) (by decide)), ↓State.edgeWork_memory hp,
    ↓State.edgeCeiling_same (outside hp (by decide) (by decide)),
    ↓State.edgeModes_same (outside hp (by decide) (by decide)),
    ↓State.edgeEnds_same (outside hp (by decide) (by decide)), ↓State.edgePair_memory hp,
    ↓State.edgeUnits_same (outside hp (by decide) (by decide)), h_rate, h, ite_self, implies_true, id_eq]

theorem State.watchEdge_memory {part : Part} (hp : part = .sram ∨ part = .dram) (s : State) (rate : State → State) (h_rate : ∀ s, (s.only part).memoryOk = true → ((rate s).only part).memoryOk = true)
    (h : (s.only part).memoryOk = true) : ((State.watchEdge s rate).only part).memoryOk = true := by
  simp (maxDischargeDepth := 40) (contextual := true) only [State.watchEdge,
    ↓State.adoptObjects_same (outside hp (by decide) (by decide)),
    ↓State.adoptTick_same (outside hp (by decide) (by decide)),
    ↓State.edgeTime_same (outside hp (by decide) (by decide)), ↓memoryOk_ite, ↓memoryOk_iteFst, ↓memoryOk_iteSnd,
    h_rate, h, ite_self, implies_true, id_eq]

theorem State.acceptEdge_memory {part : Part} (hp : part = .sram ∨ part = .dram) (s : State) (rate : State → State) (h_rate : ∀ s, (s.only part).memoryOk = true → ((rate s).only part).memoryOk = true)
    (h : (s.only part).memoryOk = true) : ((State.acceptEdge s rate).only part).memoryOk = true := by
  simp (maxDischargeDepth := 40) (contextual := true) only [State.acceptEdge,
    ↓State.numberEdge_same (outside hp (by decide) (by decide)), ↓State.workingEdge_memory hp,
    ↓State.watchEdge_memory hp, ↓memoryOk_ite, ↓memoryOk_iteFst, ↓memoryOk_iteSnd, h_rate, h, ite_self, implies_true,
    id_eq]

theorem State.switchEdge_memory {part : Part} (hp : part = .sram ∨ part = .dram) (s : State) (x : SwitchOver)
    (h : (s.only part).memoryOk = true) : ((State.switchEdge s x).only part).memoryOk = true := by
  simp (maxDischargeDepth := 40) (contextual := true) only [State.switchEdge,
    ↓State.refuseRate_same (outside hp (by decide) (by decide)),
    ↓State.abandonSwitch_same (outside hp (by decide) (by decide)), ↓State.acceptEdge_memory hp,
    ↓State.finishSwitch_same (outside hp (by decide) (by decide)), ↓memoryOk_ite, ↓memoryOk_iteFst, ↓memoryOk_iteSnd,
    h, ite_self, implies_true, id_eq]

theorem State.trySwitch_memory {part : Part} (hp : part = .sram ∨ part = .dram) (s : State) (goal : TickSource)
    (h : (s.only part).memoryOk = true) : ((State.trySwitch s goal).only part).memoryOk = true := by
  simp (maxDischargeDepth := 40) (contextual := true) only [State.trySwitch, ↓State.switchEdge_memory hp,
    ↓memoryOk_ite, ↓memoryOk_iteFst, ↓memoryOk_iteSnd, h, ite_self, implies_true, id_eq]
  all_goals repeat' split <;> try simp (maxDischargeDepth := 40) (contextual := true) only [
    ↓State.switchEdge_memory hp, ↓memoryOk_ite, ↓memoryOk_iteFst, ↓memoryOk_iteSnd, h, ite_self, implies_true, id_eq]

theorem State.tickInEdge_memory {part : Part} (hp : part = .sram ∨ part = .dram) (s : State)
    (h : (s.only part).memoryOk = true) : ((State.tickInEdge s).only part).memoryOk = true := by
  simp (maxDischargeDepth := 40) (contextual := true) only [State.tickInEdge,
    ↓State.incr_same (outside hp (by decide) (by decide)),
    ↓State.refuseRate_same (outside hp (by decide) (by decide)),
    ↓State.startSwitch_same (outside hp (by decide) (by decide)), ↓State.acceptEdge_memory hp,
    ↓State.trySwitch_memory hp, ↓State.lockFirst_same (outside hp (by decide) (by decide)), ↓memoryOk_ite,
    ↓memoryOk_iteFst, ↓memoryOk_iteSnd, h, ite_self, implies_true, id_eq]
  all_goals repeat' split <;> try simp (maxDischargeDepth := 40) (contextual := true) only [
    ↓State.incr_same (outside hp (by decide) (by decide)),
    ↓State.refuseRate_same (outside hp (by decide) (by decide)),
    ↓State.startSwitch_same (outside hp (by decide) (by decide)), ↓State.acceptEdge_memory hp,
    ↓State.trySwitch_memory hp, ↓State.lockFirst_same (outside hp (by decide) (by decide)), ↓memoryOk_ite,
    ↓memoryOk_iteFst, ↓memoryOk_iteSnd, h, ite_self, implies_true, id_eq]

theorem State.tickInPulse_memory {part : Part} (hp : part = .sram ∨ part = .dram) (s : State)
    (h : (s.only part).memoryOk = true) : ((State.tickInPulse s).only part).memoryOk = true := by
  simp (maxDischargeDepth := 40) (contextual := true) only [State.tickInPulse,
    ↓State.glitch_same (outside hp (by decide) (by decide)),
    ↓State.measureEdge_same (outside hp (by decide) (by decide)), ↓State.trySwitch_memory hp,
    ↓State.tickInEdge_memory hp, ↓memoryOk_ite, ↓memoryOk_iteFst, ↓memoryOk_iteSnd, h, ite_self, implies_true, id_eq]

theorem State.heldSdo_memory {part : Part} (hp : part = .sram ∨ part = .dram) (s : State) (data : List Byte)
    (h : (s.only part).memoryOk = true) : ((State.heldSdo s data).only part).memoryOk = true := by
  simp (maxDischargeDepth := 40) (contextual := true) only [State.heldSdo, ↓State.applyWrite_memory hp,
    ↓memoryOk_ite, ↓memoryOk_iteFst, ↓memoryOk_iteSnd, h, ite_self, implies_true, id_eq]

theorem State.heldNmt_memory {part : Part} (hp : part = .sram ∨ part = .dram) (s : State) (data : List Byte)
    (h : (s.only part).memoryOk = true) : ((State.heldNmt s data).only part).memoryOk = true := by
  simp (maxDischargeDepth := 40) (contextual := true) only [State.heldNmt,
    ↓State.nmtStart_same (outside hp (by decide) (by decide)),
    ↓State.nmtStop_same (outside hp (by decide) (by decide)),
    ↓State.nmtPreOp_same (outside hp (by decide) (by decide)),
    ↓State.nmtResetComm_same (outside hp (by decide) (by decide)), ↓State.commandReset_memory hp, h, ite_self,
    implies_true, id_eq]
  all_goals repeat' split <;> try simp (maxDischargeDepth := 40) (contextual := true) only [
    ↓State.nmtStart_same (outside hp (by decide) (by decide)),
    ↓State.nmtStop_same (outside hp (by decide) (by decide)),
    ↓State.nmtPreOp_same (outside hp (by decide) (by decide)),
    ↓State.nmtResetComm_same (outside hp (by decide) (by decide)), ↓State.commandReset_memory hp, h, ite_self,
    implies_true, id_eq]

theorem State.takeHeld_memory {part : Part} (hp : part = .sram ∨ part = .dram) (s : State) (f : Nat × Nat × List Byte)
    (h : (s.only part).memoryOk = true) : ((State.takeHeld s f).only part).memoryOk = true := by
  simp (maxDischargeDepth := 40) (contextual := true) only [State.takeHeld, ↓State.heldSdo_memory hp,
    ↓State.heldNmt_memory hp, ↓State.heldFragment_same (outside hp (by decide) (by decide)), ↓memoryOk_ite,
    ↓memoryOk_iteFst, ↓memoryOk_iteSnd, h, ite_self, implies_true, id_eq]

theorem State.handOver_memory {part : Part} (hp : part = .sram ∨ part = .dram) (s : State)
    (h : (s.only part).memoryOk = true) : ((State.handOver s).only part).memoryOk = true := by
  simp (maxDischargeDepth := 40) (contextual := true) only [State.handOver,
    ↓State.onNet_same (outside hp (by decide) (by decide)), ↓State.takeHeld_memory hp, memoryOk_foldl, only_foldl,
    only_foldlFst, h, ite_self, implies_true, id_eq]

theorem State.railsInWatch_memory {part : Part} (hp : part = .sram ∨ part = .dram) (s : State)
    (h : (s.only part).memoryOk = true) : ((State.railsInWatch s).only part).memoryOk = true := by
  simp (maxDischargeDepth := 40) (contextual := true) only [State.railsInWatch,
    ↓State.resumeCores_same (outside hp (by decide) (by decide)), ↓State.handOver_memory hp, ↓memoryOk_ite,
    ↓memoryOk_iteFst, ↓memoryOk_iteSnd, h, ite_self, implies_true, id_eq]

theorem State.railsInOff_memory {part : Part} (hp : part = .sram ∨ part = .dram) (s : State)
    (h : (s.only part).memoryOk = true) : ((State.railsInOff s).only part).memoryOk = true := by
  simp (maxDischargeDepth := 40) (contextual := true) only [State.railsInOff,
    ↓State.setObj_same (outside hp (by decide) (by decide)), ↓State.emit_same (outside hp (by decide) (by decide)),
    ↓State.fullStart_memory hp, ↓memoryOk_ite, ↓memoryOk_iteFst, ↓memoryOk_iteSnd, h, ite_self, implies_true, id_eq]

end Sys2Proof.Machine
end

