-- ==== Sys2Proof/Laws/MemoryCommands.lean ====
section
/-! SUPPORT. Every command that may change a memory keeps its canonical form. -/
namespace Sys2Proof.Machine
set_option linter.unusedSimpArgs false
set_option Elab.async false

theorem memory_on {part : Part} {x : State} (h : (x.only part).memoryOk = true) : ((x.settle).only part).memoryOk = true := by
  cases part <;> first | rfl | (simpa [State.only] using h)

theorem State.receive_memory {part : Part} (hp : part = .sram ∨ part = .dram) (s : State) (k op : Nat) (f : LinkFrame)
    (act : State → FrameInfo → State) (ha : ∀ s i, (s.only part).memoryOk = true → ((act s i).only part).memoryOk = true)
    (h : (s.only part).memoryOk = true) : ((State.receive s k op f act).only part).memoryOk = true := by
  have e : ((s.acceptFrame k f).1.only part).memoryOk = true := by
    rw [State.acceptFrame_same (outside hp (by decide) (by decide))]; exact h
  unfold State.receive
  dsimp only
  split
  · split
    · exact e
    · split
      · rw [State.forward_same (outside hp (by decide) (by decide))]; exact e
      · exact ha _ _ e
  · exact h

theorem memory_if {part : Part} {c : Prop} [Decidable c] {x s : State} (h : (x.only part).memoryOk = true)
    (hs : (s.only part).memoryOk = true) : ((if c then x.settle else s).only part).memoryOk = true := by
  split
  · exact memory_on h
  · exact hs

theorem execTickInEdge_memory {part : Part} (hp : part = .sram ∨ part = .dram) (t : Nat) (rising : Bool) (pulse : Nat) (s : State) {s' : State}
    (h : execTickInEdge t rising pulse s = .next s') (hs : ((s.advance t).only part).memoryOk = true) : (s'.only part).memoryOk = true := by
  unfold execTickInEdge whenPowered at h
  cases h
  refine memory_if ?_ hs
  simp (maxDischargeDepth := 40) (contextual := true) only [
    ↓State.padPasses_same (outside hp (by decide) (by decide)), ↓State.tickInPulse_memory hp, ↓memoryOk_ite,
    ↓memoryOk_iteFst, ↓memoryOk_iteSnd, hs, ite_self, implies_true, id_eq]

theorem execInternalEdge_memory {part : Part} (hp : part = .sram ∨ part = .dram) (t : Nat) (s : State) {s' : State}
    (h : execInternalEdge t s = .next s') (hs : ((s.advance t).only part).memoryOk = true) : (s'.only part).memoryOk = true := by
  unfold execInternalEdge whenPowered at h
  cases h
  refine memory_if ?_ hs
  simp (maxDischargeDepth := 40) (contextual := true) only [↓State.onTick_same (outside hp (by decide) (by decide)),
    ↓State.acceptEdge_memory hp, ↓State.trySwitch_memory hp,
    ↓State.ownRate_same (outside hp (by decide) (by decide)), ↓memoryOk_ite, ↓memoryOk_iteFst, ↓memoryOk_iteSnd, hs,
    ite_self, implies_true, id_eq]

theorem execPtpDerivedEdge_memory {part : Part} (hp : part = .sram ∨ part = .dram) (t : Nat) (s : State) {s' : State}
    (h : execPtpDerivedEdge t s = .next s') (hs : ((s.advance t).only part).memoryOk = true) : (s'.only part).memoryOk = true := by
  unfold execPtpDerivedEdge whenPowered at h
  cases h
  refine memory_if ?_ hs
  simp (maxDischargeDepth := 40) (contextual := true) only [↓State.onTick_same (outside hp (by decide) (by decide)),
    ↓State.acceptEdge_memory hp, ↓State.trySwitch_memory hp,
    ↓State.ownRate_same (outside hp (by decide) (by decide)), ↓memoryOk_ite, ↓memoryOk_iteFst, ↓memoryOk_iteSnd, hs,
    ite_self, implies_true, id_eq]

theorem execGeneratorEdge_memory {part : Part} (hp : part = .sram ∨ part = .dram) (t : Nat) (s : State) {s' : State}
    (h : execGeneratorEdge t s = .next s') (hs : ((s.advance t).only part).memoryOk = true) : (s'.only part).memoryOk = true := by
  unfold execGeneratorEdge whenPowered at h
  cases h
  refine memory_if ?_ hs
  simp (maxDischargeDepth := 40) (contextual := true) only [↓State.acceptEdge_memory hp,
    ↓State.generatorRate_same (outside hp (by decide) (by decide)), ↓memoryOk_ite, ↓memoryOk_iteFst,
    ↓memoryOk_iteSnd, hs, ite_self, implies_true, id_eq]

theorem execAcquireTimeout_memory {part : Part} (hp : part = .sram ∨ part = .dram) (t : Nat) (s : State) {s' : State}
    (h : execAcquireTimeout t s = .next s') (hs : ((s.advance t).only part).memoryOk = true) : (s'.only part).memoryOk = true := by
  unfold execAcquireTimeout whenPowered at h
  cases h
  refine memory_if ?_ hs
  simp (maxDischargeDepth := 40) (contextual := true) only [↓State.incr_same (outside hp (by decide) (by decide)),
    ↓State.acceptEdge_memory hp, ↓State.generatorRate_same (outside hp (by decide) (by decide)),
    ↓State.startGenerator_same (outside hp (by decide) (by decide)), ↓memoryOk_ite, ↓memoryOk_iteFst,
    ↓memoryOk_iteSnd, hs, ite_self, implies_true, id_eq]

theorem execChunkVisible_memory {part : Part} (hp : part = .sram ∨ part = .dram) (t xfer : Nat) (crcOk : Bool) (data : List Byte) (s : State) {s' : State}
    (h : execChunkVisible t xfer crcOk data s = .next s') (hs : ((s.advance t).only part).memoryOk = true) : (s'.only part).memoryOk = true := by
  unfold execChunkVisible whenCore at h
  split at h
  · cases h
  · cases h
    refine memory_if ?_ hs
    dsimp only
    split
    · exact hs
    · exact State.chunkVisible_memory hp _ _ _ _ hs

theorem execTranslationFault_memory {part : Part} (hp : part = .sram ∨ part = .dram) (t xfer chunk va access : Nat) (walkError : Bool) (s : State) {s' : State}
    (h : execTranslationFault t xfer chunk va access walkError s = .next s') (hs : ((s.advance t).only part).memoryOk = true) : (s'.only part).memoryOk = true := by
  unfold execTranslationFault whenCore at h
  split at h
  · cases h
  · cases h
    refine memory_if ?_ hs
    dsimp only
    split
    · exact hs
    · split
      · exact State.raiseFault_memory hp _ _ _ _ _ _ _ hs
      · split
        · refine State.raiseFault_memory hp _ _ _ _ _ _ _ ?_
          rw [State.draw_same (outside hp (by decide) (by decide))]; exact hs
        · exact hs

theorem execFaultResume_memory {part : Part} (hp : part = .sram ∨ part = .dram) (t : Nat) (p : Path) (v : BitVec 32) (s : State) {s' : State}
    (h : execFaultResume t p v s = .next s') (hs : ((s.advance t).only part).memoryOk = true) : (s'.only part).memoryOk = true := by
  unfold execFaultResume whenCore at h
  cases h
  refine memory_if ?_ hs
  simp (maxDischargeDepth := 40) (contextual := true) only [↓State.controlledNum_memory hp, ↓State.respond_memory hp,
    hs, ite_self, implies_true, id_eq]

theorem execFaultAbandon_memory {part : Part} (hp : part = .sram ∨ part = .dram) (t : Nat) (p : Path) (v : BitVec 32) (s : State) {s' : State}
    (h : execFaultAbandon t p v s = .next s') (hs : ((s.advance t).only part).memoryOk = true) : (s'.only part).memoryOk = true := by
  unfold execFaultAbandon whenCore at h
  cases h
  refine memory_if ?_ hs
  simp (maxDischargeDepth := 40) (contextual := true) only [↓State.controlledNum_memory hp, ↓State.respond_memory hp,
    hs, ite_self, implies_true, id_eq]

theorem execHeartbeatInstant_memory {part : Part} (hp : part = .sram ∨ part = .dram) (t : Nat) (s : State) {s' : State}
    (h : execHeartbeatInstant t s = .next s') (hs : ((s.advance t).only part).memoryOk = true) : (s'.only part).memoryOk = true := by
  unfold execHeartbeatInstant whenCore at h
  cases h
  refine memory_if ?_ hs
  simp (maxDischargeDepth := 40) (contextual := true) only [↓State.onLink_same (outside hp (by decide) (by decide)),
    ↓State.reconcile_same (outside hp (by decide) (by decide)), ↓State.promote_memory hp,
    ↓State.endPeriod_same (outside hp (by decide) (by decide)),
    ↓State.sendHeartbeats_same (outside hp (by decide) (by decide)), ↓memoryOk_ite, ↓memoryOk_iteFst,
    ↓memoryOk_iteSnd, memoryOk_foldl, only_foldl, only_foldlFst, hs, ite_self, implies_true, id_eq]

theorem execWrite_memory {part : Part} (hp : part = .sram ∨ part = .dram) (t : Nat) (k : Fin 2) (f : LinkFrame) (s : State) {s' : State}
    (h : execWrite t k f s = .next s') (hs : ((s.advance t).only part).memoryOk = true) : (s'.only part).memoryOk = true := by
  unfold execWrite whenCore at h
  split at h
  · cases h
  · cases h
    exact memory_if (State.receive_memory hp _ _ _ _ _ (fun s i hs => State.takeWrite_memory hp _ _ _ _ hs) hs) hs

theorem execAccum_memory {part : Part} (hp : part = .sram ∨ part = .dram) (t : Nat) (k : Fin 2) (f : LinkFrame) (ecc : Bool) (s : State) {s' : State}
    (h : execAccum t k f ecc s = .next s') (hs : ((s.advance t).only part).memoryOk = true) : (s'.only part).memoryOk = true := by
  unfold execAccum whenCore at h
  split at h
  · cases h
  · cases h
    exact memory_if (State.receive_memory hp _ _ _ _ _ (fun s i hs => State.takeAccum_memory hp _ _ _ _ _ hs) hs) hs

theorem execJournal_memory {part : Part} (hp : part = .sram ∨ part = .dram) (t : Nat) (k : Fin 2) (f : LinkFrame) (s : State) {s' : State}
    (h : execJournal t k f s = .next s') (hs : ((s.advance t).only part).memoryOk = true) : (s'.only part).memoryOk = true := by
  unfold execJournal whenCore at h
  cases h
  refine memory_if (State.receive_memory hp _ _ _ _ _ (fun s i hs => ?_) hs) hs
  split
  · exact memoryOk_foldl _ _ (fun s x h => State.takeEntry24_memory hp s x h) hs
  · exact hs

theorem execCommit_memory {part : Part} (hp : part = .sram ∨ part = .dram) (t : Nat) (k : Fin 2) (f : LinkFrame) (s : State) {s' : State}
    (h : execCommit t k f s = .next s') (hs : ((s.advance t).only part).memoryOk = true) : (s'.only part).memoryOk = true := by
  unfold execCommit whenCore at h
  cases h
  refine memory_if (State.receive_memory hp _ _ _ _ _ (fun s i hs => ?_) hs) hs
  split
  · exact State.takeCommit_memory hp _ _ hs
  · exact hs

theorem execReplAck_memory {part : Part} (hp : part = .sram ∨ part = .dram) (t : Nat) (k : Fin 2) (f : LinkFrame) (s : State) {s' : State}
    (h : execReplAck t k f s = .next s') (hs : ((s.advance t).only part).memoryOk = true) : (s'.only part).memoryOk = true := by
  unfold execReplAck whenCore at h
  cases h
  refine memory_if (State.receive_memory hp _ _ _ _ _ (fun s i hs => ?_) hs) hs
  split
  · dsimp only
    split
    · rw [State.onRed_same (outside hp (by decide) (by decide))]; exact hs
    · exact State.epochAnswer_memory hp _ _ _ hs
    · exact State.epochAnswer_memory hp _ _ _ hs
  · exact hs

theorem execDisputedResolved_memory {part : Part} (hp : part = .sram ∨ part = .dram) (t : Nat) (s : State) {s' : State}
    (h : execDisputedResolved t s = .next s') (hs : ((s.advance t).only part).memoryOk = true) : (s'.only part).memoryOk = true := by
  unfold execDisputedResolved whenCore at h
  cases h
  refine memory_if ?_ hs
  simp (maxDischargeDepth := 40) (contextual := true) only [↓State.resolve_memory hp, ↓memoryOk_ite,
    ↓memoryOk_iteFst, ↓memoryOk_iteSnd, hs, ite_self, implies_true, id_eq]

theorem execResolve_memory {part : Part} (hp : part = .sram ∨ part = .dram) (t : Nat) (p : Path) (s : State) {s' : State}
    (h : execResolve t p s = .next s') (hs : ((s.advance t).only part).memoryOk = true) : (s'.only part).memoryOk = true := by
  unfold execResolve whenCore at h
  cases h
  refine memory_if ?_ hs
  simp (maxDischargeDepth := 40) (contextual := true) only [↓State.controlledNum_memory hp, ↓State.resolve_memory hp,
    hs, ite_self, implies_true, id_eq]

theorem execForceActive_memory {part : Part} (hp : part = .sram ∨ part = .dram) (t : Nat) (p : Path) (s : State) {s' : State}
    (h : execForceActive t p s = .next s') (hs : ((s.advance t).only part).memoryOk = true) : (s'.only part).memoryOk = true := by
  unfold execForceActive whenCore at h
  cases h
  refine memory_if ?_ hs
  simp (maxDischargeDepth := 40) (contextual := true) only [↓State.controlledNum_memory hp,
    ↓State.claim_same (outside hp (by decide) (by decide)),
    ↓State.becomeActive_same (outside hp (by decide) (by decide)), ↓State.restore_memory hp, hs, ite_self,
    implies_true, id_eq]

theorem execResetNode_memory {part : Part} (hp : part = .sram ∨ part = .dram) (t : Nat) (c : Fin 2) (node : Nat) (env : StartEnv) (s : State) {s' : State}
    (h : execResetNode t c node env s = .next s') (hs : ((s.advance t).only part).memoryOk = true) : (s'.only part).memoryOk = true := by
  unfold execResetNode nmtCommand whenPowered at h
  cases h
  refine memory_if ?_ hs
  dsimp only
  split
  · split
    · exact State.commandReset_memory hp _ _ hs
    · exact hs
  · rw [State.nmtInWatch_same (outside hp (by decide) (by decide))]; exact hs

theorem execRpdo_memory {part : Part} (hp : part = .sram ∨ part = .dram) (t : Nat) (c : Fin 2) (n : Fin 8) (data : List Byte) (s : State) {s' : State}
    (h : execRpdo t c n data s = .next s') (hs : ((s.advance t).only part).memoryOk = true) : (s'.only part).memoryOk = true := by
  unfold execRpdo whenCore at h
  cases h
  refine memory_if ?_ hs
  simp (maxDischargeDepth := 40) (contextual := true) only [↓State.takeRpdo_memory hp, ↓memoryOk_ite,
    ↓memoryOk_iteFst, ↓memoryOk_iteSnd, hs, ite_self, implies_true, id_eq]

theorem execUdpObjectAccess_memory {part : Part} (hp : part = .sram ∨ part = .dram) (t : Nat) (src port : Nat) (data : List Byte) (s : State) {s' : State}
    (h : execUdpObjectAccess t src port data s = .next s') (hs : ((s.advance t).only part).memoryOk = true) : (s'.only part).memoryOk = true := by
  unfold execUdpObjectAccess whenCore at h
  cases h
  refine memory_if ?_ hs
  simp (maxDischargeDepth := 40) (contextual := true) only [↓State.incr_same (outside hp (by decide) (by decide)),
    ↓State.answerUdp_memory hp, ↓memoryOk_ite, ↓memoryOk_iteFst, ↓memoryOk_iteSnd, hs, ite_self, implies_true, id_eq]
  all_goals repeat' split <;> try simp (maxDischargeDepth := 40) (contextual := true) only [
    ↓State.incr_same (outside hp (by decide) (by decide)), ↓State.answerUdp_memory hp, ↓memoryOk_ite,
    ↓memoryOk_iteFst, ↓memoryOk_iteSnd, hs, ite_self, implies_true, id_eq]

theorem execObjectWrite_memory {part : Part} (hp : part = .sram ∨ part = .dram) (t : Nat) (p : Path) (key : Nat) (data : List Byte) (s : State) {s' : State}
    (h : execObjectWrite t p key data s = .next s') (hs : ((s.advance t).only part).memoryOk = true) : (s'.only part).memoryOk = true := by
  unfold execObjectWrite whenServed at h
  cases h
  refine memory_if ?_ hs
  simp (maxDischargeDepth := 40) (contextual := true) only [↓State.applyWrite_memory hp, hs, ite_self, implies_true,
    id_eq]

theorem execDomainPortCommit_memory {part : Part} (hp : part = .sram ∨ part = .dram) (t : Nat) (v : Nat) (data : List Byte) (s : State) {s' : State}
    (h : execDomainPortCommit t v data s = .next s') (hs : ((s.advance t).only part).memoryOk = true) : (s'.only part).memoryOk = true := by
  unfold execDomainPortCommit whenCore at h
  cases h
  refine memory_if ?_ hs
  simp (maxDischargeDepth := 40) (contextual := true) only [↓State.onDict_same (outside hp (by decide) (by decide)),
    ↓State.refuse_same (outside hp (by decide) (by decide)), ↓State.applyWrite_memory hp, ↓memoryOk_ite,
    ↓memoryOk_iteFst, ↓memoryOk_iteSnd, hs, ite_self, implies_true, id_eq]
  all_goals repeat' split <;> try simp (maxDischargeDepth := 40) (contextual := true) only [
    ↓State.onDict_same (outside hp (by decide) (by decide)), ↓State.refuse_same (outside hp (by decide) (by decide)),
    ↓State.applyWrite_memory hp, ↓memoryOk_ite, ↓memoryOk_iteFst, ↓memoryOk_iteSnd, hs, ite_self, implies_true, id_eq]

theorem execFlush_memory {part : Part} (hp : part = .sram ∨ part = .dram) (t : Nat) (programFailAt : Option Nat) (s : State) {s' : State}
    (h : execFlush t programFailAt s = .next s') (hs : ((s.advance t).only part).memoryOk = true) : (s'.only part).memoryOk = true := by
  unfold execFlush whenPowered at h
  cases h
  refine memory_if ?_ hs
  simp (maxDischargeDepth := 40) (contextual := true) only [
    ↓State.flushAll_same (outside hp (by decide) (by decide)), ↓State.pendingReset_memory hp, ↓memoryOk_ite,
    ↓memoryOk_iteFst, ↓memoryOk_iteSnd, hs, ite_self, implies_true, id_eq]

theorem execDebugResume_memory {part : Part} (hp : part = .sram ∨ part = .dram) (t : Nat) (k : Fin 5) (s : State) {s' : State}
    (h : execDebugResume t k s = .next s') (hs : ((s.advance t).only part).memoryOk = true) : (s'.only part).memoryOk = true := by
  unfold execDebugResume whenPowered at h
  cases h
  refine memory_if ?_ hs
  simp (maxDischargeDepth := 40) (contextual := true) only [
    ↓State.debugResume_same (outside hp (by decide) (by decide)), ↓State.pendingReset_memory hp, hs, ite_self,
    implies_true, id_eq]

theorem execParityError_memory {part : Part} (hp : part = .sram ∨ part = .dram) (t : Nat) (core : Fin 4) (env : StartEnv) (s : State) {s' : State}
    (h : execParityError t core env s = .next s') (hs : ((s.advance t).only part).memoryOk = true) : (s'.only part).memoryOk = true := by
  unfold execParityError whenCore at h
  cases h
  refine memory_if ?_ hs
  simp (maxDischargeDepth := 40) (contextual := true) only [↓State.incr_same (outside hp (by decide) (by decide)),
    ↓State.emit_same (outside hp (by decide) (by decide)), ↓State.resetNode_memory hp, hs, ite_self, implies_true,
    id_eq]

theorem execPowerOnReset_memory {part : Part} (hp : part = .sram ∨ part = .dram) (t : Nat) (env : StartEnv) (s : State) {s' : State}
    (h : execPowerOnReset t env s = .next s') (hs : ((s.advance t).only part).memoryOk = true) : (s'.only part).memoryOk = true := by
  rw [← Host.Outcome.next.inj h]
  refine memory_on ?_
  simp (maxDischargeDepth := 40) (contextual := true) only [↓State.fullStart_memory hp, hs, ite_self, implies_true,
    id_eq]

theorem execPinReset_memory {part : Part} (hp : part = .sram ∨ part = .dram) (t : Nat) (env : StartEnv) (s : State) {s' : State}
    (h : execPinReset t env s = .next s') (hs : ((s.advance t).only part).memoryOk = true) : (s'.only part).memoryOk = true := by
  rw [← Host.Outcome.next.inj h]
  refine memory_on ?_
  simp (maxDischargeDepth := 40) (contextual := true) only [↓State.fullStart_memory hp, ↓memoryOk_ite,
    ↓memoryOk_iteFst, ↓memoryOk_iteSnd, hs, ite_self, implies_true, id_eq]

theorem execUpdateCommit_memory {part : Part} (hp : part = .sram ∨ part = .dram) (t : Nat) (p : Path) (v : Nat) (s : State) {s' : State}
    (h : execUpdateCommit t p v s = .next s') (hs : ((s.advance t).only part).memoryOk = true) : (s'.only part).memoryOk = true := by
  unfold execUpdateCommit whenServed at h
  cases h
  refine memory_if ?_ hs
  simp (maxDischargeDepth := 40) (contextual := true) only [↓State.commitUpdate_memory hp, hs, ite_self,
    implies_true, id_eq]

theorem execCoreRailsGood_memory {part : Part} (hp : part = .sram ∨ part = .dram) (t : Nat) (s : State) {s' : State}
    (h : execCoreRailsGood t s = .next s') (hs : ((s.advance t).only part).memoryOk = true) : (s'.only part).memoryOk = true := by
  rw [← Host.Outcome.next.inj h]
  refine memory_on ?_
  simp (maxDischargeDepth := 40) (contextual := true) only [↓State.railsInWatch_memory hp,
    ↓State.railsInOff_memory hp, ↓memoryOk_ite, ↓memoryOk_iteFst, ↓memoryOk_iteSnd, hs, ite_self, implies_true, id_eq]

end Sys2Proof.Machine
end

