-- ==== Sys2Proof/WellFormed.lean ====
section
/-! DEFINITION. The commands that can come from outside: every operand lies in the range that its field, its frame or its
list has in the spec. `exec` is total and answers a command outside them too; no meaning rests on this file. -/
namespace Sys2Proof

/-- A number of n bits. -/
def fitsBits (n v : Nat) : Bool := decide (v < 2 ^ n)

/-- R423: a node an NMT command names: 0 for all, or 1 to 127. -/
def nodeOk (v : Nat) : Bool := decide (v ≤ 127)

/-- R438: a node that sends on the bus. -/
def senderOk (v : Nat) : Bool := decide (1 ≤ v) && decide (v ≤ 127)

/-- A CAN FD frame carries at most 64 bytes (R422). -/
def canDataOk (d : List Byte) : Bool := decide (d.length ≤ 64)

/-- A value of the dictionary is at least 1 byte and at most 256 bytes (R458, R470). -/
def valueOk (d : List Byte) : Bool := decide (1 ≤ d.length) && decide (d.length ≤ 256)

/-- R457: an object's key is its 16-bit index over its 8-bit subindex. -/
def keyOk (k : Nat) : Bool := fitsBits 24 k

/-- R362: a frame's operation, with its reserved field zero and its payload of LEN words. -/
def frameWf (op : Nat) (f : LinkFrame) : Bool :=
  let h := f.header.toNat
  h / 2 ^ 64 % 256 == op && h / 2 ^ 32 % 32 == 0 && h / 2 ^ 46 % 64 * 8 == f.payload.length && decide (f.payload.length ≤ 256)

/-- R448: the fields of a PTP header. -/
def ptpHeaderOk (h : PtpHeader) : Bool := fitsBits 8 h.domain && fitsBits 4 h.transport && fitsBits 64 h.clock && fitsBits 16 h.seq

/-- R83: the fields of an RTP header. -/
def rtpOk (p : RtpPacket) : Bool := fitsBits 32 p.ssrc && fitsBits 16 p.seq && fitsBits 32 p.ts

/-- R513, R619: eight junctions and nine supplies. -/
def readingsOk (r : Readings) : Bool := r.junctions.length == 8 && r.supplies.length == 9

/-- R341, R477: a doorbell hands over at most a ring of 4,096 entries. -/
def entriesOk (es : List Bits512) : Bool := decide (es.length ≤ 4096)

/-- R25: a completion reports stall cycles of at most the six causes. -/
def reportOk (r : JobReport) : Bool := decide (r.stalls.length ≤ 6)

/-- The well-formed commands. -/
def Instr.wf : Instr → Bool
  | .tickInEdge .. | .internalEdge .. | .ptpDerivedEdge .. | .generatorEdge .. | .windowClose .. | .tickInputLost ..
  | .tickHoldoverLimit .. | .acquireTimeout .. | .switchOverAbandoned .. => true
  | .tickSourceRequest _ _ v => fitsBits 8 v
  | .nominalRateRequest _ _ v => fitsBits 32 v
  | .jobCompletion _ j r => fitsBits 16 j && reportOk r
  | .budgetCut _ j _ => fitsBits 16 j
  | .forceIdr _ _ _ v => fitsBits 8 v
  | .setTime _ _ v => fitsBits 64 v
  | .ptpSync _ h _ _ => ptpHeaderOk h
  | .ppsInEdge .. | .ppsSecondsMissed .. | .timeBaseHoldover .. | .timeBaseFreeRun .. | .leapSecond .. | .rtcWrite .. => true
  | .ptpFollowUp _ h _ => ptpHeaderOk h
  | .ptpAnnounce _ h _ => ptpHeaderOk h
  | .ptpDelayResp _ h _ _ => ptpHeaderOk h
  | .ptpDelayReq .. | .ptpMasterLost .. => true
  | .csi2FrameStart _ _ vc => fitsBits 4 vc
  | .csi2LongPacket _ _ vc dt bytes ecc _ _ => fitsBits 4 vc && fitsBits 6 dt && fitsBits 16 bytes && decide (ecc ≤ 2)
  | .csi2FrameEnd _ _ vc => fitsBits 4 vc
  | .tdmFrame _ _ ws _ => decide (ws.length ≤ 16)
  | .spiTransaction .. | .drdyTimeout .. => true
  | .rtpPacket _ _ port _ p => fitsBits 16 port && rtpOk p
  | .ssrcRelease _ _ _ v => fitsBits 8 v
  | .udpRecordDatagram _ _ port bs => fitsBits 16 port && decide (bs.length ≤ 65536)
  | .sampleWord .. | .tapSilent .. | .clearLatches .. => true
  | .bankCommit _ _ v => fitsBits 8 v
  | .bankSwap .. | .activeBankScrub .. | .gclkFault .. | .reseed .. | .healthWindow .. => true
  | .chunkVisible _ _ _ d => decide (d.length ≤ 16384)
  | .translationFault _ _ _ va access _ => fitsBits 48 va && decide (access ≤ 2)
  | .faultResume .. | .faultAbandon .. | .faultDeadline .. => true
  | .invalidate _ _ v => fitsBits 8 v
  | .invalidationCompleted .. => true
  | .sramScrub _ _ errors => decide (errors ≤ 2)
  | .imageLoadFromNor _ _ v => fitsBits 8 v
  | .slotHashComplete _ _ d => fitsBits 256 d
  | .slotReload _ _ _ v => fitsBits 8 v
  | .queueDoorbell _ _ _ es => entriesOk es
  | .queueEnable .. | .queueDisable .. | .queueReset .. | .completionHeadWrite .. => true
  | .runJob _ _ es => decide (es.length ≤ 3)
  | .submitUnit .. | .fenceWrite .. | .fenceToken .. | .nop .. | .loadImage .. => true
  | .portTrainStart .. | .train .. | .trainingComplete .. | .trainTimeout .. => true
  | .ident _ _ p => p.length == 32
  | .identTimeout .. | .refusedTimeout .. | .portRetrain .. | .retrainTimeout .. | .ack .. | .nak .. | .replayTimeout ..
  | .blockError .. | .heartbeatInstant .. | .heartbeat .. | .role .. | .tick .. | .bye .. => true
  | .write _ _ f => frameWf 0x01 f
  | .accum _ _ f _ => frameWf 0x02 f
  | .readReq _ _ f _ => frameWf 0x03 f
  | .readData _ _ f => frameWf 0x04 f
  | .writeAck _ _ f => frameWf 0x05 f
  | .token _ _ f => frameWf 0x06 f
  | .unreach _ _ f => frameWf 0x07 f
  | .journal _ _ f => frameWf 0x10 f
  | .snapshot _ _ f => frameWf 0x11 f
  | .commit _ _ f => frameWf 0x12 f
  | .replAck _ _ f => frameWf 0x13 f
  | .epochAbandoned .. | .startWaitExpiry .. | .promotionComplete .. | .promotionGateTimeout .. | .disputedEntered ..
  | .disputedResolved .. | .switchOverCommand .. | .resolve .. | .forceActive .. | .forceStandby .. => true
  | .requestedRoleWrite _ _ v => fitsBits 8 v
  | .peerRoleInChange .. | .gateOpen .. | .interlockConflict .. | .roleKeeperLapse .. => true
  | .startRemoteNode _ _ n => nodeOk n
  | .stopRemoteNode _ _ n => nodeOk n
  | .enterPreOperational _ _ n => nodeOk n
  | .resetCommunication _ _ n => nodeOk n
  | .resetNode _ _ n _ => nodeOk n
  | .duplicateListenEnd .. => true
  | .duplicate _ _ cob => fitsBits 11 cob
  | .heartbeatProduction .. => true
  | .partnerHeartbeat _ _ n st => senderOk n && fitsBits 7 st
  | .bootUp _ _ n => senderOk n
  | .partnerLost _ _ n => senderOk n
  | .partnerForget _ _ n => senderOk n
  | .sync .. => true
  | .rpdo _ _ _ d => canDataOk d
  | .canRecordFragment _ _ cob d => fitsBits 11 cob && canDataOk d
  | .recordReassemblyTimeout _ _ chan => fitsBits 8 chan
  | .errorPassive .. | .busOff .. | .busOffRecovery .. => true
  | .releaseHeldOffController _ _ _ v => fitsBits 8 v
  | .busLoadWindow _ _ load busiest => decide (load ≤ 1000) && fitsBits 11 busiest
  | .switchStateGlobal .. => true
  | .switchStateSelective _ _ a => a.length == 4 && a.all (fitsBits 32)
  | .configureNodeId _ _ v => fitsBits 8 v
  | .configureBitTiming _ _ v => fitsBits 16 v
  | .activateBitTiming .. | .storeConfiguration .. | .inquireIdentity .. | .inquireNodeId .. => true
  | .identifyRemoteSlave _ _ a b c d e f => [a, b, c, d, e, f].all (fitsBits 32)
  | .identifyNonConfiguredSlave .. => true
  | .fastscan _ _ id bc sub nx => fitsBits 32 id && fitsBits 8 bc && decide (sub ≤ 3) && decide (nx ≤ 3)
  | .plcaStatusChange .. => true
  | .erroredTransmission _ o => fitsBits 8 o
  | .collision .. | .transmitLimit .. => true
  | .arp _ _ _ a m b => fitsBits 32 a && fitsBits 48 m && fitsBits 32 b
  | .icmpEcho _ _ a b _ => fitsBits 32 a && fitsBits 32 b
  | .udpObjectAccess _ a port _ => fitsBits 32 a && fitsBits 16 port
  | .objectWrite _ _ k d => keyOk k && valueOk d
  | .divergencePersisted _ k => keyOk k
  | .store _ _ sub v => decide (1 ≤ sub) && decide (sub ≤ 3) && fitsBits 32 v
  | .storeComplete .. => true
  | .restoreDefaults _ _ sub v => decide (1 ≤ sub) && decide (sub ≤ 3) && fitsBits 32 v
  | .domainPortSelect .. => true
  | .domainPortCommit _ v d => fitsBits 32 v && valueOk d
  | .livenessDoorbell .. | .hostLivenessLapse .. | .pcieReset .. | .pcieLinkDown .. => true
  | .workingModeRequest _ _ v => fitsBits 8 v
  | .watchCommand .. | .retainedOffCommand .. | .deferralTimeout .. => true
  | .spotterFrameEnd _ _ ss => decide (ss.length ≤ 160)
  | .wakeN .. | .rtcWakeTime .. | .railsNotGood .. | .wakeRetry .. => true
  | .thermalSample _ r => readingsOk r
  | .thermalTrip .. | .monitorSnapshot .. | .monitorSnapshotAndClear .. | .monitorClear .. | .flush .. | .freeze ..
  | .freezeRelease .. | .freezeTimeout .. | .pwrfailAsserted .. | .powerRestored .. | .watchdogService .. | .watchdogExpiry ..
  | .debugHalt .. | .debugResume .. | .parityError .. | .lifetimeEntry .. | .eraseCountWrite .. | .powerOnReset ..
  | .pinReset .. => true
  | .confirmFirmware _ _ v => fitsBits 8 v
  | .updateData _ _ d => valueOk d
  | .updateCommit _ _ v => fitsBits 8 v
  | .unlock _ tok => tok.length == 96
  | .lock .. | .sealDevice .. => true
  | .keyBlock _ _ d => valueOk d
  | .retentionLost .. | .gclkRelock .. | .faultRingConsumerWrite .. => true
  | .canWakeFrame _ _ cob d => fitsBits 11 cob && canDataOk d
  | .pwrfailDeasserted .. | .hostAssistStageRegistered .. | .carrierInOwnTo .. | .tpdoEventTimer .. | .emergencyInhibitExpiry ..
  | .emergencyFrameSent .. | .coreRailsGood .. => true
  | .rtcpSenderReport _ _ port d => fitsBits 16 port && decide (d.length ≤ 65536)

end Sys2Proof
end

