-- ==== Sys2Proof/Tests/Slice0.lean ====
section
/-! SUPPORT. Tests of the model on fixed states: for every statement with hypotheses a state and operands that meet them, clause by
clause; an ill-formed command for every check of WellFormed; and single steps whose results the spec gives. -/
set_option Elab.async false
namespace Sys2Proof.Tests
open Sys2Proof Sys2Proof.Machine

/-! ### Witnesses: the tick and the time base -/

/-- A device that runs: started, its rails good, operational. -/
def dev : State :=
  { boot := { on := true, state := 2 }, power := { coreEn := true, sramEn := true, railsOk := true }, net := { nmt := .operational } }

/-- The device with TICK_IN locked, a 240 µs tick and an edge accepted at 0. -/
def devTick : State :=
  { dev with tick := { started := true, source := .tickIn, state := .locked, period := 240000, lastEdge := some 0, lastIn := some 0 } }

/-- The device in holdover since 5. -/
def devHold : State := { dev with tick := { devTick.tick with state := .holdover, holdoverAt := 5 } }

/-- The device in a switch-over. -/
def devSwitch : State :=
  { dev with tick := { devTick.tick with switch := some { goal := .ptpDerived, period := 10, pl := 10, qualAt := 0, was := .locked, fromQualification := false } } }

theorem witness_accepted_edge_takes_next_tick :
    (devTick.powered ∧ devTick.ticking ∧ devTick.alone ∧ devTick.cfg 0x230208 = 0 ∧ devTick.tick.switch = none ∧
      devTick.glitchLimit ≤ max devTick.now 238800 - 0 ∧
      (((max devTick.now 238800 : Nat) : Int) - (0 + devTick.tick.period : Nat)).natAbs ≤ tolerance devTick.tick.period) ∧
    (dev.powered ∧ dev.ticking ∧ dev.alone ∧ dev.tick.ownEdges .internal ∧ dev.tick.internalEdge ≤ max dev.now 0) ∧
    (let s := { dev with tick := { source := .ptpDerived } };
      s.powered ∧ s.ticking ∧ s.alone ∧ s.tick.ownEdges .ptpDerived ∧ s.tick.ptpEdge ≤ (s.advance 1000000000).time.dev) ∧
    (let s := { dev with tick := { devTick.tick with genNext := some 7 } };
      s.powered ∧ s.ticking ∧ s.alone ∧ s.tick.switch = none ∧ (7 : Nat) ≤ max s.now 7) ∧
    (let s := { dev with tick := { source := .tickIn } };
      s.powered ∧ s.ticking ∧ s.alone ∧ s.tick.state = .acquire ∧ s.tick.acquireAt + s.cfg 0x230207 * msec ≤ max s.now (s.cfg 0x230207 * msec)) := by
  decide +kernel

theorem witness_tick_source_lost :
    (devTick.powered ∧ devTick.tick.source = .tickIn ∧ devTick.tick.state = .locked ∧ devTick.tick.switch = none ∧
      2 * 0 + 3 * devTick.tick.period ≤ 2 * max devTick.now 360000) ∧
    (devHold.powered ∧ devHold.tick.state = .holdover ∧ devHold.tick.switch = none ∧
      devHold.tick.holdoverAt + devHold.cfg 0x230206 * second ≤ max devHold.now (5 + devHold.cfg 0x230206 * second)) ∧
    (devSwitch.powered ∧ devSwitch.tick.lastEdge = some 0 ∧ devSwitch.tick.switch.isSome ∧ 2 * 0 + 3 * 10 ≤ 2 * max devSwitch.now 15) ∧
    (devTick.powered ∧ devTick.working ∧ devTick.tick.started ∧ devTick.tick.passed = 0 ∧ devTick.tick.source ≠ .internal ∧
      0 + devTick.tick.period + tolerance devTick.tick.period ≤ max devTick.now 241200) := by
  decide +kernel

theorem witness_tick_requests :
    (dev.coreOn ∧ dev.mayWrite 0 .firmware 0x230201 2 ∧ dev.tick.started = false) ∧
    (devTick.coreOn ∧ devTick.mayWrite 0 .can 0x230201 0 ∧ devTick.tick.started) ∧
    (dev.coreOn ∧ dev.mayWrite 0 .firmware 0x230204 240000 ∧ devTick.mayWrite 0 .can 0x230204 240000) := by
  decide +kernel

theorem witness_time_base_follows_its_source :
    (let s : State := { dev with od := [(0x230002, 0)] };
      s.coreOn ∧ s.mayWrite 0 .can 0x230105 (2 ^ 64 - 1) ∧ s.tick.started = false ∧ { s with tick := devTick.tick }.mayWrite 0 .can 0x230105 0) ∧
    (let s := { dev with time := { source := 2, dev := 2 * second } };
      s.powered ∧ s.cfg 0x23000D = 0 ∧
      ((s.advance 0).time.dev - s.cfgInt 0x23000E - nearestSecond ((s.advance 0).time.dev - s.cfgInt 0x23000E) : Int).natAbs ≤ s.cfg 0x230008) ∧
    (let s := { dev with time := { leapPending := 1, calendar := true } };
      s.powered ∧ ({ s with time := { s.time with dev := 38 * second } }.advance 0).leapDue) ∧
    (let s := { dev with time := { state := .locked, lastRtc := some 4 } };
      s.powered ∧ s.time.state = .locked ∧ 4 + second ≤ max s.now (4 + second)) := by
  decide +kernel

theorem witness_time_base_lost :
    (let s := { dev with time := { source := 2, state := .locked, lastPps := -3100000000 } };
      s.powered ∧ (s.advance 0).ppsMissed) ∧
    (let s := { dev with time := { source := 3, actual := 3, lastPps := -3100000000 } };
      s.powered ∧ (s.advance 0).ppsMissed ∧ s.time.source = 3 ∧ s.time.actual = 3) ∧
    (let s := { dev with time := { state := .locked, actual := 1 } };
      s.powered ∧ s.time.lastMeas + 3 * second ≤ max s.now 3000000000) ∧
    (let s := { dev with time := { state := .holdover } };
      s.powered ∧ s.time.holdoverAt + s.cfg 0x230009 * second ≤ max s.now (s.cfg 0x230009 * second)) := by
  decide +kernel

/-- A message of the domain in force, sent by clock 9. -/
def ptpHdr : PtpHeader := { domain := 0, transport := 0, clock := 9, seq := 3 }

/-- The device with clock 9 chosen, a Sync that waits for its Follow_Up and a request under way. -/
def devPtp : State :=
  { dev with ptp := { chosen := some 9, waiting := some (3, 50), req := some (3, 60), last := some (40, 50), masters := [⟨9, ⟨0, 37, true, false, false, 1⟩, 0⟩] }
             inForce := [(0x2E0802, 0), (0x2E0801, 0)] }

theorem witness_ptp_measures :
    devPtp.coreOn ∧ devPtp.ptpOurs ptpHdr ∧ ptpHdr.specific = 0 ∧ devPtp.fromMaster ptpHdr ∧ devPtp.ptp.waiting = some (ptpHdr.seq, 50) ∧
    devPtp.ptp.chosen.isSome ∧ devPtp.ptp.reqAt ≤ max devPtp.now 0 ∧ devPtp.ptp.req = some (ptpHdr.seq, 60) ∧ devPtp.ptp.last = some (40, 50) := by
  decide +kernel

theorem witness_ptp_master :
    devPtp.coreOn ∧ devPtp.ptpOurs ptpHdr ∧ ptpHdr.specific = 0 ∧ devPtp.ptp.chosen.isSome ∧
    ∀ m ∈ devPtp.ptp.masters, m.expired (max devPtp.now (10 * second)) := by
  decide +kernel

/-! ### Witnesses: ingest and the alarm path -/

def stamp0 : Stamp :=
  { dev := 0, tick := 0, base := .locked, stepped := false, calendar := false, tickState := .locked, tickSource := .internal, timeSource := 0, step := 0 }

def unit0 : CapturedUnit := { seq := 0, stamp := stamp0, bytes := 0 }

/-- The device with one stream. -/
def devStream (x : StreamSt) : State := { dev with streams := [(0, x)] }

/-- A CSI-2 stream of RAW8 on receiver 0, virtual channel 0. -/
def csi : StreamSt := { kind := 1, addr := 0x2A00, limits := { width := 8, height := 2 }, pool := [.free] }

theorem witness_csi2_frame_captured :
    (let s := devStream csi; s.coreOn ∧ s.csiStream 0 0 = some 0 ∧ s.mayStart 0 ∧ s.unitsFull 0 = false ∧ (s.stream 0).filling = none ∧
      (s.stream 0).pool.any Buf.isFree) ∧
    (let s := devStream { csi with pool := [.held 0 unit0] }; s.coreOn ∧ s.csiStream 0 0 = some 0 ∧ s.mayStart 0 ∧ s.unitsFull 0 = false) ∧
    (let s := devStream { csi with pool := [.filling unit0], lines := 1 }; s.coreOn ∧ s.csiStream 0 0 = some 0 ∧
      (0x2A : Nat) = bits (s.stream 0).addr 13 8 ∧ dataTypeBits 0x2A ≠ 0 ∧ s.partsFull 0 = false ∧ (s.stream 0).filling = some unit0 ∧
      (s.stream 0).lines + 1 ≤ (s.stream 0).limits.height ∧ 8 * 8 ≤ (s.stream 0).limits.width * dataTypeBits 0x2A) ∧
    (let s := devStream { csi with pool := [.free, .filling unit0] }; s.coreOn ∧ s.csiStream 0 0 = some 0 ∧
      fillingAt (s.stream 0).pool 0 = some (1, unit0) ∧ unit0.damaged = false) := by
  decide +kernel

theorem witness_words_reach_taps :
    (dev.powered ∧ dev.alarm.gclkOk) ∧
    (let s := { devStream { kind := 3, addr := 0x301 } with inForce := [(0x2E1101 + 4 * 1 + 3, 1)] };
      s.powered ∧ s.spiStream 1 3 = some 0 ∧ s.takesSamples 0 ∧ s.cfg (0x2E1101 + 4 * 1 + 3) = 1) := by
  decide +kernel

/-- An RTP stream on MAC 1, port 5004, and a packet of source 7. -/
def rtpIn : StreamSt :=
  { kind := 4, addr := 0x10000 + 5004, limits := { unit := 10 }, pool := [.filling unit0], ssrc := some 7, rtpSeq := some 65535, rtpTs := some 90 }

def rtpPkt : RtpPacket := { ssrc := 7, seq := 0, ts := 90, marker := false, supported := true, bytes := 10 }

theorem witness_packets_captured :
    (let s := devStream rtpIn; s.coreOn ∧ s.rtpStream 1 5004 = some 0 ∧ s.chuckRuns 0 ∧ rtpPkt.supported ∧ (s.stream 0).ssrc = some rtpPkt.ssrc ∧
      s.partsFull 0 = false ∧ (s.stream 0).rtpTs = some rtpPkt.ts ∧ (s.stream 0).rtpSeq = some 65535 ∧ (65535 + 1) % 2 ^ 16 = rtpPkt.seq % 2 ^ 16 ∧
      (s.stream 0).filling = some unit0 ∧ (s.stream 0).size + rtpPkt.bytes ≤ (s.stream 0).limits.unit ∧ rtpPkt.marker = false ∧
      (7 : Nat) ≠ { rtpPkt with ssrc := 8 }.ssrc) ∧
    (let s := devStream rtpIn; s.coreOn ∧ s.mayWrite 0 .can (streamKey 0 0x1A) 0) ∧
    (leAt [0x80, 200] 1 1 = 200) ∧
    (let s := devStream { kind := 6, addr := 0x20000 + 9, limits := { unit := 2 }, pool := [.free] }; s.coreOn ∧ s.udpStream 2 9 = some 0 ∧
      s.mayStart 0 ∧ s.unitsFull 0 = false ∧ ([1, 2] : List Byte).length ≤ (s.stream 0).limits.unit ∧ (s.stream 0).filling = none ∧
      (s.stream 0).pool.any Buf.isFree) := by
  decide +kernel

/-- The device under a bank whose condition 0 is enabled, with its first term on the first bit of tap 3. -/
def devAlarm : State :=
  { dev with alarm := { bank := [(0x240301, 2 ^ 63 + 2 ^ 52 + 3 * 4)] } }

theorem witness_tap_words_and_silence :
    (devAlarm.powered ∧ devAlarm.alarm.gclkOk) ∧
    (let s := { dev with alarm := { gclkOk := false } }; s.powered ∧ s.alarm.gclkOk = false) ∧
    (let s := devAlarm; s.powered ∧ s.tracked 3 ∧ (s.tap 3).silent = false ∧ (s.tap 3).lastWord = none) := by
  decide +kernel

theorem witness_alarm_banks_and_latches :
    (dev.coreOn ∧ dev.mayWrite 0 .can 0x240101 1 ∧ dev.shadowFault = none) ∧
    (let s := { dev with od := [(tapBase 0 + 6, 1), (tapBase 0 + 0x0A, 5), (tapBase 0 + 0x0E, 4)] };
      s.coreOn ∧ s.mayWrite 0 .can 0x240101 1 ∧ s.shadowFault = some (tapBase 0 + 0x0A)) ∧
    (let s := { dev with alarm := { commit := some [] } }; s.powered ∧ s.alarm.commit = some [] ∧ s.alarm.gclkOk) ∧
    (let s := { dev with alarm := { latched := 5, raw := 4, bank := [(0x240303, 2 ^ 63)] } }; s.coreOn ∧ s.mayWrite 0 .can 0x240005 5 ∧
      s.alarm.raw.getLsbD 0 = false ∧ s.condRaw 0 = false ∧ s.alarm.raw.getLsbD 2 ∧ s.alarm.latched.getLsbD 2 ∧ (s.condWord 2).testBit 63) := by
  decide +kernel

theorem witness_alarm_faults : dev.powered ∧ (bankCrc dev.bk + 1 ≠ bankCrc dev.bk) := by
  refine ⟨by decide +kernel, ?_⟩; intro h; simp at h

/-! ### Witnesses: jobs, transfers, images and queues -/

/-- The device with one running job of a kind. -/
def devJob (k : JobKind) : State :=
  { dev with head := { running := [{ rid := 1, entry := { id := 5, pinned := true, kind := k }, tick := 0, at_ := 0, overran := true }] } }

theorem witness_job_completes :
    (devJob .other).coreOn ∧ (devJob .other).head.running.find? (·.entry.id == 5) = (devJob .other).head.running.head? ∧
    (devJob .other).xfersDone 1 ∧ dev.coreOn := by
  decide +kernel

theorem witness_h264_taint :
    let s := devJob (.h264 7);
    s.coreOn ∧ s.head.running.find? (·.entry.id == 5) = s.head.running.head? ∧ s.xfersDone 1 ∧ (s.h264 7).resync = false ∧
    ∃ idr : Bool, ∃ damaged : Fin 2, ({ idr := idr, picType := 0, damagedSlices := damaged, concealed := 0, taintedRef := false, last := true } : H264Report).frameNumGap = false := by
  decide +kernel

theorem witness_budget_cut_and_forced_idr :
    ((devJob (.jpeg 0)).coreOn ∧ (devJob (.jpeg 0)).head.running.find? (fun r => r.entry.id == 5 && jobDecodes r.entry.kind) =
      (devJob (.jpeg 0)).head.running.head?) ∧
    ((devJob (.h264 7)).coreOn ∧ (devJob (.h264 7)).head.running.find? (fun r => r.entry.id == 5 && jobDecodes r.entry.kind) =
      (devJob (.h264 7)).head.running.head?) ∧
    dev.mayWrite 0 .can (encKey 1 0x0E) 1 := by
  decide +kernel

/-- A window of alternating bits. -/
def evenWindow : BitVec 1024 := BitVec.ofNat 1024 ((List.range 512).foldl (fun a k => a + 4 ^ k) 0)

theorem witness_noise_source_judged :
    (let s := { dev with noise := { state := 1, pool := [0, 1, 2, 3], fails := 7 } };
      s.powered ∧ s.coreRails ∧ s.noise.state = 1 ∧ 4 ≤ s.noise.pool.length ∧ windowPasses 0 = false) ∧
    (let s := { dev with noise := { state := 2, passes := 63 } }; s.powered ∧ s.coreRails ∧ s.noise.state = 2 ∧ windowPasses evenWindow) := by
  decide +kernel

/-- Two INT8 elements at an address of SRAM. -/
def grain (base : Nat) (crc : Bool) : Grain :=
  { crc := 0, chunkCrc := crc, ro := false, b0 := 0, b1 := 0, pd := 0, scale := 0, strides := [0, 0, 0, 0, 0, 0], sizes := [2], ver := 1, type := 3, rank := 1, layout := 0, mem := 0, base := base }

def copyXfer (crc : Bool) : Xfer :=
  { xid := 4, engine := 0, rid := 1, job := 5, kind := .copy, src := grain 0 crc, dst := grain 64 crc }

/-- The device with one copy of a chunk, and its page in the cache. -/
def devXfer (crc : Bool) : State :=
  { devJob .other with xfer := { active := [copyXfer crc], tlb := [⟨0, 0, 0, 4096, 0x35⟩] } }

theorem witness_chunk_becomes_visible :
    (let s := devXfer false; let x := copyXfer false;
      s.coreOn ∧ s.xferHole 4 [] = none ∧ s.readyXfer 4 = some x ∧ s.mergeGroup x = [x] ∧ s.chunkFail x [] = none ∧ x.dst.chunkCrc = false ∧
      s.chunkBad x (s.chunkPairs x x.next []) = none ∧ x.next + 1 = x.chunks) ∧
    (let s := devXfer true; let x := copyXfer true;
      s.coreOn ∧ s.xferHole 4 [] = none ∧ s.readyXfer 4 = some x ∧ s.mergeGroup x = [x] ∧ s.chunkFail x [] = none ∧ x.dst.chunkCrc) ∧
    (let x : Xfer := { copyXfer true with retried := true };
      let s := { devXfer true with xfer := { (devXfer true).xfer with active := [x] } };
      s.coreOn ∧ s.xferHole 4 [] = none ∧ s.readyXfer 4 = some x ∧ s.mergeGroup x = [x] ∧ s.chunkFail x [] = none ∧ x.dst.chunkCrc) ∧
    (let x : Xfer := { copyXfer false with src := { grain 0 false with mem := 1 } };
      let s := { devXfer false with xfer := { active := [x], tlb := [⟨0, 0, 0, 4096, 0x135⟩] } };
      s.coreOn ∧ (s.xferHole 4 []).isSome) := by
  decide +kernel

/-- A table of three levels in SRAM: the page of 2 MiB at 0 is readable and writable. -/
def devTables : State :=
  { dev with sram := [(0x1000, 0x01), (0x1001, 0x20), (0x2000, 0x01), (0x2001, 0x30), (0x3000, 0x3D)]
             inForce := [(0x270201, 0x1001), (0x270501, 3)] }

/-- A fault of the copy's first chunk. -/
def copyFault : FaultRec :=
  { id := 8, kind := 1, pd := 0, level := 0, access := 0, engine := 0, dev := 0, tick := 0, job := 5, va := 0, chunk := 0, deadline := 9, host := false }

theorem witness_translation_faults :
    (let s := { devXfer false with inForce := [(0x270501, 2)] };
      s.coreOn ∧ s.faultable 4 0 = some (copyXfer false) ∧ ((copyXfer false).sideMem 0).1 = 0 ∧
      s.walk 0 0 0 ((copyXfer false).sideMem 0).2 = .fails 1 0 ⟨4, 0, 0⟩ ∧ (s.cfg 0x270501).testBit 1 ∧ s.xfer.ringCount < 64) ∧
    (let x : Xfer := { copyXfer false with fault := some copyFault };
      let s := { devTables with xfer := { active := [x] } };
      s.coreOn ∧ s.memoryOk ∧ s.mayWrite 9 .pcie 0x270406 (8 * 256 + 1) ∧ s.mayWrite 9 .pcie 0x270406 (8 * 256 + 2) ∧
      (s.advance 9).faulted (bits (8 * 256 + 1) 23 8) = some (x, copyFault) ∧ bits (8 * 256 + 1) 1 0 = 1 ∧
      bits (8 * 256 + 2) 23 8 = 8 ∧ bits (8 * 256 + 2) 1 0 = 2 ∧ s.walk 0 0 0 0 = .page ⟨0, 0, 0⟩ (2 ^ 21) 0x3D) := by
  decide +kernel

theorem witness_invalidation_and_scrub :
    (dev.coreOn ∧ dev.mayWrite 0 .firmware 0x270304 1) ∧
    (let s := { dev with xfer := { invalidating := true } }; s.coreOn ∧ s.xfer.invalidating) ∧
    (dev.powered ∧ dev.coreRails ∧ sramSize - 1 < sramSize) := by
  decide +kernel

/-- An image that the device's key signs, with a demand job 5 in its only alternative. -/
def image0 : Image :=
  { id := 1, ledgerId := 1, signer := 6, alts := [{ pmin := 0, pmax := 10000000, jobs := [{ id := 5, pinned := false }] }] }

/-- The device with the image's key in force and the image in its first bank and running. -/
def devImage : State :=
  { dev with boot := { dev.boot with keysInForce := [(0, 6)], imageA := some image0 }, head := { image := some image0, imgState := 3 }
             red := { role := .single } }

theorem witness_images_and_slots :
    (devImage.coreOn ∧ devImage.mayWrite 0 .firmware 0x280101 1 ∧ devImage.boot.imageA = some image0 ∧ devImage.imageOk image0) ∧
    (devImage.mayWrite 0 .firmware 0x280101 2 ∧ devImage.boot.imageB = none) ∧
    (let s := { dev with comp := { slots := [(15, { state := 1, want := 77 })] } };
      s.coreOn ∧ (tget s.comp.slots 15 {}).loads ∧ (tget s.comp.slots 15 {}).want = 77) ∧
    (let s := { dev with comp := { slots := [(15, { state := 3 })] } };
      s.coreOn ∧ s.mayWrite 0 .firmware (slotKey 15 0x08) 1 ∧ (tget s.comp.slots 15 {}).state = 3) := by
  decide +kernel

/-- A queue entry with its CRC. -/
def sealed (body : Nat) : Nat := body + (crc32c (leBytes 60 body)).toNat * 2 ^ 480

/-- The device with queue 2 running and an entry at its head. -/
def devQueue (v : Nat) : State :=
  { devImage with od := [(queueKey 2 0x02, 64)], comp := { queues := [(2, { state := 1, tail := 1, fetched := [(BitVec.ofNat 512 v, stamp0)] })] } }

theorem witness_queue_control :
    (let s := devQueue 0; s.coreOn ∧ (63#32).toNat < s.ringSize 2 ∧ s.ringSize 2 ≤ (64#32).toNat ∧ (s.queue 2).state = 1) ∧
    (let s := devQueue 0; s.mayWrite 0 .firmware (queueKey 2 0x04) 1 ∧ s.mayWrite 0 .firmware (queueKey 2 0x04) 0 ∧
      s.mayWrite 0 .firmware (queueKey 2 0x04) 2) ∧
    (let s := { dev with od := [(queueKey 2 0x02, 64)], comp := { queues := [(2, { compHead := 63, compUsed := 1 })] } };
      s.coreOn ∧ (0#32).toNat < s.ringSize 2 ∧
      ((0#32).toNat + s.ringSize 2 - (s.queue 2).compHead % s.ringSize 2) % s.ringSize 2 ≤ (s.queue 2).compUsed) := by
  decide +kernel

/-- Every check of an entry at the head of queue 2 passes. -/
def entryPasses (s : State) (v : Nat) : Bool :=
  s.coreOn && s.entryReady 2 == some (v, stamp0) && s.entryStatus 2 v == 0 && s.entryDomainOk v

/-- The descriptor of 64 bytes of UINT8 in host memory, with its CRC-32C. -/
def hostUnit : Bits512 := BitVec.ofNat 512 (2 ^ 60 + 5 * 2 ^ 56 + 2 ^ 53 + 2 * 2 ^ 49 + 64 * 2 ^ 64 + 0xEE58B6A0 * 2 ^ 480)

theorem witness_queue_entries_take_effect :
    (let v := sealed (4 * 2 ^ 56 + 2 ^ 55); entryPasses (devQueue v) v ∧ entryOpcode v = 4 ∧ v.testBit 54 = false ∧ v.testBit 55) ∧
    (let v := sealed (3 * 2 ^ 56 + 1); let s := { devQueue v with head := { demand := [{ job := 5, arrival := 0, queue := some (2, 0, 0, false) }] } };
      entryPasses s v ∧ entryOpcode v = 3 ∧ bits v 7 0 = 1 ∧ s.outstanding 2 ≠ 0 ∧ v.testBit 54 = false) ∧
    (let v := sealed (3 * 2 ^ 56 + 2 + 2 ^ 416); entryPasses (devQueue v) v ∧ entryOpcode v = 3 ∧ bits v 7 0 = 2 ∧ bits v 447 416 ≠ 0) ∧
    (let v := sealed (2 ^ 56 + 2 ^ 54 + 5 * 2 ^ 32); let s := devQueue v; entryPasses s v ∧ v.testBit 54 ∧ s.outstanding 2 = 0 ∧ entryOpcode v = 1 ∧
      s.demandKnown (entryJob v) ∧ s.workRole = .single) ∧
    (let v := sealed (5 * 2 ^ 56 + 64 * 2 ^ 80); let s := { devQueue v with inForce := [(0x270501, 2)] }; entryPasses s v ∧ entryOpcode v = 5 ∧
      bits v 127 80 ≠ 0 ∧ s.imageOk image0 ∧ s.imageOk { image0 with signer := 0 } = false) := by
  decide +kernel

/-- A SUBMIT_UNIT entry for stream 1, its descriptor at address 0 of domain 0. -/
def submitEntry : Nat := sealed (2 * 2 ^ 56 + 2 ^ 8)

/-- The device with the entry in queue 2, the page at 0 in host memory and stream 1 bound to the queue. -/
def devSubmit : State :=
  { devQueue submitEntry with
    sram := [(0x1000, 0x01), (0x1001, 0x20), (0x2000, 0x01), (0x2001, 0x30), (0x3000, 0x3D), (0x3001, 0x02)]
    inForce := [(0x270201, 0x1001), (0x270501, 3)]
    streams := [(1, { kind := 7, addr := 2, limits := { unit := 64 }, pool := [.free] })] }

theorem witness_submit_entry :
    entryPasses devSubmit submitEntry ∧ entryOpcode submitEntry = 2 ∧ (devSubmit.stream (entryStream submitEntry)).kind = 7 ∧
    (devSubmit.stream (entryStream submitEntry)).addr = 2 ∧ devSubmit.mayStart (entryStream submitEntry) ∧
    devSubmit.unitsFull (entryStream submitEntry) = false ∧ (devSubmit.stream (entryStream submitEntry)).filling = none ∧
    (devSubmit.stream (entryStream submitEntry)).pool.any Buf.isFree ∧ entryPd submitEntry = 0 ∧ bits submitEntry 127 80 = 0 := by
  decide +kernel

theorem witness_submit_descriptor :
    devSubmit.unitError 0 0 0 = 0x7081 ∧ devSubmit.unitError 0 0 hostUnit.toNat = 0 ∧
    (devSubmit.unitDescriptor 0 0 hostUnit.toNat).g.span = 64 := by
  decide +kernel

theorem witness_queue_entries_refused :
    (let v := sealed (4 * 2 ^ 56) + 1; (devQueue v).entryReady 2 = some (v, stamp0) ∧ (devQueue v).entryStatus 2 v = 1) ∧
    (let v := sealed (6 * 2 ^ 56); (devQueue v).entryReady 2 = some (v, stamp0) ∧ (devQueue v).entryStatus 2 v = 2) ∧
    (let v := sealed (4 * 2 ^ 56 + 2 ^ 16); (devQueue v).entryReady 2 = some (v, stamp0) ∧ (devQueue v).entryStatus 2 v = 3) := by
  decide +kernel

/-! ### Witnesses: the Spindle Link, active and standby -/

/-- Member 0 of a pair, with a port in a state. -/
def devPort (p : Port) : State :=
  { dev with od := [(0x290002, 2), (0x290003, 1)], link := { id := 0, group := 2, topology := 1, ports := [(0, p)] } }

theorem witness_link_port_states :
    (let s := devPort {}; s.coreOn ∧ (s.port 0).state = 0 ∧ s.portUsed 0 ∧ (s.port 0).since + 10 * msec ≤ max s.now (10 * msec)) ∧
    ((devPort { state := 4 }).port 0).state = 4 ∧
    (let s := devPort { state := 1, locked := true, aligned := true, latSum := 4000, latN := 4 }; (s.port 0).locked ∧ (s.port 0).aligned ∧
      (s.port 0).latencyOk ∧ (s.port 0).state = 1 ∧ (s.port 0).since + 2 * msec ≤ max s.now (2 * msec)) ∧
    (let s := devPort { state := 4, locked := true, aligned := true }; (s.port 0).latencyOk ∧ (s.port 0).leftUp + 2500000 ≤ max s.now 2500000) ∧
    (((devPort { state := 2 }).port 0).since + 100000 ≤ max 0 100000) ∧ (((devPort { state := 5 }).port 0).since + second ≤ max 0 second) ∧
    ((devPort { state := 3, stuck := 8 }).port 0).failing 0 ∧
    (let s := devPort { state := 2 }; s.adoptLink.identOk 0 (leNat ((leBytes 32 (1 + 2 ^ 17 + 2 ^ 24)).take 32)) ∧
      s.adoptLink.identOk 0 (leNat ((leBytes 32 (1 + 2 ^ 24)).take 32)) = false) ∧
    (let s := devPort { state := 3 }; (s.port 0).state = 3 ∧ originOf (2 ^ 54) ≠ s.link.id ∧ originOf (2 ^ 54) = s.neighbour 0) := by
  decide +kernel

theorem witness_link_retry :
    let s := devPort { state := 3, replay := [{ header := 0, payload := [], crcOk := true }] };
    s.coreOn ∧ (s.port 0).state = 3 ∧ bits (0#56).toNat 55 54 = 0 ∧ (s.port 0).waiting = [] ∧ s.red.role ≠ .active ∧
    bits (BitVec.ofNat 56 (2 ^ 54)).toNat 55 54 = 1 ∧ (s.port 0).replay ≠ [] ∧ (s.port 0).replayAt + 4000 ≤ max s.now 4000 := by
  decide +kernel

/-- A frame from member 1 to member 0. -/
def frm (op tc addr arg : Nat) (last : Bool) (payload : List Byte) : LinkFrame :=
  withInfo { header := 0, payload := payload, crcOk := true }
    { op := op, tc := tc, addr := addr, dst := 0, src := 1, len := payload.length / 8, last := last, arg := arg }

/-- What every statement about a frame asks of the state and the frame. -/
def frameComes (s : State) (f : LinkFrame) (op : Nat) : Bool :=
  s.coreOn && (s.port 0).state == 3 && f.crcOk && !(s.port 0).badFrame && frameOk f && (frameInfo f).seq == (s.port 0).rxSeq &&
    (frameInfo f).dst == s.link.id && (frameInfo f).op == op

/-- Member 0 with a window of 16 bytes at 64 for writes and accumulation, and channel 3 of the image. -/
def devLink : State :=
  { devPort { state := 3 } with
    link := { id := 0, group := 2, topology := 1, ports := [(0, { state := 3 })], windows := [(0x290301, 64), (0x290305, 16), (0x290309, 7)] }
    comp := { channels := [(3, { depth := 1, free := 1 })] } }

def eight : List Byte := [1, 2, 3, 4, 5, 6, 7, 8]

theorem witness_link_frames_act :
    (let f := frm 1 1 72 0 true eight; frameComes devLink f 1 ∧ devLink.requestHole 0 1 2 f 8 = none ∧ devLink.inWindow 0 72 8 2 ∧ devLink.memoryOk) ∧
    (let f := frm 1 1 80 0 true eight; frameComes devLink f 1 ∧ devLink.inWindow 0 (frameInfo f).addr 8 2 = false) ∧
    (let f := frm 3 1 64 16 true []; frameComes devLink f 3 ∧ devLink.requestHole 0 3 1 f 16 = none) ∧
    (let f := frm 2 1 64 7 false eight; frameComes devLink f 2 ∧ devLink.requestHole 0 2 3 f 8 = none ∧ devLink.inWindow 0 64 8 3 ∧
      (∃ el ∈ elemOf 7, el.accumulates ≠ 0) ∧ (frameInfo f).last = false ∧ ((devLink.port 0).accums.filter fun _ => true).length < 15) ∧
    (let f := frm 6 1 0 3 true (leBytes 16 0); frameComes devLink f 6 ∧ (devLink.port 0).tc1Refused = false ∧ (devLink.chan 3).depth ≠ 0 ∧
      (devLink.chan 3).owed = [] ∧ (devLink.chan 3).free ≠ 0) ∧
    frameComes devLink (frm 4 1 0 0 true []) 4 ∧ frameComes devLink (frm 5 1 0 0 true []) 5 ∧ frameComes devLink (frm 7 1 0 0 true []) 7 := by
  decide +kernel

/-- Member 0 of a pair in a role. -/
def devRole (r : RedSt) : State := { devLink with red := { r with config := 1 } }

theorem witness_peers_heard_and_lost :
    (let s := { devLink with tick := devTick.tick }; s.coreOn ∧ (s.port 0).state = 3 ∧ originOf (2 ^ 54) ≠ s.link.id ∧
      (s.peer 1).hbCount ≠ some (bits (2 ^ 54) 41 26) ∧ bits (2 ^ 54) 15 12 ≤ 5 ∧ bits (2 ^ 54) 7 0 = 0 ∧ s.tick.lastEdge = some 0) ∧
    (let s := { devLink with link := { devLink.link with peers := [(1, { seen := true, misses := 2 })] } };
      s.coreOn ∧ s.link.hbAt + 999000 ≤ max s.now 999000 ∧ 1 ∈ s.peerNos ∧ (s.peer 1).seen ∧ (s.peer 1).lost = false ∧
      (s.peer 1).departed = false ∧ (s.peer 1).heard = false ∧ 2 ≤ (s.peer 1).misses) ∧
    (let s := { devLink with link := { devLink.link with peers := [(1, { seen := true, heard := true })] } };
      1 ∈ s.peerNos ∧ (s.peer 1).seen ∧ (s.peer 1).heard) ∧
    (let s := { devLink with link := { devLink.link with peers := [(1, { seen := true, misses := 1 })] } };
      1 ∈ s.peerNos ∧ (s.peer 1).seen ∧ (s.peer 1).heard = false ∧ (s.peer 1).misses < 2) := by
  decide +kernel

theorem witness_roles_change :
    (let s := devRole { role := .starting }; s.coreOn ∧ s.pair ∧ s.red.since + s.cfg 0x291006 * msec ≤ max s.now (s.cfg 0x291006 * msec) ∧
      s.eligible ∧ s.red.peerIn = false ∧ s.topPriority) ∧
    (devRole { role := .promoting, gate := true }).red.gate ∧
    (let s := devRole { role := .promoting }; s.coreOn ∧ s.red.gate = false ∧ s.red.roleOutAt + 100000 ≤ max s.now 100000) ∧
    (let s := devRole { role := .active, row := 5 }; s.pair ∧ disputable s.red.role ∧ 5 ≤ s.red.row ∧
      s.red.rowAt + s.cfg 0x291007 * msec ≤ max s.now (s.cfg 0x291007 * msec)) ∧
    (let s := devRole { role := .disputed, row := 4 }; agrees s.red.row ∧ s.red.agreeAt + s.cfg 0x291008 * msec ≤ max s.now (s.cfg 0x291008 * msec) ∧
      s.mayWrite 0 .firmware 0x291005 2 ∧ s.mayWrite 0 .firmware 0x291005 3 ∧ s.mayWrite 0 .firmware 0x291005 4 ∧
      s.mayWrite 0 .firmware 0x291003 3 ∧ s.red.role ≠ .outOfService) ∧
    (let s := { devRole { role := .active, roleOut := true, gate := true, committed := some ⟨1, 0, 0, 0, []⟩ } with
                  link := { devLink.link with peers := [(1, { seen := true, role := 3 })] } };
      s.coreOn ∧ s.red.handover = 0 ∧ s.mayWrite 0 .firmware 0x291005 1) ∧
    (let s := devRole { role := .outOfService }; s.pair ∧ s.mayWrite 0 .firmware 0x291003 2) := by
  decide +kernel

theorem witness_interlock :
    (dev.powered ∧ true ≠ dev.red.peerIn) ∧
    (let s := devRole { roleOut := true }; s.red.roleOut ∧ s.red.peerIn = false ∧ s.red.peerInAt + 1000 ≤ max s.now 1000) ∧
    (let s := { dev with link := { id := 1, group := 2 }, red := { roleOut := true, peerIn := true } };
      s.powered ∧ max s.red.roleOutAt s.red.peerInAt + 1000 ≤ max s.now 1000 ∧ s.pairPeer < s.link.id) ∧
    (let s := { dev with red := { keeperRuns := false } }; s.powered ∧ s.red.keeperAt + 2 * msec ≤ max s.now (2 * msec)) := by
  decide +kernel

/-- The data of an epoch, as one segment of 8 bytes. -/
def segment0 : Segment := { seg := 0, nseg := 1, epoch := 9, offset := 0, len := 8, dcrc := (crc32c eight).toNat, ledger := 0, data := [(0, eight)] }

/-- The COMMIT payload of epoch 9. -/
def commit9 : List Byte :=
  let b := 9 * 2 ^ 160 + 8 * 2 ^ 64 + 2 ^ 24 + sha256 eight * 2 ^ 224
  leBytes 64 (b + (crc32c (leBytes 60 b)).toNat * 2 ^ 480)

/-- A journal entry's 24 bytes, and those of a segment header. -/
def entry1 : List Byte := leBytes 24 ({ value := 1, jseq := 1, tick := 0, key := 0x251000, len := 1, piece := 0, path := 0 } : JEntry).pack

def segHead : List Byte :=
  let b := 9 * 2 ^ 96 + 2 ^ 32 + 8 * 2 ^ 160
  leBytes 32 (b + (crc32c (leBytes 28 b)).toNat * 2 ^ 224)

set_option maxRecDepth 20000 in
theorem witness_journal_and_epochs :
    (let s := devRole { role := .tailstock }; let f := frm 0x10 0 0 1 true entry1; s.pair ∧ frameComes s f 0x10 ∧ s.journalOnly ∧
      (frameInfo f).arg % 256 = 1 ∧ (JEntry.unpack f.payload).2 ∧ newer (JEntry.unpack f.payload).1.jseq s.red.lastJseq ∧
      (JEntry.unpack f.payload).1.jseq = (s.red.lastJseq + 1) % 2 ^ 32) ∧
    (let s := devRole { role := .syncing }; let f := frm 0x10 0 0 1 true (leBytes 24 1); frameComes s f 0x10 ∧ s.journalOnly ∧
      (JEntry.unpack f.payload).2 = false) ∧
    (let s := devRole { role := .syncing }; let f := frm 0x11 2 0 512 true segHead; frameComes s f 0x11 ∧ s.journalOnly ∧
      (frameInfo f).arg.testBit 9 ∧ s.red.partialSegs = [] ∧ (headerSegment f.payload).2) ∧
    (let s := devRole { role := .syncing, partialSegs := [{ segment0 with data := [] }] }; let f := frm 0x11 2 0 0 true eight;
      frameComes s f 0x11 ∧ s.journalOnly ∧ (frameInfo f).arg.testBit 9 = false) ∧
    (let s := devRole { role := .syncing, partialSegs := [segment0] }; let f := frm 0x12 0 0 0 true commit9; let v := leNat (f.payload.take 64);
      frameComes s f 0x12 ∧ s.journalOnly ∧ (crc32c (f.payload.take 60)).toNat = bits v 511 480 ∧ bits v 159 128 = s.ledgerId ∧
      s.segmentsLedger (bits v 223 160) s.ledgerId ∧ s.epochData (bits v 223 160) (bits v 31 24) = some eight ∧ sha256 eight = bits v 479 224 ∧
      s.red.committed = none ∧ eight.length = bits v 95 64 ∧ s.slotsMatch (warmPart 3 eight)) ∧
    (let s := devRole { role := .syncing, partialSegs := [] }; s.epochData 9 1 = none) ∧
    (let s := devRole { role := .active, open_ := some ⟨0, 0, 0, 0, []⟩ }; s.pair ∧ s.red.role = .active ∧
      frameComes s (frm 0x13 0 0 0 true (leBytes 16 0)) 0x13 ∧ frameComes s (frm 0x13 0 0 1 true (leBytes 16 0)) 0x13 ∧
      frameComes s (frm 0x13 0 0 2 true (leBytes 16 0)) 0x13 ∧ bits (leNat ((leBytes 16 0).take 16)) 127 64 = 0 ∧ s.red.open_.isSome ∧
      s.red.capturedAt + 50 * msec ≤ max s.now (50 * msec)) := by
  decide +kernel

/-! ### Witnesses: the field network -/

/-- The device with a CANopen controller 0. -/
def devCan (k : Ctrl) : State := { dev with net := { nmt := .operational, ctrls := [(0, { k with mode := 1 })] } }

theorem witness_nmt_and_node_id :
    (let s := devCan { node := 7 }; s.coreOn ∧ s.addressed 0 0 ∧ s.addressed 0 7 ∧ s.dict.store = none) ∧
    (let s := { devCan { node := 7 } with dict := { store := some { path := .can, key := 0x101001, snap := [], marks := 0, copy := 0, isMark := false } } };
      s.coreOn ∧ s.addressed 0 7 ∧ s.dict.store.isSome) ∧
    (let s := { devCan { node := 7, listenFrom := some 0, dup := true } with net := { (devCan { node := 7, listenFrom := some 0 }).net with nmt := .initialisation } };
      s.coreOn ∧ (s.ctrl 0).listenFrom = some 0 ∧ 0 + s.obj 0x2E0404 * msec ≤ max s.now (s.obj 0x2E0404 * msec) ∧ (s.ctrl 1).listenFrom = none ∧
      s.net.nmt = .initialisation) ∧
    (let s := devCan { node := 7 }; (s.ctrl 0).hears ∧ (s.ctrl 0).node ≠ 0xFF ∧ 0x707 = 0x700 + (s.ctrl 0).node ∧ 0x087 = 0x080 + (s.ctrl 0).node) ∧
    (let s := { devCan { node := 7, booted := true } with inForce := [(0x101700, 10)] }; s.powered ∧ (s.ctrl 0).sends ∧ (s.ctrl 0).booted ∧
      s.cfg 0x101700 ≠ 0 ∧ (s.ctrl 0).hbAt + s.cfg 0x101700 * msec ≤ max s.now (10 * msec) ∧ s.net.nmt ≠ .initialisation) := by
  decide +kernel

/-- A learned partner. -/
def partner0 : Partner := { node := 127, ctrl := 0, configured := false, period := 5, heardAt := 0, heardDev := 0 }

theorem witness_partners :
    (let s := { dev with net := { (devCan { node := 7 }).net with partners := [partner0] } };
      s.coreOn ∧ (s.ctrl 0).hears ∧ s.net.partners.find? (·.isNode 0 127) = some partner0 ∧ partner0.lost = false ∧
      partner0.heardAt + s.partnerTimeout partner0 ≤ max s.now (s.partnerTimeout partner0)) ∧
    (let p : Partner := { partner0 with lost := true };
      let s := { dev with net := { (devCan { node := 7 }).net with partners := [p] } };
      s.coreOn ∧ s.net.partners.find? (·.isNode 0 127) = some p ∧ p.lost ∧ p.configured = false ∧
      p.lostAt + s.cfg 0x2E0406 * second ≤ max s.now (s.cfg 0x2E0406 * second)) := by
  decide +kernel

theorem witness_pdos_records_emergencies :
    (let s := { dev with net := { (devCan { node := 7 }).net with tpdoData := [(15, [9])] }, inForce := [(tpdoKey 15 0x01, 0x187), (tpdoKey 15 0x02, 1)] };
      s.coreOn ∧ s.net.nmt = .operational ∧ (s.ctrl 0).sends ∧ (s.cfg (tpdoKey 15 0x01)).testBit 31 = false ∧ s.isPlantTpdo 15 = false ∧
      tfind s.net.tpdoData 15 = some [9] ∧ (s.ctrl 0).hears ∧ s.cfg (tpdoKey 15 0x02) = 1) ∧
    (let s := { dev with net := { (devCan { node := 7 }).net with tpdoData := [(15, [9])], tpdoWait := [15] }, inForce := [(tpdoKey 15 0x01, 0x187), (tpdoKey 15 0x02, 254)] };
      s.coreOn ∧ (s.ctrl 0).sends ∧ (s.cfg (tpdoKey 15 0x01)).testBit 31 = false ∧ tfind s.net.tpdoData 15 = some [9] ∧
      254 ≤ s.cfg (tpdoKey 15 0x02) ∧ (s.advance 0).tpdoFree 15 ∧ 15 ∈ s.net.tpdoWait) ∧
    (let s := { devCan { node := 7 } with inForce := [(0x140001, 0x207), (0x160001, 0x25100520)],
                                          head := { image := some { id := 1, ledgerId := 1, mappable := [0x251005] } } };
      s.coreOn ∧ (s.ctrl 0).hears ∧ s.net.nmt = .operational ∧ (s.cfg (0x140001 + 256 * 0)).testBit 31 = false ∧
      splitMapping (s.rpdoMapping 0) [1, 2, 3, 4] = [(0x251000 + 5, [1, 2, 3, 4])] ∧ (s.advance 0).served .rpdo ∧
      (s.advance 0).writeError .rpdo (0x251000 + 5) [1, 2, 3, 4] = 0) ∧
    (let s := { devCan { node := 7 } with inForce := [(0x2E4001 + 3, 0x333)], streams := [(0, { kind := 5, addr := 0x300, limits := { unit := 60 } })] };
      s.coreOn ∧ (s.ctrl 0).hears ∧ s.recordChannel 0x333 = some 3 ∧ s.recordBuf 0 3 = none ∧ s.canStream 0 3 = some 0 ∧
      leAt [0, 0x80, 60, 0, 1] 0 2 = 2 ^ 15 ∧ leAt [0, 0x80, 60, 0, 1] 2 2 = 60 ∧ 60 ≤ (s.stream 0).limits.unit) ∧
    (let x : RecordBuf := { chan := 3, ctrl := 0, len := 60, next := 1, data := [], since := 0 };
      let s := { dev with net := { (devCan { node := 7 }).net with records := [x] } };
      s.coreOn ∧ s.recordBuf 0 3 = some x ∧ x.since + s.cfg 0x2E4201 * msec ≤ max s.now (s.cfg 0x2E4201 * msec)) ∧
    (let s := devCan { node := 7, emcy := [⟨0xFF04, 0x4001, 0, 0, 0, 0, false⟩], inhibitFrom := some 0 };
      s.powered ∧ (s.ctrl 0).emcy ≠ [] ∧ (s.ctrl 0).sending = false ∧ (s.ctrl 0).sends ∧ 0 + s.inhibit ≤ max s.now s.inhibit) ∧
    (let s := devCan { node := 7, emcy := [⟨0xFF04, 0x4001, 0, 0, 0, 0, false⟩], sending := true }; s.powered ∧ (s.ctrl 0).emcy ≠ [] ∧ (s.ctrl 0).sending) := by
  decide +kernel

theorem witness_bus_errors :
    (let s := devCan { node := 7 }; s.coreOn ∧ (s.ctrl 0).canopen ∧ (s.ctrl 0).err = 0 ∧ (s.ctrl 0).hears) ∧
    (let s := devCan { node := 7, err := 2, busOffs := [0] }; (s.ctrl 0).err = 2 ∧ (s.ctrl 0).busOffs = [0] ∧
      0 + s.cfg (ctrlKey 0 0x0A) * (s.ctrl 0).factor * msec ≤ max s.now (s.cfg (ctrlKey 0 0x0A) * (s.ctrl 0).factor * msec)) ∧
    (let s := devCan { node := 7, err := 4 }; s.mayWrite 0 .pcie (ctrlKey 0 0x0B) 1 ∧ (s.ctrl 0).err = 4) := by
  decide +kernel

/-- The part of the address that is the serial number holds whatever value the part has. -/
theorem witness_lss_switch_and_scan :
    (let s := devCan { node := 0xFF, lssConfig := false, fastPos := 3 }; s.coreOn ∧ (s.ctrl 0).hears ∧ (s.ctrl 0).node = 0xFF ∧ (s.ctrl 0).lssConfig = false) ∧
    (∀ s : State, [s.lssPart 0 0, s.lssPart 0 1, s.lssPart 0 2, s.lssPart 0 3] = [s.lssPart 0 0, s.lssPart 0 1, s.lssPart 0 2, s.lssPart 0 3] ∧
      s.lssPart 0 2 ≤ s.lssPart 0 2 ∧ s.lssPart 0 3 ≤ s.lssPart 0 3 ∧ s.lssPart 0 3 / 2 ^ 31 = s.lssPart 0 3 / 2 ^ 31) :=
  ⟨by decide +kernel, fun _ => ⟨rfl, Nat.le_refl _, Nat.le_refl _, rfl⟩⟩

theorem witness_lss_configuration :
    let s := devCan { node := 7, lssConfig := true, lssPending := some 125000 };
    s.coreOn ∧ (s.ctrl 0).hears ∧ (s.ctrl 0).lssConfig ∧ (s.ctrl 0).lssPending = some 125000 ∧ s.dict.store = none ∧ s.log.pfail = false := by
  decide +kernel

theorem witness_t1s_port :
    (let s := { dev with inForce := [(0x2E0601, 3), (0x2E0702, 0x0A000001)], net := { plcaErrs := [(2, [0, 0, 0])], carriers := [0] } };
      s.coreOn ∧ s.plcaOn ∧ 2 ≠ s.cfg 0x2E0601 ∧ 3 ≤ ((tget s.net.plcaErrs 2 []).filter fun i => decide (max s.now second ≤ i + second)).length ∧
      s.net.carriers.any (fun i => decide (max s.now second ≤ i + second)) ∧ 15 ≤ ({ s with net := { collisions := 15 } } : State).net.collisions) ∧
    (let s := { dev with inForce := [(0x2E0703, 0x0A000001), (0x2E0702, 5), (0x2E0701, 6)] };
      s.ownAddress 0 ≠ 0 ∧ s.ownAddress 2 ≠ 0 ∧ ((s.advance 0).broadcast 2).2 = false) := by
  decide +kernel

/-! ### Witnesses: the dictionary and the host -/

theorem witness_object_writes :
    (dev.coreOn ∧ (dev.advance 0).served .can ∧ (dev.advance 0).writeError .can 0x200003 [0] ≠ 0 ∧ pathSlot .can = some 0) ∧
    ((dev.advance 0).served .firmware ∧ (dev.advance 0).writeError .can (0x22 * 2 ^ 16 + 0x0508) (leBytes 2 1000) = 0) := by
  decide +kernel

/-- A read of 0x2000.03 with sequence 1: the map of keys 0 to 3. -/
def udpRead : List Byte := [0xA4, 0, 1, 1, 1, 2, 0x19, 0x20, 0x00, 3, 3]

theorem witness_udp_access :
    let s := { dev with inForce := [(0x200301, 1), (0x200302, 9), (0x200303, 0x0A000002)] };
    s.coreOn ∧ s.cfg 0x200301 = 1 ∧ s.cfg 0x200302 ≠ 0 ∧ (s.advance 0).served .udp ∧ (∀ n < 4, s.cfg (0x200303 + n) ≠ 3) ∧ udpRequest [1] = none ∧
    s.cfg (0x200303 + 0) = 0x0A000002 ∧ (∃ r ∈ udpRequest udpRead, r.seq = 1 ∧ r.key = 0x200003) ∧
    (s.advance 0).udpAgain (0x0A000002 * 2 ^ 16 + 9) 1 = none ∧
    ({ s with dict := { udp := [(0x0A000002 * 2 ^ 16 + 9, 1, 0, [7])] } }.advance second).udpAgain (0x0A000002 * 2 ^ 16 + 9) 1 = some [7] := by
  decide +kernel

theorem witness_stores_and_divergences :
    (let s := { dev with dict := { divs := [(0x230204, 0)] } };
      s.coreOn ∧ 0x230204 ∉ s.dict.raised ∧ (0x230204, 0) ∈ s.dict.divs ∧ 0 + s.cfg 0x200103 * msec ≤ max s.now (s.cfg 0x200103 * msec)) ∧
    (dev.coreOn ∧ (dev.advance 0).served .can ∧ (dev.advance 0).writeError .can (0x101000 + 1) (leBytes 4 0x65766173) = 0 ∧
      (dev.advance 0).writeError .can (0x101100 + 3) (leBytes 4 0x64616F6C) = 0) ∧
    (let x : StoreSt := { path := .can, key := 0x101001, snap := [], marks := 0, copy := 1, isMark := false };
      let s := { dev with dict := { store := some x } }; s.coreOn ∧ s.dict.store = some x ∧ s.dict.resetComm = false ∧ x.copy ≤ 1 ∧ x.isMark = false) := by
  decide +kernel

theorem witness_domain_port :
    (dev.coreOn ∧ (dev.advance 0).selectError (0x2F020200#32).toNat = 0 ∧ (dev.advance 0).selectError (0x2F020201#32).toNat ≠ 0) ∧
    (dev.dict.sel = none) ∧ (let s := { dev with dict := { sel := some 0x2F0202 } }; s.coreOn ∧ s.dict.sel = some 0x2F0202 ∧ 2 ≠ 1) := by
  decide +kernel

theorem witness_host_attachment :
    (dev.coreOn ∧ dev.boot.host ≠ 2) ∧
    (let s := { dev with boot := { dev.boot with host := 1, versionOk := true } }; s.coreOn ∧ s.boot.host ≠ 2 ∧ s.boot.versionOk) ∧
    (let s := { dev with boot := { dev.boot with host := 2, rungAt := some 0 } }; s.powered ∧ s.boot.rungAt = some 0 ∧
      0 + s.cfg 0x220508 * msec ≤ max s.now (s.cfg 0x220508 * msec) ∧ s.boot.host = 2) := by
  decide +kernel

/-! ### Witnesses: power, health, start and the whole machine -/

theorem witness_mode_requests :
    (dev.coreOn ∧ dev.mayWrite 0 .firmware 0x2A0001 1 ∧ dev.mayWrite 0 .firmware 0x2A0003 2 ∧ dev.mayWrite 0 .firmware 0x2A0003 3) ∧
    (let s := { dev with power := { dev.power with deferring := some 0 } }; s.powered ∧ 0 + s.obj 0x2A1005 * msec ≤ max s.now (s.obj 0x2A1005 * msec)) := by
  decide +kernel

theorem witness_thermal : dev.powered := by decide +kernel

theorem witness_wake_logic :
    (let s := { dev with power := { mode := .watch }, inForce := [(0x2A0101, 0x1F), (0x2A0103, 1)], time := { dev := second } };
      s.powered ∧ s.power.mode = .watch ∧ s.power.thermal < 2 ∧ s.power.wakeAt = none ∧ s.flag 0x2A0101 3 ∧ (s.advance 0).wakeTimeReached ∧ s.flag 0x2A0101 4) ∧
    (let s := { dev with power := { mode := .retainedOff }, inForce := [(0x2A0101, 0x1F), (0x2A0103, 1)], time := { dev := second } };
      s.boot.on ∧ s.power.trip = false ∧ s.power.mode = .retainedOff ∧ s.power.wakeAt = none ∧ s.flag 0x2A0101 3 ∧ (s.advance 0).wakeTimeReached ∧ s.flag 0x2A0101 4) ∧
    (let s := { devCan { node := 7 } with power := { mode := .watch }, inForce := [(0x2A0101, 2), (0x2A0104, 0x345)] };
      s.powered ∧ s.power.mode = .watch ∧ s.coreOn = false ∧ s.wakesOn 0 0x607 ∧ s.wakesOn 0 0x345 ∧ s.flag 0x2A0101 1 ∧ s.power.thermal < 2 ∧ s.power.wakeAt = none) := by
  decide +kernel

theorem witness_rails_after_a_wake :
    (let s := { dev with power := { mode := .watch, coreEn := true, wakeAt := some 0 } };
      s.powered ∧ s.power.coreEn ∧ s.power.railsOk = false ∧ 0 + 2500000 ≤ max s.now 2500000 ∧ s.power.retryAt = none ∧ s.net.watchFrames = []) ∧
    (let s := { dev with power := { mode := .watch, retryAt := some 8 } }; s.powered ∧ 8 ≤ max s.now 8) ∧
    (let s := { dev with power := { mode := .retainedOff, coreEn := true, wakeAt := some 0 } }; s.boot.on ∧ s.power.coreEn ∧ s.power.wakeAt.isSome) := by
  decide +kernel

/-- The device with a wake stream on TDM and the spotter's thresholds at 100 and 200. -/
def devSpot (p : PowerSt) : State :=
  { dev with power := { p with mode := .watch }, streams := [(0, { kind := 2 })], inForce := [(0x2A1001, 0), (0x2A1003, 100), (0x2A1004, 200)] }

theorem witness_spotter_frame :
    (let s := devSpot { score := 99 }; s.powered ∧ s.wakeStream ∧ s.power.armed = false ∧ s.power.score < s.cfg 0x2A1003 ∧
      s.cfg 0x2A1003 ≤ (100#16).toNat ∧ (199#16).toNat < s.cfg 0x2A1004) ∧
    (let s := devSpot { armed := true, score := 199 }; s.power.armed ∧ s.power.score < s.cfg 0x2A1004 ∧ s.cfg 0x2A1004 ≤ (200#16).toNat) := by
  decide +kernel

theorem witness_monitors :
    dev.coreOn ∧ dev.mayWrite 0 .can (monitorKey 47) 1 ∧ dev.mayWrite 0 .can (monitorKey 47) 2 ∧ dev.mayWrite 0 .can (monitorKey 0) 3 := by
  decide +kernel

theorem witness_fault_log_and_lifetime :
    (dev.coreOn ∧ dev.mayWrite 0 .can 0x2C0101 1 ∧ dev.mayWrite 0 .can 0x2C0101 2) ∧
    (let s := { dev with log := { frozen := some 0, staging := [⟨startRecord 0x100A 1 true 0, false, 0⟩] } };
      s.powered ∧ 0 + s.cfg 0x2C0103 * second ≤ max s.now (s.cfg 0x2C0103 * second) ∧ (s.advance 0).flushDue ∧ s.log.pfail = false ∧
      s.health.resetPending = none ∧ s.health.entryAt + 600 * second ≤ max s.now (600 * second) ∧
      s.health.eraseAt + 86400 * second ≤ max s.now (86400 * second)) ∧
    (let s := { dev with log := { pfail := true, pfHighAt := some 0 } }; s.powered ∧ s.log.pfail ∧ 0 + 100 * msec ≤ max s.now (100 * msec)) := by
  decide +kernel

theorem witness_watchdogs_and_debug :
    (dev.powered ∧ dev.coreRuns 0 ∧ dev.coreRuns 4 ∧ (dev.dog 0).state = 0 ∧ (dev.dog 0).last + 1000000 ≤ max dev.now 1000000 ∧
      max dev.now 999999 < (dev.dog 0).last + 1000000 ∧ (dev.dog 4).last + 100000000 ≤ max dev.now 100000000 ∧ dev.debugOpen) ∧
    (let s := { dev with health := { halted := [3], dogs := [(3, { state := 1 })] } }; s.powered ∧ 3 ∈ s.health.halted ∧ s.health.resetPending = none ∧
      (s.dog 3).state = 1) := by
  decide +kernel

theorem witness_resets : dev.coreOn ∧ (devCan { node := 7 }).coreOn ∧ (devCan { node := 7 }).addressed 0 7 := by decide +kernel

theorem witness_firmware :
    (let s := { dev with boot := { dev.boot with header0 := some ⟨3, 0, true, 1⟩ } }; s.coreOn ∧ s.mayWrite 0 .firmware 0x2F0105 1 ∧
      s.boot.header.trial ∧ s.boot.running = s.boot.header.preferred) ∧
    (let d : List Byte := List.replicate 256 0; dev.coreOn ∧ (dev.advance 0).served .firmware ∧ (dev.advance 0).writeError .firmware 0x2F0202 d = 0 ∧
      (dev.advance 0).writeError .firmware 0x2F0203 [BitVec.ofNat 8 1] = 0) := by
  decide +kernel

theorem witness_lock_and_keys :
    dev.powered ∧ dev.coreOn ∧ dev.mayWrite 0 .can 0x2F0605 1 ∧ dev.mayWrite 0 .can 0x2F0605 2 ∧ (dev.advance 0).served .can ∧
    (dev.advance 0).writeError .can 0x2F3001 (List.replicate (writeSize 0x2F3001) 0) = 0 ∧
    ∃ s', exec (.retentionLost 0) dev = .next s' :=
  ⟨by decide +kernel, by decide +kernel, by decide +kernel, by decide +kernel, by decide +kernel, by decide +kernel, _, rfl⟩

theorem witness_step_takes_the_front_command :
    let s : State := { pending := [.nop 0 0, .freeze 0 .can] }; s.pending = Instr.nop 0 0 :: [.freeze 0 .can] ∧ State.reset.pending = [] := by
  decide +kernel

theorem witness_memory_form_kept :
    State.reset.memoryOk ∧ devTables.memoryOk ∧ ∃ s', step (devTables.push (.retentionLost 0)) = .next s' :=
  ⟨by decide +kernel, by decide +kernel, _, rfl⟩

theorem witness_every_command_answers : ({} : State).runs (runnerOf (.nop 0 0)) = false := by decide +kernel

theorem witness_command_frames :
    (∃ s', exec (.retentionLost 0) dev = .next s') ∧ Part.sram ∉ frameOf (.retentionLost 0) ∧ Part.time ∈ frameOf (.retentionLost 0) :=
  ⟨⟨_, rfl⟩, by decide, by decide⟩

theorem witness_grade_and_subindex_zero :
    dev.boot.state ≠ 4 ∧ indexExists 0x2000 ∧ objectRow (256 * 0x2000) = none ∧ objectRow (256 * 0x2000 + 255) = none := by
  decide +kernel

/-! ### Well-formedness: each check refuses an ill-formed command, and takes one at its limit -/

theorem test_wf_widths :
    (Instr.tickSourceRequest 0 .can 255).wf ∧ (Instr.tickSourceRequest 0 .can 256).wf = false ∧
    (Instr.nominalRateRequest 0 .can (2 ^ 32)).wf = false ∧ (Instr.forceIdr 0 .can 0 256).wf = false ∧ (Instr.setTime 0 .can (2 ^ 64)).wf = false ∧
    (Instr.ssrcRelease 0 .can 0 256).wf = false ∧ (Instr.bankCommit 0 .can 256).wf = false ∧ (Instr.invalidate 0 .can 256).wf = false ∧
    (Instr.imageLoadFromNor 0 .can 256).wf = false ∧ (Instr.slotReload 0 .can 0 256).wf = false ∧ (Instr.slotHashComplete 0 0 (2 ^ 256)).wf = false ∧
    (Instr.requestedRoleWrite 0 .can 256).wf = false ∧ (Instr.releaseHeldOffController 0 .can 0 256).wf = false ∧
    (Instr.workingModeRequest 0 .can 256).wf = false ∧ (Instr.confirmFirmware 0 .can 256).wf = false ∧ (Instr.updateCommit 0 .can 256).wf = false ∧
    (Instr.jobCompletion 0 65536 {}).wf = false ∧ (Instr.budgetCut 0 65536 0).wf = false ∧ (Instr.runJob 0 0 [0, 0, 0]).wf ∧ (Instr.runJob 0 0 [0, 0, 0, 0]).wf = false := by
  decide

theorem test_wf_reports_and_lists :
    (Instr.jobCompletion 0 0 { stalls := [1, 2, 3, 4, 5, 6, 7] }).wf = false ∧ (Instr.jobCompletion 0 0 { stalls := [1, 2, 3, 4, 5, 6] }).wf ∧
    (Instr.runJob 0 0 (List.replicate 17 0)).wf = false ∧ (Instr.tdmFrame 0 0 (List.replicate 17 0) true).wf = false ∧
    (Instr.thermalSample 0 { junctions := [0], supplies := List.replicate 9 0, vbat := 0 }).wf = false ∧
    (Instr.thermalSample 0 { junctions := List.replicate 8 0, supplies := [], vbat := 0 }).wf = false ∧
    (Instr.spotterFrameEnd 0 0 (List.replicate 161 0)).wf = false ∧ (Instr.ident 0 0 []).wf = false ∧ (Instr.unlock 0 []).wf = false ∧
    (Instr.queueDoorbell 0 0 0 [0]).wf := by
  decide +kernel

theorem test_wf_doorbell (es : List Bits512) (h : es.length = 4097) : (Instr.queueDoorbell 0 0 0 es).wf = false := by
  simp [Instr.wf, entriesOk, h]

theorem test_wf_datagrams (bs : List Byte) (h : bs.length = 65537) :
    (Instr.udpRecordDatagram 0 0 65536 []).wf = false ∧ (Instr.udpRecordDatagram 0 0 0 bs).wf = false ∧
    (Instr.rtcpSenderReport 0 0 65536 []).wf = false ∧ (Instr.rtcpSenderReport 0 0 0 bs).wf = false := by
  simp [Instr.wf, fitsBits, h]

theorem test_wf_packets :
    (Instr.csi2FrameStart 0 0 16).wf = false ∧ (Instr.csi2FrameEnd 0 0 16).wf = false ∧ (Instr.csi2LongPacket 0 0 16 0 0 0 true false).wf = false ∧
    (Instr.csi2LongPacket 0 0 3 64 0 0 true false).wf = false ∧ (Instr.csi2LongPacket 0 0 3 63 65536 0 true false).wf = false ∧
    (Instr.csi2LongPacket 0 0 3 63 65535 3 true false).wf = false ∧ (Instr.csi2LongPacket 0 0 15 63 65535 2 true false).wf ∧
    (Instr.rtpPacket 0 0 65536 true rtpPkt).wf = false ∧ (Instr.rtpPacket 0 0 0 true { rtpPkt with seq := 65536 }).wf = false ∧
    (Instr.rtpPacket 0 0 0 true { rtpPkt with ssrc := 2 ^ 32 }).wf = false ∧ (Instr.rtpPacket 0 0 0 true { rtpPkt with ts := 2 ^ 32 }).wf = false ∧
    (Instr.ptpSync 0 { ptpHdr with domain := 256 } false 0).wf = false ∧ (Instr.ptpFollowUp 0 { ptpHdr with transport := 16 } 0).wf = false ∧
    (Instr.ptpAnnounce 0 { ptpHdr with clock := 2 ^ 64 } ⟨0, 37, true, false, false, 1⟩).wf = false ∧
    (Instr.ptpDelayResp 0 { ptpHdr with seq := 65536 } 0 0).wf = false ∧ (Instr.ptpSync 0 ptpHdr true 0).wf := by
  decide

theorem test_wf_chunks (d : List Byte) (h : d.length = 16385) : (Instr.chunkVisible 0 0 true d).wf = false := by
  simp [Instr.wf, h]

theorem test_wf_transfers :
    (Instr.translationFault 0 0 0 (2 ^ 48) 0 false).wf = false ∧
    (Instr.translationFault 0 0 0 0 3 false).wf = false ∧ (Instr.sramScrub 0 0 3).wf = false := by
  decide +kernel

/-- Every frame command names its operation; LEN counts the words of the payload and the reserved field is zero. -/
theorem test_wf_frames :
    (Instr.write 0 0 (frm 1 1 0 0 true eight)).wf ∧ (Instr.write 0 0 (frm 2 1 0 0 true eight)).wf = false ∧
    (Instr.write 0 0 { frm 1 1 0 0 true eight with payload := [] }).wf = false ∧
    (Instr.write 0 0 (withInfo (frm 1 1 0 0 true []) { frameInfo (frm 1 1 0 0 true []) with res := 1 })).wf = false ∧
    (Instr.accum 0 0 (frm 1 1 0 0 true []) false).wf = false ∧ (Instr.readReq 0 0 (frm 1 1 0 0 true []) false).wf = false ∧
    (Instr.readData 0 0 (frm 1 1 0 0 true [])).wf = false ∧ (Instr.writeAck 0 0 (frm 1 1 0 0 true [])).wf = false ∧
    (Instr.token 0 0 (frm 1 1 0 0 true [])).wf = false ∧ (Instr.unreach 0 0 (frm 1 1 0 0 true [])).wf = false ∧
    (Instr.journal 0 0 (frm 1 1 0 0 true [])).wf = false ∧ (Instr.snapshot 0 0 (frm 1 1 0 0 true [])).wf = false ∧
    (Instr.commit 0 0 (frm 1 1 0 0 true [])).wf = false ∧ (Instr.replAck 0 0 (frm 1 1 0 0 true [])).wf = false := by
  decide +kernel

theorem test_wf_network :
    (Instr.startRemoteNode 0 0 127).wf ∧ (Instr.startRemoteNode 0 0 128).wf = false ∧ (Instr.stopRemoteNode 0 0 128).wf = false ∧
    (Instr.enterPreOperational 0 0 128).wf = false ∧ (Instr.resetCommunication 0 0 128).wf = false ∧ (Instr.resetNode 0 0 128 {}).wf = false ∧
    (Instr.duplicate 0 0 2048).wf = false ∧ (Instr.partnerHeartbeat 0 0 0 5).wf = false ∧ (Instr.partnerHeartbeat 0 0 1 128).wf = false ∧
    (Instr.bootUp 0 0 128).wf = false ∧ (Instr.partnerLost 0 0 0).wf = false ∧ (Instr.partnerForget 0 0 0).wf = false ∧
    (Instr.rpdo 0 0 0 (List.replicate 65 0)).wf = false ∧ (Instr.canRecordFragment 0 0 2048 []).wf = false ∧
    (Instr.canRecordFragment 0 0 0 (List.replicate 65 0)).wf = false ∧ (Instr.recordReassemblyTimeout 0 0 256).wf = false ∧
    (Instr.busLoadWindow 0 0 1001 0).wf = false ∧ (Instr.busLoadWindow 0 0 1000 2048).wf = false ∧ (Instr.canWakeFrame 0 0 2048 []).wf = false := by
  decide

theorem test_wf_lss_and_addresses :
    (Instr.switchStateSelective 0 0 [1, 2, 3]).wf = false ∧ (Instr.switchStateSelective 0 0 [1, 2, 3, 2 ^ 32]).wf = false ∧
    (Instr.configureNodeId 0 0 256).wf = false ∧ (Instr.configureBitTiming 0 0 65536).wf = false ∧
    (Instr.identifyRemoteSlave 0 0 0 0 0 0 0 (2 ^ 32)).wf = false ∧ (Instr.fastscan 0 0 (2 ^ 32) 0 0 0).wf = false ∧ (Instr.fastscan 0 0 0 256 0 0).wf = false ∧
    (Instr.fastscan 0 0 0 0 4 0).wf = false ∧ (Instr.fastscan 0 0 0 0 0 4).wf = false ∧ (Instr.erroredTransmission 0 256).wf = false ∧
    (Instr.arp 0 0 true (2 ^ 32) 0 0).wf = false ∧ (Instr.arp 0 0 true 0 (2 ^ 48) 0).wf = false ∧ (Instr.icmpEcho 0 0 0 (2 ^ 32) []).wf = false ∧
    (Instr.udpObjectAccess 0 (2 ^ 32) 0 []).wf = false ∧ (Instr.udpObjectAccess 0 0 65536 []).wf = false := by
  decide

theorem test_wf_objects :
    (Instr.objectWrite 0 .can (2 ^ 24) [0]).wf = false ∧ (Instr.objectWrite 0 .can 0x200003 []).wf = false ∧
    (Instr.objectWrite 0 .can 0x200003 (List.replicate 257 0)).wf = false ∧ (Instr.divergencePersisted 0 (2 ^ 24)).wf = false ∧
    (Instr.store 0 .can 0 0).wf = false ∧ (Instr.store 0 .can 4 0).wf = false ∧ (Instr.store 0 .can 1 (2 ^ 32)).wf = false ∧
    (Instr.restoreDefaults 0 .can 4 0).wf = false ∧ (Instr.domainPortCommit 0 (2 ^ 32) [0]).wf = false ∧ (Instr.domainPortCommit 0 0 []).wf = false ∧
    (Instr.updateData 0 .can []).wf = false ∧ (Instr.keyBlock 0 .can []).wf = false := by
  decide +kernel

/-! ### The worked examples of the spec -/

/-- The state after a command. -/
def after (c : Instr) (s : State) : State := match exec c s with | .next s' => s' | _ => s

/-- Chapter 4, the tower strain: tap 2 with gain 0.5, offset −1,000, window 0 outside ±800,000 with set count 3 and release count 8,
and condition 5. -/
def devStrain : State :=
  { dev with alarm := {
      bank := [(0x240306, 0x8118000000000008), (tapBase 2 + 1, 0x00800000), (tapBase 2 + 2, 2 ^ 32 - 1000), (tapBase 2 + 6, 2),
               (tapBase 2 + 0x0A, 2 ^ 32 - 800000), (tapBase 2 + 0x0E, 800000), (tapBase 2 + 0x12, 3), (tapBase 2 + 0x16, 8)]
      taps := [(2, { setc := [2, 0, 0, 0] })], everCommitted := true, path := 1 } }

theorem test_strain_calibrated : devStrain.tapValue 2 (1700000 * 256) = 849000 ∧ devStrain.tapValue 2 (1720000 * 256) = 859000 := by decide +kernel

theorem test_strain_third_word_raises_the_alarm :
    let s := after (.sampleWord 78125 2 (BitVec.ofNat 32 (1690000 * 256))) devStrain;
    (s.tap 2).value = 844000 ∧ (s.tap 2).persisted = [true, false, false, false] ∧ s.alarm.conds = 2 ^ 5 ∧ s.pinLevel 0 = false := by
  decide +kernel

/-- Chapter 5: the info words of F17, with 1,430 concealed macroblocks, and of F18, which predicts from it. -/
theorem test_info_words : infoWord 1430 true true false 2 = 0x059600D0 ∧ infoWord 0 true false false 2 = 0x00000090 := by decide

/-- R240: the generator test vectors. -/
theorem test_generator_vectors : generatorTest := by decide +kernel

/-- Chapter 9: the header word of the image tensor, an element of the GS4 matrix, and the sums of the accumulating scatter. -/
theorem test_image_tensor :
    let g := Grain.ofBits (0x1360000024000000 + 0x500 * 2 ^ 64 + 0x3C0 * 2 ^ 88 + 3 * 2 ^ 112 + 0x28 * 2 ^ 240 + 0x9600 * 2 ^ 272 + 2 * 2 ^ 460);
    g.ver = 1 ∧ g.elem = .int8 ∧ g.rank = 3 ∧ g.layout = 0 ∧ g.mem = 0 ∧ g.base = 0x24000000 ∧ g.pd = 2 ∧ g.span = 3686400 := by
  decide +kernel

theorem test_weight_matrix :
    let g : Grain := { grain 0 false with type := 2, rank := 2, sizes := [4096, 1024], strides := [0, 64, 0, 0, 0, 0] };
    g.offset [100, 7] = 14386 ∧ g.highNibble [100, 7] = false ∧ g.scaleOffset [100, 7] = 899 ∧ dequantise (-3) (-6) = 0xBD400000 := by
  decide +kernel

theorem test_accumulating_scatter :
    (accumulate .fp16 0x6800 [0x3800]).1 = 0x6800 ∧ (accumulate .fp16 0x6800 [0x3800, 0x3800]).1 = 0x6800 ∧
    (accumulate .fp16 0x6800 [0x3800, 0x3800, 0x3800]).1 = 0x6801 := by
  decide +kernel

/-- Chapter 2: the ceilings of the two periods, and the glitch limit of the spike. -/
theorem test_restart_of_the_controller :
    ceilingOf 4166650 = 3833318 ∧ ceilingOf 5000000 = 4600000 ∧ ({ dev with tick := { period := 4166650 } } : State).glitchLimit = 2083325 ∧
    tolerance 4166666 = 20833 := by
  decide

/-- R513's table at its limits, in tenths of a degree. -/
theorem test_thermal_levels :
    thermalLevel false 0 1119 = 0 ∧ thermalLevel false 0 1120 = 1 ∧ thermalLevel true 0 1100 = 0 ∧ thermalLevel true 0 1101 = 1 ∧
    thermalLevel false 1 1071 = 1 ∧ thermalLevel false 1 1070 = 0 ∧ thermalLevel false 1 1200 = 2 ∧ thermalLevel true 2 1231 = 2 ∧
    thermalLevel true 2 1230 = 1 := by
  decide

/-- The check values of the published CRC-32C and SHA-256. -/
theorem test_crc32c : crc32c ([0x31, 0x32, 0x33, 0x34, 0x35, 0x36, 0x37, 0x38, 0x39] : List Byte) = 0xE3069283#32 := by decide +kernel

set_option maxRecDepth 20000 in
theorem test_sha256 : beWord ((leBytes 32 (sha256 [0x61, 0x62, 0x63])).take 4) = 0xBA7816BF#32 := by decide +kernel

/-- R620: the successor of a sequence number is never 0xFFFF_FFFF. -/
theorem test_next_seq : nextSeq 0xFFFFFFFE = 0 ∧ nextSeq 0xFFFFFFFD = 0xFFFFFFFE := by decide

/-- The table gives no row any bits. -/
theorem test_no_word_decodes : decodeTableWord 32 0 = none ∧ decodeTableWord 0 0 = none := by decide

/-- A refused object write is counted by its path (R470, R471). -/
theorem test_refused_write_is_counted :
    (after (.objectWrite 0 .can 0x200003 [0]) dev).obj 0x200205 = 1 ∧ (after (.objectWrite 0 .can 0x200003 [0]) dev).obj 0x20020D = 0x200003 := by
  decide +kernel

end Sys2Proof.Tests
end

section
/-! ### The alarm path: masks, the matrix, the banks and the latches (R118–R123, R132) -/
namespace Sys2Proof.Machine

/-! #### Masks -/

/-- Adding 2 ^ n to a number below it sets bit n. -/
theorem testBit_add_bit {a n : Nat} (b : Bool) (h : a < 2 ^ n) (k : Nat) :
    (if b then a + 2 ^ n else a).testBit k = if k = n then b else a.testBit k := by
  have hn : a.testBit n = false := Nat.testBit_lt_two_pow h
  cases b with
  | false => by_cases hk : k = n <;> simp [hk, hn]
  | true =>
    rw [if_pos rfl, Nat.add_comm]
    rcases Nat.lt_trichotomy k n with hk | rfl | hk
    · rw [Nat.testBit_two_pow_add_gt hk, if_neg (Nat.ne_of_lt hk)]
    · simp [Nat.testBit_two_pow_add_eq, hn]
    · have hpow : 2 ^ n + 2 ^ n ≤ 2 ^ k := by rw [← Nat.two_mul, ← Nat.pow_succ']; exact Nat.pow_le_pow_right (by omega) hk
      rw [if_neg (Nat.ne_of_gt hk), Nat.testBit_lt_two_pow (by omega), Nat.testBit_lt_two_pow (by omega)]

/-- The number whose bits below n are those of a test, as the masks and the pins of the model sum it up. -/
def sumBits (f : Nat → Bool) (n : Nat) : Nat := (List.range n).foldl (fun a k => if f k then a + 2 ^ k else a) 0

theorem maskOf_eq_sumBits (f : Nat → Bool) : maskOf f = BitVec.ofNat 64 (sumBits f 64) := rfl

theorem sumBits_succ (f : Nat → Bool) (n : Nat) :
    sumBits f (n + 1) = if f n then sumBits f n + 2 ^ n else sumBits f n := by
  simp only [sumBits, List.range_succ, List.foldl_append, List.foldl_cons, List.foldl_nil]

theorem sumBits_lt (f : Nat → Bool) (n : Nat) : sumBits f n < 2 ^ n := by
  induction n with
  | zero => exact Nat.one_pos
  | succ n ih =>
    rw [sumBits_succ, Nat.pow_succ]
    split <;> omega

theorem testBit_sumBits (f : Nat → Bool) (n k : Nat) : (sumBits f n).testBit k = (decide (k < n) && f k) := by
  induction n with
  | zero => simp [sumBits]
  | succ n ih =>
    rw [sumBits_succ, testBit_add_bit _ (sumBits_lt f n), ih]
    by_cases hk : k = n
    · simp [hk]
    · simp only [if_neg hk, show k < n + 1 ↔ k < n by omega]

/-- The bits of a mask are those of its test. -/
theorem maskOf_getLsbD (f : Nat → Bool) {k : Nat} (hk : k < 64) : (maskOf f).getLsbD k = f k := by
  rw [maskOf_eq_sumBits, BitVec.getLsbD_ofNat, testBit_sumBits, decide_eq_true hk, Bool.true_and, Bool.true_and]

/-! #### What the matrix reads and changes -/

@[simp] theorem State.wakeCause_alarm (s : State) (n : Nat) : (s.wakeCause n).alarm = s.alarm :=
  only_alarm (State.wakeCause_same (by decide) s n)

@[simp] theorem State.emcy_alarm (s : State) (eec code arg : Nat) (trip : Bool) : (s.emcy eec code arg trip).alarm = s.alarm :=
  quiet_alarm (State.emcy_quiet ..)

@[simp] theorem State.tripMessage_alarm (s : State) (k : Nat) : (s.tripMessage k).alarm = s.alarm :=
  only_alarm (State.tripMessage_same (by decide) s k)

@[simp] theorem State.alarmRecord_alarm (s : State) (code k : Nat) : (s.alarmRecord code k).alarm = s.alarm :=
  only_alarm (State.alarmRecord_same (by decide) s code k)

@[simp] theorem State.condFall_alarm (s : State) (k : Nat) : (s.condFall k).alarm = s.alarm := State.alarmRecord_alarm ..

/-- The condition words are those of the active bank. -/
theorem State.condWord_congr {s s' : State} (hb : s'.alarm.bank = s.alarm.bank) : s'.condWord = s.condWord := by
  funext k
  simp only [State.condWord, State.bk, hb]

/-- The raw values depend on the active bank and the taps alone. -/
theorem State.condRaw_congr {s s' : State} (hb : s'.alarm.bank = s.alarm.bank) (ht : s'.alarm.taps = s.alarm.taps) :
    s'.condRaw = s.condRaw := by
  have hterm : s'.termValue = s.termValue := by
    funext w j
    simp only [State.termValue, State.tap, ht]
  funext k
  unfold State.condRaw
  rw [State.condWord_congr hb, hterm]

/-- The alarm part with another count of rises and other waiting trips (R127). -/
def AlarmSt.withTrips (a : AlarmSt) (rises : Nat) (waiting : List Nat) : AlarmSt :=
  { a with rises := rises, waitingTrips := waiting }

theorem State.notifyTrip_alarm (s : State) (k : Nat) : ∃ r w, (s.notifyTrip k).alarm = s.alarm.withTrips r w := by
  unfold State.notifyTrip
  split
  · exact ⟨_, _, State.tripMessage_alarm ..⟩
  · split
    · exact ⟨_, _, State.tripMessage_alarm ..⟩
    · exact ⟨_, _, rfl⟩

/-- Of the alarm part, the rise of a condition changes at most the trips it notifies. -/
theorem State.condRise_alarm (s : State) (k : Nat) : ∃ r w, (s.condRise k).alarm = s.alarm.withTrips r w := by
  obtain ⟨r, w, h⟩ := State.notifyTrip_alarm (s.alarmRecord 0x4001 k) k
  rw [State.alarmRecord_alarm] at h
  simp only [State.condRise, apply_ite State.alarm, State.wakeCause_alarm, State.emcy_alarm, State.alarmRecord_alarm, ite_self]
  split
  · exact ⟨r, w, h⟩
  · exact ⟨_, _, rfl⟩

theorem State.condRises_alarm (l : List Nat) (s : State) :
    ∃ r w, (l.foldl State.condRise s).alarm = s.alarm.withTrips r w := by
  induction l generalizing s with
  | nil => exact ⟨_, _, rfl⟩
  | cons k l ih =>
    obtain ⟨r, w, h⟩ := ih (s.condRise k)
    obtain ⟨r', w', h'⟩ := s.condRise_alarm k
    exact ⟨r, w, by rw [List.foldl_cons, h, h', AlarmSt.withTrips, AlarmSt.withTrips, AlarmSt.withTrips]⟩

/-- A fold of steps that keep the alarm part keeps it. -/
theorem foldl_alarm {α : Type} {f : State → α → State} (hf : ∀ s x, (f s x).alarm = s.alarm) (l : List α) (s : State) :
    (l.foldl f s).alarm = s.alarm := by
  induction l generalizing s with
  | nil => rfl
  | cons x r ih => exact (ih _).trans (hf s x)

/-- Everything the matrix does to the alarm part: the raw values, the latches, the conditions, the pins and the trips. -/
theorem State.matrix_alarm (s : State) : ∃ pins r w, s.matrix.alarm = { s.alarm.withTrips r w with
    raw := maskOf s.condRaw, latched := s.nextLatched (maskOf s.condRaw)
    conds := maskOf s.condRaw ||| s.nextLatched (maskOf s.condRaw), pins := pins } := by
  simp only [State.matrix, foldl_alarm State.condFall_alarm]
  obtain ⟨r, w, h⟩ := State.condRises_alarm _ _
  exact ⟨_, r, w, h⟩

theorem State.nextLatched_getLsbD (s : State) (raw : Mask64) {k : Nat} (hk : k < 64) :
    (s.nextLatched raw).getLsbD k =
      ((s.condWord k).testBit 63 && (s.alarm.latched.getLsbD k || (raw.getLsbD k && (s.condWord k).testBit 62))) :=
  maskOf_getLsbD _ hk

/-- After the matrix the conditions stand to the taps and the latches as R120 says. -/
theorem State.matrix_conds (s : State) :
    s.matrix.alarm.raw = maskOf s.matrix.condRaw ∧ s.matrix.alarm.conds = s.matrix.alarm.raw ||| s.matrix.alarm.latched := by
  obtain ⟨pins, r, w, h⟩ := s.matrix_alarm
  have hraw : s.matrix.condRaw = s.condRaw := State.condRaw_congr (by rw [h]; rfl) (by rw [h]; rfl)
  rw [hraw, h]
  exact ⟨rfl, rfl⟩

/-! #### The banks -/

/-- The check of the shadow bank reads objects of the taps only. -/
theorem State.shadowFault_congr {s s' : State} (h : ∀ k, 0x241000 ≤ k → s'.obj k = s.obj k) :
    s'.shadowFault = s.shadowFault := by
  have hk : ∀ n u w, s'.obj (tapBase n + u + w) = s.obj (tapBase n + u + w) := fun n u w => h _ (by unfold tapBase; omega)
  simp only [State.shadowFault, hk]

@[simp] theorem State.acceptWrite_shadowFault (s : State) (p : Path) (k : Nat) (d : List Byte) :
    (s.acceptWrite p k d).shadowFault = s.shadowFault :=
  State.shadowFault_congr fun _ _ => State.acceptWrite_obj _ _ _ _ (by omega)

theorem State.setObj_shadow (s : State) {k : Nat} (v : Nat) (h : isBankKey k = false) : (s.setObj k v).shadow = s.shadow :=
  filter_tset _ _ _ isBankKey h

/-- The counters of accepted writes are no objects of a bank. -/
@[simp] theorem State.acceptWrite_shadow (s : State) (p : Path) (k : Nat) (d : List Byte) :
    (s.acceptWrite p k d).shadow = s.shadow := by
  have hrest : ∀ x : State, ((x.journalWrite p k d).send (.answer p k 0 [])).shadow = x.shadow := fun x => by
    simp only [State.shadow, State.send_od, State.journalWrite_od]
  cases p with
  | firmware => exact hrest s
  | _ => exact (hrest _).trans (State.setObj_shadow _ _ rfl)

/-- A checked shadow bank waits for the word boundary (R122). -/
theorem State.requestCommit_of_good {s : State} (h : s.shadowFault = none) :
    s.requestCommit = s.onAlarm fun a => { a with commit := some s.shadow } := by
  simp only [State.requestCommit, h]

/-- A shadow bank that fails the check is refused and the low bound of its first bad window noted (R122). -/
theorem State.requestCommit_of_bad {s : State} {k : Nat} (h : s.shadowFault = some k) :
    s.requestCommit = ((s.onAlarm fun a => { a with refused := true }).setObj 0x240106 k).emit 0x4004 := by
  simp only [State.requestCommit, h]

/-- What a swap puts in force, and that the conditions follow the new bank (R123, R126). -/
theorem State.swapBank_alarm (s : State) (b : Table Nat) :
    let s' := s.swapBank b
    s'.alarm.bank = b ∧ s'.alarm.commit = none ∧ s'.alarm.everCommitted = true ∧ s'.alarm.path = 1 ∧ s'.alarm.forced = false ∧
      s'.alarm.raw = maskOf s'.condRaw ∧ s'.alarm.conds = s'.alarm.raw ||| s'.alarm.latched := by
  obtain ⟨x, hx, hbank, hcommit, hever, hpath, hforced⟩ : ∃ x : State, s.swapBank b = x.matrix ∧ x.alarm.bank = b ∧
      x.alarm.commit = none ∧ x.alarm.everCommitted = true ∧ x.alarm.path = 1 ∧ x.alarm.forced = false := by
    refine ⟨_, rfl, ?_⟩
    rw [State.emit_alarm]
    exact ⟨rfl, rfl, rfl, rfl, rfl⟩
  obtain ⟨pins, r, w, h⟩ := x.matrix_alarm
  rw [hx]
  exact ⟨(congrArg AlarmSt.bank h).trans hbank, (congrArg AlarmSt.commit h).trans hcommit,
    (congrArg AlarmSt.everCommitted h).trans hever, (congrArg AlarmSt.path h).trans hpath,
    (congrArg AlarmSt.forced h).trans hforced, x.matrix_conds⟩

/-! #### Latches -/

/-- A clear leaves condition k latched exactly when it is enabled, and either was latched and is outside the mask or true, or is
latched again by its raw value (R120). -/
theorem State.clearLatches_latched (s : State) (mask : Mask64) {k : Nat} (hk : k < 64) :
    (s.clearLatches mask).alarm.latched.getLsbD k = ((s.condWord k).testBit 63 &&
      ((s.alarm.latched.getLsbD k && (!mask.getLsbD k || s.alarm.raw.getLsbD k)) ||
        (s.condRaw k && (s.condWord k).testBit 62))) := by
  obtain ⟨x, hx, hal⟩ : ∃ x : State, s.clearLatches mask = x.matrix ∧ x.alarm =
      { s.alarm with latched := s.alarm.latched &&& ~~~ (mask &&& ~~~ s.alarm.raw &&& s.alarm.latched) } :=
    ⟨_, rfl, foldl_alarm (fun s k => State.emit_alarm s ..) _ _⟩
  have hbank : x.alarm.bank = s.alarm.bank := by rw [hal]
  have htaps : x.alarm.taps = s.alarm.taps := by rw [hal]
  have hlat : x.alarm.latched.getLsbD k =
      (s.alarm.latched.getLsbD k && (!mask.getLsbD k || s.alarm.raw.getLsbD k)) := by
    rw [hal]
    simp only [BitVec.getLsbD_and, BitVec.getLsbD_not, hk, decide_true, Bool.true_and]
    cases s.alarm.latched.getLsbD k <;> simp
  obtain ⟨pins, r, w, h⟩ := x.matrix_alarm
  rw [hx, h, State.nextLatched_getLsbD _ _ hk, maskOf_getLsbD _ hk, State.condWord_congr hbank,
    State.condRaw_congr hbank htaps, hlat]

/-! #### What the commands execute -/

/-- A command that writes a number by a path takes effect behind the accepted write. -/
theorem answers_controlledNum {c : Instr} {t k v : Nat} {p : Path} {eff : State → State} {s : State} {P : State → Prop}
    (hc : exec c s = whenCore t (fun s => s.controlledNum p k v eff) s) (hcore : s.coreOn) (hmay : s.mayWrite t p k v)
    (hp : P (eff ((s.advance t).acceptWrite p k (leBytes (objWidth k / 8) v))).settle) : answers c s P :=
  answers_core hc hcore (by rw [State.controlledNum_may hmay]; exact hp)

theorem exec_bankCommit (t : Nat) (p : Path) (v : Nat) (s : State) :
    exec (.bankCommit t p v) s = whenCore t (fun s => s.controlledNum p 0x240101 v State.requestCommit) s := rfl

theorem exec_clearLatches (t : Nat) (p : Path) (mask : Mask64) (s : State) : exec (.clearLatches t p mask) s =
    whenCore t (fun s => s.controlledNum p 0x240005 mask.toNat fun s => s.clearLatches mask) s := rfl

/-- A bank that waits is swapped in at the word boundary while GCLK runs. -/
theorem exec_bankSwap {s : State} {b : Table Nat} (t : Nat) (hpow : s.powered) (hcommit : s.alarm.commit = some b)
    (hclk : s.alarm.gclkOk) : exec (.bankSwap t) s = .next ((s.advance t).swapBank b).settle := by
  change execBankSwap t s = _
  simp only [execBankSwap, whenPowered, hpow, if_true, State.advance_alarm, hcommit, hclk]

theorem State.advance_shadow (s : State) (t : Nat) : (s.advance t).shadow = s.shadow := rfl

@[simp] theorem State.settle_condRaw (s : State) : s.settle.condRaw = s.condRaw :=
  State.condRaw_congr (by rw [State.settle_alarm]) (by rw [State.settle_alarm])

/-! #### The commands of the banks and the latches (R120, R122, R123, R132) -/

theorem bankCommit_of_good (s : State) (t : Nat) (p : Path) (v : Nat) (hcore : s.coreOn) (hmay : s.mayWrite t p 0x240101 v)
    (hgood : s.shadowFault = none) :
    answers (.bankCommit t p v) s fun s' => s'.alarm = { s.alarm with commit := some s.shadow } := by
  refine answers_controlledNum (exec_bankCommit ..) hcore hmay ?_
  rw [State.requestCommit_of_good ((State.acceptWrite_shadowFault (s.advance t) ..).trans hgood), State.acceptWrite_shadow,
    State.advance_shadow, State.settle_alarm, State.onAlarm_alarm, State.acceptWrite_alarm, State.advance_alarm]

theorem bankCommit_of_bad (s : State) (t : Nat) (p : Path) (v k : Nat) (hcore : s.coreOn) (hmay : s.mayWrite t p 0x240101 v)
    (hbad : s.shadowFault = some k) :
    answers (.bankCommit t p v) s fun s' => s'.alarm = { s.alarm with refused := true } ∧ s'.obj 0x240106 = k := by
  refine answers_controlledNum (exec_bankCommit ..) hcore hmay ?_
  rw [State.requestCommit_of_bad ((State.acceptWrite_shadowFault (s.advance t) ..).trans hbad)]
  constructor
  · rw [State.settle_alarm, State.emit_alarm, State.setObj_alarm, State.onAlarm_alarm, State.acceptWrite_alarm,
      State.advance_alarm]
  · rw [State.settle_obj _ (by decide) (by decide), State.emit_obj _ _ _ _ (by decide) (by decide), State.setObj_obj_same]

theorem bankSwap_takes_over (s : State) (t : Nat) (b : Table Nat) (hpow : s.powered) (hcommit : s.alarm.commit = some b)
    (hclk : s.alarm.gclkOk) :
    answers (.bankSwap t) s fun s' => s'.alarm.bank = b ∧ s'.alarm.commit = none ∧ s'.alarm.everCommitted = true ∧
      s'.alarm.path = 1 ∧ s'.alarm.forced = false ∧ s'.alarm.raw = maskOf s'.condRaw ∧
      s'.alarm.conds = s'.alarm.raw ||| s'.alarm.latched := by
  refine ⟨_, exec_bankSwap t hpow hcommit hclk, ?_⟩
  simp only [State.settle_alarm, State.settle_condRaw]
  exact State.swapBank_alarm ..

theorem clearLatches_clears_false (s : State) (t : Nat) (p : Path) (mask : Mask64) (hcore : s.coreOn)
    (hmay : s.mayWrite t p 0x240005 mask.toNat) :
    answers (.clearLatches t p mask) s fun s' => ∀ k, k < 64 →
      (mask.getLsbD k → s.alarm.raw.getLsbD k = false → s.condRaw k = false → s'.alarm.latched.getLsbD k = false) ∧
      ((mask.getLsbD k = false ∨ s.alarm.raw.getLsbD k) → s.alarm.latched.getLsbD k → (s.condWord k).testBit 63 →
        s'.alarm.latched.getLsbD k = true) := by
  refine answers_controlledNum (exec_clearLatches ..) hcore hmay fun k hk => ?_
  have hal := (State.acceptWrite_alarm (s.advance t) p 0x240005 (leBytes (objWidth 0x240005 / 8) mask.toNat)).trans
    (State.advance_alarm s t)
  rw [State.settle_alarm, State.clearLatches_latched _ _ hk, hal, State.condWord_congr (congrArg AlarmSt.bank hal),
    State.condRaw_congr (congrArg AlarmSt.bank hal) (congrArg AlarmSt.taps hal)]
  constructor
  · intro hmask hraw hcond
    simp [hmask, hraw, hcond]
  · intro hkeep hlat hen
    rcases hkeep with hmask | hraw
    · simp [hmask, hlat, hen]
    · simp [hraw, hlat, hen]

/-- Settles O12: it holds. The accepted write leaves the alarm part, the shadow bank and its check as they were, and the matrix, which
ends a swap and a clear, keeps the bank and makes the conditions of the taps. -/
theorem alarmBanksAndLatches : Obligations.alarm_banks_and_latches :=
  ⟨bankCommit_of_good, bankCommit_of_bad, bankSwap_takes_over, clearLatches_clears_false⟩

end Sys2Proof.Machine
end

section
/-! ### H.264 decoding: the info word of a picture and the taint of its context (R139, R156–R158) -/
namespace Sys2Proof.Machine

/-! #### The decoders' part of the state -/

/-- What the decoders keep and show: their contexts, and the objects from 0x2500 to 0x25FF. -/
def State.decoders (s : State) : CodecSt × (Fin 0x10000 → Nat) := (s.codec, fun u => s.obj (0x250000 + u))

theorem State.decoders_ext {s s' : State} (hc : s'.codec = s.codec)
    (ho : ∀ k, 0x250000 ≤ k → k < 0x260000 → s'.obj k = s.obj k) : s'.decoders = s.decoders :=
  Prod.ext hc (funext fun u => ho _ (Nat.le_add_right ..) (Nat.add_lt_add_left u.isLt _))

theorem decoders_codec {s s' : State} (h : s'.decoders = s.decoders) : s'.codec = s.codec := congrArg Prod.fst h

theorem decoders_obj {s s' : State} (h : s'.decoders = s.decoders) {k : Nat} (hlo : 0x250000 ≤ k) (hhi : k < 0x260000) :
    s'.obj k = s.obj k := by
  have hk : s'.obj (0x250000 + (k - 0x250000)) = s.obj (0x250000 + (k - 0x250000)) :=
    congrFun (congrArg Prod.snd h) ⟨k - 0x250000, by omega⟩
  rwa [Nat.add_sub_cancel' hlo] at hk

theorem decoders_of_quiet {s s' : State} (h : s'.quiet = s.quiet) : s'.decoders = s.decoders :=
  State.decoders_ext (quiet_codec h) fun _ _ _ => quiet_obj h (by omega) (by omega)

@[simp] theorem State.settle_decoders (s : State) : s.settle.decoders = s.decoders := decoders_of_quiet s.settle_quiet

theorem State.incr_decoders (s : State) {k : Nat} (n : Nat) (h : 0x260000 ≤ k) : (s.incr k n).decoders = s.decoders :=
  State.decoders_ext rfl fun _ _ _ => State.incr_obj_ne s n (by omega)

theorem State.setObj_decoders (s : State) {k : Nat} (v : Nat) (h : 0x260000 ≤ k) : (s.setObj k v).decoders = s.decoders :=
  State.decoders_ext rfl fun _ _ _ => State.setObj_obj_ne s v (by omega)

@[simp] theorem State.send_decoders (s : State) (o : Out) : (s.send o).decoders = s.decoders := rfl

@[simp] theorem State.onHead_decoders (s : State) (f : HeadSt → HeadSt) : (s.onHead f).decoders = s.decoders := rfl

@[simp] theorem State.onStream_decoders (s : State) (n : Nat) (f : StreamSt → StreamSt) :
    (s.onStream n f).decoders = s.decoders := rfl

@[simp] theorem State.setChan_decoders (s : State) (c : Nat) (k : Channel) : (s.setChan c k).decoders = s.decoders := rfl

theorem decoders_foldl {α : Type} {f : State → α → State} (hf : ∀ s x, (f s x).decoders = s.decoders) (l : List α) (s : State) :
    (l.foldl f s).decoders = s.decoders :=
  List.foldlRecOn l f (motive := fun s' => s'.decoders = s.decoders) rfl fun s' h x _ => (hf s' x).trans h

/-! #### The end of a job leaves the decoders' part -/

@[simp] theorem State.pump_decoders (s : State) (c : Nat) : (s.pump c).decoders = s.decoders := by
  simp only [State.pump, State.sendAll, apply_ite State.decoders, State.setChan_decoders, decoders_foldl State.send_decoders,
    ite_self]

@[simp] theorem State.sendTok_decoders (s : State) (c : Nat) (k : Tok) : (s.sendTok c k).decoders = s.decoders := by
  simp only [State.sendTok, apply_ite State.decoders, State.pump_decoders, State.setChan_decoders, ite_self,
    State.incr_decoders _ (k := 0x270006) _ (by decide)]

@[simp] theorem State.poisonAll_decoders (s : State) (chans : List Nat) (job tick reason : Nat) :
    (s.poisonAll chans job tick reason).decoders = s.decoders :=
  decoders_foldl (fun s c => by simp only [State.sendTok_decoders]) chans s

@[simp] theorem State.announce_decoders (s : State) (chans : List Nat) (job tick status : Nat) (data : Bool) :
    (s.announce chans job tick status data).decoders = s.decoders :=
  decoders_foldl (fun s c => by cases data <;> simp only [State.sendTok_decoders, if_true, Bool.false_eq_true, if_false]) chans s

@[simp] theorem State.consume_decoders (s : State) (j : Nat) : (s.consume j).1.decoders = s.decoders :=
  List.foldlRecOn (s.inputs j) _ (motive := fun a => a.1.decoders = s.decoders) rfl fun (a : State × List Tok) h c _ => by
    rw [State.pump_decoders, State.setChan_decoders, h]

@[simp] theorem State.endTokens_decoders (s : State) (r : Run) (status reason : Nat) (data : Bool) :
    (s.endTokens r status reason data).decoders = s.decoders := by
  simp only [State.endTokens, State.announce_decoders, apply_ite State.decoders, State.poisonAll_decoders, ite_self]

@[simp] theorem State.releaseUnits_decoders (s : State) (rid : Nat) : (s.releaseUnits rid).decoders = s.decoders :=
  decoders_foldl (fun s n => State.onStream_decoders s n _) _ s

@[simp] theorem State.rewaitUnits_decoders (s : State) (rid : Nat) : (s.rewaitUnits rid).decoders = s.decoders :=
  decoders_foldl (fun s n => State.onStream_decoders s n _) _ s

@[simp] theorem State.holdLanes_decoders (s : State) (r : Run) : (s.holdLanes r).decoders = s.decoders := rfl

@[simp] theorem State.postCompletion_decoders (s : State) (q a b c d e f : Nat) :
    (s.postCompletion q a b c d e f).decoders = s.decoders := decoders_of_quiet (State.postCompletion_quiet ..)

@[simp] theorem State.refuseEntry_decoders (s : State) (q event job seq tag status : Nat) :
    (s.refuseEntry q event job seq tag status).decoders = s.decoders := by
  have hkey : ∀ u, 0x260000 ≤ queueKey q u := fun u => by unfold queueKey; omega
  rw [State.refuseEntry, State.postCompletion_decoders, decoders_of_quiet (State.emit_quiet ..), State.setObj_decoders _ _ (hkey _),
    State.incr_decoders _ _ (hkey _)]

@[simp] theorem State.entryRecord_decoders (s : State) (r : Run) (qstatus event out : Nat) :
    (s.entryRecord r qstatus event out).decoders = s.decoders := by
  unfold State.entryRecord
  split
  · rfl
  · simp only [apply_ite State.decoders, State.refuseEntry_decoders, State.postCompletion_decoders, ite_self]

/-- The end of a run sends its tokens and records and frees its units; the decoders' part stays as the engine left it. -/
@[simp] theorem State.endRun_decoders (s : State) (r : Run) (e : JobEnd) (reason qstatus event : Nat) :
    (s.endRun r e reason qstatus event).decoders = s.decoders := by
  simp only [State.endRun, State.entryRecord_decoders, State.holdLanes_decoders, apply_ite State.decoders,
    State.rewaitUnits_decoders, State.releaseUnits_decoders, State.send_decoders, State.endTokens_decoders, ite_self]
  split <;> simp only [State.send_decoders, State.onHead_decoders, State.consume_decoders]

/-! #### The info word -/

/-- R139: the Taint bit is bit 7 of the info word; the fields beside it do not reach it. -/
theorem infoWord_testBit_taint (conc : Nat) (taint damaged cut : Bool) (type : Nat) :
    (infoWord conc taint damaged cut type).testBit 7 = taint := by
  have hb : ∀ b, b2n b ≤ 1 := by decide
  have hd := hb damaged
  have hc := hb cut
  have hw : infoWord conc taint damaged cut type / 2 ^ 7 % 2 = b2n taint := by
    have ht := hb taint
    simp only [infoWord, packFields, List.foldl_cons, List.foldl_nil]
    omega
  rw [Nat.testBit_eq_decide_div_mod_eq, hw]
  cases taint <;> rfl

/-! #### The context through a job and its picture -/

theorem State.h264_congr {s s' : State} (h : s'.codec = s.codec) (c : Nat) : s'.h264 c = s.h264 c := by
  simp only [State.h264, h]

@[simp] theorem State.setH264_h264_same (s : State) (c : Nat) (x : H264Ctx) : (s.setH264 c x).h264 c = x := tget_tset_same ..

/-- Of its context, a parameter set changes at most the set in force (R153). -/
theorem State.takeParameters_h264 (s : State) (c : Nat) (x : H264Report) :
    ∃ p, (s.takeParameters c x).h264 c = { s.h264 c with sps := p } := by
  unfold State.takeParameters
  split
  · exact ⟨_, rfl⟩
  · next p _ =>
    split
    · exact ⟨_, rfl⟩
    · refine ⟨some p, ?_⟩
      split
      · rw [State.h264_congr (State.emit_codec ..), State.setH264_h264_same]
      · exact State.setH264_h264_same ..

/-- A context with what a job reports added to the picture in decode (R156, R157). -/
def H264Ctx.withReport (k : H264Ctx) (x : H264Report) : H264Ctx :=
  { k with conc := k.conc + x.concealed, damaged := k.damaged || decide (0 < x.damagedSlices)
           picTaint := k.picTaint || x.taintedRef, picType := x.picType }

theorem State.h264Damage_h264 (s : State) (c : Nat) (x : H264Report) :
    (s.h264Damage c x).h264 c = (s.h264 c).withReport x := by
  have hcodec : (s.h264Damage c x).codec = (s.setH264 c ((s.h264 c).withReport x)).codec := by
    simp only [State.h264Damage, H264Ctx.withReport, apply_ite State.codec, State.emit_codec, State.incr_codec, ite_self]
  rw [State.h264_congr hcodec, State.setH264_h264_same]

/-- R139: a complete picture's info word is shown with its Taint. -/
theorem State.h264Picture_taint (s : State) (c : Nat) (r : Run) (idr : Bool) :
    ((s.h264Picture c r idr).1.obj (h264Key c 0x0C)).testBit 7 = (s.h264 c).tainted idr := by
  rw [State.h264Picture, State.setObj_obj_same, infoWord_testBit_taint]

theorem State.h264Picture_h264 (s : State) (c : Nat) (r : Run) (idr : Bool) :
    (s.h264Picture c r idr).1.h264 c = (s.h264 c).nextPicture idr := by
  have hcodec : (s.h264Picture c r idr).1.codec = (s.setH264 c ((s.h264 c).nextPicture idr)).codec := by
    simp only [State.h264Picture, State.setObj_codec, apply_ite State.codec, State.incr_codec, ite_self]
  rw [State.h264_congr hcodec, State.setH264_h264_same]

/-- The last job of a picture ends it, in a context that is not in resync, with what the job reports. -/
theorem State.h264Job_last {s : State} {c : Nat} (r : Run) {x : H264Report} (hsync : (s.h264 c).resync = false)
    (hgap : x.frameNumGap = false) (hlast : x.last = true) : ∃ (u : State) (p : Option SpsInfo),
    s.h264Job c r x = u.h264Picture c r x.idr ∧ u.h264 c = H264Ctx.withReport { s.h264 c with sps := p } x := by
  have hincr : (s.incr 0x250004 x.suppressed).h264 c = s.h264 c := State.h264_congr (State.incr_codec ..) c
  obtain ⟨p, hp⟩ := (s.incr 0x250004 x.suppressed).takeParameters_h264 c x
  refine ⟨_, p, ?_, (State.h264Damage_h264 _ c x).trans (by rw [hp, hincr])⟩
  simp only [State.h264Job, hgap, hlast, hincr, hsync, Bool.false_eq_true, if_false, if_true]

/-! #### The command -/

/-- Of the decoders' part, a job's end changes what its engine does, which finds the contexts as they were. -/
theorem State.completeJob_engine (s : State) (r : Run) (x : JobReport) : ∃ (u : State) (r' : Run),
    u.codec = s.codec ∧ r'.entry = r.entry ∧ (s.completeJob r x).decoders = (u.engineEnd r' x.work).1.decoders := by
  refine ⟨_, { r with began := some (r.at_ + 2000 + x.waited) }, ?_, rfl, State.endRun_decoders ..⟩
  exact only_codec ((State.observe_same (by decide) ..).trans ((State.noteLate_same (by decide) ..).trans
    ((State.guardIntrusion_same (by decide) ..).trans ((State.endHost_same (by decide) ..).trans
      (State.endStalls_same (by decide) ..)))))

theorem State.engineEnd_h264 (s : State) {r : Run} {c : Nat} (x : H264Report) (h : r.entry.kind = .h264 c) :
    s.engineEnd r (.h264 x) = s.h264Job c r x := by
  simp only [State.engineEnd, h]

/-- A reported job that runs and whose transfers have ended completes (R24). -/
theorem exec_jobCompletion {s : State} {job : Nat} {x : Run} (t : Nat) (r : JobReport) (hcore : s.coreOn)
    (hrun : s.head.running.find? (·.entry.id == job) = some x) (hdone : s.xfersDone x.rid) :
    exec (.jobCompletion t job r) s = .next ((s.advance t).completeJob x r).settle := by
  have hdone' : (s.advance t).xfersDone x.rid = true := hdone
  change execJobCompletion t job r s = _
  simp only [execJobCompletion, whenCore, hcore, if_true, State.advance_head, hrun, hdone']

/-- Settles O15: it holds. The last job's report joins the context, the picture's end shows the Taint of the two and starts the
context anew, and neither the evidence before the engine's part nor the end of the run behind it touches the decoders' part. -/
theorem h264Taint : Obligations.h264_taint := by
  intro s t job c x r hcore hrun hdone hkind hc hsync hgap hlast
  refine ⟨_, exec_jobCompletion t _ hcore hrun hdone, ?_⟩
  obtain ⟨u, x', hu, hx', hengine⟩ := (s.advance t).completeJob_engine x { work := .h264 r }
  have hctx : u.h264 c = s.h264 c := State.h264_congr hu c
  obtain ⟨v, p, hjob, hv⟩ := State.h264Job_last (s := u) (c := c) x' (x := r) (by rw [hctx, hsync]) hgap hlast
  have hend : ((s.advance t).completeJob x { work := .h264 r }).settle.decoders = (v.h264Picture c x' r.idr).1.decoders := by
    rw [State.settle_decoders, hengine, State.engineEnd_h264 _ _ (by rw [hx', hkind]), hjob]
  have hkey : 0x250000 ≤ h264Key c 0x0C ∧ h264Key c 0x0C < 0x260000 := by unfold h264Key; omega
  rw [decoders_obj hend hkey.1 hkey.2, State.h264Picture_taint, State.h264_congr (decoders_codec hend), State.h264Picture_h264,
    hv, hctx]
  refine ⟨?_, ?_, rfl⟩
  · simp [H264Ctx.tainted, H264Ctx.withReport, Bool.or_assoc]
  · intro hidr hclean
    simp [H264Ctx.nextPicture, H264Ctx.withReport, hidr, hclean]

end Sys2Proof.Machine
end

section
/-! ### Every command: its frame, the memories, and what it answers (O57, O58, O59) -/
namespace Sys2Proof.Machine

/-! #### The frame -/

/-- The frame of every command, read off the frame lemma of its meaning. -/
theorem exec_frame {c : Instr} {s s' : State} {p : Part} (h : exec c s = .next s') (hp : p ∉ frameOf c) :
    s'.quiet.only p = (s.advance (instantOf c)).quiet.only p := by
  cases c with
  | tickInEdge => exact execTickInEdge_frame hp _ _ _ _ h
  | internalEdge => exact execInternalEdge_frame hp _ _ h
  | ptpDerivedEdge => exact execPtpDerivedEdge_frame hp _ _ h
  | generatorEdge => exact execGeneratorEdge_frame hp _ _ h
  | windowClose => exact execWindowClose_frame hp _ _ h
  | tickInputLost => exact execTickInputLost_frame hp _ _ h
  | tickHoldoverLimit => exact execTickHoldoverLimit_frame hp _ _ h
  | acquireTimeout => exact execAcquireTimeout_frame hp _ _ h
  | switchOverAbandoned => exact execSwitchOverAbandoned_frame hp _ _ h
  | tickSourceRequest => exact execTickSourceRequest_frame hp _ _ _ _ h
  | nominalRateRequest => exact execNominalRateRequest_frame hp _ _ _ _ h
  | jobCompletion => exact execJobCompletion_frame hp _ _ _ _ h
  | budgetCut => exact execBudgetCut_frame hp _ _ _ _ h
  | forceIdr => exact execForceIdr_frame hp _ _ _ _ _ h
  | setTime => exact execSetTime_frame hp _ _ _ _ h
  | ptpSync => exact execPtpSync_frame hp _ _ _ _ _ h
  | ppsInEdge => exact execPpsInEdge_frame hp _ _ _ _ h
  | ppsSecondsMissed => exact execPpsSecondsMissed_frame hp _ _ h
  | timeBaseHoldover => exact execTimeBaseHoldover_frame hp _ _ h
  | timeBaseFreeRun => exact execTimeBaseFreeRun_frame hp _ _ h
  | leapSecond => exact execLeapSecond_frame hp _ _ h
  | rtcWrite => exact execRtcWrite_frame hp _ _ h
  | ptpFollowUp => exact execPtpFollowUp_frame hp _ _ _ _ h
  | ptpAnnounce => exact execPtpAnnounce_frame hp _ _ _ _ h
  | ptpDelayResp => exact execPtpDelayResp_frame hp _ _ _ _ _ h
  | ptpDelayReq => exact execPtpDelayReq_frame hp _ _ h
  | ptpMasterLost => exact execPtpMasterLost_frame hp _ _ h
  | csi2FrameStart => exact execCsi2FrameStart_frame hp _ _ _ _ h
  | csi2LongPacket => exact execCsi2LongPacket_frame hp _ _ _ _ _ _ _ _ _ h
  | csi2FrameEnd => exact execCsi2FrameEnd_frame hp _ _ _ _ h
  | tdmFrame => exact execTdmFrame_frame hp _ _ _ _ _ h
  | spiTransaction => exact execSpiTransaction_frame hp _ _ _ _ _ h
  | drdyTimeout => exact execDrdyTimeout_frame hp _ _ _ _ h
  | rtpPacket => exact execRtpPacket_frame hp _ _ _ _ _ _ h
  | ssrcRelease => exact execSsrcRelease_frame hp _ _ _ _ _ h
  | udpRecordDatagram => exact execUdpRecordDatagram_frame hp _ _ _ _ _ h
  | sampleWord => exact execSampleWord_frame hp _ _ _ _ h
  | tapSilent => exact execTapSilent_frame hp _ _ _ h
  | clearLatches => exact execClearLatches_frame hp _ _ _ _ h
  | bankCommit => exact execBankCommit_frame hp _ _ _ _ h
  | bankSwap => exact execBankSwap_frame hp _ _ h
  | activeBankScrub => exact execActiveBankScrub_frame hp _ _ _ h
  | gclkFault => exact execGclkFault_frame hp _ _ h
  | reseed => exact execReseed_frame hp _ _ h
  | healthWindow => exact execHealthWindow_frame hp _ _ _ h
  | chunkVisible => exact execChunkVisible_frame hp _ _ _ _ _ h
  | translationFault => exact execTranslationFault_frame hp _ _ _ _ _ _ _ h
  | faultResume => exact execFaultResume_frame hp _ _ _ _ h
  | faultAbandon => exact execFaultAbandon_frame hp _ _ _ _ h
  | faultDeadline => exact execFaultDeadline_frame hp _ _ h
  | invalidate => exact execInvalidate_frame hp _ _ _ _ h
  | invalidationCompleted => exact execInvalidationCompleted_frame hp _ _ h
  | sramScrub => exact execSramScrub_frame hp _ _ _ _ h
  | imageLoadFromNor => exact execImageLoadFromNor_frame hp _ _ _ _ h
  | slotHashComplete => exact execSlotHashComplete_frame hp _ _ _ _ h
  | slotReload => exact execSlotReload_frame hp _ _ _ _ _ h
  | queueDoorbell => exact execQueueDoorbell_frame hp _ _ _ _ _ h
  | queueEnable => exact execQueueEnable_frame hp _ _ _ _ h
  | queueDisable => exact execQueueDisable_frame hp _ _ _ _ h
  | queueReset => exact execQueueReset_frame hp _ _ _ _ h
  | completionHeadWrite => exact execCompletionHeadWrite_frame hp _ _ _ _ h
  | runJob => exact execRunJob_frame hp _ _ _ _ h
  | submitUnit => exact execSubmitUnit_frame hp _ _ _ _ _ h
  | fenceWrite => exact execFenceWrite_frame hp _ _ _ h
  | fenceToken => exact execFenceToken_frame hp _ _ _ h
  | nop => exact execNop_frame hp _ _ _ h
  | loadImage => exact execLoadImage_frame hp _ _ _ _ h
  | portTrainStart => exact execPortTrainStart_frame hp _ _ _ h
  | train => exact execTrain_frame hp _ _ _ _ h
  | trainingComplete => exact execTrainingComplete_frame hp _ _ _ h
  | trainTimeout => exact execTrainTimeout_frame hp _ _ _ h
  | ident => exact execIdent_frame hp _ _ _ _ h
  | identTimeout => exact execIdentTimeout_frame hp _ _ _ h
  | refusedTimeout => exact execRefusedTimeout_frame hp _ _ _ h
  | portRetrain => exact execPortRetrain_frame hp _ _ _ h
  | retrainTimeout => exact execRetrainTimeout_frame hp _ _ _ h
  | ack => exact execAck_frame hp _ _ _ _ h
  | nak => exact execNak_frame hp _ _ _ _ h
  | replayTimeout => exact execReplayTimeout_frame hp _ _ _ h
  | blockError => exact execBlockError_frame hp _ _ _ _ h
  | heartbeatInstant => exact execHeartbeatInstant_frame hp _ _ h
  | heartbeat => exact execHeartbeat_frame hp _ _ _ _ h
  | role => exact execRole_frame hp _ _ _ _ h
  | tick => exact execTick_frame hp _ _ _ _ h
  | bye => exact execBye_frame hp _ _ _ _ h
  | write => exact execWrite_frame hp _ _ _ _ h
  | accum => exact execAccum_frame hp _ _ _ _ _ h
  | readReq => exact execReadReq_frame hp _ _ _ _ _ h
  | readData => exact execReadData_frame hp _ _ _ _ h
  | writeAck => exact execWriteAck_frame hp _ _ _ _ h
  | token => exact execToken_frame hp _ _ _ _ h
  | unreach => exact execUnreach_frame hp _ _ _ _ h
  | journal => exact execJournal_frame hp _ _ _ _ h
  | snapshot => exact execSnapshot_frame hp _ _ _ _ h
  | commit => exact execCommit_frame hp _ _ _ _ h
  | replAck => exact execReplAck_frame hp _ _ _ _ h
  | epochAbandoned => exact execEpochAbandoned_frame hp _ _ h
  | startWaitExpiry => exact execStartWaitExpiry_frame hp _ _ h
  | promotionComplete => exact execPromotionComplete_frame hp _ _ h
  | promotionGateTimeout => exact execPromotionGateTimeout_frame hp _ _ h
  | disputedEntered => exact execDisputedEntered_frame hp _ _ h
  | disputedResolved => exact execDisputedResolved_frame hp _ _ h
  | switchOverCommand => exact execSwitchOverCommand_frame hp _ _ _ h
  | resolve => exact execResolve_frame hp _ _ _ h
  | forceActive => exact execForceActive_frame hp _ _ _ h
  | forceStandby => exact execForceStandby_frame hp _ _ _ h
  | requestedRoleWrite => exact execRequestedRoleWrite_frame hp _ _ _ _ h
  | peerRoleInChange => exact execPeerRoleInChange_frame hp _ _ _ h
  | gateOpen => exact execGateOpen_frame hp _ _ h
  | interlockConflict => exact execInterlockConflict_frame hp _ _ h
  | roleKeeperLapse => exact execRoleKeeperLapse_frame hp _ _ h
  | startRemoteNode => exact execStartRemoteNode_frame hp _ _ _ _ h
  | stopRemoteNode => exact execStopRemoteNode_frame hp _ _ _ _ h
  | enterPreOperational => exact execEnterPreOperational_frame hp _ _ _ _ h
  | resetCommunication => exact execResetCommunication_frame hp _ _ _ _ h
  | resetNode => exact execResetNode_frame hp _ _ _ _ _ h
  | duplicateListenEnd => exact execDuplicateListenEnd_frame hp _ _ _ h
  | duplicate => exact execDuplicate_frame hp _ _ _ _ h
  | heartbeatProduction => exact execHeartbeatProduction_frame hp _ _ _ h
  | partnerHeartbeat => exact execPartnerHeartbeat_frame hp _ _ _ _ _ h
  | bootUp => exact execBootUp_frame hp _ _ _ _ h
  | partnerLost => exact execPartnerLost_frame hp _ _ _ _ h
  | partnerForget => exact execPartnerForget_frame hp _ _ _ _ h
  | sync => exact execSync_frame hp _ _ _ h
  | rpdo => exact execRpdo_frame hp _ _ _ _ _ h
  | canRecordFragment => exact execCanRecordFragment_frame hp _ _ _ _ _ h
  | recordReassemblyTimeout => exact execRecordReassemblyTimeout_frame hp _ _ _ _ h
  | errorPassive => exact execErrorPassive_frame hp _ _ _ h
  | busOff => exact execBusOff_frame hp _ _ _ h
  | busOffRecovery => exact execBusOffRecovery_frame hp _ _ _ h
  | releaseHeldOffController => exact execReleaseHeldOffController_frame hp _ _ _ _ _ h
  | busLoadWindow => exact execBusLoadWindow_frame hp _ _ _ _ _ h
  | switchStateGlobal => exact execSwitchStateGlobal_frame hp _ _ _ _ h
  | switchStateSelective => exact execSwitchStateSelective_frame hp _ _ _ _ h
  | configureNodeId => exact execConfigureNodeId_frame hp _ _ _ _ h
  | configureBitTiming => exact execConfigureBitTiming_frame hp _ _ _ _ h
  | activateBitTiming => exact execActivateBitTiming_frame hp _ _ _ h
  | storeConfiguration => exact execStoreConfiguration_frame hp _ _ _ h
  | inquireIdentity => exact execInquireIdentity_frame hp _ _ _ _ h
  | inquireNodeId => exact execInquireNodeId_frame hp _ _ _ h
  | identifyRemoteSlave => exact execIdentifyRemoteSlave_frame hp _ _ _ _ _ _ _ _ _ h
  | identifyNonConfiguredSlave => exact execIdentifyNonConfiguredSlave_frame hp _ _ _ h
  | fastscan => exact execFastscan_frame hp _ _ _ _ _ _ _ h
  | plcaStatusChange => exact execPlcaStatusChange_frame hp _ _ _ h
  | erroredTransmission => exact execErroredTransmission_frame hp _ _ _ h
  | collision => exact execCollision_frame hp _ _ h
  | transmitLimit => exact execTransmitLimit_frame hp _ _ h
  | arp => exact execArp_frame hp _ _ _ _ _ _ _ h
  | icmpEcho => exact execIcmpEcho_frame hp _ _ _ _ _ _ h
  | udpObjectAccess => exact execUdpObjectAccess_frame hp _ _ _ _ _ h
  | objectWrite => exact execObjectWrite_frame hp _ _ _ _ _ h
  | divergencePersisted => exact execDivergencePersisted_frame hp _ _ _ h
  | store => exact execStore_frame hp _ _ _ _ _ h
  | storeComplete => exact execStoreComplete_frame hp _ _ _ h
  | restoreDefaults => exact execRestoreDefaults_frame hp _ _ _ _ _ h
  | domainPortSelect => exact execDomainPortSelect_frame hp _ _ _ h
  | domainPortCommit => exact execDomainPortCommit_frame hp _ _ _ _ h
  | livenessDoorbell => exact execLivenessDoorbell_frame hp _ _ h
  | hostLivenessLapse => exact execHostLivenessLapse_frame hp _ _ h
  | pcieReset => exact execPcieReset_frame hp _ _ h
  | pcieLinkDown => exact execPcieLinkDown_frame hp _ _ h
  | workingModeRequest => exact execWorkingModeRequest_frame hp _ _ _ _ h
  | watchCommand => exact execWatchCommand_frame hp _ _ _ h
  | retainedOffCommand => exact execRetainedOffCommand_frame hp _ _ _ h
  | deferralTimeout => exact execDeferralTimeout_frame hp _ _ h
  | spotterFrameEnd => exact execSpotterFrameEnd_frame hp _ _ _ _ h
  | wakeN => exact execWakeN_frame hp _ _ h
  | rtcWakeTime => exact execRtcWakeTime_frame hp _ _ h
  | railsNotGood => exact execRailsNotGood_frame hp _ _ h
  | wakeRetry => exact execWakeRetry_frame hp _ _ h
  | thermalSample => exact execThermalSample_frame hp _ _ _ h
  | thermalTrip => exact execThermalTrip_frame hp _ _ h
  | monitorSnapshot => exact execMonitorSnapshot_frame hp _ _ _ _ h
  | monitorSnapshotAndClear => exact execMonitorSnapshotAndClear_frame hp _ _ _ _ h
  | monitorClear => exact execMonitorClear_frame hp _ _ _ _ h
  | flush => exact execFlush_frame hp _ _ _ h
  | freeze => exact execFreeze_frame hp _ _ _ h
  | freezeRelease => exact execFreezeRelease_frame hp _ _ _ h
  | freezeTimeout => exact execFreezeTimeout_frame hp _ _ h
  | pwrfailAsserted => exact execPwrfailAsserted_frame hp _ _ h
  | powerRestored => exact execPowerRestored_frame hp _ _ h
  | watchdogService => exact execWatchdogService_frame hp _ _ _ h
  | watchdogExpiry => exact execWatchdogExpiry_frame hp _ _ _ _ h
  | debugHalt => exact execDebugHalt_frame hp _ _ _ h
  | debugResume => exact execDebugResume_frame hp _ _ _ h
  | parityError => exact execParityError_frame hp _ _ _ _ h
  | lifetimeEntry => exact execLifetimeEntry_frame hp _ _ _ h
  | eraseCountWrite => exact execEraseCountWrite_frame hp _ _ _ h
  | powerOnReset => exact execPowerOnReset_frame hp _ _ _ h
  | pinReset => exact execPinReset_frame hp _ _ _ h
  | confirmFirmware => exact execConfirmFirmware_frame hp _ _ _ _ h
  | updateData => exact execUpdateData_frame hp _ _ _ _ h
  | updateCommit => exact execUpdateCommit_frame hp _ _ _ _ h
  | unlock => exact execUnlock_frame hp _ _ _ h
  | lock => exact execLock_frame hp _ _ _ h
  | sealDevice => exact execSealDevice_frame hp _ _ _ h
  | keyBlock => exact execKeyBlock_frame hp _ _ _ _ h
  | retentionLost => exact execRetentionLost_frame hp _ _ h
  | gclkRelock => exact execGclkRelock_frame hp _ _ h
  | faultRingConsumerWrite => exact execFaultRingConsumerWrite_frame hp _ _ _ h
  | canWakeFrame => exact execCanWakeFrame_frame hp _ _ _ _ _ h
  | pwrfailDeasserted => exact execPwrfailDeasserted_frame hp _ _ h
  | hostAssistStageRegistered => exact execHostAssistStageRegistered_frame hp _ _ _ _ h
  | carrierInOwnTo => exact execCarrierInOwnTo_frame hp _ _ h
  | tpdoEventTimer => exact execTpdoEventTimer_frame hp _ _ _ h
  | emergencyInhibitExpiry => exact execEmergencyInhibitExpiry_frame hp _ _ _ h
  | emergencyFrameSent => exact execEmergencyFrameSent_frame hp _ _ _ h
  | coreRailsGood => exact execCoreRailsGood_frame hp _ _ h
  | rtcpSenderReport => exact execRtcpSenderReport_frame hp _ _ _ _ _ h

/-- Settles O59: it holds, command by command. -/
theorem commandFrames : Obligations.command_frames := fun _ _ _ h _ hp => exec_frame h hp

/-! #### The memories -/

theorem not_mem_of_contains {ps : List Part} {p : Part} (h : ps.contains p = false) : p ∉ ps := fun hm => by
  rw [List.contains_iff_mem.mpr hm] at h
  cases h

theorem State.quiet_only_memory (s : State) {p : Part} (hp : p = .sram ∨ p = .dram) :
    (s.quiet.only p).memoryOk = (s.only p).memoryOk := by
  rcases hp with rfl | rfl <;> rfl

/-- The commands that may store to a memory. -/
def mayStore : Instr → Bool
  | .tickInEdge .. | .internalEdge .. | .ptpDerivedEdge .. | .generatorEdge .. | .acquireTimeout ..
  | .chunkVisible .. | .translationFault .. | .faultResume .. | .faultAbandon .. | .heartbeatInstant ..
  | .write .. | .accum .. | .journal .. | .commit .. | .replAck .. | .disputedResolved .. | .resolve ..
  | .forceActive .. | .resetNode .. | .rpdo .. | .udpObjectAccess .. | .objectWrite .. | .domainPortCommit ..
  | .flush .. | .debugResume .. | .parityError .. | .powerOnReset .. | .pinReset .. | .updateCommit ..
  | .coreRailsGood .. => true
  | _ => false

theorem frameOf_of_not_mayStore {c : Instr} (h : mayStore c = false) : Part.sram ∉ frameOf c ∧ Part.dram ∉ frameOf c := by
  cases c with
  | tickInEdge | internalEdge | ptpDerivedEdge | generatorEdge | acquireTimeout | chunkVisible | translationFault
  | faultResume | faultAbandon | heartbeatInstant | write | accum | journal | commit | replAck | disputedResolved
  | resolve | forceActive | resetNode | rpdo | udpObjectAccess | objectWrite | domainPortCommit | flush
  | debugResume | parityError | powerOnReset | pinReset | updateCommit | coreRailsGood => cases h
  | _ => exact ⟨not_mem_of_contains rfl, not_mem_of_contains rfl⟩

theorem exec_store_memory {c : Instr} (hc : mayStore c = true) {s s' : State} {p : Part} (h : exec c s = .next s')
    (hp : p = .sram ∨ p = .dram) (hs : ((s.advance (instantOf c)).only p).memoryOk = true) : (s'.only p).memoryOk = true := by
  cases c with
  | tickInEdge => exact execTickInEdge_memory hp _ _ _ _ h hs
  | internalEdge => exact execInternalEdge_memory hp _ _ h hs
  | ptpDerivedEdge => exact execPtpDerivedEdge_memory hp _ _ h hs
  | generatorEdge => exact execGeneratorEdge_memory hp _ _ h hs
  | acquireTimeout => exact execAcquireTimeout_memory hp _ _ h hs
  | chunkVisible => exact execChunkVisible_memory hp _ _ _ _ _ h hs
  | translationFault => exact execTranslationFault_memory hp _ _ _ _ _ _ _ h hs
  | faultResume => exact execFaultResume_memory hp _ _ _ _ h hs
  | faultAbandon => exact execFaultAbandon_memory hp _ _ _ _ h hs
  | heartbeatInstant => exact execHeartbeatInstant_memory hp _ _ h hs
  | write => exact execWrite_memory hp _ _ _ _ h hs
  | accum => exact execAccum_memory hp _ _ _ _ _ h hs
  | journal => exact execJournal_memory hp _ _ _ _ h hs
  | commit => exact execCommit_memory hp _ _ _ _ h hs
  | replAck => exact execReplAck_memory hp _ _ _ _ h hs
  | disputedResolved => exact execDisputedResolved_memory hp _ _ h hs
  | resolve => exact execResolve_memory hp _ _ _ h hs
  | forceActive => exact execForceActive_memory hp _ _ _ h hs
  | resetNode => exact execResetNode_memory hp _ _ _ _ _ h hs
  | rpdo => exact execRpdo_memory hp _ _ _ _ _ h hs
  | udpObjectAccess => exact execUdpObjectAccess_memory hp _ _ _ _ _ h hs
  | objectWrite => exact execObjectWrite_memory hp _ _ _ _ _ h hs
  | domainPortCommit => exact execDomainPortCommit_memory hp _ _ _ _ h hs
  | flush => exact execFlush_memory hp _ _ _ h hs
  | debugResume => exact execDebugResume_memory hp _ _ _ h hs
  | parityError => exact execParityError_memory hp _ _ _ _ h hs
  | powerOnReset => exact execPowerOnReset_memory hp _ _ _ h hs
  | pinReset => exact execPinReset_memory hp _ _ _ h hs
  | updateCommit => exact execUpdateCommit_memory hp _ _ _ _ h hs
  | coreRailsGood => exact execCoreRailsGood_memory hp _ _ h hs
  | _ => cases hc

/-- Every command keeps the canonical form of each memory: those that may touch one do so by the operations of memory, and the
others leave it. -/
theorem exec_memory {c : Instr} {s s' : State} {p : Part} (h : exec c s = .next s') (hp : p = .sram ∨ p = .dram)
    (hs : ((s.advance (instantOf c)).only p).memoryOk = true) : (s'.only p).memoryOk = true := by
  cases hc : mayStore c with
  | false =>
    obtain ⟨hsram, hdram⟩ := frameOf_of_not_mayStore hc
    rw [← s'.quiet_only_memory hp, exec_frame h (outside hp hsram hdram), State.quiet_only_memory _ hp]
    exact hs
  | true => exact exec_store_memory hc h hp hs

theorem exec_memoryOk {c : Instr} {s s' : State} (hs : s.memoryOk) (h : exec c s = .next s') : s'.memoryOk := by
  obtain ⟨hsram, hdram⟩ := s.memoryOk_iff.mp hs
  exact s'.memoryOk_iff.mpr ⟨exec_memory h (.inl rfl) hsram, exec_memory h (.inr rfl) hdram⟩

/-- Settles O57: it holds. A step is the command at the front of the queue, or none. -/
theorem memoryFormKept : Obligations.memory_form_kept := by
  intro s s' hs h
  unfold step at h
  split at h
  · cases h; exact hs
  · next c r hpend =>
    have hs' : ({ s with pending := r } : State).memoryOk = true := by
      rw [State.memoryOk] at hs ⊢
      exact hs
    exact exec_memoryOk hs' h

/-! #### What a command answers -/

theorem of_ite_some {α : Type} {b : Bool} {o : Option α} {a : α} (h : (if b then o else none) = some a) : b := by
  cases b with
  | false => cases h
  | true => rfl

theorem State.requestHole_coreOn {s : State} {k op perm n a : Nat} {f : LinkFrame} (h : s.requestHole k op perm f n = some a) :
    s.coreOn := by
  unfold State.requestHole at h
  dsimp only at h
  split at h
  · next hc => exact hc.1
  · cases h

/-- A request of the link reaches for memory at an address without any, or has its effect. -/
theorem request_cases (s : State) (k op perm n t : Nat) (f : LinkFrame) (x : State) :
    let r : Result := match s.requestHole k op perm f n with
      | some a => .fault (.noSuchMemory a)
      | none => .next (if s.coreOn then x.settle else s.advance t)
    (∃ x : State, r = .next (if s.coreOn then x.settle else s.advance t)) ∨ (∃ a, r = .fault (.noSuchMemory a)) ∧ s.coreOn := by
  dsimp only
  split
  · next a ha => exact .inr ⟨⟨a, rfl⟩, State.requestHole_coreOn ha⟩
  · exact .inl ⟨x, rfl⟩

/-- A command answers an effect at its instant where what it needs runs, and lets time pass where it does not; or it reaches for
memory at an address without any. -/
theorem exec_cases (c : Instr) (s : State) :
    (∃ x : State, exec c s = .next (if s.runs (runnerOf c) then x.settle else s.advance (instantOf c))) ∨
      ((∃ a, exec c s = .fault (.noSuchMemory a)) ∧ s.coreOn ∧
        match c with
        | .write .. | .accum .. | .readReq .. | .chunkVisible .. | .translationFault .. => True
        | _ => False) := by
  cases c with
  | write t k f => exact (request_cases ..).imp_right fun h => ⟨h.1, h.2, trivial⟩
  | accum t k f ecc => exact (request_cases ..).imp_right fun h => ⟨h.1, h.2, trivial⟩
  | readReq t k f ecc => exact (request_cases ..).imp_right fun h => ⟨h.1, h.2, trivial⟩
  | chunkVisible t i ok data =>
    change (∃ x : State, execChunkVisible t i ok data s = _) ∨ (∃ a, execChunkVisible t i ok data s = _) ∧ _ ∧ True
    unfold execChunkVisible
    split
    · next a ha => exact .inr ⟨⟨a, rfl⟩, of_ite_some ha, trivial⟩
    · exact .inl ⟨_, rfl⟩
  | translationFault t i ch va ac e =>
    change (∃ x : State, execTranslationFault t i ch va ac e s = _) ∨ (∃ a, execTranslationFault t i ch va ac e s = _) ∧ _ ∧ True
    unfold execTranslationFault
    split
    · next a ha =>
      obtain ⟨x, hx, -⟩ := Option.map_eq_some_iff.mp ha
      exact .inr ⟨⟨a, rfl⟩, of_ite_some hx, trivial⟩
    · exact .inl ⟨_, rfl⟩
  | _ => exact .inl ⟨_, rfl⟩

/-- The parts that no command changes: the instant and the queue. -/
theorem frameOf_clock_and_queue (c : Instr) : Part.now ∉ frameOf c ∧ Part.pending ∉ frameOf c := by
  cases c <;> exact ⟨not_mem_of_contains rfl, not_mem_of_contains rfl⟩

theorem exec_now {c : Instr} {s s' : State} (h : exec c s = .next s') : s'.now = max s.now (instantOf c) :=
  congrArg State.now (exec_frame h (frameOf_clock_and_queue c).1)

theorem exec_pending {c : Instr} {s s' : State} (h : exec c s = .next s') : s'.pending = s.pending := by
  have hp := congrArg State.pending (exec_frame h (frameOf_clock_and_queue c).2)
  exact hp

/-- Settles O58: it holds. The instant and the queue are parts outside every frame. -/
theorem everyCommandAnswers : Obligations.every_command_answers := by
  intro c s
  rcases exec_cases c s with ⟨x, h⟩ | ⟨hfault, hcore, hc⟩
  · exact ⟨.inl ⟨_, h, exec_now h, exec_pending h⟩, fun hrun => by rw [h, hrun]; rfl⟩
  · refine ⟨.inr ⟨hfault, hcore, hc⟩, fun hrun => absurd hcore ?_⟩
    cases c with
    | write | accum | readReq | chunkVisible | translationFault => exact Bool.eq_false_iff.mp hrun
    | _ => exact hc.elim

end Sys2Proof.Machine
end

section
/-! ### Objects over the passing of time, one step, and the reset state (O55, O56) -/
namespace Sys2Proof.Machine

/-! #### What the passing of time leaves -/

@[simp] theorem State.advance_obj (s : State) (t k : Nat) : (s.advance t).obj k = s.obj k := rfl
@[simp] theorem State.advance_cfg (s : State) (t k : Nat) : (s.advance t).cfg k = s.cfg k := rfl
@[simp] theorem State.advance_cfgInt (s : State) (t k : Nat) : (s.advance t).cfgInt k = s.cfgInt k := rfl
@[simp] theorem State.advance_flag (s : State) (t k n : Nat) : (s.advance t).flag k n = s.flag k n := rfl
@[simp] theorem State.advance_coreOn (s : State) (t : Nat) : (s.advance t).coreOn = s.coreOn := rfl
@[simp] theorem State.advance_powered (s : State) (t : Nat) : (s.advance t).powered = s.powered := rfl
@[simp] theorem State.advance_working (s : State) (t : Nat) : (s.advance t).working = s.working := rfl

/-! #### One step -/

theorem step_push (s : State) (c : Instr) : step (s.push c) = exec c s := rfl

theorem step_of_pending {s : State} {c : Instr} {r : List Instr} (h : s.pending = c :: r) :
    step s = exec c { s with pending := r } := by
  rw [step, h]

theorem step_of_idle {s : State} (h : s.pending = []) : step s = .next s := by
  rw [step, h]

/-- Settles O55: it holds, by the definition of a step. -/
theorem stepTakesTheFrontCommand : Obligations.step_takes_the_front_command :=
  ⟨step_push, fun _ _ _ => step_of_pending, fun _ => step_of_idle⟩

/-! #### The reset state -/

/-- An empty pre-roll ring shows zeros. -/
theorem windowByte_of_ring_nil {p : PowerSt} (h : p.ring = []) (off : Nat) : p.windowByte off = 0 := by
  have hframe : ∀ slot, p.ringFrame slot = none := fun slot => by rw [PowerSt.ringFrame, h]; rfl
  simp [PowerSt.windowByte, hframe]

theorem reset_readByte {m : Nat} (hm : m ≤ 1) (a : Nat) : State.reset.readByte m a = 0 := by
  rcases (by omega : m = 0 ∨ m = 1) with rfl | rfl
  · simp [State.readByte, State.reset, memRead, windowByte_of_ring_nil]
  · rfl

/-- Settles O56: it holds; the fields are those that `State.reset` names, and what it does not name has its default. -/
theorem resetState : Obligations.reset_state :=
  ⟨rfl, rfl, rfl, rfl, rfl, fun _ => rfl, rfl, rfl, rfl, rfl, fun _ => rfl, fun _ hm a => reset_readByte hm a⟩

end Sys2Proof.Machine
end

section
/-! ### Time base and PTP: steps, losses, measurements and masters (O4, O5, O6, O7) -/
namespace Sys2Proof.Machine

/-! #### What the operations of the time base do to it -/

@[simp] theorem State.observe_time (s : State) (source inst : Nat) (v : Int) : (s.observe source inst v).time = s.time :=
  only_time (State.observe_same (by decide) ..)

@[simp] theorem State.noteCalendar_time (s : State) : s.noteCalendar.time = s.time :=
  only_time (State.noteCalendar_same (by decide) s)

@[simp] theorem State.updateUtc_time (s : State) :
    s.updateUtc.time = { s.time with utc := s.utcChoice.1, origin := s.utcChoice.2 } := by
  simp only [State.updateUtc]
  split
  · rfl
  · rw [State.emit_time]; rfl

/-- A time base with another UTC offset (R48). -/
def TimeSt.withUtc (x : TimeSt) (utc : Int) (origin : Nat) : TimeSt := { x with utc := utc, origin := origin }

/-- A change of state of the time base sets the state, restarts the runs, and may move the UTC offset. -/
theorem State.toBase_time (s : State) (b : BaseState) (code : Nat) : ∃ u o, (s.toBase b code).time =
    { s.time.withUtc u o with state := b, runIn := 0, runOut := 0
                              holdoverAt := if b = .holdover then s.now else s.time.holdoverAt } := by
  exact ⟨_, _, by rw [State.toBase, State.updateUtc_time, State.emit_time]; rfl⟩

/-- What the transitions of the time base leave of it (R44). -/
def TimeSt.sameClock (x y : TimeSt) : Prop :=
  y.dev = x.dev ∧ y.offset = x.offset ∧ y.lastMeas = x.lastMeas ∧ y.lastPps = x.lastPps

theorem State.toBase_sameClock (s : State) (b : BaseState) (code : Nat) : s.time.sameClock (s.toBase b code).time := by
  obtain ⟨u, o, h⟩ := s.toBase_time b code
  rw [h]
  exact ⟨rfl, rfl, rfl, rfl⟩

theorem State.baseTransition_sameClock (s : State) : s.time.sameClock s.baseTransition.time := by
  have hkeep : s.time.sameClock s.time := ⟨rfl, rfl, rfl, rfl⟩
  unfold State.baseTransition
  split
  · split
    · exact s.toBase_sameClock ..
    · exact hkeep
  · split
    · exact s.toBase_sameClock ..
    · exact hkeep

/-- The offset of a step that takes effect is the measured one still. -/
theorem State.takeStep_offset (s : State) (p : PendingStep) : (s.takeStep p).time.offset = s.time.offset := by
  cases p <;> simp only [State.takeStep, State.noteCalendar_time, State.emit_time] <;> rfl

theorem State.stepDue_offset (s : State) (p : PendingStep) : (s.stepDue p).time.offset = s.time.offset := by
  unfold State.stepDue
  split
  · rfl
  · exact s.takeStep_offset p

/-- The state behind the counting of a measurement and its transition (R44). -/
def State.counted (s : State) (off : Int) : State :=
  ((s.onTime fun x => x.count off (s.cfg 0x230007) (s.cfg 0x230008) s.now).observe 9 0 off).baseTransition

/-- A measurement is counted; behind that it slews, steps, or does nothing yet (R45, R46). -/
theorem State.measure_cases (s : State) (off : Int) (sets : Bool) : s.measure off sets = s.counted off ∨
    s.measure off sets = (s.counted off).stepDue (.amount (-off) sets) ∨ s.measure off sets = (s.counted off).slew off := by
  unfold State.measure
  dsimp only
  split
  · split
    · exact .inr (.inl rfl)
    · exact .inl rfl
  · exact .inr (.inr rfl)

theorem State.measure_eq_slew {s : State} {off : Int} (sets : Bool) (h : off.natAbs ≤ s.cfg 0x230008) :
    s.measure off sets = (s.counted off).slew off := by
  unfold State.measure
  rw [if_neg (Nat.not_lt.mpr h)]
  rfl

theorem State.slew_time (s : State) (off : Int) :
    (s.slew off).time = { s.time with freq := clamp (-500000) 500000 (Config.servo s.free off) } := rfl

theorem State.counted_time (s : State) (off : Int) : (s.counted off).time.dev = s.time.dev ∧
    (s.counted off).time.offset = off ∧ (s.counted off).time.lastMeas = s.now ∧ (s.counted off).time.lastPps = s.time.lastPps := by
  obtain ⟨hdev, hoff, hmeas, hpps⟩ := State.baseTransition_sameClock
    ((s.onTime fun x => x.count off (s.cfg 0x230007) (s.cfg 0x230008) s.now).observe 9 0 off)
  rw [State.observe_time] at hdev hoff hmeas hpps
  rw [State.counted]
  exact ⟨hdev, hoff, hmeas, hpps⟩

theorem State.measure_offset (s : State) (off : Int) (sets : Bool) : (s.measure off sets).time.offset = off := by
  obtain ⟨-, hoff, -, -⟩ := s.counted_time off
  rcases s.measure_cases off sets with h | h | h <;> rw [h]
  · exact hoff
  · rw [State.stepDue_offset, hoff]
  · rw [State.slew_time]
    dsimp only
    exact hoff

/-- A measurement within the step limit slews: device time goes on, at a frequency within ±500 ppm (R45). -/
theorem State.measure_of_small {s : State} {off : Int} (sets : Bool) (h : off.natAbs ≤ s.cfg 0x230008) :
    (s.measure off sets).time.dev = s.time.dev ∧ (s.measure off sets).time.lastMeas = s.now ∧
      (s.measure off sets).time.lastPps = s.time.lastPps ∧
      -500000 ≤ (s.measure off sets).time.freq ∧ (s.measure off sets).time.freq ≤ 500000 := by
  obtain ⟨hdev, -, hmeas, hpps⟩ := s.counted_time off
  rw [State.measure_eq_slew sets h, State.slew_time]
  dsimp only
  refine ⟨hdev, hmeas, hpps, ?_⟩
  unfold clamp
  omega

@[simp] theorem State.measure_ptp (s : State) (off : Int) (sets : Bool) : (s.measure off sets).ptp = s.ptp :=
  only_ptp (State.measure_same (by decide) ..)

@[simp] theorem State.takeStep_tick (s : State) (p : PendingStep) : (s.takeStep p).tick = s.tick :=
  only_tick (State.takeStep_same (by decide) ..)

/-- A pulse of 100 ns or more passes the pad (R605, R616). -/
theorem State.padPasses_of_long (s : State) {pulse : Nat} (h : 100 ≤ pulse) : s.padPasses pulse = (true, s) := by
  rw [State.padPasses, if_neg (by omega), if_pos h]

/-! #### Time written, measured, stepped and kept (O4) -/

theorem State.stepDue_target_started {s : State} (h : s.tick.started = true) (v : Nat) :
    (s.stepDue (.target v)).time = { s.time with pending := some (.target v) } := by
  rw [State.stepDue, if_pos h]
  rfl

/-- Before the first accepted edge a written time takes effect at once, and is written to the RTC (R46, R47, R50). -/
theorem State.stepDue_target_unstarted {s : State} (h : s.tick.started = false) (v : Nat) :
    (s.stepDue (.target v)).time = (s.time.step ((v : Int) - s.time.dev) true).writeRtc s.now := by
  rw [State.stepDue, if_neg (by simp [h])]
  simp only [State.takeStep, State.onTick_time, State.noteCalendar_time, State.emit_time]
  rfl

theorem TimeSt.step_to_dev (x : TimeSt) {v : Nat} (hv : v < 2 ^ 64) : (x.step ((v : Int) - x.dev) true).dev = v := by
  change ((x.dev : Int) + ((v : Int) - x.dev)).toNat % 2 ^ 64 = v
  omega

theorem setTime_steps (s : State) (t : Nat) (p : Path) (v : Nat) (hcore : s.coreOn) (hv : v < 2 ^ 64)
    (hmay : s.mayWrite t p 0x230105 v) : answers (.setTime t p v) s fun s' =>
      (s.tick.started = true → s'.time = { (s.advance t).time with pending := some (.target v) }) ∧
      (s.tick.started = false → s'.time.dev = v ∧ s'.time.epoch = s.time.epoch + 1 ∧ s'.time.calendar = true ∧
        s'.time.rtcSec = v / second ∧ s'.time.rtcFrac = v % second * 32768 / second ∧ s'.time.rtcValid = true) := by
  refine answers_controlledNum rfl hcore hmay ?_
  generalize hw : (s.advance t).acceptWrite p 0x230105 _ = w
  have htick : w.tick = s.tick := by rw [← hw, State.acceptWrite_tick, State.advance_tick]
  have htime : w.time = (s.advance t).time := by rw [← hw, State.acceptWrite_time]
  rw [State.settle_time]
  constructor
  · intro h
    rw [State.stepDue_target_started (by rw [htick, h]), htime]
  · intro h
    rw [State.stepDue_target_unstarted (by rw [htick, h]), htime]
    have hdev := (s.advance t).time.step_to_dev hv
    exact ⟨hdev, rfl, Bool.or_true _, congrArg (· / second) hdev, congrArg (· % second * 32768 / second) hdev, rfl⟩

theorem exec_ppsInEdge (t : Nat) (rising : Bool) (pulse : Nat) (s : State) :
    exec (.ppsInEdge t rising pulse) s = whenPowered t (fun s =>
      if rising = (s.cfg 0x23000D == 0) ∧ (s.padPasses pulse).1 then (s.padPasses pulse).2.ppsEdge
      else (s.padPasses pulse).2) s := rfl

theorem ppsInEdge_measures (s : State) (t pulse : Nat) (c : Int) (hpow : s.powered) (hpol : s.cfg 0x23000D = 0)
    (hpulse : 100 ≤ pulse) (hsrc : s.time.source = 2) (hc : c = (s.advance t).time.dev - s.cfgInt 0x23000E)
    (hsmall : (c - nearestSecond c).natAbs ≤ s.cfg 0x230008) :
    answers (.ppsInEdge t true pulse) s fun s' => s'.time.lastPps = nearestSecond c ∧ s'.time.offset = c - nearestSecond c ∧
      s'.time.lastMeas = max s.now t ∧ s'.time.dev = (s.advance t).time.dev ∧ -500000 ≤ s'.time.freq ∧
      s'.time.freq ≤ 500000 := by
  refine answers_powered (exec_ppsInEdge ..) hpow ?_
  have hpol' : (s.advance t).cfg 0x23000D = 0 := hpol
  simp only [State.padPasses_of_long _ hpulse, hpol']
  rw [if_pos ⟨rfl, trivial⟩]
  have hedge : (s.advance t).ppsEdge =
      ((s.advance t).onTime fun x => { x with lastPps := nearestSecond c }).measure (c - nearestSecond c) false := by
    have hsrc' : (s.advance t).time.source = 2 := hsrc
    rw [State.ppsEdge, if_pos hsrc', hc]
    rfl
  rw [hedge, State.settle_time]
  obtain ⟨hdev, hmeas, hpps, hfreq⟩ := State.measure_of_small
    (s := (s.advance t).onTime fun x => { x with lastPps := nearestSecond c }) false hsmall
  exact ⟨hpps, State.measure_offset .., hmeas, hdev, hfreq⟩

theorem leapSecond_adjusts (s : State) (t : Nat) (hpow : s.powered) (hdue : (s.advance t).leapDue) :
    answers (.leapSecond t) s fun s' => s'.time.leapAdj = s.time.leapAdj + s.time.leapPending ∧ s'.time.leapPending = 0 ∧
      s'.time.dev = (s.advance t).time.dev := by
  refine answers_powered rfl hpow ?_
  rw [if_pos hdue, State.settle_time, State.updateUtc_time]
  exact ⟨rfl, rfl, rfl⟩

theorem Option.all_of_forall {α : Type} {o : Option α} {p : α → Prop} [DecidablePred p] (h : ∀ i, o = some i → p i) :
    o.all (fun i => decide (p i)) = true := by
  cases o with
  | none => rfl
  | some i => exact decide_eq_true (h i rfl)

theorem rtcWrite_writes (s : State) (t : Nat) (hpow : s.powered) (hlock : s.time.state = .locked)
    (hlast : ∀ i, s.time.lastRtc = some i → i + second ≤ max s.now t) :
    answers (.rtcWrite t) s fun s' => s'.time = (s.advance t).time.writeRtc (max s.now t) := by
  refine answers_powered rfl hpow ?_
  have hcond : (s.advance t).time.state = .locked ∧
      (s.advance t).time.lastRtc.all (fun i => decide (i + second ≤ (s.advance t).now)) = true :=
    ⟨hlock, Option.all_of_forall hlast⟩
  rw [if_pos hcond, State.settle_time]
  rfl

/-- Settles O4: it holds. A written time waits or steps by whether an edge was accepted; a small offset slews. -/
theorem timeBaseFollowsItsSource : Obligations.time_base_follows_its_source :=
  ⟨setTime_steps, ppsInEdge_measures, leapSecond_adjusts, rtcWrite_writes⟩

/-! #### The time base without its source (O5) -/

theorem ppsSecondsMissed_holds_over (s : State) (t : Nat) (hpow : s.powered) (hmiss : (s.advance t).ppsMissed)
    (hsrc : s.time.source = 2) (hlock : s.time.state = .locked) : answers (.ppsSecondsMissed t) s fun s' =>
      s'.time.state = .holdover ∧ s'.time.holdoverAt = max s.now t := by
  refine answers_powered rfl hpow ?_
  have hno : ¬ ((s.advance t).time.source = 3 ∧ (s.advance t).time.actual = 3) := by
    simp [State.advance_time, hsrc]
  have hyes : (s.advance t).time.source = 2 ∧ (s.advance t).time.state = .locked := ⟨hsrc, hlock⟩
  obtain ⟨u, o, h⟩ := (s.advance t).toBase_time .holdover 0x200A
  rw [if_pos hmiss, if_neg hno, if_pos hyes, State.settle_time, h]
  exact ⟨rfl, rfl⟩

theorem ppsSecondsMissed_falls_back (s : State) (t : Nat) (hpow : s.powered) (hmiss : (s.advance t).ppsMissed)
    (hsrc : s.time.source = 3) (hact : s.time.actual = 3) : answers (.ppsSecondsMissed t) s fun s' =>
      s'.time.actual = 1 ∧ s'.time.state = s.time.state ∧ s'.time.runIn = 0 := by
  refine answers_powered rfl hpow ?_
  have hyes : (s.advance t).time.source = 3 ∧ (s.advance t).time.actual = 3 := ⟨hsrc, hact⟩
  have hne : ¬ 1 = (s.advance t).time.actual := by simp [State.advance_time, hact]
  rw [if_pos hmiss, if_pos hyes, State.setActualSource, if_neg hne, State.settle_time, State.updateUtc_time]
  exact ⟨rfl, rfl, rfl⟩

theorem timeBaseHoldover_holds_over (s : State) (t : Nat) (hpow : s.powered) (hlock : s.time.state = .locked)
    (hact : s.time.actual = 1) (hlast : s.time.lastMeas + 3 * second ≤ max s.now t) :
    answers (.timeBaseHoldover t) s fun s' => s'.time.state = .holdover ∧ s'.time.holdoverAt = max s.now t := by
  refine answers_powered rfl hpow ?_
  have hcond : (s.advance t).time.state = .locked ∧ (s.advance t).time.actual = 1 ∧
      (s.advance t).time.lastMeas + 3 * second ≤ (s.advance t).now := ⟨hlock, hact, hlast⟩
  obtain ⟨u, o, h⟩ := (s.advance t).toBase_time .holdover 0x200A
  rw [if_pos hcond, State.settle_time, h]
  exact ⟨rfl, rfl⟩

theorem timeBaseFreeRun_runs_free (s : State) (t : Nat) (hpow : s.powered) (hhold : s.time.state = .holdover)
    (hlast : s.time.holdoverAt + s.cfg 0x230009 * second ≤ max s.now t) :
    answers (.timeBaseFreeRun t) s fun s' => s'.time.state = .freeRun ∧ s'.time.holdoverAt = s.time.holdoverAt := by
  refine answers_powered rfl hpow ?_
  have hcond : (s.advance t).time.state = .holdover ∧
      (s.advance t).time.holdoverAt + (s.advance t).cfg 0x230009 * second ≤ (s.advance t).now := ⟨hhold, hlast⟩
  obtain ⟨u, o, h⟩ := (s.advance t).toBase_time .freeRun 0x200B
  rw [if_pos hcond, State.settle_time, h]
  exact ⟨rfl, rfl⟩

theorem exec_retentionLost (t : Nat) (s : State) :
    exec (.retentionLost t) s = always t (fun s => s.onTime fun x => { x with retentionLost := true }) s := rfl

theorem retentionLost_is_noted (s : State) (t : Nat) : answers (.retentionLost t) s fun s' =>
    s'.time = { (s.advance t).time with retentionLost := true } :=
  answers_always (exec_retentionLost t s) (by rw [State.settle_time]; rfl)

/-- Settles O5: it holds; every loss but that of the backup rail is a change of state or of the actual source. -/
theorem timeBaseLost : Obligations.time_base_lost :=
  ⟨ppsSecondsMissed_holds_over, ppsSecondsMissed_falls_back, timeBaseHoldover_holds_over, timeBaseFreeRun_runs_free,
    retentionLost_is_noted⟩

/-! #### PTP messages (O6) -/

/-- A message of the domain in force reaches the port (R448). -/
theorem answers_ptpMessage {c : Instr} {t : Nat} {h : PtpHeader} {f : State → State} {s : State} {P : State → Prop}
    (hc : exec c s = whenCore t (fun s => s.ptpMessage h f) s) (hcore : s.coreOn) (hours : s.ptpOurs h = true)
    (hspec : h.specific = 0) (hp : P (f (s.advance t)).settle) : answers c s P := by
  refine answers_core hc hcore ?_
  have hours' : (s.advance t).ptpOurs h = true := hours
  rw [State.ptpMessage, if_neg (by simp [hours']), if_neg (by simp [hspec])]
  exact hp

/-- A Sync result is kept, and measures the offset from the origin and the path delay (R449). -/
theorem State.syncResult_measures (s : State) (t1 t2 : Nat) :
    (s.syncResult t1 t2).ptp = { s.ptp with last := some (t1, t2) } ∧
    ∀ d, s.ptp.delay = some d → s.time.source = 1 → s.time.actual = 1 →
      (s.syncResult t1 t2).time.offset = (t2 : Int) - (t1 + d : Nat) := by
  cases hd : s.ptp.delay with
  | none =>
    refine ⟨?_, fun d h => by cases h⟩
    simp [State.syncResult, hd]
  | some d =>
    have heq : s.syncResult t1 t2 =
        (s.onPtp fun x => { x with last := some (t1, t2) }).ptpMeasure ((t2 : Int) - ((t1 : Int) + d)) := by
      simp [State.syncResult, hd]
    rw [heq]
    constructor
    · unfold State.ptpMeasure
      dsimp only
      split
      · split <;> simp
      · rfl
    · rintro d' hd' hsrc hact
      cases hd'
      simp only [State.ptpMeasure, State.onPtp_time, hsrc, hact, true_or, if_true, State.measure_offset]
      omega

theorem ptpSync_one_step (s : State) (t : Nat) (h : PtpHeader) (origin : Nat) (hcore : s.coreOn)
    (hours : s.ptpOurs h = true ∧ h.specific = 0) (hfrom : s.fromMaster h) :
    answers (.ptpSync t h false origin) s fun s' => s'.ptp.last = some (origin, (s.advance t).time.dev) ∧
      ∀ d, s.ptp.delay = some d → s.time.source = 1 → s.time.actual = 1 →
        s'.time.offset = ((s.advance t).time.dev : Int) - (origin + d : Nat) := by
  refine answers_ptpMessage rfl hcore hours.1 hours.2 ?_
  have hfrom' : (s.advance t).fromMaster h = true := hfrom
  obtain ⟨hptp, hoff⟩ := (s.advance t).syncResult_measures origin (s.advance t).time.dev
  rw [if_pos hfrom', if_neg Bool.false_ne_true, State.settle_time, State.settle_ptp, hptp]
  exact ⟨rfl, hoff⟩

theorem ptpSync_two_step (s : State) (t : Nat) (h : PtpHeader) (origin : Nat) (hcore : s.coreOn)
    (hours : s.ptpOurs h = true ∧ h.specific = 0) (hfrom : s.fromMaster h) :
    answers (.ptpSync t h true origin) s fun s' =>
      s'.ptp = { s.ptp with waiting := some (h.seq, (s.advance t).time.dev) } := by
  refine answers_ptpMessage rfl hcore hours.1 hours.2 ?_
  have hfrom' : (s.advance t).fromMaster h = true := hfrom
  rw [if_pos hfrom', if_pos rfl, State.settle_ptp]
  rfl

theorem ptpFollowUp_completes (s : State) (t : Nat) (h : PtpHeader) (origin t2 : Nat) (hcore : s.coreOn)
    (hours : s.ptpOurs h = true ∧ h.specific = 0) (hfrom : s.fromMaster h) (hwait : s.ptp.waiting = some (h.seq, t2)) :
    answers (.ptpFollowUp t h origin) s fun s' => s'.ptp.last = some (origin, t2) ∧ s'.ptp.waiting = none ∧
      ∀ d, s.ptp.delay = some d → s.time.source = 1 → s.time.actual = 1 → s'.time.offset = (t2 : Int) - (origin + d : Nat) := by
  refine answers_ptpMessage rfl hcore hours.1 hours.2 ?_
  have hcond : (s.advance t).fromMaster h = true ∧ True := ⟨hfrom, trivial⟩
  obtain ⟨hptp, hoff⟩ := ((s.advance t).onPtp fun x => { x with waiting := none }).syncResult_measures origin t2
  simp only [State.advance_ptp, hwait]
  rw [if_pos hcond, State.settle_time, State.settle_ptp, hptp]
  exact ⟨rfl, rfl, hoff⟩

theorem ptpDelayReq_is_sent (s : State) (t : Nat) (hcore : s.coreOn) (hmaster : s.ptp.chosen.isSome)
    (hdue : s.ptp.reqAt ≤ max s.now t) : answers (.ptpDelayReq t) s fun s' => .delayReq s.ptp.reqSeq ∈ s'.out ∧
      s'.ptp.req = some (s.ptp.reqSeq, (s.advance t).time.dev) ∧
      s'.ptp.reqAt = max s.now t + logSeconds s.ptp.logInterval := by
  refine answers_core rfl hcore ?_
  have hcond : (s.advance t).ptp.chosen.isSome = true ∧ (s.advance t).ptp.reqAt ≤ (s.advance t).now := ⟨hmaster, hdue⟩
  rw [if_pos hcond, State.settle_ptp]
  exact ⟨State.settle_out_mem (State.sent ..), rfl, rfl⟩

theorem ptpDelayResp_gives_delay (s : State) (t : Nat) (h : PtpHeader) (t1 t2 t3 t4 : Nat) (n : Int) (hcore : s.coreOn)
    (hours : s.ptpOurs h = true ∧ h.specific = 0) (hfrom : s.fromMaster h) (hreq : s.ptp.req = some (h.seq, t3))
    (hlast : s.ptp.last = some (t1, t2)) : answers (.ptpDelayResp t h t4 n) s fun s' =>
      s'.ptp = { s.ptp with delay := some ((((t2 : Int) - t1) + ((t4 : Int) - t3)) / 2).toNat, req := none, logInterval := n } := by
  refine answers_ptpMessage rfl hcore hours.1 hours.2 ?_
  have hcond : (s.advance t).fromMaster h = true ∧ True := ⟨hfrom, trivial⟩
  simp only [State.advance_ptp, hreq, hlast]
  rw [if_pos hcond, State.settle_ptp, State.onPtp_ptp, State.advance_ptp, hlast]

/-- Settles O6: it holds. -/
theorem ptpMeasures : Obligations.ptp_measures :=
  ⟨ptpSync_one_step, ptpSync_two_step, ptpFollowUp_completes, ptpDelayReq_is_sent, ptpDelayResp_gives_delay⟩

/-! #### The master (O7) -/

theorem bestMaster_cons_isSome (m : Master) (l : List Master) : ∃ b, bestMaster (m :: l) = some b := by
  unfold bestMaster
  split <;> exact ⟨_, rfl⟩

/-- The best master becomes the chosen one, and its announced UTC offset is taken (R449). -/
theorem State.chooseMaster_best {s : State} {m : Master} (h : bestMaster s.ptp.masters = some m) :
    s.chooseMaster.ptp.masters = s.ptp.masters ∧ s.chooseMaster.ptp.chosen = some m.clock ∧
      (m.ann.utcValid → s.chooseMaster.time.masterUtc = some m.ann.utcOffset) := by
  obtain ⟨x, hx, hmasters, hchosen⟩ : ∃ x : State, s.chooseMaster = x.takeAnnounce m.ann ∧
      x.ptp.masters = s.ptp.masters ∧ x.ptp.chosen = some m.clock := by
    refine ⟨_, by rw [State.chooseMaster, h], ?_⟩
    split
    · next hc => exact ⟨rfl, hc⟩
    · simp only [State.emit_ptp, State.incr_ptp]; exact ⟨rfl, rfl⟩
  have hptp : (x.takeAnnounce m.ann).ptp = x.ptp := only_ptp (State.takeAnnounce_same (by decide) ..)
  rw [hx, hptp]
  refine ⟨hmasters, hchosen, fun hvalid => ?_⟩
  rw [State.takeAnnounce, State.updateUtc_time]
  exact if_pos hvalid

theorem ptpAnnounce_chooses_best (s : State) (t : Nat) (h : PtpHeader) (a : Announce) (hcore : s.coreOn) (hours : s.ptpOurs h)
    (hspec : h.specific = 0) : answers (.ptpAnnounce t h a) s fun s' =>
      s'.ptp.masters = ⟨h.clock, a, max s.now t⟩ :: s.ptp.masters.filter (fun m => m.clock != h.clock && !m.expired (max s.now t)) ∧
      s'.ptp.chosen = (bestMaster s'.ptp.masters).map (·.clock) ∧
      ∀ m, bestMaster s'.ptp.masters = some m → m.ann.utcValid → s'.time.masterUtc = some m.ann.utcOffset := by
  refine answers_ptpMessage rfl hcore hours hspec ?_
  generalize hx : ((s.advance t).onPtp _) = x
  have hlist : x.ptp.masters =
      ⟨h.clock, a, max s.now t⟩ :: s.ptp.masters.filter (fun m => m.clock != h.clock && !m.expired (max s.now t)) := by
    rw [← hx]; rfl
  obtain ⟨b, hb⟩ := bestMaster_cons_isSome ⟨h.clock, a, max s.now t⟩
    (s.ptp.masters.filter (fun m => m.clock != h.clock && !m.expired (max s.now t)))
  rw [← hlist] at hb
  obtain ⟨hmasters, hchosen, hutc⟩ := State.chooseMaster_best hb
  rw [State.settle_ptp, State.settle_time, hmasters, hchosen, hb]
  exact ⟨hlist, rfl, fun m hm hvalid => by cases hm; exact hutc hvalid⟩

theorem ptpMasterLost_leaves_none (s : State) (t : Nat) (hcore : s.coreOn) (hmaster : s.ptp.chosen.isSome)
    (hexp : ∀ m ∈ s.ptp.masters, m.expired (max s.now t)) : answers (.ptpMasterLost t) s fun s' =>
      s'.ptp.chosen = none ∧ s'.ptp.masters = [] ∧ s'.time.masterUtc = none := by
  refine answers_core rfl hcore ?_
  have hcond : (s.advance t).ptp.chosen.isSome = true ∧
      (s.advance t).ptp.masters.all (·.expired (s.advance t).now) = true := ⟨hmaster, List.all_eq_true.mpr hexp⟩
  rw [if_pos hcond, State.settle_ptp, State.settle_time, State.emit_ptp, State.emit_time, State.updateUtc_time,
    only_ptp (State.updateUtc_same (by decide) _)]
  exact ⟨rfl, rfl, rfl⟩

/-- Settles O7: it holds. -/
theorem ptpMaster : Obligations.ptp_master := ⟨ptpAnnounce_chooses_best, ptpMasterLost_leaves_none⟩

end Sys2Proof.Machine
end

section
/-! ### The tick source: losses, expected edges and accepted ones (O2, O1) -/
namespace Sys2Proof.Machine

/-! #### A lost input, and a switch-over without an edge (O2) -/

theorem State.lastEdge_of_some {s : State} {e : Nat} (h : s.tick.lastEdge = some e) : s.lastEdge = e := by
  rw [State.lastEdge, h, Option.getD_some]

theorem State.loseInput_tick (s : State) : s.loseInput.tick = { s.tick with
    state := .holdover, holdoverAt := s.now, genPeriod := s.tick.holdoverPeriod, genNominal := false
    genNext := some (s.lastEdge + 2 * s.tick.holdoverPeriod) } := by
  rw [State.loseInput, State.emit_tick]
  rfl

theorem State.loseInput_obj (s : State) : s.loseInput.obj 0x23020D = (s.obj 0x23020D + 1) % 2 ^ 32 := by
  rw [State.loseInput, State.emit_obj _ _ _ _ (by decide) (by decide), State.incr_obj_same]
  rfl

theorem tickInputLost_holds_over (s : State) (t e : Nat) (hpow : s.powered) (hsrc : s.tick.source = .tickIn)
    (hstate : s.tick.state = .locked) (hswitch : s.tick.switch = none) (hedge : s.tick.lastEdge = some e)
    (hlate : 2 * e + 3 * s.tick.period ≤ 2 * max s.now t) :
    answers (.tickInputLost t) s fun s' => s'.tick.state = .holdover ∧ s'.tick.holdoverAt = max s.now t ∧
      s'.tick.genNext = some (e + 2 * s.tick.holdoverPeriod) ∧ s'.tick.count = s.tick.count ∧
      s'.obj 0x23020D = (s.obj 0x23020D + 1) % 2 ^ 32 := by
  refine answers_powered rfl hpow ?_
  have hlast : (s.advance t).lastEdge = e := State.lastEdge_of_some hedge
  rw [if_pos ⟨hsrc, hstate, hswitch, by rw [hlast]; exact hlate⟩, State.settle_tick, State.loseInput_tick,
    State.settle_obj _ (by decide) (by decide), State.loseInput_obj, hlast]
  exact ⟨rfl, rfl, rfl, rfl, rfl⟩

theorem tickHoldoverLimit_runs_free (s : State) (t : Nat) (hpow : s.powered) (hstate : s.tick.state = .holdover)
    (hswitch : s.tick.switch = none) (hlate : s.tick.holdoverAt + s.cfg 0x230206 * second ≤ max s.now t) :
    answers (.tickHoldoverLimit t) s fun s' => s'.tick = { s.tick with state := .freeRun } := by
  refine answers_powered rfl hpow ?_
  have hdue : (s.advance t).tick.holdoverAt + (s.advance t).cfg 0x230206 * second ≤ (s.advance t).now := hlate
  rw [if_pos ⟨hstate, hswitch, hdue⟩, State.settle_tick, State.emit_tick]
  rfl

theorem State.abandonSwitch_tick (s : State) (x : SwitchOver) : (s.abandonSwitch x).tick = { s.tick.remeasure with
    switch := none, genPeriod := s.tick.period, genNext := some s.gridResumes
    state := if x.was = .locked then .holdover else x.was
    holdoverAt := if x.was = .locked then s.now else s.tick.holdoverAt } := by
  rw [State.abandonSwitch, State.emit_tick]
  split
  · rw [State.emit_tick]; rfl
  · rfl

theorem switchOverAbandoned_resumes (s : State) (t e : Nat) (x : SwitchOver) (hpow : s.powered) (hswitch : s.tick.switch = some x)
    (hedge : s.tick.lastEdge = some e) (hlate : 2 * e + 3 * x.pl ≤ 2 * max s.now t)
    (hqual : 2 * x.qualAt + 3 * x.period ≤ 2 * max s.now t) :
    answers (.switchOverAbandoned t) s fun s' => s'.tick.switch = none ∧ s'.tick.source = s.tick.source ∧
      s'.tick.state = (if x.was = .locked then .holdover else x.was) ∧ s'.tick.genNext.isSome := by
  have hexec : exec (.switchOverAbandoned t) s = execSwitchOverAbandoned t s := rfl
  refine answers_powered hexec hpow ?_
  have hlimit : (s.advance t).switchLimit x ≤ 2 * (s.advance t).now := by
    rw [State.switchLimit, State.lastEdge_of_some (s := s.advance t) hedge]
    exact Nat.max_le.mpr ⟨hlate, hqual⟩
  rw [State.advance_tick, hswitch]
  dsimp only
  rw [if_pos hlimit, State.settle_tick, State.abandonSwitch_tick]
  exact ⟨rfl, rfl, rfl, rfl⟩

/-! #### An expected edge that passes (O2) -/

theorem State.addStalls_obj (s : State) (old new : List Nat) {k : Nat} (hk : ∀ i < 6, k ≠ 0x220401 + i) :
    (s.addStalls old new).obj k = s.obj k := by
  unfold State.addStalls
  refine List.foldlRecOn (motive := fun s' => State.obj s' k = s.obj k) _ _ rfl fun s' ih i hi => ?_
  rw [State.incr_obj_ne _ _ (hk i (List.mem_range.mp hi)), ih]

theorem State.drawStalls_od (s : State) (n : Nat) : (s.drawStalls n).2.od = s.od :=
  only_od (State.drawStalls_same (by decide) ..)

/-- An overrun writes objects of its own (R34). -/
theorem State.overrun_missed (s : State) (r : Run) (edge : Nat) : (s.overrun r edge).1.obj 0x220005 = s.obj 0x220005 := by
  have hod : ((s.drawStalls 6).2.draw 13).2.obj 0x220005 = s.obj 0x220005 := State.obj_congr (s.drawStalls_od 6) _
  have hset (u : State) (k v : Nat) (hk : 0x220005 ≠ k) : (u.setObj k v).obj 0x220005 = u.obj 0x220005 :=
    State.setObj_obj_ne _ _ hk
  unfold State.overrun
  dsimp only
  split <;>
  simp only [State.breach, State.emit_obj _ _ _ _ (show 0x220005 ≠ 0x290104 by decide) (show 0x220005 ≠ 0x290204 by decide),
    hset _ 0x220306 _ (by decide), hset _ 0x220304 _ (by decide), hset _ 0x220305 _ (by decide),
    State.incr_obj_ne _ _ (show 0x220005 ≠ 0x220301 by decide), State.incr_obj_ne _ _ (show 0x220005 ≠ 0x220303 by decide),
    State.addStalls_obj _ _ _ (show ∀ i < 6, 0x220005 ≠ 0x220401 + i by decide), hod]

@[simp] theorem State.overrun_head (s : State) (r : Run) (edge : Nat) : (s.overrun r edge).1.head = s.head :=
  only_head (State.overrun_same (by decide) ..)

@[simp] theorem State.overrun_tick (s : State) (r : Run) (edge : Nat) : (s.overrun r edge).1.tick = s.tick :=
  only_tick (State.overrun_same (by decide) ..)

theorem State.overrun_run (s : State) (r : Run) (edge : Nat) :
    (s.overrun r edge).2.overran = true ∧ (s.overrun r edge).2.rid = r.rid := ⟨rfl, rfl⟩

theorem State.hostResult_running (s : State) (r : Run) (late : Bool) : (s.hostResult r late).head.running = s.head.running := by
  unfold State.hostResult
  split
  · rfl
  · split <;> rfl

/-- Every running job overran, but for those that stand in a list still. -/
def State.overranBut (s : State) (rest : List Run) : Prop :=
  ∀ r ∈ s.head.running, r.overran ∨ r.rid ∈ rest.map (·.rid)

theorem State.overranBut_step {s : State} {r : Run} {rest : List Run} (h : s.overranBut (r :: rest)) (edge : Nat) :
    (((s.overrun r edge).1.setRun (s.overrun r edge).2).hostResult r true).overranBut rest := by
  intro x hx
  obtain ⟨hover, hrid⟩ := s.overrun_run r edge
  rw [State.hostResult_running] at hx
  obtain ⟨y, hy, rfl⟩ := List.mem_map.mp hx
  rw [State.overrun_head] at hy
  split
  · exact .inl hover
  next hne =>
    rcases h y hy with h | h
    · exact .inl h
    · rw [List.map_cons, List.mem_cons] at h
      exact .inr (h.resolve_left (hrid ▸ hne))

theorem State.overranBut_foldl (edge : Nat) (rest : List Run) (s : State) (h : s.overranBut rest) :
    (rest.foldl (fun s r => ((s.overrun r edge).1.setRun (s.overrun r edge).2).hostResult r true) s).overranBut [] := by
  induction rest generalizing s with
  | nil => exact h
  | cons r rest ih => exact ih _ (State.overranBut_step h edge)

/-- The judgement of the running jobs leaves none that has not overrun (R34). -/
theorem State.judgeRunning_overran (s : State) (edge : Nat) : ∀ r ∈ (s.judgeRunning edge).head.running, r.overran := by
  have hstart : s.overranBut (s.head.running.filter (!·.overran)) := by
    intro r hr
    by_cases h : r.overran = true
    · exact .inl h
    · exact .inr (List.mem_map_of_mem (List.mem_filter.mpr ⟨hr, by simpa using h⟩))
  intro r hr
  exact (State.overranBut_foldl edge _ s hstart r hr).resolve_right (by simp)

theorem State.judgeRunning_missed (s : State) (edge : Nat) : (s.judgeRunning edge).obj 0x220005 = s.obj 0x220005 := by
  unfold State.judgeRunning
  refine List.foldlRecOn (motive := fun s' => State.obj s' 0x220005 = s.obj 0x220005) _ _ rfl fun s' ih r _ => ?_
  rw [State.obj_congr (only_od (State.hostResult_same (by decide) ..)), State.obj_congr (only_od (State.setRun_same (by decide) ..)),
    State.overrun_missed, ih]

/-- The first part of a passed edge: it is counted, and the jobs that ended behind it are judged. -/
theorem State.passEdge_spec (s : State) : s.passEdge.tick = { s.tick with passed := s.tick.passed + 1 } ∧
    s.passEdge.head.endedLate = [] ∧ (∀ r ∈ s.passEdge.head.running, r.overran) ∧
    s.passEdge.obj 0x220005 = (s.obj 0x220005 + 1) % 2 ^ 32 := by
  generalize hs1 : ((s.onTick fun x => { x with passed := x.passed + 1 }).incr 0x220005).emit 0x100B = s1
  generalize hedge : (if s.tick.switch.isSome then s.now else s.lastEdge + s.tick.period) = edge
  have hpass : s.passEdge = ((s.head.endedLate.foldl (fun s r => (s.overrun r edge).1) s1).judgeRunning edge).onHead
      fun h => { h with endedLate := [] } := by
    rw [State.passEdge, hs1, hedge]
  have htick : s1.tick = { s.tick with passed := s.tick.passed + 1 } := by rw [← hs1, State.emit_tick]; rfl
  have hobj : s1.obj 0x220005 = (s.obj 0x220005 + 1) % 2 ^ 32 := by
    rw [← hs1, State.emit_obj _ _ _ _ (by decide) (by decide), State.incr_obj_same]
    rfl
  rw [hpass]
  refine ⟨?_, rfl, fun r hr => State.judgeRunning_overran _ edge r hr, ?_⟩
  · rw [State.onHead_tick, only_tick (State.judgeRunning_same (by decide) ..), ← htick]
    exact List.foldlRecOn (motive := fun s' => State.tick s' = s1.tick) _ _ rfl fun s' ih r _ => by rw [State.overrun_tick, ih]
  · refine (State.judgeRunning_missed ..).trans (Eq.trans ?_ hobj)
    exact List.foldlRecOn (motive := fun s' => State.obj s' 0x220005 = s1.obj 0x220005) _ _ rfl fun s' ih r _ => by
      rw [State.overrun_missed, ih]

theorem windowClose_passes (s : State) (t e : Nat) (hpow : s.powered) (hwork : s.working) (hstart : s.tick.started)
    (hswitch : s.tick.switch = none) (hpassed : s.tick.passed = 0) (hsrc : s.tick.source ≠ .internal)
    (hedge : s.tick.lastEdge = some e) (hlate : e + s.tick.period + tolerance s.tick.period ≤ max s.now t) :
    answers (.windowClose t) s fun s' => s'.tick = { s.tick with passed := 1 } ∧ s'.head.endedLate = [] ∧
      (∀ r ∈ s'.head.running, r.overran) ∧ s'.obj 0x220005 = (s.obj 0x220005 + 1) % 2 ^ 32 := by
  refine answers_powered rfl hpow ?_
  have hpass : (s.advance t).edgePassed = true := by
    simp [State.edgePassed, hswitch, hpassed, hsrc, State.lastEdge_of_some (s := s.advance t) hedge, hlate]
  rw [if_pos ⟨hwork, hstart, hpass⟩, State.settle_tick, State.settle_head, State.settle_obj _ (by decide) (by decide)]
  have hspec := (s.advance t).passEdge_spec
  rw [State.advance_tick, State.advance_obj, hpassed] at hspec
  exact hspec

/-- Settles O2: it holds. -/
theorem tickSourceLost : Obligations.tick_source_lost :=
  ⟨tickInputLost_holds_over, tickHoldoverLimit_runs_free, switchOverAbandoned_resumes, windowClose_passes⟩

/-! #### What an accepted edge keeps of its number and its period (O1) -/

/-- Two tick states with the number of one accepted edge. -/
def TickSt.sameNumber (x y : TickSt) : Prop :=
  y.count = x.count ∧ y.lastEdge = x.lastEdge ∧ y.started = x.started ∧ y.passed = x.passed

theorem TickSt.sameNumber_refl (x : TickSt) : x.sameNumber x := ⟨rfl, rfl, rfl, rfl⟩

theorem TickSt.sameNumber_of_eq {x y : TickSt} (h : y = x) : x.sameNumber y := h ▸ x.sameNumber_refl

theorem TickSt.sameNumber.trans {x y z : TickSt} (hxy : x.sameNumber y) (hyz : y.sameNumber z) : x.sameNumber z := by
  obtain ⟨hcount, hlast, hstart, hpass⟩ := hxy
  obtain ⟨hcount', hlast', hstart', hpass'⟩ := hyz
  exact ⟨hcount'.trans hcount, hlast'.trans hlast, hstart'.trans hstart, hpass'.trans hpass⟩

/-- The number of the edge stays, and with a generator that carries the tick its period too (R54, R60). -/
def TickSt.carried (x y : TickSt) : Prop := x.sameNumber y ∧ (x.genNext.isSome → y.period = x.period)

/-- The number of the edge and the period in force stay. -/
def TickSt.samePeriod (x y : TickSt) : Prop := x.sameNumber y ∧ y.period = x.period

theorem TickSt.samePeriod_refl (x : TickSt) : x.samePeriod x := ⟨x.sameNumber_refl, rfl⟩

theorem TickSt.samePeriod_of_eq {x y : TickSt} (h : y = x) : x.samePeriod y := h ▸ x.samePeriod_refl

theorem TickSt.samePeriod.trans {x y z : TickSt} (hxy : x.samePeriod y) (hyz : y.samePeriod z) : x.samePeriod z :=
  ⟨hxy.1.trans hyz.1, hyz.2.trans hxy.2⟩

theorem TickSt.carried.trans {x y z : TickSt} (hxy : x.carried y) (hyz : y.samePeriod z) : x.carried z :=
  ⟨hxy.1.trans hyz.1, fun h => hyz.2.trans (hxy.2 h)⟩

theorem TickSt.samePeriod.carried {x y : TickSt} (h : x.samePeriod y) : x.carried y := ⟨h.1, fun _ => h.2⟩

theorem State.takeNominal_carried (s : State) (r : Nat) : s.tick.carried (s.takeNominal r).tick := by
  have hnum {y : TickSt} (h : s.tick.sameNumber y) (hp : y.period = s.tick.period) : s.tick.carried y := ⟨h, fun _ => hp⟩
  unfold State.takeNominal
  dsimp only
  split
  · split
    · exact hnum ⟨rfl, rfl, rfl, rfl⟩ rfl
    · exact hnum ⟨rfl, rfl, rfl, rfl⟩ rfl
  next hgen =>
    split <;> exact ⟨⟨rfl, rfl, rfl, rfl⟩, fun h => absurd h hgen⟩

theorem State.adoptNominal_carried (s : State) : s.tick.carried s.adoptNominal.tick := by
  have hrefl : s.tick.carried s.tick := s.tick.samePeriod_refl.carried
  unfold State.adoptNominal
  dsimp only
  split
  · exact hrefl
  split
  · exact s.takeNominal_carried _
  split
  · rw [State.emit_tick]; exact hrefl
  · exact hrefl

theorem State.startSwitch_samePeriod (s : State) (goal : TickSource) (period : Nat) (q : Bool) :
    s.tick.samePeriod (s.startSwitch goal period q).tick := ⟨⟨rfl, rfl, rfl, rfl⟩, rfl⟩

theorem State.sourceOwn_samePeriod (s : State) (goal : TickSource) : s.tick.samePeriod (s.sourceOwn goal).tick := by
  unfold State.sourceOwn
  dsimp only
  split
  · split
    · exact s.startSwitch_samePeriod ..
    · rw [State.emit_tick]; exact s.startSwitch_samePeriod ..
  split
  · exact s.tick.samePeriod_refl
  · rw [State.emit_tick]; exact ⟨⟨rfl, rfl, rfl, rfl⟩, rfl⟩

theorem State.adoptSource_samePeriod (s : State) : s.tick.samePeriod s.adoptSource.tick := by
  unfold State.adoptSource
  dsimp only
  split
  · exact ⟨⟨rfl, rfl, rfl, rfl⟩, rfl⟩
  split
  · rw [State.sourceTickIn, State.emit_tick]; exact ⟨⟨rfl, rfl, rfl, rfl⟩, rfl⟩
  · exact s.sourceOwn_samePeriod _

theorem State.adoptPhase_samePeriod (s : State) : s.tick.samePeriod s.adoptPhase.tick := by
  unfold State.adoptPhase
  dsimp only
  split
  · exact s.tick.samePeriod_refl
  · exact ⟨⟨rfl, rfl, rfl, rfl⟩, rfl⟩

theorem State.adoptTick_carried (s : State) : s.tick.carried s.adoptTick.tick :=
  (s.adoptNominal_carried.trans (State.adoptSource_samePeriod _)).trans (State.adoptPhase_samePeriod _)

@[simp] theorem State.adoptObjects_tick (s : State) : s.adoptObjects.tick = s.tick :=
  only_tick (State.adoptObjects_same (by decide) s)

/-- A step of device time moves nothing but the grid of the PTP-derived source. -/
theorem State.edgeTime_tick (s : State) : ∃ g, s.edgeTime.tick = { s.tick with gridFrom := g } := by
  have hstep : s.edgeStep.tick = s.tick := only_tick (State.edgeStep_same (by decide) s)
  unfold State.edgeTime
  dsimp only
  split
  · exact ⟨_, by rw [State.onTick_tick, hstep]⟩
  · exact ⟨s.tick.gridFrom, hstep⟩

theorem State.pickAlternative_samePeriod (s : State) (period : Nat) (reduced : Bool) :
    s.tick.samePeriod (s.pickAlternative period reduced).tick := by
  unfold State.pickAlternative
  split
  · exact ⟨⟨rfl, rfl, rfl, rfl⟩, rfl⟩
  split
  · exact ⟨⟨rfl, rfl, rfl, rfl⟩, rfl⟩
  · exact s.tick.samePeriod_refl

theorem State.modeTo_tick (s : State) (m : Mode) : (s.modeTo m).tick = s.tick :=
  only_tick (State.modeTo_same (by decide) ..)

theorem State.noteReturn_tick (s : State) : s.noteReturn.tick = s.tick := rfl

theorem State.edgeMode_samePeriod (s : State) : s.tick.samePeriod s.edgeMode.tick := by
  unfold State.edgeMode
  dsimp only
  split
  · rw [State.noteReturn_tick]
    refine TickSt.samePeriod.trans (TickSt.samePeriod_of_eq ?_) (State.pickAlternative_samePeriod ..)
    split
    · rw [State.modeTo_tick]
    · rw [State.emit_tick, State.modeTo_tick]
  split
  · exact (TickSt.samePeriod_of_eq (State.modeTo_tick ..)).trans (State.pickAlternative_samePeriod ..)
  · exact s.tick.samePeriod_refl

theorem State.leaveWatch_samePeriod (s : State) : s.tick.samePeriod s.leaveWatch.tick := by
  rw [State.leaveWatch, State.noteReturn_tick]
  generalize (if s.wantsReduced = true then Mode.reduced else Mode.run) = m
  refine TickSt.samePeriod.trans (TickSt.samePeriod_of_eq ?_) (State.pickAlternative_samePeriod ..)
  split
  · rw [State.emit_tick, State.modeTo_tick]; rfl
  · rw [State.modeTo_tick]; rfl

theorem State.edgeModes_samePeriod (s : State) (leaves : Bool) : s.tick.samePeriod (s.edgeModes leaves).tick := by
  cases leaves with
  | false => exact s.edgeMode_samePeriod
  | true => exact s.leaveWatch_samePeriod

theorem State.imageInForce_samePeriod (s : State) (l : Loading) : s.tick.samePeriod (s.imageInForce l).tick := by
  rw [State.imageInForce, State.emit_tick]
  refine TickSt.samePeriod.trans (TickSt.samePeriod_of_eq ?_) (State.pickAlternative_samePeriod ..)
  rw [only_tick (State.takeChips_same (by decide) ..), only_tick (State.takeImageObjects_same (by decide) ..)]
  rfl

theorem State.edgeImage_samePeriod (s : State) : s.tick.samePeriod s.edgeImage.tick := by
  unfold State.edgeImage
  split
  · exact s.tick.samePeriod_refl
  split
  · exact s.imageInForce_samePeriod _
  split
  · refine TickSt.samePeriod_of_eq (List.foldlRecOn (motive := fun s' => State.tick s' = s.tick) _ _ ?_ fun s' ih d _ => ?_)
    · rw [State.emit_tick]; rfl
    · rw [only_tick (State.dropJob_same (by decide) ..), ih]
  · exact s.tick.samePeriod_refl

theorem State.edgeLoad_samePeriod (s : State) : s.tick.samePeriod s.edgeLoad.tick := by
  unfold State.edgeLoad
  dsimp only
  split
  · exact s.tick.samePeriod_refl
  split
  · exact s.edgeImage_samePeriod
  · rw [only_tick (State.repeatIdent_same (by decide) _)]; exact s.edgeImage_samePeriod

theorem State.edgeUnits_samePeriod (s : State) : s.tick.samePeriod s.edgeUnits.tick := by
  refine TickSt.samePeriod.trans (TickSt.samePeriod_of_eq ?_) (State.edgeLoad_samePeriod _)
  rw [only_tick (State.edgeSlots_same (by decide) _), only_tick (State.edgeTrips_same (by decide) _),
    only_tick (State.edgeBand_same (by decide) _), only_tick (State.adoptMonitors_same (by decide) _),
    only_tick (State.edgeStreams_same (by decide) _)]

theorem State.edgeCeiling_samePeriod (s : State) : s.tick.samePeriod s.edgeCeiling.tick := by
  obtain ⟨hnum, hper⟩ := s.pickAlternative_samePeriod s.tick.period s.reduced
  exact ⟨hnum, hper⟩

theorem State.edgeTakeover_tick (s : State) : s.edgeTakeover.tick = s.tick := by
  unfold State.edgeTakeover
  dsimp only
  split
  · simp only [State.emit_tick, State.setObj_tick, State.incr_tick, State.onRed_tick]
  · rfl

theorem State.edgePair_tick (s : State) : s.edgePair.tick = s.tick := by
  rw [State.edgePair, State.edgeTakeover_tick, only_tick (State.edgeHandover_same (by decide) _),
    only_tick (State.edgeWarm_same (by decide) _)]

/-- A device that is no Tailstock of a pair has no journal to apply at an edge. -/
theorem State.edgeJournal_of_not_tailstock {s : State} (h : ¬ (s.pair ∧ s.red.role = .tailstock)) : s.edgeJournal = s := by
  unfold State.edgeJournal
  dsimp only
  rw [if_neg h]

theorem State.not_tailstock_of_alone {s : State} (h : s.alone) : ¬ (s.pair ∧ s.red.role = .tailstock) := by
  rintro ⟨hpair, hrole⟩
  simp [State.alone, hpair, hrole] at h

/-- What the rate of a source is to an edge: it keeps the number of the edge and says nothing of a pair. -/
def keepsNumber (rate : State → State) : Prop := ∀ u : State, u.tick.sameNumber (rate u).tick ∧ (rate u).red = u.red

/-- An edge behind its rate keeps what the rate gave (R61, R501, R504). -/
theorem State.workingEdge_carried (s : State) {rate : State → State} (hrate : keepsNumber rate) (halone : s.alone)
    (leaves : Bool) (before : Option Nat) : (rate s.edgeEnds).tick.carried (s.workingEdge rate leaves before).tick := by
  have hred : (rate s.edgeEnds).edgeTime.red = s.red := by
    rw [only_red (State.edgeTime_same (by decide) _), (hrate _).2, only_red (State.edgeEnds_same (by decide) _)]
  have htail : ¬ ((rate s.edgeEnds).edgeTime.pair ∧ (rate s.edgeEnds).edgeTime.red.role = .tailstock) := by
    rw [State.pair, hred]
    exact State.not_tailstock_of_alone halone
  obtain ⟨g, hgrid⟩ := (rate s.edgeEnds).edgeTime_tick
  have hadopt : (rate s.edgeEnds).tick.carried (rate s.edgeEnds).edgeTime.adoptObjects.adoptTick.tick := by
    have h := (rate s.edgeEnds).edgeTime.adoptObjects.adoptTick_carried
    rw [State.adoptObjects_tick, hgrid] at h
    exact h
  rw [State.workingEdge, State.edgeJournal_of_not_tailstock htail]
  refine hadopt.trans ((State.edgeModes_samePeriod _ leaves).trans ((State.edgeUnits_samePeriod _).trans
    ((State.edgeCeiling_samePeriod _).trans (TickSt.samePeriod_of_eq ?_))))
  rw [only_tick (State.restartFrames_same (by decide) _), only_tick (State.sendTicks_same (by decide) _),
    only_tick (State.edgeWork_same (by decide) _), only_tick (State.edgeComplete_same (by decide) _),
    only_tick (State.edgeReady_same (by decide) _), only_tick (State.edgeStages_same (by decide) _), State.edgePair_tick,
    only_tick (State.observeEdge_same (by decide) _ _)]

theorem State.watchEdge_carried (s : State) (rate : State → State) : (rate s).tick.carried (s.watchEdge rate).tick := by
  obtain ⟨g, hgrid⟩ := (rate s).edgeTime_tick
  unfold State.watchEdge
  dsimp only
  split
  · have h := (rate s).edgeTime.adoptObjects.adoptTick_carried
    rw [State.adoptObjects_tick, hgrid] at h
    exact h
  · rw [hgrid]
    exact ⟨⟨rfl, rfl, rfl, rfl⟩, fun _ => rfl⟩

/-- An accepted edge is numbered, its source's rate applies, and what follows carries both. -/
theorem State.acceptEdge_carried (s : State) {rate : State → State} (hrate : keepsNumber rate) (halone : s.alone) :
    ∃ u : State, u.tick = s.numberEdge.tick ∧ (rate u).tick.carried (s.acceptEdge rate).tick := by
  unfold State.acceptEdge
  split
  · exact ⟨s.numberEdge, rfl, s.numberEdge.watchEdge_carried rate⟩
  · exact ⟨s.numberEdge.edgeEnds, only_tick (State.edgeEnds_same (by decide) _),
      State.workingEdge_carried s.numberEdge hrate halone _ _⟩

/-- The tick number and the last accepted edge of an edge accepted at the instant of the state. -/
def State.numberedIn (s s' : State) : Prop := s'.tick.count = (s.tick.count + 1) % 2 ^ 64 ∧
  s'.tick.lastEdge = some s.now ∧ s'.tick.started = true ∧ s'.tick.passed = 0

theorem State.acceptEdge_numbers (s : State) {rate : State → State} (hrate : keepsNumber rate) (halone : s.alone) :
    s.numberedIn (s.acceptEdge rate) := by
  obtain ⟨u, hu, hcarried⟩ := s.acceptEdge_carried hrate halone
  obtain ⟨hcount, hlast, hstart, hpass⟩ := (hrate u).1.trans hcarried.1
  rw [hu] at hcount hlast hstart hpass
  exact ⟨hcount, hlast, hstart, hpass⟩

/-! #### The edges of the sources (O1) -/

theorem keepsNumber_id : keepsNumber id := fun u => ⟨u.tick.sameNumber_refl, rfl⟩

theorem State.ownRate_keeps (s : State) : s.tick.sameNumber s.ownRate.tick ∧ s.ownRate.red = s.red := by
  unfold State.ownRate
  split
  · exact ⟨⟨rfl, rfl, rfl, rfl⟩, rfl⟩
  · exact ⟨s.tick.sameNumber_refl, rfl⟩

theorem keepsNumber_ownRate {f : State → TickSt → TickSt} (hf : ∀ (u : State) (x : TickSt), x.sameNumber (f u x)) :
    keepsNumber fun u => (u.onTick (f u)).ownRate := by
  intro u
  obtain ⟨hnum, hred⟩ := (u.onTick (f u)).ownRate_keeps
  exact ⟨(hf u u.tick).trans hnum, hred⟩

theorem keepsNumber_generatorRate : keepsNumber State.generatorRate := fun _ => ⟨⟨rfl, rfl, rfl, rfl⟩, rfl⟩

theorem keepsNumber_generatorRate_counted : keepsNumber fun u => u.generatorRate.incr 0x23020E :=
  fun _ => ⟨⟨rfl, rfl, rfl, rfl⟩, rfl⟩

/-- The measurement of TICK_IN changes what it measures alone. -/
theorem State.measureEdge_tick (s : State) : ∃ i l, s.measureEdge.tick = { s.tick with lastIn := i, skip := false, intervals := l } := by
  unfold State.measureEdge
  split
  · exact ⟨_, _, rfl⟩
  · exact ⟨_, _, rfl⟩

theorem State.isGlitch_eq_false {s : State} {i : Nat} (hin : s.tick.lastIn = some i) (h : s.glitchLimit ≤ s.now - i) :
    s.isGlitch = false := by
  rw [State.isGlitch, hin]
  exact decide_eq_false (Nat.not_lt.mpr h)

theorem State.measureEdge_now (s : State) : s.measureEdge.now = s.now := by
  unfold State.measureEdge
  split <;> rfl

/-- An edge of a locked TICK_IN in its window is accepted (R58). -/
theorem State.tickInPulse_accepts {s : State} {e : Nat} (halone : s.alone) (hsrc : s.tick.source = .tickIn)
    (hstate : s.tick.state = .locked) (hswitch : s.tick.switch = none) (hedge : s.tick.lastEdge = some e)
    (hin : s.tick.lastIn = some e) (hlong : s.glitchLimit ≤ s.now - e)
    (hwin : ((s.now : Int) - (e + s.tick.period : Nat)).natAbs ≤ tolerance s.tick.period) : s.numberedIn s.tickInPulse := by
  obtain ⟨i, l, hmeas⟩ := s.measureEdge_tick
  have hwin' : s.measureEdge.inWindow' = true := by
    rw [State.inWindow', State.lastEdge, hmeas, State.measureEdge_now]
    dsimp only
    rw [hedge]
    exact decide_eq_true hwin
  have hpulse : s.tickInPulse = s.measureEdge.acceptEdge id := by
    have hlock : s.measureEdge.tick.state = .locked := by rw [hmeas]; exact hstate
    unfold State.tickInPulse
    rw [State.isGlitch_eq_false hin hlong, if_neg Bool.false_ne_true]
    dsimp only
    rw [hmeas]
    dsimp only
    rw [if_neg (Classical.not_not.mpr hsrc), hswitch, if_neg (by simp), State.tickInEdge, hlock]
    dsimp only
    rw [if_pos hwin']
  have halone' : s.measureEdge.alone := by
    rw [State.alone, State.pair, only_red (State.measureEdge_same (by decide) s)]
    exact halone
  rw [hpulse]
  have h := State.acceptEdge_numbers s.measureEdge keepsNumber_id halone'
  rw [State.numberedIn, hmeas, State.measureEdge_now] at h
  exact h

theorem exec_tickInEdge (t : Nat) (rising : Bool) (pulse : Nat) (s : State) :
    exec (.tickInEdge t rising pulse) s = whenPowered t (fun s =>
      if s.ticking ∧ rising = (s.cfg 0x230208 == 0) ∧ (s.padPasses pulse).1 then (s.padPasses pulse).2.tickInPulse
      else (s.padPasses pulse).2) s := rfl

/-- An edge numbered at the instant of its command. -/
def State.numberedAt (s : State) (t : Nat) (s' : State) : Prop := s'.tick.count = (s.tick.count + 1) % 2 ^ 64 ∧
  s'.tick.lastEdge = some (max s.now t) ∧ s'.tick.started = true ∧ s'.tick.passed = 0

theorem State.numberedAt_of_numberedIn {s u : State} {t : Nat} (h : (s.advance t).numberedIn u) : s.numberedAt t u.settle := by
  rw [State.numberedAt, State.settle_tick]
  exact h

theorem tickInEdge_numbers (s : State) (t pulse e : Nat) (hpow : s.powered) (htick : s.ticking) (halone : s.alone)
    (hpulse : 100 ≤ pulse) (hpol : s.cfg 0x230208 = 0) (hsrc : s.tick.source = .tickIn) (hstate : s.tick.state = .locked)
    (hswitch : s.tick.switch = none) (hedge : s.tick.lastEdge = some e) (hin : s.tick.lastIn = some e)
    (hlong : s.glitchLimit ≤ max s.now t - e)
    (hwin : (((max s.now t : Nat) : Int) - (e + s.tick.period : Nat)).natAbs ≤ tolerance s.tick.period) :
    answers (.tickInEdge t true pulse) s (s.numberedAt t) := by
  refine answers_powered (exec_tickInEdge ..) hpow (State.numberedAt_of_numberedIn ?_)
  have hpol' : true = ((s.advance t).cfg 0x230208 == 0) := by rw [State.advance_cfg, hpol]; rfl
  rw [State.padPasses_of_long _ hpulse, if_pos ⟨htick, hpol', rfl⟩]
  exact State.tickInPulse_accepts halone hsrc hstate hswitch hedge hin hlong hwin

theorem internalEdge_numbers (s : State) (t : Nat) (hpow : s.powered) (htick : s.ticking) (halone : s.alone)
    (hown : s.tick.ownEdges .internal) (hdue : s.tick.internalEdge ≤ max s.now t) :
    answers (.internalEdge t) s (s.numberedAt t) := by
  have hexec : exec (.internalEdge t) s = execInternalEdge t s := rfl
  refine answers_powered hexec hpow (State.numberedAt_of_numberedIn ?_)
  have htick' : (s.advance t).ticking = true := htick
  have hnot : ¬ ((s.advance t).ticking = false ∨ (s.advance t).now < (s.advance t).tick.internalEdge) := by
    rw [htick']
    exact fun h => h.elim Bool.noConfusion (Nat.not_lt.mpr hdue)
  rw [if_neg hnot, if_pos (c := (s.advance t).tick.ownEdges .internal = true) hown]
  exact State.acceptEdge_numbers (s.advance t) (keepsNumber_ownRate fun _ _ => ⟨rfl, rfl, rfl, rfl⟩) halone

theorem ptpDerivedEdge_numbers (s : State) (t : Nat) (hpow : s.powered) (htick : s.ticking) (halone : s.alone)
    (hown : s.tick.ownEdges .ptpDerived) (hdue : s.tick.ptpEdge ≤ (s.advance t).time.dev) :
    answers (.ptpDerivedEdge t) s (s.numberedAt t) := by
  have hexec : exec (.ptpDerivedEdge t) s = execPtpDerivedEdge t s := rfl
  refine answers_powered hexec hpow (State.numberedAt_of_numberedIn ?_)
  have htick' : (s.advance t).ticking = true := htick
  have hnot : ¬ ((s.advance t).ticking = false ∨ (s.advance t).time.dev < (s.advance t).tick.ptpEdge) := by
    rw [htick', State.advance_tick]
    exact fun h => h.elim Bool.noConfusion (Nat.not_lt.mpr hdue)
  rw [if_neg hnot, if_pos (c := (s.advance t).tick.ownEdges .ptpDerived = true) hown]
  exact State.acceptEdge_numbers (s.advance t) (keepsNumber_ownRate fun _ _ => ⟨rfl, rfl, rfl, rfl⟩) halone

theorem generatorEdge_numbers (s : State) (t g : Nat) (hpow : s.powered) (htick : s.ticking) (halone : s.alone)
    (hswitch : s.tick.switch = none) (hgen : s.tick.genNext = some g) (hdue : g ≤ max s.now t) :
    answers (.generatorEdge t) s fun s' => s.numberedAt t s' ∧ s'.tick.period = s.tick.genPeriod := by
  refine answers_powered rfl hpow ?_
  have hany : (s.advance t).tick.genNext.any (fun i => decide (i ≤ (s.advance t).now)) = true := by
    rw [State.advance_tick, hgen]
    exact decide_eq_true hdue
  rw [if_pos ⟨htick, hswitch, hany⟩]
  refine ⟨State.numberedAt_of_numberedIn (State.acceptEdge_numbers (s.advance t) keepsNumber_generatorRate halone), ?_⟩
  obtain ⟨u, hu, -, hperiod⟩ := (s.advance t).acceptEdge_carried keepsNumber_generatorRate halone
  have hsome : u.generatorRate.tick.genNext.isSome = true := by
    rw [State.generatorRate, State.onTick_tick, hu]
    change (s.tick.genNext.map _).isSome = true
    rw [hgen]
    rfl
  rw [State.settle_tick, hperiod hsome, State.generatorRate, State.onTick_tick, hu]
  rfl

theorem State.startGenerator_tick (s : State) : s.startGenerator.tick = { s.tick with
    state := .freeRun, genNominal := true, genPeriod := periodOf s.tick.nominal, genNext := some s.now } := by
  rw [State.startGenerator, State.emit_tick]
  rfl

theorem acquireTimeout_numbers (s : State) (t : Nat) (hpow : s.powered) (htick : s.ticking) (halone : s.alone)
    (hsrc : s.tick.source = .tickIn) (hstate : s.tick.state = .acquire)
    (hlate : s.tick.acquireAt + s.cfg 0x230207 * msec ≤ max s.now t) :
    answers (.acquireTimeout t) s (s.numberedAt t) := by
  refine answers_powered rfl hpow (State.numberedAt_of_numberedIn ?_)
  have hdue : (s.advance t).tick.acquireAt + (s.advance t).cfg 0x230207 * msec ≤ (s.advance t).now := hlate
  rw [if_pos ⟨htick, hsrc, hstate, hdue⟩]
  have halone : (s.advance t).alone := halone
  generalize s.advance t = w at halone ⊢
  have hred : w.startGenerator.red = w.red := only_red (State.startGenerator_same (by decide) w)
  have halone' : w.startGenerator.alone := by
    rw [State.alone, State.pair, hred]
    exact halone
  have h := State.acceptEdge_numbers w.startGenerator keepsNumber_generatorRate_counted halone'
  have hnow : w.startGenerator.now = w.now := only_now (State.startGenerator_same (by decide) w)
  rw [State.numberedIn, State.startGenerator_tick, hnow] at h
  exact h

/-- Settles O1: it holds. -/
theorem acceptedEdgeTakesNextTick : Obligations.accepted_edge_takes_next_tick :=
  ⟨tickInEdge_numbers, internalEdge_numbers, ptpDerivedEdge_numbers, generatorEdge_numbers, acquireTimeout_numbers⟩

end Sys2Proof.Machine
end

section
/-! ### The alarm path: words, silence and faults (O11, O13) -/
namespace Sys2Proof.Machine

/-! #### The objects that the matrix leaves -/

/-- The objects of the taps lie between those of the matrix's own counters and those of the redundancy and the wake logic. -/
def State.tapObjs (s : State) : Fin 0x8000 → Nat := fun u => s.obj (0x241000 + u)

theorem State.tapObjs_of_quiet {s s' : State} (h : s'.quiet = s.quiet) : s'.tapObjs = s.tapObjs :=
  funext fun u => quiet_obj h (by omega) (by omega)

theorem State.setObj_tapObjs (s : State) {k : Nat} (v : Nat) (h : k < 0x241000 ∨ 0x249000 ≤ k) :
    (s.setObj k v).tapObjs = s.tapObjs := funext fun u => State.setObj_obj_ne s v (by omega)

theorem State.incr_tapObjs (s : State) {k : Nat} (n : Nat) (h : k < 0x241000 ∨ 0x249000 ≤ k) :
    (s.incr k n).tapObjs = s.tapObjs := State.setObj_tapObjs s _ h

theorem tapObjs_foldl {α : Type} {f : State → α → State} (hf : ∀ s x, (f s x).tapObjs = s.tapObjs) (l : List α) (s : State) :
    (l.foldl f s).tapObjs = s.tapObjs :=
  List.foldlRecOn l f (motive := fun s' => s'.tapObjs = s.tapObjs) rfl fun s' h x _ => (hf s' x).trans h

theorem State.alarmRecord_tapObjs (s : State) (code k : Nat) : (s.alarmRecord code k).tapObjs = s.tapObjs := by
  unfold State.alarmRecord
  split
  · exact (State.tapObjs_of_quiet (State.record_quiet ..)).trans (State.tapObjs_of_quiet (State.noted_quiet ..))
  · exact State.incr_tapObjs s 1 (by decide)

theorem State.tripMessage_tapObjs (s : State) (k : Nat) : (s.tripMessage k).tapObjs = s.tapObjs := by
  unfold State.tripMessage
  split
  · rfl
  split
  · exact State.tapObjs_of_quiet (State.emcy_quiet ..)
  · exact (State.tapObjs_of_quiet (State.emitLimited_quiet ..)).trans (State.incr_tapObjs s 1 (by decide))

theorem State.notifyTrip_tapObjs (s : State) (k : Nat) : (s.notifyTrip k).tapObjs = s.tapObjs := by
  unfold State.notifyTrip
  split
  · exact s.tripMessage_tapObjs k
  split
  · exact State.tripMessage_tapObjs _ k
  · exact State.incr_tapObjs _ 1 (by decide)

theorem State.wakeCause_tapObjs (s : State) (n : Nat) : (s.wakeCause n).tapObjs = s.tapObjs := by
  unfold State.wakeCause
  split
  · exact (State.tapObjs_of_quiet (State.emit_quiet ..)).trans (State.setObj_tapObjs _ _ (by decide))
  · rfl

theorem State.condRise_tapObjs (s : State) (k : Nat) : (s.condRise k).tapObjs = s.tapObjs := by
  have hemcy (u : State) (a b c : Nat) (d : Bool) : (u.emcy a b c d).tapObjs = u.tapObjs :=
    State.tapObjs_of_quiet (State.emcy_quiet ..)
  simp only [State.condRise, apply_ite State.tapObjs, State.wakeCause_tapObjs, State.notifyTrip_tapObjs, hemcy,
    State.alarmRecord_tapObjs, ite_self]

theorem State.matrix_tapObjs (s : State) : s.matrix.tapObjs = s.tapObjs := by
  simp only [State.matrix, tapObjs_foldl (f := State.condFall) fun s k => s.alarmRecord_tapObjs 0x4002 k,
    tapObjs_foldl State.condRise_tapObjs]
  rfl

theorem tapObjs_obj {s s' : State} (h : s'.tapObjs = s.tapObjs) {k : Nat} (hlo : 0x241000 ≤ k) (hhi : k < 0x249000) :
    s'.obj k = s.obj k := by
  have hk : s'.obj (0x241000 + (k - 0x241000)) = s.obj (0x241000 + (k - 0x241000)) :=
    congrFun h ⟨k - 0x241000, by omega⟩
  rwa [Nat.add_sub_cancel' hlo] at hk

/-! #### Words and silence (O11) -/

theorem tapBase_bounds (tap : Fin 72) {u : Nat} (hu : u < 0x100) : 0x241000 ≤ tapBase tap + u ∧ tapBase tap + u < 0x249000 := by
  unfold tapBase
  omega

theorem State.tap_congr {s s' : State} (h : s'.alarm.taps = s.alarm.taps) (n : Nat) : s'.tap n = s.tap n := by
  rw [State.tap, State.tap, h]

theorem State.matrix_tap (s : State) (n : Nat) : s.matrix.tap n = s.tap n := by
  obtain ⟨pins, r, w, h⟩ := s.matrix_alarm
  exact State.tap_congr (by rw [h]; rfl) n

theorem State.setTap_tap_same (s : State) (n : Nat) (v : TapSt) : (s.setTap n v).tap n = v := tget_tset_same ..

theorem State.settle_tap (s : State) (n : Nat) : s.settle.tap n = s.tap n := State.tap_congr (by rw [State.settle_alarm]) n

/-- A settled matrix shows the conditions of its taps. -/
theorem State.settle_matrix_conds (s : State) : s.matrix.settle.alarm.raw = maskOf s.matrix.settle.condRaw ∧
    s.matrix.settle.alarm.conds = s.matrix.settle.alarm.raw ||| s.matrix.settle.alarm.latched := by
  rw [State.settle_alarm, State.settle_condRaw]
  exact s.matrix_conds

theorem sampleWord_steps (s : State) (t : Nat) (tap : Fin 72) (raw : BitVec 32) (hpow : s.powered) (hclk : s.alarm.gclkOk) :
    answers (.sampleWord t tap raw) s fun s' => s'.tap tap = (s.advance t).tapStep tap (s.tapValue tap raw.toNat) ∧
      s'.obj (tapBase tap + 0x1A) = pattern 32 (s.tapValue tap raw.toNat) ∧
      s'.obj (tapBase tap + 0x1C) = (s.obj (tapBase tap + 0x1C) + 1) % 2 ^ objWidth (tapBase tap + 0x1C) ∧
      s'.alarm.raw = maskOf s'.condRaw ∧ s'.alarm.conds = s'.alarm.raw ||| s'.alarm.latched := by
  refine answers_powered rfl hpow ?_
  have hclk' : (s.advance t).alarm.gclkOk = true := hclk
  have hval : (s.advance t).tapValue tap raw.toNat = s.tapValue tap raw.toNat := rfl
  obtain ⟨hlo, hhi⟩ := tapBase_bounds tap (u := 0x1A) (by decide)
  obtain ⟨hlo', hhi'⟩ := tapBase_bounds tap (u := 0x1C) (by decide)
  simp only [if_pos hclk', hval]
  refine ⟨?_, ?_, ?_, State.settle_matrix_conds _⟩
  · rw [State.settle_tap, State.matrix_tap]
    exact (State.tap_congr rfl _).trans (State.setTap_tap_same ..)
  · rw [State.settle_obj _ (by omega) (by omega), tapObjs_obj (State.matrix_tapObjs _) hlo hhi, State.setObj_obj_same]
  · rw [State.settle_obj _ (by omega) (by omega), tapObjs_obj (State.matrix_tapObjs _) hlo' hhi', State.setObj_obj_ne _ _ (by omega),
      State.incr_obj_same]
    rfl

theorem sampleWord_of_stopped (s : State) (t : Nat) (tap : Fin 72) (raw : BitVec 32) (hpow : s.powered)
    (hclk : s.alarm.gclkOk = false) : answers (.sampleWord t tap raw) s fun s' => s'.alarm = s.alarm := by
  refine answers_powered rfl hpow ?_
  have hclk' : ¬ (s.advance t).alarm.gclkOk = true := by rw [State.advance_alarm, hclk]; exact Bool.false_ne_true
  rw [if_neg hclk', State.settle_alarm, State.advance_alarm]

/-- The persisted bits of a silent tap under its policy (R116). -/
def silentBits (policy : Nat) (persisted : List Bool) : List Bool :=
  if policy = 1 then [true, true, true, true] else if policy = 2 then [false, false, false, false] else persisted

theorem exec_tapSilent {s : State} {tap : Fin 72} (t : Nat) (hpow : s.powered) (hclk : s.alarm.gclkOk) (htrack : s.tracked tap)
    (hloud : (s.tap tap).silent = false)
    (hlate : ∀ i, (s.tap tap).lastWord = some i → i + s.bk (tapBase tap + 4) * 1000 < max s.now t) :
    exec (.tapSilent t tap) s = .next (((((s.advance t).setTap tap { s.tap tap with
      silent := true, persisted := silentBits (s.bk (tapBase tap + 5)) (s.tap tap).persisted }).incr (tapBase tap + 0x1D)).emit
        0x4005 tap).matrix).settle := by
  have hcond : (s.advance t).alarm.gclkOk = true ∧ (s.advance t).tracked tap = true ∧ ((s.advance t).tap tap).silent = false ∧
      ((s.advance t).tap tap).lastWord.all
        (fun i => decide (i + (s.advance t).bk (tapBase tap + 4) * 1000 < (s.advance t).now)) = true :=
    ⟨hclk, htrack, hloud, Option.all_of_forall hlate⟩
  change execTapSilent t tap s = _
  rw [execTapSilent, whenPowered, if_pos hpow]
  dsimp only
  rw [if_pos hcond]
  unfold silentBits
  split
  next h =>
    have h' : s.bk (tapBase tap + 5) = 1 := h
    rw [if_pos h']
    rfl
  next h =>
    have h' : s.bk (tapBase tap + 5) = 2 := h
    rw [if_neg (by omega), if_pos h']
    rfl
  next h1 h2 =>
    have h1' : s.bk (tapBase tap + 5) ≠ 1 := h1
    have h2' : s.bk (tapBase tap + 5) ≠ 2 := h2
    rw [if_neg h1', if_neg h2']
    rfl

theorem tapSilent_silences (s : State) (t : Nat) (tap : Fin 72) (hpow : s.powered) (hclk : s.alarm.gclkOk) (htrack : s.tracked tap)
    (hloud : (s.tap tap).silent = false)
    (hlate : ∀ i, (s.tap tap).lastWord = some i → i + s.bk (tapBase tap + 4) * 1000 < max s.now t) :
    answers (.tapSilent t tap) s fun s' => (s'.tap tap).silent = true ∧
      (s'.tap tap).persisted = (if s.bk (tapBase tap + 5) = 1 then [true, true, true, true]
        else if s.bk (tapBase tap + 5) = 2 then [false, false, false, false] else (s.tap tap).persisted) ∧
      s'.alarm.raw = maskOf s'.condRaw ∧ s'.alarm.conds = s'.alarm.raw ||| s'.alarm.latched := by
  refine ⟨_, exec_tapSilent t hpow hclk htrack hloud hlate, ?_⟩
  dsimp only
  rw [State.settle_tap, State.matrix_tap, State.tap_congr (congrArg AlarmSt.taps (State.emit_alarm ..)),
    State.tap_congr (congrArg AlarmSt.taps (State.incr_alarm ..)), State.setTap_tap_same]
  exact ⟨rfl, rfl, State.settle_matrix_conds _⟩

/-- Settles O11: it holds. -/
theorem tapWordsAndSilence : Obligations.tap_words_and_silence :=
  ⟨sampleWord_steps, sampleWord_of_stopped, tapSilent_silences⟩

/-! #### Faults of the alarm path (O13) -/

/-- The levels of the pins depend on the conditions, the routing and the faults, and on the supply. -/
theorem State.pinLevel_congr {s s' : State} {b : AlarmSt} (pins : BitVec 4) (hs : s.alarm = b) (hs' : s'.alarm = { b with pins := pins })
    (hpow : s'.powered = s.powered) (hflag : ∀ n, s'.flag 0x240006 n = s.flag 0x240006 n) : s'.pinLevel = s.pinLevel := by
  have hword : s'.condWord = s.condWord := State.condWord_congr (by rw [hs, hs'])
  funext n
  simp only [State.pinLevel, hword, hs, hs', hpow, hflag]

theorem State.drivePins_pins (s : State) {n : Nat} (hn : n < 4) : s.drivePins.alarm.pins.getLsbD n = s.pinLevel n := by
  have hsum : ((List.range 4).foldl (fun v n => if s.pinLevel n then v + 2 ^ n else v) 0) = sumBits s.pinLevel 4 := rfl
  rw [State.drivePins, State.onAlarm_alarm]
  dsimp only
  rw [hsum, BitVec.getLsbD_ofNat, testBit_sumBits, decide_eq_true hn, Bool.true_and, Bool.true_and]

/-- A fault forces the chain and drives the pins. -/
theorem State.alarmFault_alarm (s : State) (code : Nat) :
    ∃ pins, (s.alarmFault code).alarm = { s.alarm with forced := true, path := 2, pins := pins } := by
  exact ⟨_, by rw [State.alarmFault, State.drivePins, State.onAlarm_alarm, State.emit_alarm]; rfl⟩

theorem State.alarmFault_pins (s : State) (code : Nat) {n : Nat} (hn : n < 4) :
    (s.alarmFault code).alarm.pins.getLsbD n = (s.alarmFault code).pinLevel n := by
  rw [State.alarmFault, State.drivePins_pins _ hn]
  exact (congrFun (State.pinLevel_congr _ rfl rfl rfl fun _ => rfl) n).symm

@[simp] theorem State.settle_powered (s : State) : s.settle.powered = s.powered := by
  rw [State.powered, State.powered, State.settle_boot, State.settle_power]

theorem State.settle_pinLevel (s : State) : s.settle.pinLevel = s.pinLevel :=
  State.pinLevel_congr s.alarm.pins rfl (State.settle_alarm s) s.settle_powered fun n => by
    rw [State.flag, State.flag, State.settle_cfg]

theorem activeBankScrub_of_bad (s : State) (t : Nat) (crc : BitVec 32) (hpow : s.powered) (hbad : crc ≠ bankCrc s.bk) :
    answers (.activeBankScrub t crc) s fun s' => s'.alarm.forced = true ∧ s'.alarm.path = 2 ∧ s'.alarm.bank = s.alarm.bank ∧
      ∀ n, n < 4 → s'.alarm.pins.getLsbD n = s'.pinLevel n := by
  have hexec : exec (.activeBankScrub t crc) s = execActiveBankScrub t crc s := rfl
  refine answers_powered hexec hpow ?_
  have hbad' : crc ≠ bankCrc (s.advance t).bk := hbad
  rw [if_neg hbad', State.settle_alarm, State.settle_pinLevel]
  obtain ⟨pins, h⟩ := (s.advance t).alarmFault_alarm 0x4009
  refine ⟨by rw [h], by rw [h], by rw [h]; rfl, fun n hn => State.alarmFault_pins _ _ hn⟩

theorem activeBankScrub_of_good (s : State) (t : Nat) (hpow : s.powered) :
    answers (.activeBankScrub t (bankCrc s.bk)) s fun s' => s'.alarm = s.alarm := by
  have hexec : exec (.activeBankScrub t (bankCrc s.bk)) s = execActiveBankScrub t (bankCrc s.bk) s := rfl
  refine answers_powered hexec hpow ?_
  have hgood : bankCrc s.bk = bankCrc (s.advance t).bk := rfl
  rw [if_pos hgood, State.settle_alarm, State.advance_alarm]

theorem State.pinLevel_of_forced {s : State} (hforced : s.alarm.forced = true) (hever : s.alarm.everCommitted = true)
    (hpow : s.powered = true) (n : Nat) : s.pinLevel n = s.flag 0x240006 n := by
  rw [State.pinLevel, if_neg (by simp [hever, hpow]), hforced]
  cases s.flag 0x240006 n <;> rfl

theorem State.alarmFault_flag (s : State) (code k n : Nat) : (s.alarmFault code).flag k n = s.flag k n := by
  rw [State.flag, State.flag, State.cfg_congr (only_inForce (State.alarmFault_same (by decide) ..))]

theorem gclkFault_forces (s : State) (t : Nat) (hpow : s.powered) :
    answers (.gclkFault t) s fun s' => s'.alarm.gclkOk = false ∧ s'.alarm.gclkFault = true ∧ s'.alarm.forced = true ∧
      ∀ n, n < 4 → s.alarm.everCommitted → s'.alarm.pins.getLsbD n = s.flag 0x240006 n := by
  have hexec : exec (.gclkFault t) s = execGclkFault t s := rfl
  refine answers_powered hexec hpow ?_
  generalize hw : (s.advance t).onAlarm (fun a => { a with gclkOk := false, gclkFault := true }) = w
  have hal : w.alarm = { s.alarm with gclkOk := false, gclkFault := true } := by rw [← hw]; rfl
  have hpow' : (w.alarmFault 0x4008).powered = true := by
    rw [State.powered, only_boot (State.alarmFault_same (by decide) ..), only_power (State.alarmFault_same (by decide) ..), ← hw]
    exact hpow
  obtain ⟨pins, h⟩ := w.alarmFault_alarm 0x4008
  rw [State.settle_alarm]
  refine ⟨by rw [h, hal], by rw [h, hal], by rw [h], fun n hn hever => ?_⟩
  have hever' : (w.alarmFault 0x4008).alarm.everCommitted = true := by rw [h, hal]; exact hever
  rw [State.alarmFault_pins _ _ hn, State.pinLevel_of_forced (by rw [h]) hever' hpow', State.alarmFault_flag, ← hw]
  rfl

theorem gclkRelock_runs (s : State) (t : Nat) (hpow : s.powered) :
    answers (.gclkRelock t) s fun s' => s'.alarm = { s.alarm with gclkOk := true } := by
  have hexec : exec (.gclkRelock t) s = execGclkRelock t s := rfl
  refine answers_powered hexec hpow ?_
  rw [State.settle_alarm]
  rfl

/-- Settles O13: it holds. -/
theorem alarmFaults : Obligations.alarm_faults :=
  ⟨activeBankScrub_of_bad, activeBankScrub_of_good, gclkFault_forces, gclkRelock_runs⟩

end Sys2Proof.Machine
end

section
/-! ### The noise source, power requests, heat, wakes, the spotter and monitors (O17, O44, O45, O46, O48, O49) -/
namespace Sys2Proof.Machine

/-! #### The noise source (O17) -/

theorem NoiseSt.reseedNext_of_pool {x : NoiseSt} (h : 4 ≤ x.pool.length) : x.reseedNext = { x with
    lanes := tset x.lanes x.next (seedLane (x.pool.take 4)), next := (x.next + 1) % 32, pool := x.pool.drop 4 } := by
  rw [NoiseSt.reseedNext, if_neg (Nat.not_lt.mpr h)]

theorem reseed_seeds (s : State) (t : Nat) (hpow : s.powered) (hrails : s.coreRails) (hready : s.noise.state = 1)
    (hpool : 4 ≤ s.noise.pool.length) :
    answers (.reseed t) s fun s' => tget s'.noise.lanes s.noise.next 0 = seedLane (s.noise.pool.take 4) ∧
      s'.noise.next = (s.noise.next + 1) % 32 ∧ s'.noise.pool = s.noise.pool.drop 4 ∧
      s'.obj 0x260302 = (s.obj 0x260302 + 1) % 2 ^ objWidth 0x260302 := by
  have hexec : exec (.reseed t) s = execReseed t s := rfl
  refine answers_powered hexec hpow ?_
  have hrails' : (s.advance t).coreRails = true := hrails
  have hdue : (s.advance t).noise.state = 1 ∧ 4 ≤ (s.advance t).noise.pool.length := ⟨hready, hpool⟩
  rw [if_pos hrails', State.reseed, if_pos hdue, State.settle_noise, State.settle_obj _ (by decide) (by decide),
    State.incr_obj_same, State.incr_noise, State.onNoise_noise, NoiseSt.reseedNext_of_pool hdue.2]
  exact ⟨tget_tset_same .., rfl, rfl, rfl⟩

theorem State.fillLanes_of_full {s : State} (h : s.noise.state ≠ 0) : s.fillLanes = s := by
  rw [State.fillLanes, if_neg fun hc => h hc.1]

theorem State.noiseStep_of_ready {s : State} (h : s.noise.state = 1) : s.noiseStep.noise.fails = s.noise.fails ∧
    (s.noise.passes = 0 → s.noiseStep.noise.passes = 0) ∧ s.noiseStep.noise.pool = s.noise.pool ∧
    s.noiseStep.noise.state = if 8 ≤ s.noise.fails then 2 else 1 := by
  unfold State.noiseStep
  by_cases hf : 8 ≤ s.noise.fails
  · rw [if_pos ⟨h, hf⟩, State.emit_noise, if_pos hf]
    exact ⟨rfl, fun _ => rfl, rfl, rfl⟩
  · rw [if_neg fun hc => hf hc.2, if_neg fun hc => by omega, State.fillLanes_of_full (by omega), if_neg hf]
    exact ⟨rfl, id, rfl, h⟩

theorem State.noiseStep_of_degraded {s : State} (h : s.noise.state = 2) (hfails : s.noise.fails = 0) :
    s.noiseStep.noise.fails = 0 ∧ s.noiseStep.noise.passes = s.noise.passes ∧ s.noiseStep.noise.lanes = s.noise.lanes ∧
    s.noiseStep.noise.state = if 64 ≤ s.noise.passes then 1 else 2 := by
  unfold State.noiseStep
  rw [if_neg fun hc => by omega]
  by_cases hp : 64 ≤ s.noise.passes
  · rw [if_pos ⟨h, hp⟩, State.emit_noise, if_pos hp]
    exact ⟨rfl, rfl, rfl, rfl⟩
  · rw [if_neg fun hc => hp hc.2, State.fillLanes_of_full (by omega), if_neg hp]
    exact ⟨hfails, rfl, rfl, h⟩

theorem healthWindow_fails (s : State) (t : Nat) (raw : BitVec 1024) (hpow : s.powered) (hrails : s.coreRails)
    (hready : s.noise.state = 1) (hbad : windowPasses raw = false) :
    answers (.healthWindow t raw) s fun s' => s'.noise.fails = s.noise.fails + 1 ∧ s'.noise.passes = 0 ∧
      s'.noise.pool = s.noise.pool ∧ s'.noise.state = (if 8 ≤ s.noise.fails + 1 then 2 else 1) := by
  have hexec : exec (.healthWindow t raw) s = execHealthWindow t raw s := rfl
  refine answers_powered hexec hpow ?_
  have hrails' : (s.advance t).coreRails = true := hrails
  rw [if_pos hrails', State.healthWindow, if_neg (by rw [hbad]; exact Bool.false_ne_true), State.settle_noise]
  obtain ⟨hfails, hpasses, hpool, hstate⟩ := State.noiseStep_of_ready
    (s := ((s.advance t).onNoise fun x => { x with fails := x.fails + 1, passes := 0 }).incr 0x260303) hready
  exact ⟨hfails, hpasses rfl, hpool, hstate⟩

theorem State.passWindow_noise (s : State) (raw : BitVec 1024) : (s.passWindow raw).noise = { s.noise with
    pool := (s.noise.pool ++ condition (raw.extractLsb' 0 512) ++ condition (raw.extractLsb' 512 512)).take 128
    fails := 0, passes := s.noise.passes + 1 } := rfl

theorem healthWindow_passes (s : State) (t : Nat) (raw : BitVec 1024) (hpow : s.powered) (hrails : s.coreRails)
    (hdegraded : s.noise.state = 2) (hgood : windowPasses raw) :
    answers (.healthWindow t raw) s fun s' => s'.noise.fails = 0 ∧ s'.noise.passes = s.noise.passes + 1 ∧
      s'.noise.state = (if 64 ≤ s.noise.passes + 1 then 1 else 2) ∧ s'.noise.lanes = s.noise.lanes := by
  have hexec : exec (.healthWindow t raw) s = execHealthWindow t raw s := rfl
  refine answers_powered hexec hpow ?_
  have hrails' : (s.advance t).coreRails = true := hrails
  rw [if_pos hrails', State.healthWindow, if_pos hgood, State.settle_noise]
  have hnoise := (s.advance t).passWindow_noise raw
  generalize (s.advance t).passWindow raw = w at hnoise ⊢
  rw [State.advance_noise] at hnoise
  obtain ⟨hfails, hpasses, hlanes, hstate⟩ := State.noiseStep_of_degraded (s := w) (by rw [hnoise]; exact hdegraded) (by rw [hnoise])
  rw [hnoise] at hpasses hlanes hstate
  exact ⟨hfails, hpasses, hstate, hlanes⟩

/-- Settles O17: it holds. -/
theorem noiseSourceJudged : Obligations.noise_source_judged := ⟨reseed_seeds, healthWindow_fails, healthWindow_passes⟩

/-! #### Requests for a mode (O44) -/

theorem State.noteReturn_power (s : State) : s.noteReturn.power = { s.power with
    toRun := if s.power.mode = .reduced ∧ s.obj 0x2A0001 = 0 ∧ s.power.thermal = 0 then some (s.power.toRun.getD s.now)
      else none } := rfl

theorem State.noteReturn_obj (s : State) (k : Nat) : s.noteReturn.obj k = s.obj k := rfl

theorem State.request_obj_same (s : State) (k v : Nat) : (s.request k v).obj k = v := by rw [State.request_obj, if_pos rfl]

theorem workingModeRequest_requests (s : State) (t : Nat) (p : Path) (v : Nat) (hcore : s.coreOn)
    (hmay : s.mayWrite t p 0x2A0001 v) : answers (.workingModeRequest t p v) s fun s' =>
      s'.obj 0x2A0001 = v ∧ s'.power.mode = s.power.mode ∧
      s'.power.toRun = if s.power.mode = .reduced ∧ v = 0 ∧ s.power.thermal = 0 then some (s.power.toRun.getD (max s.now t))
        else none := by
  have hexec : exec (.workingModeRequest t p v) s = execWorkingModeRequest t p v s := rfl
  refine answers_controlledNum hexec hcore hmay ?_
  rw [State.settle_obj _ (by decide) (by decide), State.settle_power, State.noteReturn_obj, State.noteReturn_power,
    State.request_obj_same, State.request_power, State.acceptWrite_power, State.advance_power]
  dsimp only
  rw [only_now (State.request_same (by decide) ..), State.acceptWrite_now, State.advance_now]
  exact ⟨rfl, rfl, rfl⟩

theorem State.lowPower_watch_power (s : State) : (s.lowPower 2).power.mode = s.power.mode ∧
    (s.lowPower 2).power.command = if s.working ∧ s.power.command = 0 then 2 else s.power.command := by
  unfold State.lowPower
  rw [if_neg (by decide)]
  split
  · exact ⟨rfl, rfl⟩
  · exact ⟨rfl, rfl⟩

theorem State.acceptWrite_working (s : State) (p : Path) (k : Nat) (d : List Byte) :
    (s.acceptWrite p k d).working = s.working := by
  simp only [State.working, State.acceptWrite_power]

theorem watchCommand_waits (s : State) (t : Nat) (p : Path) (hcore : s.coreOn) (hmay : s.mayWrite t p 0x2A0003 2) :
    answers (.watchCommand t p) s fun s' => s'.power.mode = s.power.mode ∧
      s'.power.command = if s.working ∧ s.power.command = 0 then 2 else s.power.command := by
  have hexec : exec (.watchCommand t p) s = execWatchCommand t p s := rfl
  refine answers_controlledNum hexec hcore hmay ?_
  have h := ((s.advance t).acceptWrite p 0x2A0003 (leBytes (objWidth 0x2A0003 / 8) 2)).lowPower_watch_power
  rw [State.settle_power]
  rw [State.acceptWrite_power, State.acceptWrite_working, State.advance_power, State.advance_working] at h
  exact h

theorem retainedOffCommand_waits (s : State) (t : Nat) (p : Path) (hcore : s.coreOn) (hmay : s.mayWrite t p 0x2A0003 3) :
    answers (.retainedOffCommand t p) s fun s' => s'.power = { s.power with command := 3, deferring := none } := by
  have hexec : exec (.retainedOffCommand t p) s = execRetainedOffCommand t p s := rfl
  refine answers_controlledNum hexec hcore hmay ?_
  rw [State.settle_power, State.lowPower, if_pos rfl, State.onPower_power, State.acceptWrite_power, State.advance_power]

theorem Option.any_of_some {α : Type} {o : Option α} {i : α} {p : α → Prop} [DecidablePred p] (h : o = some i) (hp : p i) :
    o.any (fun i => decide (p i)) = true := by
  rw [h]
  exact decide_eq_true hp

theorem deferralTimeout_ends (s : State) (t i : Nat) (hpow : s.powered) (hdefer : s.power.deferring = some i)
    (hlate : i + s.obj 0x2A1005 * msec ≤ max s.now t) :
    answers (.deferralTimeout t) s fun s' => s'.power = { s.power with deferring := none, deferred := true } := by
  have hexec : exec (.deferralTimeout t) s = execDeferralTimeout t s := rfl
  refine answers_powered hexec hpow ?_
  have hover : (s.advance t).deferralOver = true := Option.any_of_some hdefer hlate
  rw [if_pos hover, State.settle_power, State.onPower_power, State.advance_power]

/-- Settles O44: it holds. -/
theorem modeRequests : Obligations.mode_requests := fun s t =>
  ⟨workingModeRequest_requests s t, watchCommand_waits s t, retainedOffCommand_waits s t, deferralTimeout_ends s t⟩

/-! #### Heat (O45) -/

/-- The readings of the sensors stay, and the thermal level becomes the one reached. -/
theorem State.thermalTo_power (s : State) (v : Nat) : (s.thermalTo v).power.junctions = s.power.junctions ∧
    (s.thermalTo v).power.supplies = s.power.supplies ∧ (s.thermalTo v).power.hottest = s.power.hottest ∧
    (s.thermalTo v).power.thermal = v := by
  unfold State.thermalTo
  split
  next h => exact ⟨rfl, rfl, rfl, h.symm⟩
  · have hpower := State.noteReturn_power ((s.onPower fun p => { p with thermal := v }).emit 0xB009)
    rw [State.emit_power] at hpower
    dsimp only
    split
    · rw [State.startExit, State.onPower_power, hpower]
      exact ⟨rfl, rfl, rfl, rfl⟩
    · rw [hpower]
      exact ⟨rfl, rfl, rfl, rfl⟩

theorem State.countForced_power (s : State) : s.countForced.power.junctions = s.power.junctions ∧
    s.countForced.power.supplies = s.power.supplies ∧ s.countForced.power.hottest = s.power.hottest ∧
    s.countForced.power.thermal = s.power.thermal := by
  unfold State.countForced
  split <;> exact ⟨rfl, rfl, rfl, rfl⟩

theorem thermalSample_takes (s : State) (t : Nat) (hpow : s.powered) (r : Readings) :
    answers (.thermalSample t r) s fun s' => s'.power.junctions = r.junctions ∧ s'.power.supplies = r.supplies ∧
      s'.power.hottest = hottestOf r.junctions ∧
      s'.power.thermal = thermalLevel (Config.grade == 1) s.power.thermal (hottestOf r.junctions) := by
  have hexec : exec (.thermalSample t r) s = execThermalSample t r s := rfl
  refine answers_powered hexec hpow ?_
  rw [State.settle_power, only_power (State.observeSensors_same (by decide) _),
    only_power (State.lifetimeSample_same (by decide) ..)]
  generalize hw : (s.advance t).onPower _ = w
  obtain ⟨hj, hs, hh, ht⟩ := State.countForced_power
    (w.thermalTo (thermalLevel (Config.grade == 1) w.power.thermal (hottestOf r.junctions)))
  obtain ⟨hj', hs', hh', ht'⟩ := State.thermalTo_power w (thermalLevel (Config.grade == 1) w.power.thermal (hottestOf r.junctions))
  rw [hj, hs, hh, ht, hj', hs', hh', ht', ← hw]
  exact ⟨rfl, rfl, rfl, rfl⟩

theorem thermalTrip_holds (s : State) (t : Nat) (hpow : s.powered) :
    answers (.thermalTrip t) s fun s' => s'.power.trip ∧ s'.power.tripSticky ∧ s'.boot.on = false ∧ s'.power.coreEn = false ∧
      s'.alarm.pins = 0 ∧ s'.red.roleOut = false ∧ s'.powered = false := by
  have hexec : exec (.thermalTrip t) s = execThermalTrip t s := rfl
  refine answers_powered hexec hpow ?_
  rw [State.settle_power, State.settle_boot, State.settle_alarm, State.settle_powered, State.settle_red_roleOut]
  exact ⟨rfl, rfl, rfl, rfl, rfl, rfl, rfl⟩

/-- Settles O45: it holds. -/
theorem thermal : Obligations.thermal := fun s t hpow => ⟨thermalSample_takes s t hpow, thermalTrip_holds s t hpow⟩

/-! #### Wakes (O46) -/

/-- An enabled cause in Watch below thermal level 2 asserts CORE_EN and is noted (R502). -/
theorem State.wakeCause_wakes {s : State} {n : Nat} (hmode : s.power.mode = .watch) (hflag : s.flag 0x2A0101 n)
    (hcool : s.power.thermal < 2) (hidle : s.power.wakeAt = none) : (s.wakeCause n).power.coreEn = true ∧
      (s.wakeCause n).power.wakeAt = some s.now ∧ (s.wakeCause n).obj 0x2A0006 = n ∧ (s.wakeCause n).power.mode = .watch := by
  rw [State.wakeCause, if_pos ⟨hmode, hflag, hcool, hidle⟩, State.emit_power, State.emit_obj _ _ _ _ (by decide) (by decide),
    State.setObj_obj_same]
  exact ⟨rfl, rfl, rfl, hmode⟩

/-- An enabled cause in Retained-off asserts CORE_EN and SRAM_EN and is noted (R505). -/
theorem State.wakeOff_wakes {s : State} {n : Nat} (hon : s.boot.on) (htrip : s.power.trip = false)
    (hmode : s.power.mode = .retainedOff) (hflag : s.flag 0x2A0101 n) (hidle : s.power.wakeAt = none) :
    (s.wakeOff n).power.coreEn = true ∧ (s.wakeOff n).power.sramEn = true ∧ (s.wakeOff n).power.wakeAt = some s.now ∧
      (s.wakeOff n).obj 0x2A0006 = n := by
  rw [State.wakeOff, if_pos ⟨hon, htrip, hmode, hflag, hidle⟩, State.setObj_obj_same]
  exact ⟨rfl, rfl, rfl, rfl⟩

theorem State.wakeLogic_of_powered {s : State} (h : s.powered) (n : Nat) : s.wakeLogic n = s.wakeCause n := by
  rw [State.wakeLogic, if_pos h]

theorem State.wakeLogic_of_off {s : State} (h : s.power.mode = .retainedOff) (n : Nat) : s.wakeLogic n = s.wakeOff n := by
  rw [State.wakeLogic, if_neg (by simp [State.powered, h])]

theorem wakeN_wakes_watch (s : State) (t : Nat) (hpow : s.powered) (hmode : s.power.mode = .watch) (hcool : s.power.thermal < 2)
    (hidle : s.power.wakeAt = none) (hflag : s.flag 0x2A0101 3) : answers (.wakeN t) s fun s' =>
      s'.power.coreEn ∧ s'.power.wakeAt = some (max s.now t) ∧ s'.obj 0x2A0006 = 3 ∧ s'.power.mode = .watch := by
  have hexec : exec (.wakeN t) s = execWakeN t s := rfl
  refine answers_always hexec ?_
  rw [State.wakeLogic_of_powered (s := s.advance t) hpow, State.settle_power, State.settle_obj _ (by decide) (by decide)]
  exact State.wakeCause_wakes (s := s.advance t) hmode hflag hcool hidle

theorem rtcWakeTime_wakes_watch (s : State) (t : Nat) (hpow : s.powered) (hmode : s.power.mode = .watch)
    (hcool : s.power.thermal < 2) (hidle : s.power.wakeAt = none) (htime : (s.advance t).wakeTimeReached)
    (hflag : s.flag 0x2A0101 4) : answers (.rtcWakeTime t) s fun s' =>
      s'.power.coreEn ∧ s'.power.wakeAt = some (max s.now t) ∧ s'.obj 0x2A0006 = 4 := by
  have hexec : exec (.rtcWakeTime t) s = execRtcWakeTime t s := rfl
  refine answers_always hexec ?_
  rw [if_pos htime, State.wakeLogic_of_powered (s := s.advance t) hpow, State.settle_power,
    State.settle_obj _ (by decide) (by decide)]
  obtain ⟨hen, hat_, hobj, -⟩ := State.wakeCause_wakes (s := s.advance t) hmode hflag hcool hidle
  exact ⟨hen, hat_, hobj⟩

theorem wakeN_wakes_off (s : State) (t : Nat) (hon : s.boot.on) (htrip : s.power.trip = false)
    (hmode : s.power.mode = .retainedOff) (hidle : s.power.wakeAt = none) (hflag : s.flag 0x2A0101 3) :
    answers (.wakeN t) s fun s' =>
      s'.power.coreEn ∧ s'.power.sramEn ∧ s'.power.wakeAt = some (max s.now t) ∧ s'.obj 0x2A0006 = 3 := by
  have hexec : exec (.wakeN t) s = execWakeN t s := rfl
  refine answers_always hexec ?_
  rw [State.wakeLogic_of_off (s := s.advance t) hmode, State.settle_power, State.settle_obj _ (by decide) (by decide)]
  exact State.wakeOff_wakes (s := s.advance t) hon htrip hmode hflag hidle

theorem rtcWakeTime_wakes_off (s : State) (t : Nat) (hon : s.boot.on) (htrip : s.power.trip = false)
    (hmode : s.power.mode = .retainedOff) (hidle : s.power.wakeAt = none) (htime : (s.advance t).wakeTimeReached)
    (hflag : s.flag 0x2A0101 4) : answers (.rtcWakeTime t) s fun s' =>
      s'.power.coreEn ∧ s'.power.sramEn ∧ s'.power.wakeAt = some (max s.now t) ∧ s'.obj 0x2A0006 = 4 := by
  have hexec : exec (.rtcWakeTime t) s = execRtcWakeTime t s := rfl
  refine answers_always hexec ?_
  rw [if_pos htime, State.wakeLogic_of_off (s := s.advance t) hmode, State.settle_power,
    State.settle_obj _ (by decide) (by decide)]
  exact State.wakeOff_wakes (s := s.advance t) hon htrip hmode hflag hidle

theorem State.wakeCause_watchFrames (s : State) (n : Nat) : (s.wakeCause n).net.watchFrames = s.net.watchFrames := by
  unfold State.wakeCause
  split
  · rw [State.emit_net_watchFrames]; rfl
  · rfl

theorem canWakeFrame_holds (s : State) (t : Nat) (c : Fin 2) (cob : Nat) (data : List Byte) (hpow : s.powered)
    (hmode : s.power.mode = .watch) (hcore : s.coreOn = false) (hwakes : s.wakesOn c cob) :
    answers (.canWakeFrame t c cob data) s fun s' =>
      s'.net.watchFrames = (if s.net.watchFrames.length < 8 then s.net.watchFrames ++ [(c.val, cob, data)] else s.net.watchFrames) ∧
      (s.flag 0x2A0101 1 → s.power.thermal < 2 → s.power.wakeAt = none → s'.power.coreEn ∧ s'.obj 0x2A0006 = 1) := by
  have hexec : exec (.canWakeFrame t c cob data) s = execCanWakeFrame t c cob data s := rfl
  refine answers_powered hexec hpow ?_
  have hcond : (s.advance t).power.mode = .watch ∧ (s.advance t).coreOn = false ∧ (s.advance t).wakesOn c cob = true :=
    ⟨hmode, hcore, hwakes⟩
  rw [if_pos hcond, State.wakeFrame, State.settle_net_watchFrames, State.wakeCause_watchFrames, State.settle_power,
    State.settle_obj _ (by decide) (by decide)]
  refine ⟨rfl, fun hflag hcool hidle => ?_⟩
  generalize hw : (s.advance t).onNet _ = w
  have hpower : w.power = s.power := by rw [← hw, State.onNet_power, State.advance_power]
  have hflag' : w.flag 0x2A0101 1 = true := by
    rw [State.flag, State.cfg_congr (s := s) (by rw [← hw, State.onNet_inForce, State.advance_inForce])]
    exact hflag
  obtain ⟨hen, -, hobj, -⟩ := State.wakeCause_wakes (s := w) (by rw [hpower, hmode]) hflag' (by rw [hpower]; exact hcool)
    (by rw [hpower, hidle])
  exact ⟨hen, hobj⟩

/-- Settles O46: it holds. -/
theorem wakeLogic : Obligations.wake_logic := fun s t =>
  ⟨fun hpow hmode hcool hidle =>
    ⟨wakeN_wakes_watch s t hpow hmode hcool hidle, rtcWakeTime_wakes_watch s t hpow hmode hcool hidle⟩,
  fun hon htrip hmode hidle => ⟨wakeN_wakes_off s t hon htrip hmode hidle, rtcWakeTime_wakes_off s t hon htrip hmode hidle⟩,
  canWakeFrame_holds s t⟩

/-! #### The spotter (O48) -/

/-- What a score changes of the power part leaves the ring and the frame number. -/
def PowerSt.sameRing (x y : PowerSt) : Prop := y.ring = x.ring ∧ y.frameNo = x.frameNo ∧ y.score = x.score

theorem PowerSt.sameRing.trans {x y z : PowerSt} (hxy : x.sameRing y) (hyz : y.sameRing z) : x.sameRing z := by
  obtain ⟨hr, hf, hs⟩ := hxy
  obtain ⟨hr', hf', hs'⟩ := hyz
  exact ⟨hr'.trans hr, hf'.trans hf, hs'.trans hs⟩

theorem State.wakeCause_power (s : State) (n : Nat) : ∃ en at_ ok re, (s.wakeCause n).power =
    { s.power with coreEn := en, wakeAt := at_, railsOk := ok, retryAt := re } := by
  unfold State.wakeCause
  split
  · exact ⟨true, some s.now, false, none, by rw [State.emit_power]; rfl⟩
  · exact ⟨s.power.coreEn, s.power.wakeAt, s.power.railsOk, s.power.retryAt, rfl⟩

theorem State.dropDeferred_power (s : State) : ∃ c d e, s.dropDeferred.power =
    { s.power with command := c, deferring := d, deferred := e } := by
  unfold State.dropDeferred
  split
  · exact ⟨0, none, false, by rw [State.emit_power]; rfl⟩
  · exact ⟨s.power.command, s.power.deferring, s.power.deferred, rfl⟩

theorem State.requestRescore_power (s : State) (woke : Bool) : ∃ ph, (s.requestRescore woke).power = { s.power with phrase := ph } := by
  refine ⟨some { arm := s.power.arm.getD s.stamp, det := s.stamp, woke := woke }, ?_⟩
  unfold State.requestRescore
  dsimp only
  split
  · split <;> rfl
  · rfl

theorem State.requestRescore_obj (s : State) (woke : Bool) (k : Nat) : (s.requestRescore woke).obj k = s.obj k := by
  refine State.obj_congr ?_ k
  unfold State.requestRescore
  dsimp only
  split
  · split <;> rfl
  · rfl

theorem State.detect_spec (s : State) : s.power.sameRing s.detect.power ∧ s.detect.power.armed = false ∧
    s.detect.power.lastDetection.isSome = true ∧
    s.detect.obj 0x2A1007 = (s.obj 0x2A1007 + 1) % 2 ^ objWidth 0x2A1007 := by
  generalize hx : ((s.onPower fun p => { p with armed := false, lastDetection := some s.stamp }).incr 0x2A1007).emit 0xB005 = x
  have hpower : x.power = { s.power with armed := false, lastDetection := some s.stamp } := by
    rw [← hx, State.emit_power]; rfl
  have hobj : x.obj 0x2A1007 = (s.obj 0x2A1007 + 1) % 2 ^ objWidth 0x2A1007 := by
    rw [← hx, State.emit_obj _ _ _ _ (by decide) (by decide), State.incr_obj_same]; rfl
  obtain ⟨c, d, e, hdrop⟩ := x.dropDeferred_power
  have hdropObj : x.dropDeferred.obj 0x2A1007 = x.obj 0x2A1007 := by
    unfold State.dropDeferred
    split
    · rw [State.emit_obj _ _ _ _ (by decide) (by decide)]; rfl
    · rfl
  generalize hwoke : decide (s.power.mode = .watch ∧ s.flag 0x2A0101 0 ∧ s.power.thermal < 2 ∧ s.power.wakeAt = none) = woke
  generalize hy : (if s.power.spotterDecides then x.dropDeferred.requestRescore woke else x.dropDeferred) = y
  have hyPower : ∃ ph, y.power = { x.dropDeferred.power with phrase := ph } := by
    rw [← hy]
    split
    · exact State.requestRescore_power ..
    · exact ⟨x.dropDeferred.power.phrase, rfl⟩
  have hyObj : y.obj 0x2A1007 = x.dropDeferred.obj 0x2A1007 := by
    rw [← hy]
    split
    · exact State.requestRescore_obj ..
    · rfl
  have hdetect : s.detect = y.wakeCause 0 := by
    rw [← hy, ← hx, ← hwoke]
    rfl
  obtain ⟨ph, hyPower⟩ := hyPower
  obtain ⟨en, at_, ok, re, hwake⟩ := y.wakeCause_power 0
  have hwakeObj : (y.wakeCause 0).obj 0x2A1007 = y.obj 0x2A1007 := by
    unfold State.wakeCause
    split
    · rw [State.emit_obj _ _ _ _ (by decide) (by decide), State.setObj_obj_ne _ _ (by decide)]; rfl
    · rfl
  rw [hdetect, hwakeObj, hyObj, hdropObj, hobj, hwake, hyPower, hdrop, hpower]
  exact ⟨⟨rfl, rfl, rfl⟩, rfl, rfl, rfl⟩

/-- The state with a new score, and the spotter armed where it reached the arm threshold. -/
def State.scored (s : State) (score : Nat) : State :=
  (s.onPower fun p => { p with score := score }).armSpotter s.power.score score

theorem State.armSpotter_sameRing (s : State) (prev score : Nat) : s.power.sameRing (s.armSpotter prev score).power := by
  unfold State.armSpotter
  split <;> exact ⟨rfl, rfl, rfl⟩

theorem State.scoreFrame_cases (s : State) (score : Nat) : s.scoreFrame score = (s.scored score).detect ∨
    s.scoreFrame score = (s.scored score).onPower (fun p => { p with armed := false }) ∨ s.scoreFrame score = s.scored score := by
  unfold State.scoreFrame
  dsimp only
  split
  · exact .inl rfl
  split
  · exact .inr (.inl rfl)
  · exact .inr (.inr rfl)

theorem State.scoreFrame_power (s : State) (score : Nat) : (s.scoreFrame score).power.ring = s.power.ring ∧
    (s.scoreFrame score).power.frameNo = s.power.frameNo ∧ (s.scoreFrame score).power.score = score := by
  have hscored := State.armSpotter_sameRing (s.onPower fun p => { p with score := score }) s.power.score score
  have hframe : (s.scored score).power.sameRing (s.scoreFrame score).power := by
    rcases s.scoreFrame_cases score with h | h | h <;> rw [h]
    · exact (State.detect_spec _).1
    · exact ⟨rfl, rfl, rfl⟩
    · exact ⟨rfl, rfl, rfl⟩
  exact hscored.trans hframe

theorem spotterFrameEnd_joins (s : State) (t : Nat) (score : BitVec 16) (samples : List (BitVec 16)) (hpow : s.powered)
    (hstream : s.wakeStream) : answers (.spotterFrameEnd t score samples) s fun s' => s'.power.score = score.toNat ∧
      s'.power.frameNo = s.power.frameNo + 1 ∧ s'.power.ring.head?.map (·.samples) = some (samples.take 160) ∧
      s'.power.ring.length ≤ 256 := by
  have hexec : exec (.spotterFrameEnd t score samples) s = execSpotterFrameEnd t score samples s := rfl
  refine answers_powered hexec hpow ?_
  have hstream' : (s.advance t).wakeStream = true := hstream
  obtain ⟨hring, hno, hscore⟩ := ((s.advance t).takeFrame samples).scoreFrame_power score.toNat
  rw [if_pos hstream', State.settle_power, hring, hno, hscore, State.takeFrame, State.onPower_power]
  exact ⟨rfl, rfl, rfl, List.length_take_le ..⟩

theorem spotterFrameEnd_arms (s : State) (t : Nat) (score : BitVec 16) (samples : List (BitVec 16)) (hpow : s.powered)
    (hstream : s.wakeStream) (harmed : s.power.armed = false) (hprev : s.power.score < s.cfg 0x2A1003)
    (hreach : s.cfg 0x2A1003 ≤ score.toNat) (hbelow : score.toNat < s.cfg 0x2A1004) :
    answers (.spotterFrameEnd t score samples) s fun s' => s'.power.armed ∧
      s'.power.spotterDecides = (s.power.mode == .watch) := by
  have hexec : exec (.spotterFrameEnd t score samples) s = execSpotterFrameEnd t score samples s := rfl
  refine answers_powered hexec hpow ?_
  have hstream' : (s.advance t).wakeStream = true := hstream
  generalize hw : (s.advance t).takeFrame samples = w
  have hcfg (k : Nat) : w.cfg k = s.cfg k := by rw [← hw]; rfl
  have hpower : w.power.armed = s.power.armed ∧ w.power.score = s.power.score ∧ w.power.mode = s.power.mode := by
    rw [← hw]; exact ⟨rfl, rfl, rfl⟩
  obtain ⟨harmed', hprev', hmode'⟩ := hpower
  have hscored : w.scored score.toNat = (w.onPower fun p => { p with score := score.toNat }).onPower fun p => { p with
      armed := true, arm := some w.stamp, spotterDecides := p.mode == .watch } := by
    have hcond : (w.onPower fun p => { p with score := score.toNat }).power.armed = false ∧
        w.power.score < (w.onPower fun p => { p with score := score.toNat }).cfg 0x2A1003 ∧
        (w.onPower fun p => { p with score := score.toNat }).cfg 0x2A1003 ≤ score.toNat := by
      rw [← hcfg] at hprev hreach
      rw [← hprev'] at hprev
      exact ⟨harmed'.trans harmed, hprev, hreach⟩
    rw [State.scored, State.armSpotter, if_pos hcond]
    rfl
  have hframe : w.scoreFrame score.toNat = w.scored score.toNat := by
    change (if (w.scored score.toNat).power.armed ∧ w.power.score < w.cfg 0x2A1004 ∧
        w.cfg 0x2A1004 ≤ score.toNat then _
      else if score.toNat < w.cfg 0x2A1003 then _ else _) = _
    rw [hcfg, hcfg, if_neg fun h => by omega, if_neg (by omega)]
    rfl
  rw [if_pos hstream', State.settle_power, hframe, hscored, State.onPower_power, State.onPower_power]
  exact ⟨rfl, by rw [hmode']⟩

theorem spotterFrameEnd_detects (s : State) (t : Nat) (score : BitVec 16) (samples : List (BitVec 16)) (hpow : s.powered)
    (hstream : s.wakeStream) (harmed : s.power.armed) (hprev : s.power.score < s.cfg 0x2A1004)
    (hreach : s.cfg 0x2A1004 ≤ score.toNat) :
    answers (.spotterFrameEnd t score samples) s fun s' => s'.power.armed = false ∧ s'.power.lastDetection.isSome ∧
      s'.obj 0x2A1007 = (s.obj 0x2A1007 + 1) % 2 ^ objWidth 0x2A1007 := by
  have hexec : exec (.spotterFrameEnd t score samples) s = execSpotterFrameEnd t score samples s := rfl
  refine answers_powered hexec hpow ?_
  have hstream' : (s.advance t).wakeStream = true := hstream
  generalize hw : (s.advance t).takeFrame samples = w
  have hcfg (k : Nat) : w.cfg k = s.cfg k := by rw [← hw]; rfl
  have hpower : w.power.armed = s.power.armed ∧ w.power.score = s.power.score := by rw [← hw]; exact ⟨rfl, rfl⟩
  obtain ⟨harmed', hprev'⟩ := hpower
  have hscored : w.scored score.toNat = w.onPower fun p => { p with score := score.toNat } := by
    have harm : (w.onPower fun p => { p with score := score.toNat }).power.armed = true := harmed'.trans harmed
    rw [State.scored, State.armSpotter, if_neg fun h => by rw [harm] at h; exact Bool.noConfusion h.1]
  have hframe : w.scoreFrame score.toNat = (w.scored score.toNat).detect := by
    have hcond : (w.scored score.toNat).power.armed = true ∧ w.power.score < w.cfg 0x2A1004 ∧
        w.cfg 0x2A1004 ≤ score.toNat := by
      rw [← hcfg] at hprev hreach
      rw [← hprev'] at hprev
      rw [hscored]
      exact ⟨harmed'.trans harmed, hprev, hreach⟩
    change (if (w.scored score.toNat).power.armed ∧ w.power.score < w.cfg 0x2A1004 ∧
        w.cfg 0x2A1004 ≤ score.toNat then _ else _) = _
    rw [if_pos hcond]
    rfl
  obtain ⟨-, hoff, hlast, hcount⟩ := (w.scored score.toNat).detect_spec
  have hobj : (w.scored score.toNat).obj 0x2A1007 = s.obj 0x2A1007 := by rw [hscored, ← hw]; rfl
  rw [if_pos hstream', State.settle_power, State.settle_obj _ (by decide) (by decide), hframe, hcount, hobj]
  exact ⟨hoff, hlast, rfl⟩

/-- Settles O48: it holds. -/
theorem spotterFrame : Obligations.spotter_frame := fun s t score samples hpow hstream =>
  ⟨spotterFrameEnd_joins s t score samples hpow hstream, spotterFrameEnd_arms s t score samples hpow hstream,
    spotterFrameEnd_detects s t score samples hpow hstream⟩

/-! #### Monitors (O49) -/

theorem State.monitor_congr {s s' : State} (h : s'.health = s.health) (n : Nat) : s'.monitor n = s.monitor n := by
  rw [State.monitor, State.monitor, h]

@[simp] theorem State.settle_monitor (s : State) (n : Nat) : s.settle.monitor n = s.monitor n :=
  State.monitor_congr (State.settle_health s) n

theorem State.setMonitor_monitor_same (s : State) (m : Nat) (v : Monitor) : (s.setMonitor m v).monitor m = v := tget_tset_same ..

theorem State.setMonitor_monitor_ne (s : State) {m n : Nat} (v : Monitor) (h : n ≠ m) : (s.setMonitor m v).monitor n = s.monitor n :=
  tget_tset_ne _ _ _ h

/-- A monitor's control writes that monitor alone (R527). -/
theorem State.monitorControl_monitors {s w : State} (hw : w.health = s.health) (m : Nat) (v : Nat) :
    (w.monitorControl m v).settle.monitor m =
      (let y := if v = 3 then s.monitor m else (s.monitor m).snapshot w.time.dev; if v = 1 then y else y.clear) ∧
    ∀ n, n ≠ m → (w.monitorControl m v).settle.monitor n = s.monitor n := by
  have hmon := State.monitor_congr hw
  refine ⟨?_, fun n hn => ?_⟩
  · rw [State.settle_monitor, State.monitorControl, State.setMonitor_monitor_same, hmon]
  · rw [State.settle_monitor, State.monitorControl, State.setMonitor_monitor_ne _ _ hn, hmon]

theorem State.acceptWrite_advance_health (s : State) (t : Nat) (p : Path) (k : Nat) (d : List Byte) :
    ((s.advance t).acceptWrite p k d).health = s.health := by rw [State.acceptWrite_health, State.advance_health]

/-- Settles O49: it holds. -/
theorem monitors : Obligations.monitors := by
  intro s t p m hcore x shot
  have hdev (v : Nat) : ((s.advance t).acceptWrite p (monitorKey m) (leBytes (objWidth (monitorKey m) / 8) v)).time.dev =
      (s.advance t).time.dev := by rw [State.acceptWrite_time]
  refine ⟨fun hmay => ?_, fun hmay => ?_, fun hmay => ?_⟩
  · have hexec : exec (.monitorSnapshot t p m) s = execMonitorSnapshot t p m s := rfl
    refine answers_controlledNum hexec hcore hmay ?_
    obtain ⟨hsame, hne⟩ := State.monitorControl_monitors (s.acceptWrite_advance_health t p (monitorKey m) _) m 1
    rw [hdev] at hsame
    exact ⟨hsame, hne⟩
  · have hexec : exec (.monitorSnapshotAndClear t p m) s = execMonitorSnapshotAndClear t p m s := rfl
    refine answers_controlledNum hexec hcore hmay ?_
    obtain ⟨hsame, hne⟩ := State.monitorControl_monitors (s.acceptWrite_advance_health t p (monitorKey m) _) m 2
    rw [hdev] at hsame
    exact ⟨hsame, hne⟩
  · have hexec : exec (.monitorClear t p m) s = execMonitorClear t p m s := rfl
    refine answers_controlledNum hexec hcore hmay ?_
    obtain ⟨hsame, hne⟩ := State.monitorControl_monitors (s.acceptWrite_advance_health t p (monitorKey m) _) m 3
    exact ⟨hsame, hne⟩

end Sys2Proof.Machine
end

section
/-! ### The lock level, keys and firmware (O54, O53) -/
namespace Sys2Proof.Machine

/-! #### The lock level (O54) -/

theorem lock_mono {s s' : State} {t : Nat}
    (h : ∀ lo : Nat, lo ≤ ((s.advance t).only .boot).boot.lockLevel → lo ≤ (s'.only .boot).boot.lockLevel) :
    s.boot.lockLevel ≤ s'.boot.lockLevel := h s.boot.lockLevel (Nat.le_refl _)

/-- A command whose frame leaves the boot part leaves the lock level. -/
theorem lock_of_frame {c : Instr} {s s' : State} (h : exec c s = .next s') (hp : (frameOf c).contains .boot = false) :
    s.boot.lockLevel ≤ s'.boot.lockLevel := by
  have hboot : s'.quiet.boot = (s.advance (instantOf c)).quiet.boot := only_boot (exec_frame h (not_mem_of_contains hp))
  have hlevel : s'.boot.lockLevel = s.boot.lockLevel := congrArg BootSt.lockLevel hboot
  exact Nat.le_of_eq hlevel.symm

/-- No command lets the lock level fall: those that reach the boot part keep or raise it (R580). -/
theorem exec_lockLevel (c : Instr) (s s' : State) (h : exec c s = .next s') : s.boot.lockLevel ≤ s'.boot.lockLevel := by
  cases c with
  | tickInEdge => exact lock_mono fun lo hs => execTickInEdge_lock _ _ _ s h hs
  | internalEdge => exact lock_mono fun lo hs => execInternalEdge_lock _ s h hs
  | ptpDerivedEdge => exact lock_mono fun lo hs => execPtpDerivedEdge_lock _ s h hs
  | generatorEdge => exact lock_mono fun lo hs => execGeneratorEdge_lock _ s h hs
  | acquireTimeout => exact lock_mono fun lo hs => execAcquireTimeout_lock _ s h hs
  | heartbeatInstant => exact lock_mono fun lo hs => execHeartbeatInstant_lock _ s h hs
  | journal => exact lock_mono fun lo hs => execJournal_lock _ _ _ s h hs
  | commit => exact lock_mono fun lo hs => execCommit_lock _ _ _ s h hs
  | replAck => exact lock_mono fun lo hs => execReplAck_lock _ _ _ s h hs
  | disputedResolved => exact lock_mono fun lo hs => execDisputedResolved_lock _ s h hs
  | resolve => exact lock_mono fun lo hs => execResolve_lock _ _ s h hs
  | forceActive => exact lock_mono fun lo hs => execForceActive_lock _ _ s h hs
  | resetCommunication => exact lock_mono fun lo hs => execResetCommunication_lock _ _ _ s h hs
  | resetNode => exact lock_mono fun lo hs => execResetNode_lock _ _ _ _ s h hs
  | duplicateListenEnd => exact lock_mono fun lo hs => execDuplicateListenEnd_lock _ _ s h hs
  | rpdo => exact lock_mono fun lo hs => execRpdo_lock _ _ _ _ s h hs
  | storeConfiguration => exact lock_mono fun lo hs => execStoreConfiguration_lock _ _ s h hs
  | udpObjectAccess => exact lock_mono fun lo hs => execUdpObjectAccess_lock _ _ _ _ s h hs
  | objectWrite => exact lock_mono fun lo hs => execObjectWrite_lock _ _ _ _ s h hs
  | store => exact lock_mono fun lo hs => execStore_lock _ _ _ _ s h hs
  | storeComplete => exact lock_mono fun lo hs => execStoreComplete_lock _ _ s h hs
  | restoreDefaults => exact lock_mono fun lo hs => execRestoreDefaults_lock _ _ _ _ s h hs
  | domainPortCommit => exact lock_mono fun lo hs => execDomainPortCommit_lock _ _ _ s h hs
  | livenessDoorbell => exact lock_mono fun lo hs => execLivenessDoorbell_lock _ s h hs
  | hostLivenessLapse => exact lock_mono fun lo hs => execHostLivenessLapse_lock _ s h hs
  | pcieReset => exact lock_mono fun lo hs => execPcieReset_lock _ s h hs
  | pcieLinkDown => exact lock_mono fun lo hs => execPcieLinkDown_lock _ s h hs
  | thermalTrip => exact lock_mono fun lo hs => execThermalTrip_lock _ s h hs
  | flush => exact lock_mono fun lo hs => execFlush_lock _ _ s h hs
  | pwrfailAsserted => exact lock_mono fun lo hs => execPwrfailAsserted_lock _ s h hs
  | debugResume => exact lock_mono fun lo hs => execDebugResume_lock _ _ s h hs
  | parityError => exact lock_mono fun lo hs => execParityError_lock _ _ _ s h hs
  | powerOnReset => exact lock_mono fun lo hs => execPowerOnReset_lock _ _ s h hs
  | pinReset => exact lock_mono fun lo hs => execPinReset_lock _ _ s h hs
  | confirmFirmware => exact lock_mono fun lo hs => execConfirmFirmware_lock _ _ _ s h hs
  | updateData => exact lock_mono fun lo hs => execUpdateData_lock _ _ _ s h hs
  | updateCommit => exact lock_mono fun lo hs => execUpdateCommit_lock _ _ _ s h hs
  | unlock => exact lock_mono fun lo hs => execUnlock_lock _ _ s h hs
  | lock => exact lock_mono fun lo hs => execLock_lock _ _ s h hs
  | sealDevice => exact lock_mono fun lo hs => execSealDevice_lock _ _ s h hs
  | keyBlock => exact lock_mono fun lo hs => execKeyBlock_lock _ _ _ s h hs
  | coreRailsGood => exact lock_mono fun lo hs => execCoreRailsGood_lock _ s h hs
  | _ => exact lock_of_frame h rfl

theorem unlock_judges (s : State) (t : Nat) (tok : List Byte) (hpow : s.powered) :
    answers (.unlock t tok) s fun s' =>
      if s.boot.lockLevel = 1 ∧ tok.length = 96 ∧ s.rootKey (tok.take 32) ∧
          Config.ed25519 (leNat (tok.take 32)) s.unlockMessage (tok.drop 32) then
        s'.boot = { s.boot with unlocked := true, nonce := s.boot.nonce + 1 }
      else s'.boot = s.boot := by
  have hexec : exec (.unlock t tok) s = execUnlock t tok s := rfl
  refine answers_powered hexec hpow ?_
  have hkey : (s.advance t).rootKey (tok.take 32) = s.rootKey (tok.take 32) := rfl
  have hmsg : (s.advance t).unlockMessage = s.unlockMessage := rfl
  rw [State.advance_boot, hkey, hmsg]
  split
  · rw [State.settle_boot, State.emit_boot]; rfl
  · rw [State.settle_boot, State.advance_boot]

theorem raiseLock_raises {c : Instr} {t : Nat} {s : State} {p : Path} {v : Nat}
    (hexec : exec c s = whenCore t (fun s => s.controlledNum p 0x2F0605 v fun s => s.raiseLock v) s) (hcore : s.coreOn)
    (hmay : s.mayWrite t p 0x2F0605 v) :
    answers c s fun s' => s'.boot = { s.boot with lockLevel := max s.boot.lockLevel v } := by
  refine answers_controlledNum hexec hcore hmay ?_
  rw [State.settle_boot, State.raiseLock, State.onBoot_boot, State.acceptWrite_boot, State.advance_boot]

theorem exec_lock (t : Nat) (p : Path) (s : State) :
    exec (.lock t p) s = whenCore t (fun s => s.controlledNum p 0x2F0605 1 fun s => s.raiseLock 1) s := rfl

theorem exec_sealDevice (t : Nat) (p : Path) (s : State) :
    exec (.sealDevice t p) s = whenCore t (fun s => s.controlledNum p 0x2F0605 2 fun s => s.raiseLock 2) s := rfl

/-! #### Writes that are judged (O53, O54) -/

/-- A write that may be made is taken, or refused for what it asks. -/
theorem State.judgedWrite_served {s : State} {p : Path} {k : Nat} {data : List Byte} (hserved : s.served p)
    (herr : s.writeError p k data = 0) (ok : Bool) (eff bad : State → State) : s.judgedWrite p k data ok eff bad =
      if ok then eff (s.acceptWrite p k data) else bad (s.refuse p k abortValue) := by
  rw [State.judgedWrite, if_pos hserved]
  dsimp only
  rw [if_neg (Classical.not_not.mpr herr)]

@[simp] theorem State.refuse_boot (s : State) (p : Path) (k code : Nat) : (s.refuse p k code).boot = s.boot :=
  only_boot (State.refuse_same (by decide) ..)

/-- A refusal is answered by its path. -/
theorem State.refuse_answers (s : State) (p : Path) (k code : Nat) : .answer p k code [] ∈ (s.refuse p k code).out :=
  State.sent ..

/-- A refusal writes its path's counters and what it reports. -/
theorem State.refuse_obj (s : State) (p : Path) (k code : Nat) {j : Nat} (hslot : j < 0x200205 ∨ 0x20020D < j)
    (h1 : j ≠ 0x290104) (h2 : j ≠ 0x290204) (h3 : j ≠ 0x2E0409) : (s.refuse p k code).obj j = s.obj j := by
  have hlim (u : State) : (u.emitLimited second 0xA01A 0xFFFF 0 0).obj j = u.obj j := quiet_obj (State.emitLimited_quiet ..) h1 h2
  have hset (u : State) {i : Nat} (v : Nat) (hi : 0x200205 ≤ i ∧ i ≤ 0x20020D) : (u.setObj i v).obj j = u.obj j :=
    State.setObj_obj_ne u v (by omega)
  have hinc (u : State) {i : Nat} (hi : 0x200205 ≤ i ∧ i ≤ 0x20020D) : (u.incr i).obj j = u.obj j := hset u _ hi
  change State.obj (State.send _ _) j = _
  have hsend (u : State) (o : Out) : (u.send o).obj j = u.obj j := rfl
  rw [hsend]
  cases p <;> simp [pathSlot, hset, hinc, hlim, State.incr_obj_ne _ 1 h3]

theorem exec_keyBlock (t : Nat) (p : Path) (data : List Byte) (s : State) :
    exec (.keyBlock t p data) s = whenCore t (fun s => s.keyBlock p data) s := rfl

theorem keyBlock_judges (s : State) (t : Nat) (p : Path) (data : List Byte) (hcore : s.coreOn)
    (hserved : (s.advance t).served p) (herr : (s.advance t).writeError p 0x2F3001 data = 0) :
    answers (.keyBlock t p data) s fun s' =>
      if s.keyBlockOk data then
        s'.boot = { s.boot with keys := tset s.boot.keys (leAt data 0 1) (leAt data 4 32, leAt data 36 4) } ∧
        s'.obj 0x2F3002 = (s.obj 0x2F3002 + 1) % 2 ^ objWidth 0x2F3002
      else s'.boot = s.boot ∧ s'.obj 0x2F3003 = (s.obj 0x2F3003 + 1) % 2 ^ objWidth 0x2F3003 := by
  refine answers_core (exec_keyBlock ..) hcore ?_
  have hok : (s.advance t).keyBlockOk data = s.keyBlockOk data := rfl
  rw [State.keyBlock, State.judgedWrite_served hserved herr, hok, State.settle_boot, State.settle_obj _ (by decide) (by decide),
    State.settle_obj _ (by decide) (by decide)]
  by_cases h : s.keyBlockOk data = true
  · rw [if_pos h, if_pos h, State.takeKeyBlock, State.emit_boot, State.incr_boot, State.onBoot_boot, State.acceptWrite_boot,
      State.emit_obj _ _ _ _ (by decide) (by decide), State.incr_obj_same]
    refine ⟨rfl, ?_⟩
    change (((s.advance t).acceptWrite p 0x2F3001 data).obj 0x2F3002 + 1) % _ = _
    rw [State.acceptWrite_obj _ _ _ _ (by decide), State.advance_obj]
  · rw [if_neg h, if_neg h, State.incr_boot, State.refuse_boot, State.advance_boot, State.incr_obj_same,
      State.refuse_obj _ _ _ _ (by decide) (by decide) (by decide) (by decide), State.advance_obj]
    exact ⟨rfl, rfl⟩

/-- Settles O54: it holds. -/
theorem lockAndKeys : Obligations.lock_and_keys :=
  ⟨exec_lockLevel, unlock_judges, fun s t p hcore => ⟨raiseLock_raises (exec_lock t p s) hcore,
    raiseLock_raises (exec_sealDevice t p s) hcore, fun data => keyBlock_judges s t p data hcore⟩⟩

/-! #### The start sequence (O52, O53) -/

/-- What a start says of itself when the boot ROM begins, and a commit of an update. -/
def BootSt.sameStart (x y : BootSt) : Prop :=
  y.on = x.on ∧ y.cause = x.cause ∧ y.releasedAt = x.releasedAt ∧ y.lockLevel = x.lockLevel ∧ y.updating = x.updating

theorem BootSt.sameStart_refl (x : BootSt) : x.sameStart x := ⟨rfl, rfl, rfl, rfl, rfl⟩

theorem BootSt.sameStart.trans {x y z : BootSt} (hxy : x.sameStart y) (hyz : y.sameStart z) : x.sameStart z := by
  obtain ⟨ho, hc, hr, hl, hu⟩ := hxy
  obtain ⟨ho', hc', hr', hl', hu'⟩ := hyz
  exact ⟨ho'.trans ho, hc'.trans hc, hr'.trans hr, hl'.trans hl, hu'.trans hu⟩

/-- The start and the copies of the boot header. -/
def BootSt.sameHeader (x y : BootSt) : Prop := x.sameStart y ∧ y.header0 = x.header0 ∧ y.header1 = x.header1

theorem BootSt.sameHeader_refl (x : BootSt) : x.sameHeader x := ⟨x.sameStart_refl, rfl, rfl⟩

theorem BootSt.sameHeader_of_eq {x y : BootSt} (h : y = x) : x.sameHeader y := h ▸ x.sameHeader_refl

theorem BootSt.sameHeader.trans {x y z : BootSt} (hxy : x.sameHeader y) (hyz : y.sameHeader z) : x.sameHeader z :=
  ⟨hxy.1.trans hyz.1, hyz.2.1.trans hxy.2.1, hyz.2.2.trans hxy.2.2⟩

theorem BootSt.putHeader_sameStart (b : BootSt) (h : BootHeader) : b.sameStart (b.putHeader h) := by
  unfold BootSt.putHeader
  dsimp only
  split <;> exact ⟨rfl, rfl, rfl, rfl, rfl⟩

theorem BootSt.trialBoot_sameStart (b : BootSt) : b.sameStart b.trialBoot.1 := by
  unfold BootSt.trialBoot
  dsimp only
  split
  · split <;> exact b.putHeader_sameStart _
  · exact b.sameStart_refl

theorem State.recovery_boot (s : State) : s.boot.sameHeader s.recovery.boot := by
  rw [State.recovery, State.onNet_boot, only_boot (State.sendBootUp_same (by decide) ..)]
  exact ⟨⟨rfl, rfl, rfl, rfl, rfl⟩, rfl, rfl⟩

/-- The part of a restore behind the choice of the copy, which the state `s` holds. -/
def State.restoreFrom (u s : State) : State :=
  let r := u.restoreSets 3 s.newest
  let v := (((r.1.setObj 0x200402 (copySeq s.newest)).setObj 0x200403 ((s.newest.map (·.imageId)).getD 0)).onBoot
    fun b => { b with marks := 0 }).onDict fun d => { d with restored := true }
  if r.2 then v.emit 0xD006 else v

theorem State.restoreFrom_boot (u s : State) : u.boot.sameHeader (u.restoreFrom s).boot := by
  have hsets : (u.restoreSets 3 s.newest).1.boot = u.boot := only_boot (State.restoreSets_same (by decide) ..)
  unfold State.restoreFrom
  dsimp only
  split
  · rw [State.emit_boot, State.onDict_boot, State.onBoot_boot, State.setObj_boot, State.setObj_boot, hsets]
    exact ⟨⟨rfl, rfl, rfl, rfl, rfl⟩, rfl, rfl⟩
  · rw [State.onDict_boot, State.onBoot_boot, State.setObj_boot, State.setObj_boot, hsets]
    exact ⟨⟨rfl, rfl, rfl, rfl, rfl⟩, rfl, rfl⟩

/-- A restore begins with the choice of the copy, and an event where a copy is missing. -/
theorem State.restoreAll_eq (s : State) : ∃ u : State, s.boot.sameHeader u.boot ∧ s.restoreAll = u.restoreFrom s := by
  generalize hx : s.onBoot (fun b => { b with selected := s.newestCopy.getD 0xFF, marks := (s.newest.map (·.marks)).getD 0 }) = x
  have hboot : s.boot.sameHeader x.boot := by rw [← hx]; exact ⟨⟨rfl, rfl, rfl, rfl, rfl⟩, rfl, rfl⟩
  have hemit (code : Nat) : s.boot.sameHeader (x.emit code).boot := by rw [State.emit_boot]; exact hboot
  unfold State.restoreAll
  dsimp only
  rw [hx]
  split
  · exact ⟨x, hboot, rfl⟩
  · exact ⟨x.emit 0xD005, hemit _, rfl⟩
  · exact ⟨x.emit 0xD004, hemit _, rfl⟩

theorem State.restoreAll_boot (s : State) : s.boot.sameHeader s.restoreAll.boot := by
  obtain ⟨u, hu, h⟩ := s.restoreAll_eq
  rw [h]
  exact hu.trans (u.restoreFrom_boot s)

theorem State.startStep3_boot (s : State) (guard : Bool) : s.boot.sameHeader (s.startStep3 guard).boot := by
  generalize hx : (s.onBoot fun b => { b with state := 2 }).restoreAll = x
  have h1 : s.boot.sameHeader x.boot := by
    rw [← hx]
    exact BootSt.sameHeader.trans (y := (s.onBoot fun b => { b with state := 2 }).boot)
      ⟨⟨rfl, rfl, rfl, rfl, rfl⟩, rfl, rfl⟩ (State.restoreAll_boot _)
  have h2 : x.startAdopt.startMonitors.adoptTimeSource.startUtc.startTick.syncPartners.boot = x.boot := by
    rw [only_boot (State.syncPartners_same (by decide) _), only_boot (State.startTick_same (by decide) _),
      only_boot (State.startUtc_same (by decide) _), only_boot (State.adoptTimeSource_same (by decide) _),
      only_boot (State.startMonitors_same (by decide) _), only_boot (State.startAdopt_same (by decide) _)]
  unfold State.startStep3
  dsimp only
  rw [hx]
  split
  · rw [h2]; exact h1
  · rw [only_boot (State.startCommit_same (by decide) _), h2]; exact h1

theorem State.leaveInitialisation_boot (s : State) : s.boot.sameHeader s.leaveInitialisation.boot := by
  have hup : ((s.sendBootUp 0).sendBootUp 1).boot = s.boot := by
    rw [only_boot (State.sendBootUp_same (by decide) ..), only_boot (State.sendBootUp_same (by decide) ..)]
  unfold State.leaveInitialisation
  dsimp only
  split
  · rw [only_boot (State.toNmt_same (by decide) ..)]
    split
    · rw [State.onBoot_boot, hup]; exact ⟨⟨rfl, rfl, rfl, rfl, rfl⟩, rfl, rfl⟩
    · exact BootSt.sameHeader_of_eq hup
  · exact s.boot.sameHeader_refl

theorem State.trainDram_boot (s : State) : s.boot.sameHeader s.trainDram.boot := by
  unfold State.trainDram
  dsimp only
  split
  · exact ⟨⟨rfl, rfl, rfl, rfl, rfl⟩, rfl, rfl⟩
  split
  · rw [State.onBoot_boot, State.emit_boot]; exact ⟨⟨rfl, rfl, rfl, rfl, rfl⟩, rfl, rfl⟩
  · rw [State.emit_boot, State.onBoot_boot, State.emit_boot]; exact ⟨⟨rfl, rfl, rfl, rfl, rfl⟩, rfl, rfl⟩

theorem State.startEcc_boot (s : State) : s.boot.sameHeader s.startEcc.boot := by
  unfold State.startEcc
  dsimp only
  split <;> exact ⟨⟨rfl, rfl, rfl, rfl, rfl⟩, rfl, rfl⟩

theorem State.startSteps_boot (s : State) (guard : Bool) : s.boot.sameHeader (s.startSteps guard).boot := by
  unfold State.startSteps
  dsimp only
  rw [only_boot (State.startRole_same (by decide) _), only_boot (State.startImage_same (by decide) _)]
  refine BootSt.sameHeader.trans ?_ (State.startEcc_boot _)
  generalize hx : (if s.boot.generatorBad = true then (s.emit 0x600A).setObj 0x260402 1 else s) = x
  have h1 : x.boot = s.boot := by
    rw [← hx]
    split
    · rw [State.setObj_boot, State.emit_boot]
    · rfl
  have h2 : s.boot.sameHeader ((x.startCtrl 0).startCtrl 1).leaveInitialisation.boot := by
    have h := ((x.startCtrl 0).startCtrl 1).leaveInitialisation_boot
    rw [only_boot (State.startCtrl_same (by decide) ..), only_boot (State.startCtrl_same (by decide) ..), h1] at h
    exact h
  split
  · exact h2
  · exact h2.trans (State.trainDram_boot _)

/-- The boot ROM keeps what the start says of itself, and the copies of the boot header as the trial boot leaves them (R565). -/
theorem State.bootRom_boot (s : State) (guard : Bool) : s.boot.trialBoot.1.sameHeader (s.bootRom guard).boot := by
  have hrun (n : Nat) : s.boot.trialBoot.1.sameHeader { s.boot.trialBoot.1 with running := n } := ⟨⟨rfl, rfl, rfl, rfl, rfl⟩, rfl, rfl⟩
  unfold State.bootRom
  dsimp only
  split
  · exact State.recovery_boot (s.onBoot fun _ => s.boot.trialBoot.1)
  split
  · exact State.recovery_boot (s.onBoot fun _ => s.boot.trialBoot.1)
  next n _ =>
    refine BootSt.sameHeader.trans ?_ ((State.startStep3_boot _ guard).trans (State.startSteps_boot _ guard))
    split
    · split
      · rw [State.emit_boot]; exact hrun n
      · exact hrun n
    · rw [State.emit_boot]
      split
      · rw [State.emit_boot]; exact hrun n
      · exact hrun n

/-! #### Resets (O52) -/

theorem State.matrix_mode (s : State) : s.matrix.power.mode = s.power.mode := by
  have hwake (u : State) (n : Nat) : (u.wakeCause n).power.mode = u.power.mode := by
    obtain ⟨en, at_, ok, re, h⟩ := u.wakeCause_power n
    rw [h]
  have hrise (u : State) (k : Nat) : (u.condRise k).power.mode = u.power.mode := by
    have hbefore : (if (u.condWord k).testBit 51 then (u.alarmRecord 0x4001 k).notifyTrip k
        else if u.due 10000000 0x4001 k ∧ u.masked 0x4001 then (u.alarmRecord 0x4001 k).emcy 0xFF04 0x4001 k false
        else u.alarmRecord 0x4001 k).power = u.power := by
      split
      · rw [only_power (State.notifyTrip_same (by decide) ..), only_power (State.alarmRecord_same (by decide) ..)]
      · split
        · rw [only_power (State.emcy_same (by decide) ..), only_power (State.alarmRecord_same (by decide) ..)]
        · rw [only_power (State.alarmRecord_same (by decide) ..)]
    unfold State.condRise
    dsimp only
    split
    · rw [hwake, hbefore]
    · rw [hbefore]
  have hfold (l : List Nat) (u : State) : (l.foldl State.condRise u).power.mode = u.power.mode :=
    List.foldlRecOn l State.condRise (motive := fun u' => u'.power.mode = u.power.mode) rfl fun u' h k _ => (hrise u' k).trans h
  have hfall (l : List Nat) (u : State) : (l.foldl State.condFall u).power = u.power :=
    List.foldlRecOn l State.condFall (motive := fun u' => u'.power = u.power) rfl fun u' h k _ =>
      (only_power (State.condFall_same (by decide) ..)).trans h
  simp only [State.matrix, hfall, hfold]
  rfl

theorem State.startCommit_mode (s : State) : s.startCommit.power.mode = s.power.mode := by
  unfold State.startCommit
  split
  · rw [only_power (State.requestCommit_same (by decide) _)]
  · unfold State.swapBank
    dsimp only
    rw [State.matrix_mode, State.emit_power]
    rfl

theorem State.startStep3_mode (s : State) (guard : Bool) : (s.startStep3 guard).power.mode = s.power.mode := by
  have h2 : (((s.onBoot fun b => { b with state := 2 }).restoreAll.startAdopt.startMonitors).adoptTimeSource.startUtc.startTick.syncPartners).power =
      s.power := by
    rw [only_power (State.syncPartners_same (by decide) _), only_power (State.startTick_same (by decide) _),
      only_power (State.startUtc_same (by decide) _), only_power (State.adoptTimeSource_same (by decide) _),
      only_power (State.startMonitors_same (by decide) _), only_power (State.startAdopt_same (by decide) _),
      only_power (State.restoreAll_same (by decide) _), State.onBoot_power]
  unfold State.startStep3
  dsimp only
  split
  · rw [h2]
  · rw [State.startCommit_mode, h2]

theorem State.bootRom_mode (s : State) (guard : Bool) : (s.bootRom guard).power.mode = s.power.mode := by
  unfold State.bootRom
  dsimp only
  split
  · rw [only_power (State.recovery_same (by decide) _), State.onBoot_power]
  split
  · rw [only_power (State.recovery_same (by decide) _), State.onBoot_power]
  · rw [only_power (State.startSteps_same (by decide) ..), State.startStep3_mode]
    split
    · split
      · rw [State.emit_power, State.onBoot_power, State.onBoot_power]
      · rw [State.onBoot_power, State.onBoot_power]
    · rw [State.emit_power]
      split
      · rw [State.emit_power, State.onBoot_power, State.onBoot_power]
      · rw [State.onBoot_power, State.onBoot_power]

/-- A device that has begun anew with a cause: on since this instant, in Run, with its lock level. -/
def State.startedAnew (s s' : State) (cause : Nat) : Prop := s'.boot.on = true ∧ s'.boot.cause = cause ∧ s'.boot.releasedAt = s.now ∧
  s'.boot.lockLevel = s.boot.lockLevel ∧ s'.power.mode = .run

/-- The boot ROM runs the start of a state that a reset has cleared. -/
theorem State.bootRom_startedAnew {s w : State} {env : StartEnv} {cause : Nat} (guard : Bool)
    (hboot : (s.boot.again env cause s.now).sameStart w.boot) (hmode : w.power.mode = .run) :
    s.startedAnew (w.bootRom guard) cause := by
  obtain ⟨hon, hcause, hat_, hlock, -⟩ := hboot.trans ((w.boot.trialBoot_sameStart).trans (w.bootRom_boot guard).1)
  exact ⟨hon, hcause, hat_, hlock, (w.bootRom_mode guard).trans hmode⟩

theorem State.dropStore_lockLevel (s : State) : s.dropStore.boot.lockLevel = s.boot.lockLevel := by
  unfold State.dropStore
  split
  · rfl
  · rw [State.onDict_boot, State.setCopy, State.onBoot_boot]
    split <;> rfl

theorem State.reportTrip_mode (s : State) : s.reportTrip.power.mode = s.power.mode := by
  unfold State.reportTrip
  split
  · rw [State.emit_power]; rfl
  · rfl

/-- A full start clears everything but the backup rail and NOR. -/
theorem State.fullStart_starts (s : State) (env : StartEnv) (cause : Nat) :
    s.startedAnew (s.fullStart env cause) cause ∧ (s.fullStart env cause).sram = [] := by
  generalize hx : s.dropStore.clearAll env cause = x
  generalize hw : (x.startLifetime.loadRtc.noteCalendar).reportTrip = w
  have hxboot : x.boot = s.dropStore.boot.again env cause s.now := by
    rw [← hx, ← only_now (State.dropStore_same (by decide) s)]; rfl
  have hwboot : w.boot = x.boot := by
    rw [← hw, only_boot (State.reportTrip_same (by decide) _), only_boot (State.noteCalendar_same (by decide) _),
      only_boot (State.loadRtc_same (by decide) _), only_boot (State.startLifetime_same (by decide) _)]
  have hwmode : w.power.mode = .run := by
    rw [← hw, State.reportTrip_mode, only_power (State.noteCalendar_same (by decide) _), only_power (State.loadRtc_same (by decide) _),
      only_power (State.startLifetime_same (by decide) _), ← hx]
    rfl
  have hwsram : w.sram = [] := by
    rw [← hw, only_sram (State.reportTrip_same (by decide) _), only_sram (State.noteCalendar_same (by decide) _),
      only_sram (State.loadRtc_same (by decide) _), only_sram (State.startLifetime_same (by decide) _), ← hx]
    rfl
  have hstart : s.fullStart env cause = w.bootRom false := by rw [State.fullStart, hx, hw]
  rw [hstart]
  refine ⟨State.bootRom_startedAnew (env := env) false ?_ hwmode, ?_⟩
  · rw [hwboot, hxboot]
    exact ⟨rfl, rfl, rfl, s.dropStore_lockLevel, rfl⟩
  · rw [only_sram (State.bootRom_same (by decide) ..), hwsram]

/-- A reset node keeps SRAM. -/
theorem State.resetNode_starts (s : State) (env : StartEnv) (cause : Nat) :
    s.startedAnew (s.resetNode env cause) cause ∧ (s.resetNode env cause).sram = s.sram := by
  generalize hx : (s.dropStore.stopPorts 1).unclaim = x
  have hboot : x.boot.lockLevel = s.boot.lockLevel := by
    rw [← hx, only_boot (State.unclaim_same (by decide) _), only_boot (State.stopPorts_same (by decide) ..), s.dropStore_lockLevel]
  have hnow : x.now = s.now := by
    rw [← hx, only_now (State.unclaim_same (by decide) _), only_now (State.stopPorts_same (by decide) ..),
      only_now (State.dropStore_same (by decide) _)]
  have hsram : x.sram = s.sram := by
    rw [← hx, only_sram (State.unclaim_same (by decide) _), only_sram (State.stopPorts_same (by decide) ..),
      only_sram (State.dropStore_same (by decide) _)]
  have hstart : s.resetNode env cause = (x.clearNode env cause).bootRom true := by rw [State.resetNode, hx]
  rw [hstart]
  refine ⟨State.bootRom_startedAnew (env := env) true ⟨rfl, rfl, hnow, hboot, rfl⟩ rfl, ?_⟩
  rw [only_sram (State.bootRom_same (by decide) ..)]
  exact hsram

/-- A start of the state behind the time that passed, settled. -/
theorem State.startedAnew_settle {s w : State} {t cause : Nat} (h : (s.advance t).startedAnew w cause) :
    w.settle.boot.on = true ∧ w.settle.boot.cause = cause ∧ w.settle.boot.releasedAt = max s.now t ∧
      w.settle.boot.lockLevel = s.boot.lockLevel ∧ w.settle.power.mode = .run := by
  rw [State.settle_boot, State.settle_power]
  exact h

theorem powerOnReset_starts (s : State) (t : Nat) (env : StartEnv) : answers (.powerOnReset t env) s fun s' => s'.boot.on ∧
    s'.boot.cause = 0 ∧ s'.boot.releasedAt = max s.now t ∧ s'.boot.lockLevel = s.boot.lockLevel ∧ s'.power.mode = .run ∧
    s'.sram = [] := by
  have hexec : exec (.powerOnReset t env) s = execPowerOnReset t env s := rfl
  refine answers_always hexec ?_
  obtain ⟨hanew, hsram⟩ := (s.advance t).fullStart_starts env 0
  obtain ⟨hon, hcause, hat_, hlock, hmode⟩ := State.startedAnew_settle hanew
  exact ⟨hon, hcause, hat_, hlock, hmode, by rw [State.settle_sram, hsram]⟩

theorem pinReset_starts (s : State) (t : Nat) (env : StartEnv) : answers (.pinReset t env) s fun s' =>
    if s.power.trip then s'.boot = s.boot ∧ s'.power = s.power
    else s'.boot.on ∧ s'.boot.cause = 1 ∧ s'.boot.releasedAt = max s.now t ∧ s'.boot.lockLevel = s.boot.lockLevel ∧
      s'.power.mode = .run ∧ s'.sram = [] := by
  have hexec : exec (.pinReset t env) s = execPinReset t env s := rfl
  refine answers_always hexec ?_
  rw [State.advance_power]
  by_cases h : s.power.trip = true
  · rw [if_pos h, if_pos h, State.settle_boot, State.settle_power]
    exact ⟨rfl, rfl⟩
  · rw [if_neg h, if_neg h]
    obtain ⟨hanew, hsram⟩ := (s.advance t).fullStart_starts env 1
    obtain ⟨hon, hcause, hat_, hlock, hmode⟩ := State.startedAnew_settle hanew
    exact ⟨hon, hcause, hat_, hlock, hmode, by rw [State.settle_sram, hsram]⟩

/-- A reset node behind an operation that keeps the instant, the lock level and SRAM. -/
theorem resetNode_behind {s w : State} {t cause : Nat} (env : StartEnv) (hnow : w.now = max s.now t)
    (hlock : w.boot.lockLevel = s.boot.lockLevel) (hsram : w.sram = s.sram) :
    let s' := (w.resetNode env cause).settle
    s'.boot.on = true ∧ s'.boot.cause = cause ∧ s'.boot.releasedAt = max s.now t ∧ s'.boot.lockLevel = s.boot.lockLevel ∧
      s'.power.mode = .run ∧ s'.sram = s.sram := by
  obtain ⟨⟨hon, hcause, hat_, hlock', hmode⟩, hsram'⟩ := w.resetNode_starts env cause
  dsimp only
  rw [State.settle_boot, State.settle_power, State.settle_sram]
  exact ⟨hon, hcause, hat_.trans hnow, hlock'.trans hlock, hmode, hsram'.trans hsram⟩

theorem State.powered_of_coreOn {s : State} (h : s.coreOn) : s.powered := by
  simp only [State.coreOn, Bool.and_eq_true] at h
  obtain ⟨⟨⟨hpow, -⟩, -⟩, -⟩ := h
  exact hpow

/-- An NMT command that a control core hears and that is its own takes effect (R423). -/
theorem answers_nmt {c : Instr} {t ctrl node cs : Nat} {f : State → State} {s : State} {P : State → Prop}
    (hc : exec c s = nmtCommand t ctrl node cs f s) (hcore : s.coreOn) (hours : s.addressed ctrl node)
    (hp : P (f (s.advance t)).settle) : answers c s P := by
  have hcore' : (s.advance t).coreOn = true := hcore
  have hours' : (s.advance t).addressed ctrl node = true := hours
  exact ⟨_, by rw [hc, nmtCommand, whenPowered, if_pos (State.powered_of_coreOn hcore), if_pos hcore', if_pos hours'], hp⟩

theorem resetNode_starts (s : State) (t : Nat) (env : StartEnv) (hcore : s.coreOn) (c : Fin 2) (node : Nat)
    (hours : s.addressed c node) : answers (.resetNode t c node env) s fun s' => s'.boot.on ∧ s'.boot.cause = 2 ∧
      s'.boot.releasedAt = max s.now t ∧ s'.boot.lockLevel = s.boot.lockLevel ∧ s'.power.mode = .run ∧ s'.sram = s.sram := by
  have hexec : exec (.resetNode t c node env) s = nmtCommand t c node 0x81 (fun s => s.commandReset env) s := rfl
  refine answers_nmt hexec hcore hours ?_
  unfold State.commandReset
  refine resetNode_behind (cause := 2) env ?_ ?_ ?_
  all_goals split
  · rfl
  · rw [only_now (State.appendLifetime_same (by decide) ..)]; rfl
  · rfl
  · rw [only_boot (State.appendLifetime_same (by decide) ..)]; rfl
  · rfl
  · rw [only_sram (State.appendLifetime_same (by decide) ..)]; rfl

theorem parityError_starts (s : State) (t : Nat) (env : StartEnv) (hcore : s.coreOn) (k : Fin 4) :
    answers (.parityError t k env) s fun s' => s'.boot.on ∧ s'.boot.cause = 4 ∧
      s'.boot.releasedAt = max s.now t ∧ s'.boot.lockLevel = s.boot.lockLevel ∧ s'.power.mode = .run ∧ s'.sram = s.sram := by
  have hexec : exec (.parityError t k env) s = execParityError t k env s := rfl
  refine answers_core hexec hcore ?_
  refine resetNode_behind (cause := 4) env ?_ ?_ ?_
  · rw [State.emit_now, State.incr_now, State.advance_now]
  · rw [State.emit_boot, State.incr_boot, State.advance_boot]
  · rw [State.emit_sram, State.incr_sram, State.advance_sram]

/-- Settles O52: it holds. -/
theorem resets : Obligations.resets := fun s t env =>
  ⟨powerOnReset_starts s t env, pinReset_starts s t env, fun hcore =>
    ⟨resetNode_starts s t env hcore, parityError_starts s t env hcore⟩⟩

/-! #### Confirmation and update (O53) -/

/-- A header is put under the next sequence number into one of the two copies (R563). -/
theorem BootSt.putHeader_mem (b : BootSt) (h : BootHeader) :
    some { h with seq := nextSeq b.header.seq } ∈ [(b.putHeader h).header0, (b.putHeader h).header1] := by
  unfold BootSt.putHeader
  dsimp only
  split
  · exact List.mem_cons_self
  · exact List.mem_cons_of_mem _ List.mem_cons_self

theorem exec_confirmFirmware (t : Nat) (p : Path) (v : Nat) (s : State) : exec (.confirmFirmware t p v) s =
    whenCore t (fun s => s.controlledNum p 0x2F0105 v State.confirmFirmware) s := rfl

/-- The confirmation of a trial ends it, and its minimum security version does not fall. -/
theorem State.confirmFirmware_confirms {s : State} (htrial : s.boot.header.trial) (hrun : s.boot.running = s.boot.header.preferred) :
    s.boot.security ≤ s.confirmFirmware.boot.security ∧
      some { s.boot.header with seq := nextSeq s.boot.header.seq, trial := false, trials := 0 } ∈
        [s.confirmFirmware.boot.header0, s.confirmFirmware.boot.header1] := by
  have hsec (h : BootHeader) : (s.boot.putHeader h).security = s.boot.security := by
    unfold BootSt.putHeader
    dsimp only
    split <;> rfl
  unfold State.confirmFirmware
  dsimp only
  rw [if_pos ⟨htrial, hrun⟩, State.emit_boot, State.onBoot_boot]
  refine ⟨?_, s.boot.putHeader_mem _⟩
  dsimp only
  split
  · split
    · exact Nat.le_max_left ..
    · exact Nat.le_refl _
  · exact Nat.le_refl _

theorem confirmFirmware_ends_trial (s : State) (t : Nat) (p : Path) (hcore : s.coreOn) (v : Nat) (hmay : s.mayWrite t p 0x2F0105 v)
    (htrial : s.boot.header.trial) (hrun : s.boot.running = s.boot.header.preferred) :
    answers (.confirmFirmware t p v) s fun s' => s.boot.security ≤ s'.boot.security ∧
      some { s.boot.header with seq := nextSeq s.boot.header.seq, trial := false, trials := 0 } ∈
        [s'.boot.header0, s'.boot.header1] := by
  refine answers_controlledNum (exec_confirmFirmware ..) hcore hmay ?_
  generalize hw : (s.advance t).acceptWrite p 0x2F0105 _ = w
  have hboot : w.boot = s.boot := by rw [← hw, State.acceptWrite_boot, State.advance_boot]
  have h := State.confirmFirmware_confirms (s := w) (by rw [hboot, htrial]) (by rw [hboot, hrun])
  rw [hboot] at h
  rw [State.settle_boot]
  exact h

theorem State.countErases_boot (s : State) (a n : Nat) : (s.countErases a n).boot = s.boot :=
  only_boot (State.countErases_same (by decide) ..)

theorem State.spareBank_lt (s : State) : s.spareBank < 2 := by
  unfold State.spareBank
  omega

/-- The spare bank is set, and the other one stays. -/
theorem State.setSpare_banks (s : State) (x : FwBank) : (s.setSpare x).fwBank s.spareBank = x ∧
    (s.setSpare x).fwBank (1 - s.spareBank) = s.fwBank (1 - s.spareBank) := by
  have hlt := s.spareBank_lt
  unfold State.setSpare State.fwBank
  rw [State.onBoot_boot]
  by_cases h : s.spareBank = 0
  · rw [h]
    exact ⟨rfl, rfl⟩
  · have h1 : s.spareBank = 1 := by omega
    rw [h1]
    exact ⟨rfl, rfl⟩

theorem State.fwBank_congr {s s' : State} (h : s'.boot = s.boot) (n : Nat) : s'.fwBank n = s.fwBank n := by
  rw [State.fwBank, State.fwBank, h]

theorem State.spareBank_congr {s s' : State} (h : s'.boot = s.boot) : s'.spareBank = s.spareBank := by
  rw [State.spareBank, State.spareBank, h]

theorem State.updateData_programs (s : State) (data : List Byte) :
    (s.updateData data).obj 0x2F0201 = (s.obj 0x2F0201 + 256) % 2 ^ 32 ∧
    (s.updateData data).fwBank s.spareBank = { info := none, pages := (if s.obj 0x2F0201 = 0 then [] else (s.fwBank s.spareBank).pages) ++
      [(s.obj 0x2F0201, data)] } ∧
    (s.updateData data).fwBank (1 - s.spareBank) = s.fwBank (1 - s.spareBank) := by
  generalize hx : (if s.obj 0x2F0201 = 0 then s.countErases (32 + 48 * s.spareBank) 48 else s) = x
  have hboot : x.boot = s.boot := by
    rw [← hx]
    split
    · exact State.countErases_boot ..
    · rfl
  generalize hpages : ({ info := none, pages := (if s.obj 0x2F0201 = 0 then [] else (s.fwBank s.spareBank).pages) ++
    [(s.obj 0x2F0201, data)] } : FwBank) = bank
  have hdata : s.updateData data = (x.setSpare bank).setObj 0x2F0201 ((s.obj 0x2F0201 + 256) % 2 ^ 32) := by
    rw [← hpages, ← hx]; rfl
  obtain ⟨hsame, hother⟩ := x.setSpare_banks bank
  rw [State.spareBank_congr hboot] at hsame hother
  rw [hdata, State.setObj_obj_same, State.fwBank_congr (State.setObj_boot ..), hsame, State.fwBank_congr (State.setObj_boot ..), hother,
    State.fwBank_congr hboot]
  exact ⟨rfl, rfl, rfl⟩

theorem State.served_of_coreOn {s : State} (h : s.coreOn) : (s.coreOn || (s.powered && s.boot.state == 4)) = true := by
  rw [h, Bool.true_or]

theorem State.controlled_served {s : State} {p : Path} {k : Nat} {data : List Byte} (hserved : s.served p)
    (herr : s.writeError p k data = 0) (eff : State → State) : s.controlled p k data eff = eff (s.acceptWrite p k data) := by
  rw [State.controlled, if_pos hserved]
  dsimp only
  rw [if_pos herr]

theorem exec_updateData (t : Nat) (p : Path) (data : List Byte) (s : State) : exec (.updateData t p data) s =
    whenServed t (fun s => s.controlled p 0x2F0202 data fun s => s.updateData data) s := rfl

theorem updateData_programs (s : State) (t : Nat) (p : Path) (hcore : s.coreOn) (data : List Byte)
    (hserved : (s.advance t).served p) (herr : (s.advance t).writeError p 0x2F0202 data = 0) :
    answers (.updateData t p data) s fun s' =>
      s'.obj 0x2F0201 = (s.obj 0x2F0201 + 256) % 2 ^ 32 ∧
      s'.fwBank s.spareBank = { info := none, pages := (if s.obj 0x2F0201 = 0 then [] else (s.fwBank s.spareBank).pages) ++
                                  [(s.obj 0x2F0201, data)] } ∧
      s'.fwBank (1 - s.spareBank) = s.fwBank (1 - s.spareBank) := by
  refine answers_served (exec_updateData ..) (State.served_of_coreOn hcore) ?_
  rw [State.controlled_served hserved herr]
  generalize hw : (s.advance t).acceptWrite p 0x2F0202 data = w
  have hboot : w.boot = s.boot := by rw [← hw, State.acceptWrite_boot, State.advance_boot]
  have hobj : w.obj 0x2F0201 = s.obj 0x2F0201 := by
    rw [← hw, State.acceptWrite_obj _ _ _ _ (by decide), State.advance_obj]
  have h := w.updateData_programs data
  rw [hobj, State.spareBank_congr hboot, State.fwBank_congr hboot, State.fwBank_congr hboot] at h
  rw [State.settle_obj _ (by decide) (by decide), State.fwBank_congr (State.settle_boot _), State.fwBank_congr (State.settle_boot _)]
  exact h

theorem nextSeq_lt (a : Nat) : nextSeq a < 2 ^ 32 := by
  unfold nextSeq
  split <;> omega

/-- The next sequence number is newer than its predecessor, which is not newer than it (R620). -/
theorem newer_nextSeq (a : Nat) : newer (nextSeq a) a = true ∧ newer a (nextSeq a) = false := by
  unfold newer nextSeq
  dsimp only
  by_cases h : a = 0xFFFFFFFE
  · rw [if_pos h, h]
    decide
  · rw [if_neg h, Bool.and_eq_true, decide_eq_true_eq, decide_eq_true_eq, Bool.and_eq_false_iff, decide_eq_false_iff_not,
      decide_eq_false_iff_not]
    omega

/-- The trial boot behind a commit counts in the other copy, and leaves the one that the commit wrote (R563, R565). -/
theorem BootSt.trialBoot_putHeader (b : BootSt) (h : BootHeader) (htrial : h.trial) (htrials : h.trials = 0) {y : BootSt}
    (hy0 : y.header0 = (b.putHeader h).header0) (hy1 : y.header1 = (b.putHeader h).header1) :
    some { h with seq := nextSeq b.header.seq } ∈ [y.trialBoot.1.header0, y.trialBoot.1.header1] := by
  obtain ⟨hnew, hold⟩ := newer_nextSeq b.header.seq
  by_cases hfirst : b.secondInUse ∨ b.header0.isNone
  · have hput : b.putHeader h = { b with header0 := some { h with seq := nextSeq b.header.seq } } := by
      unfold BootSt.putHeader
      dsimp only
      rw [if_pos hfirst]
    rw [hput] at hy0 hy1
    have huse : y.secondInUse = false := by
      unfold BootSt.secondInUse
      rw [hy0, hy1]
      dsimp only
      cases h1 : b.header1 with
      | none => rfl
      | some c =>
        have hsecond : b.secondInUse = true := by
          rcases hfirst with hs | hn
          · exact hs
          · rw [BootSt.secondInUse, Option.isNone_iff_eq_none.mp hn, h1]
        have hhead : b.header = c := by rw [BootSt.header, if_pos hsecond, h1]; rfl
        rw [hhead] at hold ⊢
        exact hold
    have hhead : y.header = { h with seq := nextSeq b.header.seq } := by
      rw [BootSt.header, huse, if_neg Bool.false_ne_true, hy0]
      rfl
    have hboot : y.trialBoot.1.header0 = y.header0 := by
      unfold BootSt.trialBoot
      dsimp only
      rw [hhead, if_pos htrial, if_neg (by simp [htrials]), BootSt.putHeader]
      dsimp only
      rw [if_neg (by simp [huse, hy0])]
    rw [hboot, hy0]
    exact List.mem_cons_self
  · have hput : b.putHeader h = { b with header1 := some { h with seq := nextSeq b.header.seq } } := by
      unfold BootSt.putHeader
      dsimp only
      rw [if_neg hfirst]
    rw [hput] at hy0 hy1
    obtain ⟨hsecond, hsome⟩ := not_or.mp hfirst
    obtain ⟨a, ha⟩ := Option.ne_none_iff_exists'.mp fun hn : b.header0 = none => hsome (by rw [hn]; rfl)
    have hb : b.header = a := by
      rw [BootSt.header, if_neg hsecond, ha]
      rfl
    have huse : y.secondInUse = true := by
      unfold BootSt.secondInUse
      rw [hy0, hy1]
      dsimp only
      rw [ha]
      rw [hb] at hnew ⊢
      exact hnew
    have hhead : y.header = { h with seq := nextSeq b.header.seq } := by
      rw [BootSt.header, huse, if_pos rfl, hy1]
      rfl
    have hboot : y.trialBoot.1.header1 = y.header1 := by
      unfold BootSt.trialBoot
      dsimp only
      rw [hhead, if_pos htrial, if_neg (by simp [htrials]), BootSt.putHeader]
      dsimp only
      rw [if_pos (.inl huse)]
    rw [hboot, hy1]
    exact List.mem_cons_of_mem _ List.mem_cons_self

theorem State.updateCommit_boot (s : State) : s.updateCommit.boot = { s.boot.putHeader { s.boot.header with
    preferred := s.spareBank, trial := true, trials := 0 } with updating := 2 } := by
  rw [State.updateCommit, State.emit_boot]
  rfl

/-- A commit of a bank that verifies makes it the preferred one, on trial; in recovery the boot ROM runs behind it (R566, R567). -/
theorem State.committed_prefers (s : State) : s.committed.boot.updating = 2 ∧
    some { s.boot.header with seq := nextSeq s.boot.header.seq, preferred := s.spareBank, trial := true, trials := 0 } ∈
      [s.committed.boot.header0, s.committed.boot.header1] := by
  have hboot := s.updateCommit_boot
  unfold State.committed
  split
  · generalize hy : s.updateCommit.onNet _ = y
    have hyboot : y.boot = s.updateCommit.boot := by rw [← hy]; rfl
    obtain ⟨hstart, h0, h1⟩ := y.bootRom_boot false
    obtain ⟨-, -, -, -, hupd⟩ := (y.boot.trialBoot_sameStart).trans hstart
    refine ⟨by rw [hupd, hyboot, hboot], ?_⟩
    rw [h0, h1]
    exact BootSt.trialBoot_putHeader s.boot { s.boot.header with preferred := s.spareBank, trial := true, trials := 0 } rfl rfl
      (y := y.boot) (by rw [hyboot, hboot]) (by rw [hyboot, hboot])
  · rw [hboot]
    exact ⟨rfl, s.boot.putHeader_mem _⟩

theorem exec_updateCommit (t : Nat) (p : Path) (v : Nat) (s : State) : exec (.updateCommit t p v) s =
    whenServed t (fun s => s.commitUpdate p [BitVec.ofNat 8 v]) s := rfl

theorem updateCommit_judges (s : State) (t : Nat) (p : Path) (hcore : s.coreOn) (v : Nat) (hserved : (s.advance t).served p)
    (herr : (s.advance t).writeError p 0x2F0203 [BitVec.ofNat 8 v] = 0) :
    answers (.updateCommit t p v) s fun s' =>
      if s.updateOk then s'.boot.updating = 2 ∧
        some { s.boot.header with seq := nextSeq s.boot.header.seq, preferred := s.spareBank, trial := true, trials := 0 } ∈
          [s'.boot.header0, s'.boot.header1]
      else s'.boot = { s.boot with updating := 3 } ∧ .answer p 0x2F0203 abortValue [] ∈ s'.out := by
  refine answers_served (exec_updateCommit ..) (State.served_of_coreOn hcore) ?_
  have hok : (s.advance t).updateOk = s.updateOk := rfl
  rw [State.commitUpdate, State.judgedWrite_served hserved herr, hok]
  by_cases h : s.updateOk = true
  · rw [if_pos h, if_pos h, State.settle_boot]
    generalize hw : (s.advance t).acceptWrite p 0x2F0203 _ = w
    have hboot : w.boot = s.boot := by rw [← hw, State.acceptWrite_boot, State.advance_boot]
    have hprefers := w.committed_prefers
    rw [State.spareBank_congr hboot, hboot] at hprefers
    exact hprefers
  · rw [if_neg h, if_neg h, State.settle_boot, State.onBoot_boot, State.refuse_boot, State.advance_boot]
    exact ⟨rfl, State.settle_out_mem (State.refuse_answers ..)⟩

/-- Settles O53: it holds. -/
theorem firmware : Obligations.firmware := fun s t p hcore =>
  ⟨confirmFirmware_ends_trial s t p hcore, updateData_programs s t p hcore, updateCommit_judges s t p hcore⟩

end Sys2Proof.Machine
end

section
/-! ### The fault log, power fail and lifetime; rails behind a wake; the host (O50, O47, O43) -/
namespace Sys2Proof.Machine

/-! #### What a flush writes into NOR (O50) -/

/-- What the writes of a flush leave of the recorder and of the health part: they move records, retire sectors and count erases. -/
def State.flushView (s : State) : Bool × Option Nat × Nat × Nat × Lifetime × Option Nat :=
  (s.log.pfail, s.log.pfHighAt, s.log.flushes, s.log.pfFlushes, s.health.live, s.health.resetPending)

@[simp] theorem State.emit_flushView (s : State) (a b c : Nat) : (s.emit a b c).flushView = s.flushView := by
  simp only [State.flushView, State.emit_log_pfail, State.emit_log_pfHighAt, State.emit_log_flushes, State.emit_log_pfFlushes,
    State.emit_health]

@[simp] theorem State.settle_flushView (s : State) : s.settle.flushView = s.flushView := by
  simp only [State.flushView, State.settle_log_pfail, State.settle_log_pfHighAt, State.settle_log_flushes,
    State.settle_log_pfFlushes, State.settle_health]

@[simp] theorem State.countErase_flushView (s : State) (sector : Nat) : (s.countErase sector).flushView = s.flushView := rfl

theorem State.wrapErase_flushView (s : State) : s.wrapErase.flushView = s.flushView := by
  unfold State.wrapErase
  split
  · rfl
  · rw [State.emit_flushView, State.countErase_flushView]; rfl

theorem State.eraseAhead_flushView (s : State) : s.eraseAhead.flushView = s.flushView := by
  unfold State.eraseAhead
  dsimp only
  split
  · rw [State.wrapErase_flushView]
    split
    · rw [State.thaw, State.emit_flushView]; rfl
    · rfl
  · rfl

theorem RecorderSt.ringPut_flushes (l : RecorderSt) (r : EventRec) : (l.ringPut r).1.pfail = l.pfail ∧
    (l.ringPut r).1.pfHighAt = l.pfHighAt ∧ (l.ringPut r).1.flushes = l.flushes ∧ (l.ringPut r).1.pfFlushes = l.pfFlushes := by
  unfold RecorderSt.ringPut
  split
  · split <;> exact ⟨rfl, rfl, rfl, rfl⟩
  · exact ⟨rfl, rfl, rfl, rfl⟩

theorem State.ringWrite_flushView (s : State) (r : EventRec) (fails : Bool) : (s.ringWrite r fails).flushView = s.flushView := by
  have hput : (s.onLog fun l => (l.ringPut r).1).flushView = s.flushView := by
    obtain ⟨h1, h2, h3, h4⟩ := s.log.ringPut_flushes r
    simp only [State.flushView, State.onLog_log, State.onLog_health, h1, h2, h3, h4]
  have hahead : (if (s.log.ringPut r).2 then (s.onLog fun l => (l.ringPut r).1).eraseAhead
      else s.onLog fun l => (l.ringPut r).1).flushView = s.flushView := by
    split
    · rw [State.eraseAhead_flushView, hput]
    · exact hput
  unfold State.ringWrite
  dsimp only
  split
  · split
    · rw [State.eraseAhead_flushView]
      exact (State.emit_flushView ..).trans hahead
    · exact hahead
  · exact hahead

theorem State.nvWrite_flushView (s : State) (r : EventRec) (fails : Bool) : (s.nvWrite r fails).flushView = s.flushView := by
  unfold State.nvWrite
  split
  · split
    · rw [State.ringWrite_flushView]
      exact State.emit_flushView ..
    · rfl
  · exact s.ringWrite_flushView r fails

theorem State.nvWriteAll_flushView (rs : List EventRec) (s : State) (n : Nat) (f : Option Nat) :
    (s.nvWriteAll rs n f).flushView = s.flushView := by
  induction rs generalizing s n with
  | nil => rfl
  | cons r rs ih => rw [State.nvWriteAll, ih, State.nvWrite_flushView]

/-- A flush is counted (R532). -/
theorem State.flushAll_flushView (s : State) (failAt : Option Nat) : (s.flushAll failAt).flushView =
    (s.log.pfail, s.log.pfHighAt, (s.log.flushes + 1) % 2 ^ 32, s.log.pfFlushes, s.health.live, s.health.resetPending) := by
  have h := s.nvWriteAll_flushView (s.log.unflushed.map (·.rec_)) 0 failAt
  simp only [State.flushView, Prod.mk.injEq] at h
  obtain ⟨h1, h2, h3, h4, h5, h6⟩ := h
  simp only [State.flushView, State.flushAll, State.onLog_log, State.onLog_health, RecorderSt.markFlushed, h1, h2, h3, h4, h5, h6]

/-- The flush of a power fail is counted twice (R538). -/
theorem State.powerFailFlush_flushView (s : State) : s.powerFailFlush.flushView =
    (s.log.pfail, s.log.pfHighAt, (s.log.flushes + 1) % 2 ^ 32, (s.log.pfFlushes + 1) % 2 ^ 32, s.health.live, s.health.resetPending) := by
  have h := s.nvWriteAll_flushView (powerFailOrder (s.log.unflushed.map (·.rec_))) 0 none
  simp only [State.flushView, Prod.mk.injEq] at h
  obtain ⟨h1, h2, h3, h4, h5, h6⟩ := h
  simp only [State.flushView, State.powerFailFlush, State.onLog_log, State.onLog_health, RecorderSt.markFlushed, h1, h2, h3, h4, h5, h6]

/-! #### Freezes and flushes (O50) -/

theorem freeze_freezes (s : State) (t : Nat) (p : Path) (hcore : s.coreOn) (hmay : s.mayWrite t p 0x2C0101 1) :
    answers (.freeze t p) s fun s' => s'.log.frozen = some (max s.now t) ∧
      s'.log.frozenDev = if s.log.frozen.isSome then s.log.frozenDev else (s.advance t).time.dev := by
  have hexec : exec (.freeze t p) s = execFreeze t p s := rfl
  refine answers_controlledNum hexec hcore hmay ?_
  generalize hw : (s.advance t).acceptWrite p 0x2C0101 _ = w
  have hlog : w.log = s.log := by rw [← hw, State.acceptWrite_log, State.advance_log]
  have hnow : w.now = max s.now t := by rw [← hw, State.acceptWrite_now, State.advance_now]
  have htime : w.time = (s.advance t).time := by rw [← hw, State.acceptWrite_time]
  rw [State.settle_log_frozen, State.settle_log_frozenDev]
  unfold State.freeze
  rw [hlog]
  split
  · rw [State.onLog_log, hlog, hnow]
    exact ⟨rfl, rfl⟩
  · rw [State.emit_log_frozen, State.emit_log_frozenDev, State.onLog_log, hlog, hnow, htime]
    exact ⟨rfl, rfl⟩

theorem freezeRelease_releases (s : State) (t : Nat) (p : Path) (hcore : s.coreOn) (hmay : s.mayWrite t p 0x2C0101 2) :
    answers (.freezeRelease t p) s fun s' => s'.log.frozen = none := by
  have hexec : exec (.freezeRelease t p) s = execFreezeRelease t p s := rfl
  refine answers_controlledNum hexec hcore hmay ?_
  rw [State.settle_log_frozen]
  unfold State.releaseFreeze
  split
  · rw [State.emit_log_frozen]; rfl
  next h => exact Option.not_isSome_iff_eq_none.mp h

theorem freezeTimeout_thaws (s : State) (t : Nat) (hpow : s.powered) (i : Nat) (hfrozen : s.log.frozen = some i)
    (hlate : i + s.cfg 0x2C0103 * second ≤ max s.now t) : answers (.freezeTimeout t) s fun s' => s'.log.frozen = none := by
  have hexec : exec (.freezeTimeout t) s = execFreezeTimeout t s := rfl
  refine answers_powered hexec hpow ?_
  have hdue : (s.advance t).log.frozen.any (fun i => decide (i + (s.advance t).cfg 0x2C0103 * second ≤ (s.advance t).now)) = true :=
    Option.any_of_some hfrozen hlate
  rw [if_pos hdue, State.settle_log_frozen, State.thaw, State.emit_log_frozen]
  rfl

theorem flush_counts (s : State) (t : Nat) (hpow : s.powered) (hdue : (s.advance t).flushDue) (hpfail : s.log.pfail = false)
    (hpending : s.health.resetPending = none) :
    answers (.flush t none) s fun s' => s'.log.flushes = (s.log.flushes + 1) % 2 ^ 32 := by
  have hexec : exec (.flush t none) s = execFlush t none s := rfl
  refine answers_powered hexec hpow ?_
  have hcond : (s.advance t).flushDue = true ∧ (s.advance t).log.pfail = false := ⟨hdue, hpfail⟩
  have hview := (s.advance t).flushAll_flushView none
  simp only [State.flushView, Prod.mk.injEq, State.advance_log, State.advance_health] at hview
  obtain ⟨-, -, hflushes, -, -, hpend⟩ := hview
  have hnone : ((s.advance t).flushAll none).pendingReset = (s.advance t).flushAll none := by
    unfold State.pendingReset
    rw [if_neg fun h => by rw [hpend, hpending] at h; exact Bool.noConfusion h.1]
  rw [if_pos hcond, hnone, State.settle_log_flushes, hflushes]

/-! #### Power fail and lifetime (O50) -/

theorem State.storePowerFails_store (s : State) : s.storePowerFails.dict.store = none := by
  unfold State.storePowerFails
  split
  next h => exact h
  next x h =>
    have hdrop : s.dropStore.dict.store = none := by
      unfold State.dropStore
      rw [h]
      rfl
    have hemit : ((s.dropStore.setObj 0x200401 3).emit 0xD043).dict.store = none := by
      rw [State.emit_dict_store, State.setObj_dict, hdrop]
    dsimp only
    split
    · rw [only_dict (State.storeAnswer_same (by decide) ..), hemit]
    · exact hemit

theorem State.storeAnswer_flushView (s : State) (x : StoreSt) (code : Nat) : (s.storeAnswer x code).flushView = s.flushView := by
  have hhealth : (s.storeAnswer x code).health = s.health := only_health (State.storeAnswer_same (by decide) ..)
  have hrefuse (p : Path) (k c : Nat) : (s.refuse p k c).flushView = s.flushView := by
    have hlim (u : State) : (u.emitLimited second 0xA01A 0xFFFF 0 0).flushView = u.flushView := by
      simp only [State.flushView, State.emitLimited_log_pfail, State.emitLimited_log_pfHighAt, State.emitLimited_log_flushes,
        State.emitLimited_log_pfFlushes, State.emitLimited_health]
    cases p
    case rpdo => exact (hlim _).trans rfl
    all_goals rfl
  unfold State.storeAnswer
  split
  · rfl
  · split
    · simp only [State.flushView, State.acceptWrite_log, State.acceptWrite_health]
    · exact hrefuse ..

theorem State.storePowerFails_flushView (s : State) : s.storePowerFails.flushView = s.flushView := by
  unfold State.storePowerFails
  split
  · rfl
  next x h =>
    have hdrop : ((s.dropStore.setObj 0x200401 3).emit 0xD043).flushView = s.flushView := by
      rw [State.emit_flushView]
      unfold State.dropStore
      rw [h]
      rfl
    dsimp only
    split
    · rw [State.storeAnswer_flushView, hdrop]
    · exact hdrop

theorem State.powerFails_spec (s : State) : s.powerFails.flushView = (true, none, (s.log.flushes + 1) % 2 ^ 32,
    (s.log.pfFlushes + 1) % 2 ^ 32, { s.health.live with pfails := (s.health.live.pfails + 1) % 2 ^ 32 }, s.health.resetPending) ∧
    s.powerFails.dict.store = none := by
  generalize hx : ((s.onLog fun l => { l with pfail := true, pfHighAt := none }).onHealth fun h => { h with
    live := { h.live with pfails := (h.live.pfails + 1) % 2 ^ 32 } }) = x
  generalize hy : (x.emit 0xC018 0xFFFF (x.powerFailArg (s.log.unflushed.length - 128))).storePowerFails = y
  have hfails : s.powerFails = y.powerFailFlush := by rw [← hy, ← hx]; rfl
  have hyview : y.flushView = x.flushView := by
    rw [← hy, State.storePowerFails_flushView, State.emit_flushView]
  rw [← hx] at hyview
  simp only [State.flushView, Prod.mk.injEq] at hyview
  obtain ⟨h1, h2, h3, h4, h5, h6⟩ := hyview
  rw [hfails, State.powerFailFlush_flushView, h1, h2, h3, h4, h5, h6]
  refine ⟨rfl, ?_⟩
  rw [only_dict (State.powerFailFlush_same (by decide) _), ← hy, State.storePowerFails_store]

theorem pwrfailAsserted_fails (s : State) (t : Nat) (hpow : s.powered) :
    answers (.pwrfailAsserted t) s fun s' => s'.log.pfail ∧ s'.log.pfHighAt = none ∧
      if s.log.pfail then s'.log.pfFlushes = s.log.pfFlushes ∧ s'.health = s.health
      else s'.log.pfFlushes = (s.log.pfFlushes + 1) % 2 ^ 32 ∧ s'.health.live.pfails = (s.health.live.pfails + 1) % 2 ^ 32 ∧
        s'.dict.store = none := by
  have hexec : exec (.pwrfailAsserted t) s = execPwrfailAsserted t s := rfl
  refine answers_powered hexec hpow ?_
  rw [State.advance_log, State.settle_log_pfail, State.settle_log_pfHighAt, State.settle_log_pfFlushes, State.settle_health,
    State.settle_dict_store]
  by_cases h : s.log.pfail = true
  · rw [if_pos h, if_pos h]
    exact ⟨h, rfl, rfl, rfl⟩
  · rw [if_neg h, if_neg h]
    obtain ⟨hview, hstore⟩ := (s.advance t).powerFails_spec
    simp only [State.flushView, Prod.mk.injEq, State.advance_log, State.advance_health] at hview
    obtain ⟨h1, h2, -, h4, h5, -⟩ := hview
    exact ⟨h1, h2, h4, by rw [h5], hstore⟩

theorem pwrfailDeasserted_begins (s : State) (t : Nat) (hpow : s.powered) (hpfail : s.log.pfail) :
    answers (.pwrfailDeasserted t) s fun s' => s'.log.pfail ∧ s'.log.pfHighAt = some (max s.now t) := by
  have hexec : exec (.pwrfailDeasserted t) s = execPwrfailDeasserted t s := rfl
  refine answers_powered hexec hpow ?_
  have hpfail' : (s.advance t).log.pfail = true := hpfail
  rw [if_pos hpfail', State.settle_log_pfail, State.settle_log_pfHighAt]
  exact ⟨hpfail, rfl⟩

theorem powerRestored_resumes (s : State) (t : Nat) (hpow : s.powered) (hpfail : s.log.pfail) (i : Nat)
    (hhigh : s.log.pfHighAt = some i) (hlate : i + 100 * msec ≤ max s.now t) :
    answers (.powerRestored t) s fun s' => s'.log.pfail = false ∧ s'.log.pfHighAt = none := by
  have hexec : exec (.powerRestored t) s = execPowerRestored t s := rfl
  refine answers_powered hexec hpow ?_
  have hdue : (s.advance t).log.pfHighAt.any (fun i => decide (i + 100 * msec ≤ (s.advance t).now)) = true :=
    Option.any_of_some hhigh hlate
  have hcond : (s.advance t).log.pfail = true ∧
      (s.advance t).log.pfHighAt.any (fun i => decide (i + 100 * msec ≤ (s.advance t).now)) = true := ⟨hpfail, hdue⟩
  have hview := State.eraseAhead_flushView
    (((s.advance t).onLog fun l => { l with pfail := false, pfHighAt := none }).emit 0xC019)
  rw [State.emit_flushView] at hview
  simp only [State.flushView, Prod.mk.injEq] at hview
  obtain ⟨h1, h2, -⟩ := hview
  rw [if_pos hcond, State.settle_log_pfail, State.settle_log_pfHighAt]
  exact ⟨h1, h2⟩

theorem State.appendLifetime_entry (s : State) (ok : Bool) : (s.appendLifetime ok).health.entryAt = s.now ∧
    (s.appendLifetime ok).health.entrySeq = (if ok then nextSeq s.health.entrySeq else s.health.entrySeq) ∧
    (s.appendLifetime ok).health.entry = if ok then some s.lifetimeNow else s.health.entry := by
  cases ok with
  | true => exact ⟨rfl, rfl, rfl⟩
  | false =>
    rw [State.appendLifetime, if_neg Bool.false_ne_true, State.emit_health]
    exact ⟨rfl, rfl, rfl⟩

theorem lifetimeEntry_writes (s : State) (t : Nat) (hpow : s.powered) (hpfail : s.log.pfail = false)
    (hlate : s.health.entryAt + 600 * second ≤ max s.now t) (ok : Bool) : answers (.lifetimeEntry t ok) s fun s' =>
      s'.health.entryAt = max s.now t ∧ s'.health.entrySeq = (if ok then nextSeq s.health.entrySeq else s.health.entrySeq) ∧
      s'.health.entry = if ok then some (s.advance t).lifetimeNow else s.health.entry := by
  have hexec : exec (.lifetimeEntry t ok) s = execLifetimeEntry t ok s := rfl
  refine answers_powered hexec hpow ?_
  have hdue : (s.advance t).health.entryAt + 600 * second ≤ (s.advance t).now := hlate
  have hcond : (s.advance t).log.pfail = false ∧ (s.advance t).health.entryAt + 600 * second ≤ (s.advance t).now := ⟨hpfail, hdue⟩
  rw [if_pos hcond, State.settle_health]
  exact (s.advance t).appendLifetime_entry ok

theorem eraseCountWrite_writes (s : State) (t : Nat) (hpow : s.powered) (hpfail : s.log.pfail = false)
    (hlate : s.health.eraseAt + 86400 * second ≤ max s.now t) (ok : Bool) : answers (.eraseCountWrite t ok) s fun s' =>
      s'.health.eraseAt = max s.now t ∧ s'.health.eraseTable = if ok then s.health.erases else s.health.eraseTable := by
  have hexec : exec (.eraseCountWrite t ok) s = execEraseCountWrite t ok s := rfl
  refine answers_powered hexec hpow ?_
  have hdue : (s.advance t).health.eraseAt + 86400 * second ≤ (s.advance t).now := hlate
  have hcond : (s.advance t).log.pfail = false ∧ (s.advance t).health.eraseAt + 86400 * second ≤ (s.advance t).now := ⟨hpfail, hdue⟩
  rw [if_pos hcond, State.settle_health]
  cases ok with
  | true => exact ⟨rfl, rfl⟩
  | false =>
    rw [State.writeEraseTable, if_neg Bool.false_ne_true, State.emit_health]
    exact ⟨rfl, rfl⟩

/-- Settles O50: it holds. -/
theorem faultLogAndLifetime : Obligations.fault_log_and_lifetime :=
  ⟨fun s t p hcore => ⟨freeze_freezes s t p hcore, freezeRelease_releases s t p hcore⟩,
    fun s t hpow => ⟨freezeTimeout_thaws s t hpow, flush_counts s t hpow, pwrfailAsserted_fails s t hpow,
      fun hpfail => ⟨pwrfailDeasserted_begins s t hpow hpfail, powerRestored_resumes s t hpow hpfail⟩,
      fun hpfail => ⟨lifetimeEntry_writes s t hpow hpfail, eraseCountWrite_writes s t hpow hpfail⟩⟩⟩

/-! #### The host (O43) -/

theorem livenessDoorbell_rings (s : State) (t : Nat) (hcore : s.coreOn) :
    answers (.livenessDoorbell t) s fun s' => s'.boot.rungAt = some (max s.now t) ∧
      if s.boot.host ≠ 2 ∧ s.boot.versionOk then
        s'.boot.host = 2 ∧ s'.obj 0x2F0503 = (s.obj 0x2F0503 + 1) % 2 ^ objWidth 0x2F0503
      else s'.boot.host = s.boot.host ∧ s'.obj 0x2F0503 = s.obj 0x2F0503 := by
  have hexec : exec (.livenessDoorbell t) s = execLivenessDoorbell t s := rfl
  refine answers_core hexec hcore ?_
  dsimp only
  rw [State.advance_boot, State.settle_boot, State.settle_obj _ (by decide) (by decide)]
  by_cases h : s.boot.host ≠ 2 ∧ s.boot.versionOk = true
  · rw [if_pos h, if_pos h, State.emit_boot, State.emit_obj _ _ _ _ (by decide) (by decide), State.incr_obj_same]
    exact ⟨rfl, rfl, rfl⟩
  · rw [if_neg h, if_neg h]
    exact ⟨rfl, rfl, rfl⟩

/-- The units that still move change neither the boot part nor the domain port, and no record of the fault ring. -/
theorem State.dropMovings_keep (l : List Nat) (s : State) : (l.foldl State.dropMoving s).boot = s.boot ∧
    (l.foldl State.dropMoving s).dict = s.dict ∧ (l.foldl State.dropMoving s).xfer = s.xfer :=
  List.foldlRecOn l State.dropMoving (motive := fun s' => s'.boot = s.boot ∧ s'.dict = s.dict ∧ s'.xfer = s.xfer)
    ⟨rfl, rfl, rfl⟩ fun s' ⟨hb, hd, hx⟩ n _ => ⟨(only_boot (State.dropMoving_same (by decide) s' n)).trans hb,
      (only_dict (State.dropMoving_same (by decide) s' n)).trans hd,
      (only_xfer (State.dropMoving_same (by decide) s' n)).trans hx⟩

theorem State.dropHostCopies_drops (s : State) : s.dropHostCopies.dict.sel = none ∧ s.dropHostCopies.dict.window = [] ∧
    s.dropHostCopies.xfer.ring = [] ∧ s.dropHostCopies.xfer.ringCons = s.dropHostCopies.xfer.ringProd :=
  ⟨rfl, rfl, rfl, rfl⟩

/-- An attached host is detached, and what it has not consumed is gone (R490, R579). -/
theorem State.detachHost_detaches {s : State} (h : s.boot.host = 2) :
    s.detachHost.boot = { s.boot with host := 3, versionOk := false, rungAt := none } ∧ s.detachHost.dict.sel = none ∧
      s.detachHost.xfer.ring = [] ∧ s.detachHost.xfer.ringCons = s.detachHost.xfer.ringProd := by
  generalize hx : ((s.onBoot fun b => { b with host := 3, versionOk := false, rungAt := none }).emit 0xD011).hostFaults = x
  have hboot : x.boot = { s.boot with host := 3, versionOk := false, rungAt := none } := by
    rw [← hx, only_boot (State.hostFaults_same (by decide) _), State.emit_boot]; rfl
  have hdetach : s.detachHost = (List.range 16).foldl State.dropMoving x.dropHostCopies := by
    rw [State.detachHost, if_pos h, ← hx]
  obtain ⟨hb, hd, hxf⟩ := State.dropMovings_keep (List.range 16) x.dropHostCopies
  obtain ⟨hsel, -, hring, hcons⟩ := x.dropHostCopies_drops
  rw [hdetach, hb, hd, hxf]
  exact ⟨hboot, hsel, hring, hcons⟩

theorem State.detachHost_of_detached {s : State} (h : s.boot.host ≠ 2) : s.detachHost = s := by
  rw [State.detachHost, if_neg h]

theorem State.detachHost_host (s : State) : s.detachHost.boot.host = if s.boot.host = 2 then 3 else s.boot.host := by
  by_cases h : s.boot.host = 2
  · rw [(State.detachHost_detaches h).1, if_pos h]
  · rw [State.detachHost_of_detached h, if_neg h]

theorem hostLivenessLapse_detaches (s : State) (t : Nat) (hpow : s.powered) (i : Nat) (hrung : s.boot.rungAt = some i)
    (hlate : i + s.cfg 0x220508 * msec ≤ max s.now t) (hhost : s.boot.host = 2) :
    answers (.hostLivenessLapse t) s fun s' => s'.boot.host = 3 ∧ s'.boot.rungAt = none ∧ s'.boot.versionOk = false ∧
      s'.dict.sel = none ∧ s'.xfer.ring = [] ∧ s'.xfer.ringCons = s'.xfer.ringProd := by
  have hexec : exec (.hostLivenessLapse t) s = execHostLivenessLapse t s := rfl
  refine answers_powered hexec hpow ?_
  have hdue : (s.advance t).boot.rungAt.any (fun i => decide (i + (s.advance t).cfg 0x220508 * msec ≤ (s.advance t).now)) = true :=
    Option.any_of_some hrung hlate
  obtain ⟨hboot, hsel, hring, hcons⟩ := State.detachHost_detaches (s := s.advance t) hhost
  rw [if_pos hdue, State.settle_boot, State.settle_dict_sel, State.settle_xfer, hboot]
  exact ⟨rfl, rfl, rfl, hsel, hring, hcons⟩

theorem pcieReset_detaches (s : State) (t : Nat) (hpow : s.powered) :
    answers (.pcieReset t) s fun s' => s'.boot.host = (if s.boot.host = 2 then 3 else s.boot.host) ∧ s'.boot.versionOk = false ∧
      s'.boot.rungAt = none ∧ s'.dict.sel = none ∧ s'.dict.window = [] ∧ s'.xfer.ring = [] := by
  have hexec : exec (.pcieReset t) s = execPcieReset t s := rfl
  refine answers_powered hexec hpow ?_
  have hhost := (s.advance t).detachHost_host
  rw [State.advance_boot] at hhost
  generalize hx : (s.advance t).detachHost.portDown 2 = x
  have hboot : x.boot = (s.advance t).detachHost.boot := by rw [← hx, only_boot (State.portDown_same (by decide) ..)]
  obtain ⟨hsel, hwin, hring, -⟩ := x.dropHostCopies_drops
  rw [State.settle_boot, State.settle_dict_sel, State.settle_dict_window, State.settle_xfer, ← hhost, ← hboot]
  exact ⟨rfl, rfl, rfl, hsel, hwin, hring⟩

theorem pcieLinkDown_detaches (s : State) (t : Nat) (hpow : s.powered) :
    answers (.pcieLinkDown t) s fun s' => s'.boot.host = (if s.boot.host = 2 then 3 else s.boot.host) := by
  have hexec : exec (.pcieLinkDown t) s = execPcieLinkDown t s := rfl
  refine answers_powered hexec hpow ?_
  rw [State.settle_boot, only_boot (State.portDown_same (by decide) ..), State.detachHost_host, State.advance_boot]

/-- Settles O43: it holds. -/
theorem hostAttachment : Obligations.host_attachment :=
  ⟨livenessDoorbell_rings, fun s t hpow =>
    ⟨hostLivenessLapse_detaches s t hpow, pcieReset_detaches s t hpow, pcieLinkDown_detaches s t hpow⟩⟩

/-! #### Rails behind a wake (O47) -/

theorem railsNotGood_retries (s : State) (t w : Nat) (hpow : s.powered) (hen : s.power.coreEn) (hrails : s.power.railsOk = false)
    (hwake : s.power.wakeAt = some w) (hlate : w + 2500000 ≤ max s.now t) :
    answers (.railsNotGood t) s fun s' => s'.power.coreEn = false ∧ s'.power.retryAt = some (max s.now t + 10 * msec) := by
  have hexec : exec (.railsNotGood t) s = execRailsNotGood t s := rfl
  refine answers_powered hexec hpow ?_
  have hdue : (s.advance t).power.wakeAt.any (fun w => decide (w + 2500000 ≤ (s.advance t).now)) = true :=
    Option.any_of_some hwake hlate
  have hcond : (s.advance t).power.coreEn = true ∧ (s.advance t).power.railsOk = false ∧
      (s.advance t).power.wakeAt.any (fun w => decide (w + 2500000 ≤ (s.advance t).now)) = true := ⟨hen, hrails, hdue⟩
  rw [if_pos hcond, State.settle_power, State.emit_power]
  exact ⟨rfl, rfl⟩

theorem wakeRetry_wakes (s : State) (t i : Nat) (hpow : s.powered) (hretry : s.power.retryAt = some i) (hlate : i ≤ max s.now t) :
    answers (.wakeRetry t) s fun s' => s'.power.coreEn ∧ s'.power.retryAt = none ∧ s'.power.wakeAt = some (max s.now t) := by
  have hexec : exec (.wakeRetry t) s = execWakeRetry t s := rfl
  refine answers_powered hexec hpow ?_
  have hdue : (s.advance t).power.retryAt.any (fun i => decide (i ≤ (s.advance t).now)) = true := Option.any_of_some hretry hlate
  rw [if_pos hdue, State.settle_power]
  exact ⟨rfl, rfl, rfl⟩

theorem State.dogRestart_dog_same (s : State) (k : Nat) : ((s.dogRestart k).dog k).state = 0 ∧ ((s.dogRestart k).dog k).last = s.now := by
  rw [State.dogRestart, State.dog, State.setDog, State.onHealth_health]
  dsimp only
  rw [tget_tset_same]
  exact ⟨rfl, rfl⟩

theorem State.dogRestart_dog_ne (s : State) {j k : Nat} (h : j ≠ k) : (s.dogRestart k).dog j = s.dog j := tget_tset_ne _ _ _ h

theorem State.dogRestart_now (s : State) (k : Nat) : (s.dogRestart k).now = s.now := rfl

/-- The watchdogs of a list restart. -/
theorem State.dogRestarts_dog (l : List Nat) (s : State) {k : Nat} (h : k ∈ l) :
    ((l.foldl State.dogRestart s).dog k).state = 0 ∧ ((l.foldl State.dogRestart s).dog k).last = s.now := by
  have hend : ∀ (l : List Nat) (u : State), u.now = s.now → (k ∈ l ∨ ((u.dog k).state = 0 ∧ (u.dog k).last = s.now)) →
      ((l.foldl State.dogRestart u).dog k).state = 0 ∧ ((l.foldl State.dogRestart u).dog k).last = s.now := by
    intro l
    induction l with
    | nil => exact fun u _ h => h.resolve_left (by simp)
    | cons j l ih =>
      refine fun u hu h => ih (u.dogRestart j) hu ?_
      by_cases hj : k = j
      · subst hj
        rw [← hu]
        exact .inr (u.dogRestart_dog_same k)
      · rw [State.dogRestart_dog_ne _ hj]
        exact h.imp_left fun hm => (List.mem_cons.mp hm).resolve_left hj
  exact hend l s rfl (.inl h)

/-- The cores resume: the rails are good, admission follows the wake, and the watchdogs of the control cores restart (R504). -/
theorem State.resumeCores_resumes (s : State) : s.resumeCores.power = { s.power with
    railsOk := true, admitFrom := s.power.wakeAt.map (· + 4200000) } ∧
    ∀ k < 4, (s.resumeCores.dog k).state = 0 ∧ (s.resumeCores.dog k).last = s.now := by
  generalize hx : (List.range 4).foldl State.dogRestart
    (s.onPower fun p => { p with railsOk := true, admitFrom := p.wakeAt.map (· + 4200000) }) = x
  have hxpower : x.power = { s.power with railsOk := true, admitFrom := s.power.wakeAt.map (· + 4200000) } := by rw [← hx]; rfl
  have hxdog (k : Nat) (hk : k < 4) : (x.dog k).state = 0 ∧ (x.dog k).last = s.now := by
    rw [← hx]
    exact State.dogRestarts_dog _ (s.onPower _) (List.mem_range.mpr hk)
  have hrest : s.resumeCores.power = x.power ∧ s.resumeCores.health = x.health := by
    unfold State.resumeCores
    dsimp only
    rw [hx]
    split
    · rw [only_power (State.startJoins_same (by decide) _), only_power (State.roleTo_same (by decide) ..),
        only_health (State.startJoins_same (by decide) _), only_health (State.roleTo_same (by decide) ..)]
      exact ⟨rfl, rfl⟩
    · exact ⟨rfl, rfl⟩
  refine ⟨hrest.1.trans hxpower, fun k hk => ?_⟩
  rw [State.dog, hrest.2]
  exact hxdog k hk

theorem State.roleTo_watchFrames (s : State) (r : Role) (reason : Nat) :
    (s.roleTo r reason).net.watchFrames = s.net.watchFrames := by
  rw [State.roleTo, State.emit_net_watchFrames, only_net (State.blockUp_same (by decide) ..)]
  rfl

theorem State.startJoins_watchFrames (s : State) : s.startJoins.net.watchFrames = s.net.watchFrames := by
  unfold State.startJoins
  split
  · exact s.roleTo_watchFrames ..
  · rfl

theorem State.resumeCores_watchFrames (s : State) : s.resumeCores.net.watchFrames = s.net.watchFrames := by
  have hdogs (l : List Nat) (u : State) : (l.foldl State.dogRestart u).net = u.net :=
    List.foldlRecOn l State.dogRestart (motive := fun u' => u'.net = u.net) rfl fun u' h k _ =>
      (only_net (State.dogRestart_same (by decide) u' k)).trans h
  unfold State.resumeCores
  dsimp only
  split
  · rw [State.startJoins_watchFrames, State.roleTo_watchFrames, State.onRed_net, State.onHead_net, State.onComp_net, hdogs]
    rfl
  · rw [State.onRed_net, State.onHead_net, State.onComp_net, hdogs]
    rfl

theorem coreRailsGood_resumes (s : State) (t w : Nat) (hpow : s.powered) (hmode : s.power.mode = .watch) (hen : s.power.coreEn)
    (hrails : s.power.railsOk = false) (hwake : s.power.wakeAt = some w) (hretry : s.power.retryAt = none)
    (hframes : s.net.watchFrames = []) :
    answers (.coreRailsGood t) s fun s' => s'.power.railsOk ∧ s'.power.admitFrom = some (w + 4200000) ∧
      ∀ k < 4, (s'.dog k).state = 0 ∧ (s'.dog k).last = max s.now t := by
  have hexec : exec (.coreRailsGood t) s = execCoreRailsGood t s := rfl
  refine answers_always hexec ?_
  have hcond : (s.advance t).power.mode = .watch ∧ (s.advance t).powered = true := ⟨hmode, hpow⟩
  have hcond' : (s.advance t).power.coreEn = true ∧ (s.advance t).power.railsOk = false ∧ (s.advance t).power.wakeAt.isSome = true ∧
      (s.advance t).power.retryAt = none := ⟨hen, hrails, by rw [State.advance_power, hwake]; rfl, hretry⟩
  generalize hx : (s.advance t).resumeCores = x
  have hxframes : x.net.watchFrames = [] := by
    have h : x.net.watchFrames = (s.advance t).net.watchFrames := by rw [← hx, State.resumeCores_watchFrames]
    rw [h]
    exact hframes
  have hhand : x.handOver = x.onNet fun n => { n with watchFrames := [] } := by rw [State.handOver, hxframes]; rfl
  obtain ⟨hpower, hdogs⟩ := (s.advance t).resumeCores_resumes
  rw [hx] at hpower hdogs
  rw [if_pos hcond, State.railsInWatch, if_pos hcond', hx, hhand, State.settle_power, State.onNet_power, hpower, State.advance_power]
  refine ⟨rfl, by rw [hwake]; rfl, fun k hk => ?_⟩
  rw [State.dog, State.settle_health]
  exact hdogs k hk

theorem coreRailsGood_starts (s : State) (t : Nat) (hon : s.boot.on) (hmode : s.power.mode = .retainedOff) (hen : s.power.coreEn)
    (hwake : s.power.wakeAt.isSome) : answers (.coreRailsGood t) s fun s' =>
      s'.boot.on ∧ s'.power.mode = .run ∧ s'.boot.cause = 1 ∧ s'.obj 0x2A0006 = s.obj 0x2A0006 := by
  have hexec : exec (.coreRailsGood t) s = execCoreRailsGood t s := rfl
  refine answers_always hexec ?_
  have hnot : ¬ ((s.advance t).power.mode = .watch ∧ (s.advance t).powered = true) := by
    rw [State.advance_power, hmode]
    exact fun h => Mode.noConfusion h.1
  have hcond : (s.advance t).power.mode = .retainedOff ∧ (s.advance t).boot.on = true := ⟨hmode, hon⟩
  have hcond' : (s.advance t).power.coreEn = true ∧ (s.advance t).power.wakeAt.isSome = true := ⟨hen, hwake⟩
  obtain ⟨⟨hon', hcause, -, -, hmode'⟩, -⟩ := (s.advance t).fullStart_starts s.boot.env 1
  rw [if_neg hnot, if_pos hcond, State.railsInOff, if_pos hcond', State.settle_boot, State.settle_power,
    State.settle_obj _ (by decide) (by decide), State.emit_boot, State.emit_power, State.emit_obj _ _ _ _ (by decide) (by decide),
    State.setObj_obj_same, State.setObj_boot, State.setObj_power]
  exact ⟨hon', hmode', hcause, rfl⟩

/-- Settles O47: it holds. -/
theorem railsAfterAWake : Obligations.rails_after_a_wake := fun s t =>
  ⟨fun w => railsNotGood_retries s t w, fun i => wakeRetry_wakes s t i, fun w => coreRailsGood_resumes s t w,
    coreRailsGood_starts s t⟩

end Sys2Proof.Machine
end

section
/-! ### LSS, the 10BASE-T1S port, bus errors and partners (O36, O37, O38, O35, O33) -/
namespace Sys2Proof.Machine

/-! #### A controller behind events and the end of a command -/

/-- A controller with other emergencies. -/
def Ctrl.withEmcy (k : Ctrl) (queue : List Emcy) (sending : Bool) (inhibit : Option Nat) : Ctrl :=
  { k with emcy := queue, sending := sending, inhibitFrom := inhibit }

/-- Of a controller, an event and the end of a command change its emergencies alone. -/
theorem ctrl_of_quiet {s s' : State} (h : s'.quiet = s.quiet) {c : Nat} (hc : c < 2) : ∃ e f i, s'.ctrl c = (s.ctrl c).withEmcy e f i := by
  refine ⟨(s'.ctrl c).emcy, (s'.ctrl c).sending, (s'.ctrl c).inhibitFrom, ?_⟩
  have hq := quiet_ctrl h hc
  generalize s'.ctrl c = k' at hq ⊢
  generalize s.ctrl c = k at hq ⊢
  cases k
  cases k'
  simp only [Ctrl.quiet, Ctrl.mk.injEq] at hq
  simp only [Ctrl.withEmcy, Ctrl.mk.injEq]
  simp_all

theorem State.settle_ctrl_emcy (s : State) (c : Fin 2) : ∃ e f i, s.settle.ctrl c = (s.ctrl c).withEmcy e f i :=
  ctrl_of_quiet s.settle_quiet c.isLt

theorem State.emit_ctrl_emcy (s : State) (a b x : Nat) (c : Fin 2) : ∃ e f i, (s.emit a b x).ctrl c = (s.ctrl c).withEmcy e f i :=
  ctrl_of_quiet (s.emit_quiet a b x) c.isLt

theorem State.setCtrl_ctrl_same (s : State) (c : Nat) (v : Ctrl) : (s.setCtrl c v).ctrl c = v := tget_tset_same ..

theorem State.setCtrl_ctrl_ne (s : State) {c d : Nat} (v : Ctrl) (h : d ≠ c) : (s.setCtrl c v).ctrl d = s.ctrl d :=
  tget_tset_ne _ _ _ h

theorem State.onCtrl_ctrl_same (s : State) (c : Nat) (f : Ctrl → Ctrl) : (s.onCtrl c f).ctrl c = f (s.ctrl c) :=
  State.setCtrl_ctrl_same ..

theorem State.ctrl_congr {s s' : State} (h : s'.net = s.net) (c : Nat) : s'.ctrl c = s.ctrl c := by
  rw [State.ctrl, State.ctrl, h]

@[simp] theorem State.advance_ctrl (s : State) (t c : Nat) : (s.advance t).ctrl c = s.ctrl c := rfl

@[simp] theorem State.send_ctrl (s : State) (o : Out) (c : Nat) : (s.send o).ctrl c = s.ctrl c := rfl

@[simp] theorem State.setObj_ctrl (s : State) (k v c : Nat) : (s.setObj k v).ctrl c = s.ctrl c := rfl

@[simp] theorem State.incr_ctrl (s : State) (k n c : Nat) : (s.incr k n).ctrl c = s.ctrl c := rfl

theorem State.settle_sent {s : State} {o : Out} : o ∈ (s.send o).settle.out := State.settle_out_mem (State.sent s o)

theorem ctrlKey_bounds (c : Fin 2) {u : Nat} (hu : u < 0x100) : 0x2E0100 ≤ ctrlKey c u ∧ ctrlKey c u < 0x2E0300 := by
  unfold ctrlKey
  omega

theorem State.settle_ctrlKey (s : State) (c : Fin 2) {u : Nat} (hu : u < 0x100) : s.settle.obj (ctrlKey c u) = s.obj (ctrlKey c u) := by
  obtain ⟨hlo, -⟩ := ctrlKey_bounds c hu
  exact State.settle_obj _ (by omega) (by omega)

theorem State.emit_ctrlKey (s : State) (a b x : Nat) (c : Fin 2) {u : Nat} (hu : u < 0x100) :
    (s.emit a b x).obj (ctrlKey c u) = s.obj (ctrlKey c u) := by
  obtain ⟨hlo, -⟩ := ctrlKey_bounds c hu
  exact State.emit_obj _ _ _ _ (by omega) (by omega)

/-! #### LSS switching and scans (O36) -/

theorem State.whenLss_of_hears {s : State} {c : Nat} (h : (s.ctrl c).hears) (f : State → State) : s.whenLss c f = f s := by
  rw [State.whenLss, if_pos h]

theorem State.whenConfig_of_config {s : State} {c : Nat} (h : (s.ctrl c).hears) (hconf : (s.ctrl c).lssConfig) (f : State → State) :
    s.whenConfig c f = f s := by
  rw [State.whenConfig, State.whenLss_of_hears h, if_pos hconf]

/-- An LSS service that a controller hears takes effect. -/
theorem answers_lss {i : Instr} {t : Nat} {c : Fin 2} {f : State → State} {s : State} {P : State → Prop}
    (hc : exec i s = whenCore t (fun s => s.whenLss c f) s) (hcore : s.coreOn) (hears : (s.ctrl c).hears)
    (hp : P (f (s.advance t)).settle) : answers i s P :=
  answers_core hc hcore (by rw [State.whenLss_of_hears (s := s.advance t) hears]; exact hp)

/-- A service of the LSS configuration state takes effect in it. -/
theorem answers_lssConfig {i : Instr} {t : Nat} {c : Fin 2} {f : State → State} {s : State} {P : State → Prop}
    (hc : exec i s = whenCore t (fun s => s.whenConfig c f) s) (hcore : s.coreOn) (hears : (s.ctrl c).hears)
    (hconf : (s.ctrl c).lssConfig) (hp : P (f (s.advance t)).settle) : answers i s P :=
  answers_core hc hcore (by rw [State.whenConfig_of_config (s := s.advance t) hears hconf]; exact hp)

theorem State.advance_lssPart (s : State) (t c n : Nat) : (s.advance t).lssPart c n = s.lssPart c n := rfl

theorem switchStateGlobal_switches (s : State) (t : Nat) (c : Fin 2) (hcore : s.coreOn) (hears : (s.ctrl c).hears) (b : Bool) :
    answers (.switchStateGlobal t c b) s fun s' => (s'.ctrl c).lssConfig = b := by
  have hexec : exec (.switchStateGlobal t c b) s = execSwitchStateGlobal t c b s := rfl
  refine answers_lss hexec hcore hears ?_
  obtain ⟨e, f, i, h⟩ := State.settle_ctrl_emcy ((s.advance t).onCtrl c fun k => { k with lssConfig := b }) c
  rw [h, State.onCtrl_ctrl_same]
  rfl

theorem switchStateSelective_switches (s : State) (t : Nat) (c : Fin 2) (hcore : s.coreOn) (hears : (s.ctrl c).hears)
    (addr : List Nat) : answers (.switchStateSelective t c addr) s fun s' =>
      (s'.ctrl c).lssConfig = ((s.ctrl c).lssConfig || addr == [s.lssPart c 0, s.lssPart c 1, s.lssPart c 2, s.lssPart c 3]) ∧
      (addr = [s.lssPart c 0, s.lssPart c 1, s.lssPart c 2, s.lssPart c 3] → .lss c 0x44 0 ∈ s'.out) := by
  have hexec : exec (.switchStateSelective t c addr) s = execSwitchStateSelective t c addr s := rfl
  refine answers_lss hexec hcore hears ?_
  have hlist : (List.range 4).map ((s.advance t).lssPart c) = [s.lssPart c 0, s.lssPart c 1, s.lssPart c 2, s.lssPart c 3] := rfl
  rw [hlist]
  by_cases haddr : addr = [s.lssPart c 0, s.lssPart c 1, s.lssPart c 2, s.lssPart c 3]
  · rw [if_pos haddr]
    refine ⟨?_, fun _ => State.settle_sent⟩
    obtain ⟨e, f, i, h⟩ := State.settle_ctrl_emcy
      (((s.advance t).onCtrl c fun k => { k with lssConfig := true }).send (.lss c 0x44 0)) c
    rw [h, State.send_ctrl, State.onCtrl_ctrl_same, beq_iff_eq.mpr haddr, Bool.or_true]
    rfl
  · rw [if_neg haddr]
    refine ⟨?_, fun h => absurd h haddr⟩
    obtain ⟨e, f, i, h⟩ := State.settle_ctrl_emcy (s.advance t) c
    rw [h, beq_eq_false_iff_ne.mpr haddr, Bool.or_false]
    rfl

theorem identifyRemoteSlave_answers (s : State) (t : Nat) (c : Fin 2) (hcore : s.coreOn) (hears : (s.ctrl c).hears)
    (revLo revHi serLo serHi : Nat) (hrev : revLo ≤ s.lssPart c 2) (hrev' : s.lssPart c 2 ≤ revHi) (hser : serLo ≤ s.lssPart c 3)
    (hser' : s.lssPart c 3 ≤ serHi) :
    answers (.identifyRemoteSlave t c (s.lssPart c 0) (s.lssPart c 1) revLo revHi serLo serHi) s fun s' => .lss c 0x4F 0 ∈ s'.out := by
  have hexec : exec (.identifyRemoteSlave t c (s.lssPart c 0) (s.lssPart c 1) revLo revHi serLo serHi) s =
      execIdentifyRemoteSlave t c (s.lssPart c 0) (s.lssPart c 1) revLo revHi serLo serHi s := rfl
  refine answers_lss hexec hcore hears ?_
  rw [if_pos ⟨rfl, rfl, hrev, hrev', hser, hser'⟩]
  exact State.settle_sent

theorem identifyNonConfiguredSlave_answers (s : State) (t : Nat) (c : Fin 2) (hcore : s.coreOn) (hears : (s.ctrl c).hears)
    (hnode : (s.ctrl c).node = 0xFF) : answers (.identifyNonConfiguredSlave t c) s fun s' => .lss c 0x50 0 ∈ s'.out := by
  have hexec : exec (.identifyNonConfiguredSlave t c) s = execIdentifyNonConfiguredSlave t c s := rfl
  refine answers_lss hexec hcore hears ?_
  rw [if_pos (c := ((s.advance t).ctrl c).node = 0xFF) hnode]
  exact State.settle_sent

/-- A scan step of a controller without a node-ID in the waiting state is taken. -/
theorem answers_fastscan {s : State} {c : Fin 2} {P : State → Prop} (t id check sub next : Nat) (hcore : s.coreOn)
    (hears : (s.ctrl c).hears) (hnode : (s.ctrl c).node = 0xFF) (hconf : (s.ctrl c).lssConfig = false)
    (hp : P ((s.advance t).scanStep c id check sub next).settle) : answers (.fastscan t c id check sub next) s P := by
  have hexec : exec (.fastscan t c id check sub next) s = execFastscan t c id check sub next s := rfl
  refine answers_lss hexec hcore hears ?_
  rw [if_pos (c := ((s.advance t).ctrl c).node = 0xFF ∧ ((s.advance t).ctrl c).lssConfig = false) ⟨hnode, hconf⟩]
  exact hp

theorem fastscan_begins (s : State) (t : Nat) (c : Fin 2) (hcore : s.coreOn) (hears : (s.ctrl c).hears)
    (hnode : (s.ctrl c).node = 0xFF) (hconf : (s.ctrl c).lssConfig = false) (id sub next : Nat) :
    answers (.fastscan t c id 128 sub next) s fun s' => (s'.ctrl c).fastPos = 0 ∧ .lss c 0x4F 0 ∈ s'.out := by
  refine answers_fastscan t id 128 sub next hcore hears hnode hconf ?_
  rw [State.scanStep, if_pos rfl]
  refine ⟨?_, State.settle_sent⟩
  obtain ⟨e, f, i, h⟩ := State.settle_ctrl_emcy
    (((s.advance t).setCtrl c { (s.advance t).ctrl c with fastPos := 0 }).send (.lss c 0x4F 0)) c
  rw [h, State.send_ctrl, State.setCtrl_ctrl_same]
  rfl

theorem fastscan_steps (s : State) (t : Nat) (c : Fin 2) (hcore : s.coreOn) (hears : (s.ctrl c).hears)
    (hnode : (s.ctrl c).node = 0xFF) (hconf : (s.ctrl c).lssConfig = false) (id next b : Nat) (hb : b < 32)
    (hmatch : id / 2 ^ b = s.lssPart c (s.ctrl c).fastPos / 2 ^ b) :
    answers (.fastscan t c id b (s.ctrl c).fastPos next) s fun s' => .lss c 0x4F 0 ∈ s'.out ∧
      (s'.ctrl c).fastPos = (if b = 0 then next else (s.ctrl c).fastPos) ∧
      (s'.ctrl c).lssConfig = (decide (b = 0) && decide (next < (s.ctrl c).fastPos)) := by
  refine answers_fastscan t id b (s.ctrl c).fastPos next hcore hears hnode hconf ?_
  have hstep : (s.ctrl c).fastPos = ((s.advance t).ctrl c).fastPos ∧ b < 32 ∧
      id / 2 ^ b = (s.advance t).lssPart c (s.ctrl c).fastPos / 2 ^ b := ⟨rfl, hb, hmatch⟩
  unfold State.scanStep
  dsimp only
  rw [if_neg (by omega), if_pos hstep]
  refine ⟨State.settle_sent, ?_⟩
  by_cases h0 : b = 0
  · rw [if_pos h0, if_pos h0]
    obtain ⟨e, f, i, h⟩ := State.settle_ctrl_emcy (((s.advance t).setCtrl c { (s.advance t).ctrl c with
      fastPos := next, lssConfig := decide (next < (s.ctrl c).fastPos) }).send (.lss c 0x4F 0)) c
    rw [h, State.send_ctrl, State.setCtrl_ctrl_same, decide_eq_true h0, Bool.true_and]
    exact ⟨rfl, rfl⟩
  · rw [if_neg h0, if_neg h0]
    obtain ⟨e, f, i, h⟩ := State.settle_ctrl_emcy ((s.advance t).send (.lss c 0x4F 0)) c
    rw [h, State.send_ctrl, decide_eq_false h0, Bool.false_and]
    exact ⟨rfl, hconf⟩

/-- Settles O36: it holds. -/
theorem lssSwitchAndScan : Obligations.lss_switch_and_scan := fun s t c hcore hears =>
  ⟨switchStateGlobal_switches s t c hcore hears, switchStateSelective_switches s t c hcore hears,
    identifyRemoteSlave_answers s t c hcore hears, fun hnode =>
      ⟨identifyNonConfiguredSlave_answers s t c hcore hears hnode, fun hconf id sub next =>
        ⟨fastscan_begins s t c hcore hears hnode hconf id sub next, fun b hb hmatch =>
          fastscan_steps s t c hcore hears hnode hconf id next b hb hmatch⟩⟩⟩

/-! #### The services of the LSS configuration state (O37) -/

theorem lssNodeOk_iff (v : Nat) : lssNodeOk v = true ↔ (1 ≤ v ∧ v ≤ 127) ∨ v = 0xFF := by
  simp [lssNodeOk]

theorem configureNodeId_waits (s : State) (t : Nat) (c : Fin 2) (hcore : s.coreOn) (hears : (s.ctrl c).hears)
    (hconf : (s.ctrl c).lssConfig) (v : Nat) : answers (.configureNodeId t c v) s fun s' => (s'.ctrl c).node = (s.ctrl c).node ∧
      if (1 ≤ v ∧ v ≤ 127) ∨ v = 0xFF then
        s'.obj (ctrlKey c 0x03) = v ∧ (s'.ctrl c).silenced = false ∧ .lss c 0x11 0 ∈ s'.out
      else s'.obj (ctrlKey c 0x03) = s.obj (ctrlKey c 0x03) ∧ .lss c 0x11 1 ∈ s'.out := by
  have hexec : exec (.configureNodeId t c v) s = execConfigureNodeId t c v s := rfl
  refine answers_lssConfig hexec hcore hears hconf ?_
  by_cases hv : lssNodeOk v = true
  · rw [if_pos hv, if_pos ((lssNodeOk_iff v).mp hv), State.settle_ctrlKey _ c (by decide)]
    generalize hw : ((s.advance t).setObj (ctrlKey c 0x03) v).onCtrl c (fun k => { k with silenced := false }) = w
    have hctrl : w.ctrl c = { s.ctrl c with silenced := false } := by
      rw [← hw, State.onCtrl_ctrl_same, State.setObj_ctrl, State.advance_ctrl]
    have hobj : w.obj (ctrlKey c 0x03) = v := by rw [← hw]; exact State.setObj_obj_same ..
    obtain ⟨e, f, i, h⟩ := State.settle_ctrl_emcy ((w.emit 0xA002).send (.lss c 0x11 0)) c
    obtain ⟨e', f', i', h'⟩ := w.emit_ctrl_emcy 0xA002 0xFFFF 0 c
    rw [h, State.send_ctrl, h', hctrl]
    exact ⟨rfl, (State.emit_ctrlKey w _ _ _ c (by decide)).trans hobj, rfl, State.settle_sent⟩
  · rw [if_neg hv, if_neg fun h => hv ((lssNodeOk_iff v).mpr h), State.settle_ctrlKey _ c (by decide)]
    obtain ⟨e, f, i, h⟩ := State.settle_ctrl_emcy ((s.advance t).send (.lss c 0x11 1)) c
    rw [h]
    exact ⟨rfl, rfl, State.settle_sent⟩

theorem configureBitTiming_waits (s : State) (t : Nat) (c : Fin 2) (hcore : s.coreOn) (hears : (s.ctrl c).hears)
    (hconf : (s.ctrl c).lssConfig) (v : Nat) : answers (.configureBitTiming t c v) s fun s' =>
      (s'.ctrl c).nominal = (s.ctrl c).nominal ∧
      if v < 5 then (s'.ctrl c).lssPending = [1000000, 800000, 500000, 250000, 125000][v]? ∧ .lss c 0x13 0 ∈ s'.out
      else (s'.ctrl c).lssPending = (s.ctrl c).lssPending ∧ .lss c 0x13 1 ∈ s'.out := by
  have hexec : exec (.configureBitTiming t c v) s = execConfigureBitTiming t c v s := rfl
  refine answers_lssConfig hexec hcore hears hconf ?_
  by_cases hv : v < 5
  · have hrate : lssRates[v]? = some (lssRates[v]'hv) := List.getElem?_eq_getElem hv
    rw [if_pos hv]
    change _ ∧ _ = lssRates[v]? ∧ _
    rw [hrate]
    dsimp only
    obtain ⟨e, f, i, h⟩ := State.settle_ctrl_emcy
      (((s.advance t).onCtrl c fun k => { k with lssPending := some (lssRates[v]'hv) }).send (.lss c 0x13 0)) c
    rw [h, State.send_ctrl, State.onCtrl_ctrl_same]
    exact ⟨rfl, rfl, State.settle_sent⟩
  · have hrate : lssRates[v]? = none := List.getElem?_eq_none (Nat.not_lt.mp hv)
    rw [if_neg hv, hrate]
    dsimp only
    obtain ⟨e, f, i, h⟩ := State.settle_ctrl_emcy ((s.advance t).send (.lss c 0x13 1)) c
    rw [h]
    exact ⟨rfl, rfl, State.settle_sent⟩

theorem activateBitTiming_activates (s : State) (t : Nat) (c : Fin 2) (hcore : s.coreOn) (hears : (s.ctrl c).hears)
    (hconf : (s.ctrl c).lssConfig) (r : Nat) (hpend : (s.ctrl c).lssPending = some r) :
    answers (.activateBitTiming t c) s fun s' => (s'.ctrl c).nominal = r ∧
      (s'.ctrl c).lssPending = none ∧ s'.obj (ctrlKey c 0x05) = r := by
  have hexec : exec (.activateBitTiming t c) s = execActivateBitTiming t c s := rfl
  refine answers_lssConfig hexec hcore hears hconf ?_
  rw [State.advance_ctrl, hpend]
  dsimp only
  obtain ⟨e, f, i, h⟩ := State.settle_ctrl_emcy
    (((s.advance t).onCtrl c fun k => { k with nominal := r, lssPending := none }).setObj (ctrlKey c 0x05) r) c
  rw [h, State.setObj_ctrl, State.onCtrl_ctrl_same, State.settle_ctrlKey _ c (by decide), State.setObj_obj_same]
  exact ⟨rfl, rfl, rfl⟩

theorem State.beginStore_store (s : State) (p : Path) (key : Nat) (snap : Table Nat) (marks : Nat) (isMark : Bool)
    (lss : Option Nat) :
    (s.beginStore p key snap marks isMark lss).dict.store = some {
      path := p, key := key, snap := snap, marks := marks, copy := s.storeTarget, isMark := isMark, lss := lss } := rfl

theorem storeConfiguration_stores (s : State) (t : Nat) (c : Fin 2) (hcore : s.coreOn) (hears : (s.ctrl c).hears)
    (hconf : (s.ctrl c).lssConfig) (hstore : s.dict.store = none) (hpfail : s.log.pfail = false) :
    answers (.storeConfiguration t c) s fun s' => ∃ x, s'.dict.store = some x ∧
      x.lss = some c.val ∧ x.copy = s.storeTarget ∧ tget x.snap (ctrlKey c 0x03) 0 = s.obj (ctrlKey c 0x03) ∧
      tget x.snap (ctrlKey c 0x05) 0 = (s.ctrl c).lssPending.getD (s.obj (ctrlKey c 0x05)) := by
  have hexec : exec (.storeConfiguration t c) s = execStoreConfiguration t c s := rfl
  refine answers_lssConfig hexec hcore hears hconf ?_
  have hfree : ¬ ((s.advance t).dict.store.isSome = true ∨ (s.advance t).log.pfail = true) := by
    rw [State.advance_dict, State.advance_log, hstore, hpfail]
    exact fun h => h.elim Bool.noConfusion Bool.noConfusion
  rw [if_neg hfree, State.settle_dict_store, State.beginStore_store]
  refine ⟨_, rfl, rfl, rfl, ?_, ?_⟩
  · have hne : ctrlKey c 0x03 ≠ ctrlKey c 0x05 := by
      unfold ctrlKey
      omega
    exact (tget_tset_ne _ _ _ hne).trans (tget_tset_same ..)
  · exact tget_tset_same ..

theorem inquireIdentity_answers (s : State) (t : Nat) (c : Fin 2) (hcore : s.coreOn) (hears : (s.ctrl c).hears)
    (hconf : (s.ctrl c).lssConfig) (part : Fin 4) :
    answers (.inquireIdentity t c part) s fun s' => .lss c (0x5A + part) (s.lssPart c part) ∈ s'.out := by
  have hexec : exec (.inquireIdentity t c part) s = execInquireIdentity t c part s := rfl
  exact answers_lssConfig hexec hcore hears hconf State.settle_sent

theorem inquireNodeId_answers (s : State) (t : Nat) (c : Fin 2) (hcore : s.coreOn) (hears : (s.ctrl c).hears)
    (hconf : (s.ctrl c).lssConfig) : answers (.inquireNodeId t c) s fun s' => .lss c 0x5E (s.ctrl c).node ∈ s'.out := by
  have hexec : exec (.inquireNodeId t c) s = execInquireNodeId t c s := rfl
  exact answers_lssConfig hexec hcore hears hconf State.settle_sent

/-- Settles O37: it holds. -/
theorem lssConfiguration : Obligations.lss_configuration := fun s t c hcore hears hconf =>
  ⟨configureNodeId_waits s t c hcore hears hconf, configureBitTiming_waits s t c hcore hears hconf,
    activateBitTiming_activates s t c hcore hears hconf, storeConfiguration_stores s t c hcore hears hconf,
    inquireIdentity_answers s t c hcore hears hconf, inquireNodeId_answers s t c hcore hears hconf⟩

/-! #### The 10BASE-T1S port (O38) -/

theorem plcaStatusChange_follows (s : State) (t : Nat) (hcore : s.coreOn) (hplca : s.plcaOn) (ok : Bool) :
    answers (.plcaStatusChange t ok) s fun s' => s'.net.plcaOk = ok := by
  have hexec : exec (.plcaStatusChange t ok) s = execPlcaStatusChange t ok s := rfl
  refine answers_core hexec hcore ?_
  rw [State.settle_net_plcaOk]
  split
  · rw [State.emit_net_plcaOk]; rfl
  next h => exact (Classical.not_not.mp fun hne => h ⟨hplca, hne⟩).symm

theorem State.lastSecond_length (s : State) (l : List Nat) :
    (s.lastSecond l).length = (l.filter fun i => decide (s.now ≤ i + second)).length + 1 := rfl

theorem erroredTransmission_reports (s : State) (t : Nat) (hcore : s.coreOn) (hplca : s.plcaOn) (k : Nat) (hother : k ≠ s.cfg 0x2E0601)
    (hmany : 3 ≤ ((tget s.net.plcaErrs k []).filter fun i => decide (max s.now t ≤ i + second)).length) :
    answers (.erroredTransmission t k) s fun s' => s'.obj 0x2E0608 = k % 256 := by
  have hexec : exec (.erroredTransmission t k) s = execErroredTransmission t k s := rfl
  refine answers_core hexec hcore ?_
  have hplca' : (s.advance t).plcaOn = true := hplca
  have hlen : 4 ≤ ((s.advance t).lastSecond (tget (s.advance t).net.plcaErrs k [])).length := by
    rw [State.lastSecond_length]
    exact Nat.succ_le_succ hmany
  have hcond : 4 ≤ ((s.advance t).lastSecond (tget (s.advance t).net.plcaErrs k [])).length ∧ k ≠ (s.advance t).cfg 0x2E0601 :=
    ⟨hlen, hother⟩
  rw [if_pos hplca', State.settle_obj _ (by decide) (by decide), State.erroredIn]
  rw [if_pos hcond, State.emitLimited_obj _ _ _ _ _ _ (by decide) (by decide), State.setObj_obj_same]

theorem carrierInOwnTo_reports (s : State) (t : Nat) (hcore : s.coreOn) (hplca : s.plcaOn)
    (hbefore : s.net.carriers.any (fun i => decide (max s.now t ≤ i + second))) :
    answers (.carrierInOwnTo t) s fun s' => s'.obj 0x2E0609 = 1 := by
  have hexec : exec (.carrierInOwnTo t) s = execCarrierInOwnTo t s := rfl
  refine answers_core hexec hcore ?_
  have hplca' : (s.advance t).plcaOn = true := hplca
  have hlen : 2 ≤ ((s.advance t).lastSecond (s.advance t).net.carriers).length := by
    rw [State.lastSecond_length]
    obtain ⟨i, hi, hlast⟩ := List.any_eq_true.mp hbefore
    exact Nat.succ_le_succ (List.length_pos_of_mem (List.mem_filter.mpr ⟨hi, hlast⟩))
  rw [if_pos hplca', State.settle_obj _ (by decide) (by decide)]
  dsimp only
  rw [if_pos hlen, State.emit_obj _ _ _ _ (by decide) (by decide), State.setObj_obj_same]

theorem collision_counts (s : State) (t : Nat) (hcore : s.coreOn) :
    answers (.collision t) s fun s' => s'.obj 0x2E0607 = (s.obj 0x2E0607 + 1) % 2 ^ objWidth 0x2E0607 ∧
      (s'.net.collisions, s'.obj 0x2E060A) =
        if 15 ≤ s.net.collisions then (0, (s.obj 0x2E060A + 1) % 2 ^ objWidth 0x2E060A) else (s.net.collisions + 1, s.obj 0x2E060A) := by
  have hexec : exec (.collision t) s = execCollision t s := rfl
  refine answers_core hexec hcore ?_
  generalize hw : ((s.advance t).incr 0x2E0607).onNet (fun n => { n with collisions := n.collisions + 1 }) = w
  have hcoll : w.net.collisions = s.net.collisions + 1 := by rw [← hw]; rfl
  have h7 : w.obj 0x2E0607 = (s.obj 0x2E0607 + 1) % 2 ^ objWidth 0x2E0607 := by rw [← hw]; exact State.incr_obj_same ..
  have hA : w.obj 0x2E060A = s.obj 0x2E060A := by rw [← hw]; exact State.incr_obj_ne (s.advance t) 1 (by decide)
  rw [State.settle_obj _ (by decide) (by decide), State.settle_obj _ (by decide) (by decide), State.settle_net_collisions]
  by_cases h : 15 ≤ s.net.collisions
  · rw [if_pos (by rw [hcoll]; omega), if_pos h, State.emit_obj _ _ _ _ (by decide) (by decide),
      State.emit_obj _ _ _ _ (by decide) (by decide), State.emit_net_collisions, State.incr_obj_ne _ _ (by decide), State.incr_obj_same]
    exact ⟨h7, by rw [← hA]; rfl⟩
  · rw [if_neg (by rw [hcoll]; omega), if_neg h, hcoll, hA]
    exact ⟨h7, rfl⟩

theorem transmitLimit_stops (s : State) (t : Nat) (hcore : s.coreOn) :
    answers (.transmitLimit t) s fun s' => s'.net.txStopped ∧ s'.net.collisions = 0 := by
  have hexec : exec (.transmitLimit t) s = execTransmitLimit t s := rfl
  refine answers_core hexec hcore ?_
  rw [State.settle_net_txStopped, State.settle_net_collisions]
  exact ⟨rfl, rfl⟩

theorem State.ownAddress_congr {s s' : State} (h : s'.inForce = s.inForce) (i : Nat) : s'.ownAddress i = s.ownAddress i :=
  State.cfg_congr h _

theorem State.takeArp_answers {s : State} {i : Nat} (sender mac : Nat) (hown : s.ownAddress i ≠ 0) :
    .arpReply i sender ∈ (s.takeArp i sender mac (s.ownAddress i) true).out := by
  unfold State.takeArp
  dsimp only
  rw [if_pos ⟨rfl, hown, rfl⟩]
  exact State.sent ..

theorem arp_answers (s : State) (t : Nat) (hcore : s.coreOn) (i : Fin 3) (hown : s.ownAddress i ≠ 0) (sender mac : Nat)
    (hkept : ((s.advance t).broadcast i).2 = false) :
    answers (.arp t i true sender mac (s.ownAddress i)) s fun s' => .arpReply i sender ∈ s'.out := by
  have hexec : exec (.arp t i true sender mac (s.ownAddress i)) s = execArp t i true sender mac (s.ownAddress i) s := rfl
  refine answers_core hexec hcore ?_
  have haddr : ((s.advance t).broadcast i).1.ownAddress i = s.ownAddress i :=
    State.ownAddress_congr (only_inForce (State.broadcast_same (by decide) ..)) i
  dsimp only
  rw [if_pos rfl, hkept, if_neg Bool.false_ne_true]
  have h := State.takeArp_answers (s := ((s.advance t).broadcast i).1) (i := i) sender mac (by rw [haddr]; exact hown)
  rw [haddr] at h
  exact State.settle_out_mem h

theorem icmpEcho_answers (s : State) (t : Nat) (hcore : s.coreOn) (i : Fin 3) (hown : s.ownAddress i ≠ 0) (src : Nat)
    (data : List Byte) : answers (.icmpEcho t i src (s.ownAddress i) data) s fun s' => .icmpReply i src data ∈ s'.out := by
  have hexec : exec (.icmpEcho t i src (s.ownAddress i) data) s = execIcmpEcho t i src (s.ownAddress i) data s := rfl
  refine answers_core hexec hcore ?_
  have hcond : (s.advance t).ownAddress i ≠ 0 ∧ s.ownAddress i = (s.advance t).ownAddress i := ⟨hown, rfl⟩
  rw [if_pos hcond]
  exact State.settle_out_mem (State.sent ..)

/-- Settles O38: it holds. -/
theorem t1sPort : Obligations.t1s_port := fun s t hcore =>
  ⟨fun hplca => ⟨plcaStatusChange_follows s t hcore hplca, erroredTransmission_reports s t hcore hplca,
    carrierInOwnTo_reports s t hcore hplca⟩, collision_counts s t hcore, transmitLimit_stops s t hcore, fun i hown =>
    ⟨arp_answers s t hcore i hown, icmpEcho_answers s t hcore i hown⟩⟩

/-! #### Bus errors (O35) -/

theorem errorPassive_enters (s : State) (t : Nat) (c : Fin 2) (hcore : s.coreOn) (hopen : (s.ctrl c).canopen) (herr : (s.ctrl c).err = 0) :
    answers (.errorPassive t c) s fun s' => (s'.ctrl c).err = 1 := by
  have hexec : exec (.errorPassive t c) s = execErrorPassive t c s := rfl
  refine answers_core hexec hcore ?_
  have hcond : ((s.advance t).ctrl c).canopen = true ∧ ((s.advance t).ctrl c).err = 0 := ⟨hopen, herr⟩
  rw [if_pos hcond]
  obtain ⟨e, f, i, h⟩ := State.settle_ctrl_emcy (((s.advance t).onCtrl c fun k => { k with err := 1 }).emit 0xA004) c
  obtain ⟨e', f', i', h'⟩ := ((s.advance t).onCtrl c fun k => { k with err := 1 }).emit_ctrl_emcy 0xA004 0xFFFF 0 c
  rw [h, h', State.onCtrl_ctrl_same]
  rfl

/-- The entry to bus-off notes its instant, and the eighth within 60 s holds the controller off. -/
theorem State.enterBusOff_ctrl (s : State) (c : Fin 2) :
    ((s.enterBusOff c).ctrl c).busOffs = s.now :: (s.ctrl c).busOffs.filter (fun i => decide (s.now < i + 60 * second)) ∧
    ((s.enterBusOff c).ctrl c).err =
      if 7 ≤ ((s.ctrl c).busOffs.filter fun i => decide (s.now < i + 60 * second)).length then 4 else 2 := by
  unfold State.enterBusOff
  dsimp only
  generalize hrecent : (s.ctrl c).busOffs.filter (fun i => decide (s.now < i + 60 * second)) = recent
  generalize hv : ({ s.ctrl c with
    err := if decide (8 ≤ (s.now :: recent).length) = true then 4 else 2
    busOffs := s.now :: recent
    factor := if (s.ctrl c).busOffs.head?.any (fun i => decide (s.now ≤ i + 10 * second)) then min 16 (2 * (s.ctrl c).factor) else 1
    emcy := [], sending := false } : Ctrl) = v
  have hb : v.busOffs = s.now :: recent := by rw [← hv]
  have he : v.err = if 7 ≤ recent.length then 4 else 2 := by
    rw [← hv]
    simp only [decide_eq_true_eq, List.length_cons, show 8 ≤ recent.length + 1 ↔ 7 ≤ recent.length by omega]
  obtain ⟨e, f, i, h⟩ := (s.setCtrl c v).emit_ctrl_emcy 0xA005 0xFFFF 0 c
  obtain ⟨e', f', i', h'⟩ := ((s.setCtrl c v).emit 0xA005).emit_ctrl_emcy 0xA007 0xFFFF 0 c
  rw [State.setCtrl_ctrl_same] at h
  split
  · rw [h', h]; exact ⟨hb, he⟩
  · rw [h]; exact ⟨hb, he⟩

theorem busOff_enters (s : State) (t : Nat) (c : Fin 2) (hcore : s.coreOn) (hears : (s.ctrl c).hears) :
    answers (.busOff t c) s fun s' =>
      let recent := (s.ctrl c).busOffs.filter fun i => decide (max s.now t < i + 60 * second)
      (s'.ctrl c).busOffs = max s.now t :: recent ∧ (s'.ctrl c).err = if 7 ≤ recent.length then 4 else 2 := by
  have hexec : exec (.busOff t c) s = execBusOff t c s := rfl
  refine answers_core hexec hcore ?_
  have hears' : ((s.advance t).ctrl c).hears = true := hears
  obtain ⟨e, f, i, h⟩ := State.settle_ctrl_emcy ((s.advance t).enterBusOff c) c
  rw [if_pos hears', h]
  exact (s.advance t).enterBusOff_ctrl c

theorem busOffRecovery_recovers (s : State) (t : Nat) (c : Fin 2) (hcore : s.coreOn) (i : Nat) (r : List Nat)
    (herr : (s.ctrl c).err = 2) (hoffs : (s.ctrl c).busOffs = i :: r)
    (hlate : i + s.cfg (ctrlKey c 0x0A) * (s.ctrl c).factor * msec ≤ max s.now t) :
    answers (.busOffRecovery t c) s fun s' => (s'.ctrl c).err = 0 := by
  have hexec : exec (.busOffRecovery t c) s = execBusOffRecovery t c s := rfl
  refine answers_core hexec hcore ?_
  dsimp only
  have hcond : (s.ctrl c).err = 2 ∧
      ((s.ctrl c).busOffs.head?.getD 0) + s.cfg (ctrlKey c 0x0A) * (s.ctrl c).factor * msec ≤ max s.now t := by
    rw [hoffs]
    exact ⟨herr, hlate⟩
  rw [State.advance_ctrl, State.advance_cfg, State.advance_now, if_pos hcond]
  obtain ⟨e, f, i, h⟩ := State.settle_ctrl_emcy (((s.advance t).setCtrl c { s.ctrl c with err := 0 }).emit 0xA006) c
  obtain ⟨e', f', i', h'⟩ := ((s.advance t).setCtrl c { s.ctrl c with err := 0 }).emit_ctrl_emcy 0xA006 0xFFFF 0 c
  rw [h, h', State.setCtrl_ctrl_same]
  rfl

theorem exec_releaseHeldOffController (t : Nat) (p : Path) (c : Fin 2) (v : Nat) (s : State) :
    exec (.releaseHeldOffController t p c v) s = whenCore t (fun s => s.controlledNum p (ctrlKey c 0x0B) v fun s =>
      s.onCtrl c fun k => if k.err = 4 then { k with err := 0 } else k) s := rfl

theorem releaseHeldOffController_releases (s : State) (t : Nat) (c : Fin 2) (hcore : s.coreOn) (p : Path) (v : Nat)
    (hmay : s.mayWrite t p (ctrlKey c 0x0B) v) (herr : (s.ctrl c).err = 4) :
    answers (.releaseHeldOffController t p c v) s fun s' => (s'.ctrl c).err = 0 := by
  refine answers_controlledNum (exec_releaseHeldOffController ..) hcore hmay ?_
  generalize hw : (s.advance t).acceptWrite p (ctrlKey c 0x0B) _ = w
  have hctrl : w.ctrl c = s.ctrl c := State.ctrl_congr (by rw [← hw, State.acceptWrite_net, State.advance_net]) c
  obtain ⟨e, f, i, h⟩ := State.settle_ctrl_emcy (w.onCtrl c fun k => if k.err = 4 then { k with err := 0 } else k) c
  rw [h, State.onCtrl_ctrl_same, hctrl, if_pos herr]
  rfl

/-- A sample writes the objects of the monitors alone. -/
theorem State.observe_obj (s : State) (source inst : Nat) (v : Int) {k : Nat} (h : k ≠ 0x2B0002) (h1 : k ≠ 0x290104)
    (h2 : k ≠ 0x290204) : (s.observe source inst v).obj k = s.obj k := by
  unfold State.observe
  refine List.foldlRecOn (motive := fun s' => State.obj s' k = s.obj k) _ _ rfl fun s' ih m _ => ?_
  split
  · unfold State.monitorSample
    dsimp only
    split
    · rw [State.emitLimited_obj _ _ _ _ _ _ h1 h2, State.incr_obj_ne _ _ h]; exact ih
    · exact ih
  · exact ih

theorem State.observe_nmt (s : State) (source inst : Nat) (v : Int) : (s.observe source inst v).net.nmt = s.net.nmt := by
  unfold State.observe
  refine List.foldlRecOn (motive := fun s' => (State.net s').nmt = s.net.nmt) _ _ rfl fun s' ih m _ => ?_
  split
  · unfold State.monitorSample
    dsimp only
    split
    · rw [State.emitLimited_net_nmt]; exact ih
    · exact ih
  · exact ih

theorem busLoadWindow_measures (s : State) (t : Nat) (c : Fin 2) (hcore : s.coreOn) (load busiest : Nat) :
    answers (.busLoadWindow t c load busiest) s fun s' => s'.obj (ctrlKey c 0x08) = load % 2 ^ 16 ∧
      s'.obj (ctrlKey c 0x09) = busiest % 2 ^ 16 ∧ s'.net.nmt = s.net.nmt := by
  have hexec : exec (.busLoadWindow t c load busiest) s = execBusLoadWindow t c load busiest s := rfl
  refine answers_core hexec hcore ?_
  obtain ⟨h8, h8'⟩ := ctrlKey_bounds c (u := 0x08) (by decide)
  obtain ⟨h9, h9'⟩ := ctrlKey_bounds c (u := 0x09) (by decide)
  have hne : ctrlKey c 0x08 ≠ ctrlKey c 0x09 := by
    unfold ctrlKey
    omega
  generalize hw : (((s.advance t).setObj (ctrlKey c 0x08) (load % 2 ^ 16)).setObj (ctrlKey c 0x09) (busiest % 2 ^ 16)) = w
  have hw8 : (w.observe 8 c load).obj (ctrlKey c 0x08) = load % 2 ^ 16 := by
    rw [State.observe_obj _ _ _ _ (by omega) (by omega) (by omega), ← hw, State.setObj_obj_ne _ _ hne, State.setObj_obj_same]
  have hw9 : (w.observe 8 c load).obj (ctrlKey c 0x09) = busiest % 2 ^ 16 := by
    rw [State.observe_obj _ _ _ _ (by omega) (by omega) (by omega), ← hw, State.setObj_obj_same]
  have hnmt : (w.observe 8 c load).net.nmt = s.net.nmt := by rw [State.observe_nmt, ← hw]; rfl
  rw [State.settle_ctrlKey _ c (by decide), State.settle_ctrlKey _ c (by decide), State.settle_net_nmt]
  dsimp only
  split
  · rw [State.emitLimited_obj _ _ _ _ _ _ (by omega) (by omega), State.emitLimited_obj _ _ _ _ _ _ (by omega) (by omega),
      State.emitLimited_net_nmt]
    exact ⟨hw8, hw9, hnmt⟩
  · exact ⟨hw8, hw9, hnmt⟩

/-- Settles O35: it holds. -/
theorem busErrors : Obligations.bus_errors := fun s t c hcore =>
  ⟨errorPassive_enters s t c hcore, busOff_enters s t c hcore, busOffRecovery_recovers s t c hcore,
    releaseHeldOffController_releases s t c hcore, busLoadWindow_measures s t c hcore⟩

/-! #### Partners (O33) -/

/-- A partner that is heard. -/
def Partner.heardOn (p : Partner) (c state now dev : Nat) (boot : Bool) : Partner :=
  { p with
    ctrl := c, heard := true, lost := false, heardAt := now, heardDev := dev, state := state, relearn := boot
    period := if boot ∨ p.relearn ∨ p.heard = false then p.period else now - p.heardAt }

theorem State.hear_partners {s : State} {c node : Nat} {p : Partner} (hfind : s.net.partners.find? (·.isNode c node) = some p)
    (state : Nat) (boot : Bool) : (s.hear c node state boot).net.partners =
      s.net.partners.map fun x => if x = p then p.heardOn c state s.now s.time.dev boot else x := by
  unfold State.hear
  rw [hfind]
  dsimp only
  split
  · split
    · rw [State.emit_net_partners]; rfl
    · rfl
  · split
    · rw [State.emit_net_partners]; rfl
    · rfl

theorem State.hear_hears {s : State} {c node : Nat} {p : Partner} (hfind : s.net.partners.find? (·.isNode c node) = some p)
    (state : Nat) (boot : Bool) : p.heardOn c state s.now s.time.dev boot ∈ (s.hear c node state boot).net.partners := by
  rw [State.hear_partners hfind]
  exact List.mem_map.mpr ⟨p, List.mem_of_find?_eq_some hfind, if_pos rfl⟩

theorem isNode_node {s : State} {c node : Nat} {p : Partner} (hfind : s.net.partners.find? (·.isNode c node) = some p) :
    p.node = node := by
  have h := List.find?_some hfind
  rw [Partner.isNode, Bool.and_eq_true, beq_iff_eq] at h
  exact h.1

theorem partnerHeartbeat_hears (s : State) (t : Nat) (c : Fin 2) (node state : Nat) (p : Partner) (hcore : s.coreOn)
    (hears : (s.ctrl c).hears) (hlo : 1 ≤ node) (hhi : node ≤ 127) (hfind : s.net.partners.find? (·.isNode c node) = some p) :
    answers (.partnerHeartbeat t c node state) s fun s' => ∃ q ∈ s'.net.partners, q.node = node ∧ q.heard ∧ q.lost = false ∧
      q.heardAt = max s.now t ∧ q.state = state ∧ q.relearn = false := by
  have hexec : exec (.partnerHeartbeat t c node state) s = execPartnerHeartbeat t c node state s := rfl
  refine answers_core hexec hcore ?_
  have hcond : ((s.advance t).ctrl c).hears = true ∧ 1 ≤ node ∧ node ≤ 127 := ⟨hears, hlo, hhi⟩
  have hnode : p.node = node := isNode_node hfind
  rw [if_pos hcond, State.settle_net_partners]
  exact ⟨_, State.hear_hears (s := s.advance t) hfind state false, hnode, rfl, rfl, rfl, rfl, rfl⟩

theorem bootUp_hears (s : State) (t : Nat) (c : Fin 2) (node : Nat) (p : Partner) (hcore : s.coreOn)
    (hears : (s.ctrl c).hears) (hlo : 1 ≤ node) (hhi : node ≤ 127) (hfind : s.net.partners.find? (·.isNode c node) = some p) :
    answers (.bootUp t c node) s fun s' => ∃ q ∈ s'.net.partners, q.node = node ∧ q.heard ∧ q.lost = false ∧
      q.heardAt = max s.now t ∧ q.state = 0 ∧ q.relearn ∧ q.period = p.period := by
  have hexec : exec (.bootUp t c node) s = execBootUp t c node s := rfl
  refine answers_core hexec hcore ?_
  have hcond : ((s.advance t).ctrl c).hears = true ∧ 1 ≤ node ∧ node ≤ 127 := ⟨hears, hlo, hhi⟩
  have hnode : p.node = node := isNode_node hfind
  rw [if_pos hcond, State.settle_net_partners]
  exact ⟨_, State.hear_hears (s := s.advance t) hfind 0 true, hnode, rfl, rfl, rfl, rfl, rfl, rfl⟩

theorem partnerLost_loses (s : State) (t : Nat) (c : Fin 2) (node : Nat) (p : Partner) (hcore : s.coreOn)
    (hfind : s.net.partners.find? (·.isNode c node) = some p) (halive : p.lost = false)
    (hlate : p.heardAt + s.partnerTimeout p ≤ max s.now t) :
    answers (.partnerLost t c node) s fun s' => { p with lost := true, lostAt := max s.now t } ∈ s'.net.partners := by
  have hexec : exec (.partnerLost t c node) s = execPartnerLost t c node s := rfl
  refine answers_core hexec hcore ?_
  have hcond : p.lost = false ∧ p.heardAt + (s.advance t).partnerTimeout p ≤ (s.advance t).now := ⟨halive, hlate⟩
  have hfind' : (s.advance t).net.partners.find? (·.isNode c node) = some p := hfind
  rw [hfind']
  dsimp only
  rw [if_pos hcond, State.settle_net_partners, State.losePartner, State.emitArg_net_partners]
  exact List.mem_map.mpr ⟨p, List.mem_of_find?_eq_some hfind, if_pos rfl⟩

theorem partnerForget_forgets (s : State) (t : Nat) (c : Fin 2) (node : Nat) (p : Partner) (hcore : s.coreOn)
    (hfind : s.net.partners.find? (·.isNode c node) = some p) (hlost : p.lost) (hlearned : p.configured = false)
    (hlate : p.lostAt + s.cfg 0x2E0406 * second ≤ max s.now t) :
    answers (.partnerForget t c node) s fun s' => s'.net.partners = dropFirst (· == p) s.net.partners := by
  have hexec : exec (.partnerForget t c node) s = execPartnerForget t c node s := rfl
  refine answers_core hexec hcore ?_
  have hdue : p.lostAt + (s.advance t).cfg 0x2E0406 * second ≤ (s.advance t).now := hlate
  have hcond : p.lost = true ∧ p.configured = false ∧ p.lostAt + (s.advance t).cfg 0x2E0406 * second ≤ (s.advance t).now :=
    ⟨hlost, hlearned, hdue⟩
  have hfind' : (s.advance t).net.partners.find? (·.isNode c node) = some p := hfind
  rw [hfind']
  dsimp only
  rw [if_pos hcond, State.settle_net_partners]
  rfl

/-- Settles O33: it holds. -/
theorem partners : Obligations.partners :=
  ⟨fun s t c node state p hcore hears hlo hhi hfind => ⟨partnerHeartbeat_hears s t c node state p hcore hears hlo hhi hfind,
    bootUp_hears s t c node p hcore hears hlo hhi hfind⟩, fun s t c node p hcore hfind =>
    ⟨partnerLost_loses s t c node p hcore hfind, partnerForget_forgets s t c node p hcore hfind⟩⟩

end Sys2Proof.Machine
end

section
/-! ### NMT, node-IDs, PDOs, records and emergencies (O32, O34) -/
namespace Sys2Proof.Machine

/-! #### NMT commands (O32) -/

/-- What a listen sets of a controller, and its silence. -/
def Ctrl.listening (k : Ctrl) : Nat × Nat × Bool × Option Nat × Bool := (k.mode, k.node, k.dup, k.listenFrom, k.silenced)

theorem Ctrl.listening_of_quiet {k k' : Ctrl} (h : k'.quiet = k.quiet) : k'.listening = k.listening := by
  have hlis := congrArg Ctrl.listening h
  exact hlis

theorem State.onCtrl_ctrl_ne (s : State) {c d : Nat} (f : Ctrl → Ctrl) (h : d ≠ c) : (s.onCtrl c f).ctrl d = s.ctrl d :=
  State.setCtrl_ctrl_ne _ _ h

/-- A controller changed outside a projection keeps it on every controller. -/
theorem State.setCtrl_keeps {α : Type} (s : State) (c d : Nat) (v : Ctrl) (g : Ctrl → α) (h : g v = g (s.ctrl c)) :
    g ((s.setCtrl c v).ctrl d) = g (s.ctrl d) := by
  by_cases hd : d = c
  · rw [hd, State.setCtrl_ctrl_same, h]
  · rw [State.setCtrl_ctrl_ne _ _ hd]

theorem State.toNmt_nmt (s : State) (x : Nmt) : (s.toNmt x).net.nmt = x := by
  unfold State.toNmt
  split
  · next h => exact h.symm
  · rw [State.emit_net_nmt]
    split
    · rfl
    · rfl

theorem dropQueues_listening (s : State) (c : Nat) :
    ((ctrlNos.foldl (fun s c => s.onCtrl c Ctrl.dropQueue) s).ctrl c).listening = (s.ctrl c).listening :=
  List.foldlRecOn (motive := fun s' : State => (s'.ctrl c).listening = (s.ctrl c).listening) _ _ rfl fun s' ih d _ =>
    (State.setCtrl_keeps s' d c (s'.ctrl d).dropQueue Ctrl.listening rfl).trans ih

theorem State.toNmt_listening (s : State) (x : Nmt) {c : Nat} (hc : c < 2) :
    ((s.toNmt x).ctrl c).listening = (s.ctrl c).listening := by
  unfold State.toNmt
  split
  · rfl
  · dsimp only
    rw [Ctrl.listening_of_quiet (quiet_ctrl (State.emit_quiet ..) hc)]
    split
    · exact dropQueues_listening _ c
    · rfl

theorem State.toNmt_records (s : State) (x : Nmt) : (s.toNmt x).net.records = s.net.records := by
  unfold State.toNmt
  split
  · rfl
  · rw [State.emit_net_records]
    split
    · rfl
    · rfl

theorem startRemoteNode_starts (s : State) (t : Nat) (c : Fin 2) (node : Nat) (hcore : s.coreOn) (hours : s.addressed c node) :
    answers (.startRemoteNode t c node) s fun s' =>
      s'.net.nmt = if s.net.nmt = .initialisation then .initialisation else .operational := by
  have hexec : exec (.startRemoteNode t c node) s = nmtCommand t c node 1 State.nmtStart s := rfl
  refine answers_nmt hexec hcore hours ?_
  rw [State.settle_net_nmt, State.nmtStart, State.advance_net]
  cases h : s.net.nmt with
  | initialisation => exact h
  | operational => exact h
  | preOperational => exact State.toNmt_nmt ..
  | stopped => exact State.toNmt_nmt ..

theorem stopRemoteNode_stops (s : State) (t : Nat) (c : Fin 2) (node : Nat) (hcore : s.coreOn) (hours : s.addressed c node) :
    answers (.stopRemoteNode t c node) s fun s' =>
      s'.net.nmt = if s.net.nmt = .initialisation then .initialisation else .stopped := by
  have hexec : exec (.stopRemoteNode t c node) s = nmtCommand t c node 2 State.nmtStop s := rfl
  refine answers_nmt hexec hcore hours ?_
  rw [State.settle_net_nmt, State.nmtStop, State.advance_net]
  cases h : s.net.nmt with
  | initialisation => exact h
  | operational => exact State.toNmt_nmt ..
  | preOperational => exact State.toNmt_nmt ..
  | stopped => exact h

theorem enterPreOperational_enters (s : State) (t : Nat) (c : Fin 2) (node : Nat) (hcore : s.coreOn) (hours : s.addressed c node) :
    answers (.enterPreOperational t c node) s fun s' =>
      s'.net.nmt = if s.net.nmt = .initialisation then .initialisation else .preOperational := by
  have hexec : exec (.enterPreOperational t c node) s = nmtCommand t c node 0x80 State.nmtPreOp s := rfl
  refine answers_nmt hexec hcore hours ?_
  rw [State.settle_net_nmt, State.nmtPreOp, State.advance_net]
  cases h : s.net.nmt with
  | initialisation => exact h
  | operational => exact State.toNmt_nmt ..
  | preOperational => exact h
  | stopped => exact State.toNmt_nmt ..

/-! #### Reset communication and the listens (O32) -/

theorem State.startCtrl_listening (s : State) (c : Nat) : ((s.startCtrl c).ctrl c).listening =
    (s.obj (ctrlKey c 0x01), s.obj (ctrlKey c 0x03), false, (if s.obj (ctrlKey c 0x01) = 0 then none else some s.now),
      (s.ctrl c).silenced) := by
  rw [State.startCtrl, State.onCtrl_ctrl_same]
  rfl

theorem State.sendBootUp_listening (s : State) (d c : Nat) : ((s.sendBootUp d).ctrl c).listening = (s.ctrl c).listening := by
  unfold State.sendBootUp
  dsimp only
  split
  · rw [State.send_ctrl]
    exact State.setCtrl_keeps _ d c _ Ctrl.listening rfl
  · rfl

theorem State.sendBootUp_net (s : State) (d : Nat) : (s.sendBootUp d).net.nmt = s.net.nmt ∧ (s.sendBootUp d).net.records = s.net.records := by
  unfold State.sendBootUp
  dsimp only
  split
  · exact ⟨rfl, rfl⟩
  · exact ⟨rfl, rfl⟩

theorem State.leaveInitialisation_listening (s : State) {c : Nat} (hc : c < 2) :
    (s.leaveInitialisation.ctrl c).listening = (s.ctrl c).listening := by
  unfold State.leaveInitialisation
  split
  · dsimp only
    rw [State.toNmt_listening _ _ hc]
    split
    · exact (State.sendBootUp_listening _ 1 c).trans (State.sendBootUp_listening _ 0 c)
    · exact (State.sendBootUp_listening _ 1 c).trans (State.sendBootUp_listening _ 0 c)
  · rfl

theorem State.leaveInitialisation_records (s : State) : s.leaveInitialisation.net.records = s.net.records := by
  unfold State.leaveInitialisation
  split
  · dsimp only
    rw [State.toNmt_records]
    split
    · exact ((State.sendBootUp_net _ 1).2).trans (State.sendBootUp_net _ 0).2
    · exact ((State.sendBootUp_net _ 1).2).trans (State.sendBootUp_net _ 0).2
  · rfl

/-- Every listen over, the start-up ends in pre-operational (R423). -/
theorem State.leaveInitialisation_nmt (s : State) : s.leaveInitialisation.net.nmt =
    if s.net.nmt = .initialisation ∧ ctrlNos.all (fun c => (s.ctrl c).listenFrom.isNone) then .preOperational else s.net.nmt := by
  unfold State.leaveInitialisation
  split
  · exact State.toNmt_nmt ..
  · rfl

theorem State.configurePartner_net (s : State) (node : Nat) : (s.configurePartner node).net.ctrls = s.net.ctrls ∧
    (s.configurePartner node).net.nmt = s.net.nmt ∧ (s.configurePartner node).net.records = s.net.records := by
  unfold State.configurePartner State.onNet
  dsimp only
  split
  · exact ⟨rfl, rfl, rfl⟩
  · exact ⟨rfl, rfl, rfl⟩

theorem State.syncPartners_net (s : State) : s.syncPartners.net.ctrls = s.net.ctrls ∧
    s.syncPartners.net.nmt = s.net.nmt ∧ s.syncPartners.net.records = s.net.records := by
  unfold State.syncPartners
  refine List.foldlRecOn (motive := fun s' : State => s'.net.ctrls = s.net.ctrls ∧ s'.net.nmt = s.net.nmt ∧
    s'.net.records = s.net.records) _ _ ⟨rfl, rfl, rfl⟩ fun s' ih node _ => ?_
  obtain ⟨h1, h2, h3⟩ := State.configurePartner_net s' node
  exact ⟨h1.trans ih.1, h2.trans ih.2.1, h3.trans ih.2.2⟩

theorem State.syncPartners_ctrl (s : State) (c : Nat) : s.syncPartners.ctrl c = s.ctrl c := by
  rw [State.ctrl, s.syncPartners_net.1]
  rfl

theorem State.dropRecord_records (s : State) (c r : Nat) :
    (s.dropRecord c r).net.records = s.net.records.filter fun x => !(x.ctrl == c && x.chan == r) := by
  rw [State.dropRecord, State.emit_net_records]
  rfl

/-- Dropping every record of a list leaves none of it. -/
theorem dropRecords_records (l : List RecordBuf) (s : State) (h : ∀ x ∈ s.net.records, x ∈ l) :
    (l.foldl (fun s x => s.dropRecord x.ctrl x.chan) s).net.records = [] := by
  induction l generalizing s with
  | nil => exact List.eq_nil_iff_forall_not_mem.mpr fun x hx => List.not_mem_nil (h x hx)
  | cons y l ih =>
    refine ih _ fun x hx => ?_
    rw [State.dropRecord_records, List.mem_filter] at hx
    obtain ⟨hmem, hother⟩ := hx
    rcases List.mem_cons.mp (h x hmem) with rfl | hl
    · simp at hother
    · exact hl

/-- A reset communication behind the reload of the communication objects, with the controllers listening. -/
def State.restarted (s : State) : State :=
  (((s.toNmt .initialisation).startCtrl 0).startCtrl 1).syncPartners

theorem State.restarted_net (s : State) : s.restarted.net.records = s.net.records ∧ s.restarted.net.nmt = .initialisation := by
  unfold State.restarted
  obtain ⟨-, hnmt, hrec⟩ := State.syncPartners_net (((s.toNmt .initialisation).startCtrl 0).startCtrl 1)
  exact ⟨hrec.trans (State.toNmt_records s .initialisation), hnmt.trans (State.toNmt_nmt s .initialisation)⟩

theorem State.restarted_obj (s : State) (k : Nat) : s.restarted.obj k = (s.toNmt .initialisation).obj k :=
  State.obj_congr (only_od (State.syncPartners_same (by decide) _)) k

theorem State.restarted_listening (s : State) {d : Nat} (hd : d < 2) : (s.restarted.ctrl d).listening =
    (s.restarted.obj (ctrlKey d 0x01), s.restarted.obj (ctrlKey d 0x03), false,
      (if s.restarted.obj (ctrlKey d 0x01) = 0 then none else some s.now), (s.ctrl d).silenced) := by
  have hnow : (s.toNmt .initialisation).now = s.now := only_now (State.toNmt_same (by decide) _ _)
  have hsil : ((s.toNmt .initialisation).ctrl d).silenced = (s.ctrl d).silenced :=
    congrArg (fun x => x.2.2.2.2) (State.toNmt_listening s .initialisation hd)
  rw [State.restarted_obj, State.restarted_obj, State.restarted, State.syncPartners_ctrl]
  generalize s.toNmt .initialisation = w at hnow hsil
  obtain rfl | rfl : d = 0 ∨ d = 1 := by omega
  · rw [State.startCtrl, State.onCtrl_ctrl_ne _ _ (by decide), State.startCtrl_listening, hnow, hsil]
  · rw [State.startCtrl_listening, State.startCtrl, State.onCtrl_ctrl_ne _ _ (by decide)]
    rw [← hnow, ← hsil]
    rfl

theorem State.restarted_dict (s : State) : s.restarted.dict = s.dict := by
  have h : (((s.toNmt .initialisation).startCtrl 0).startCtrl 1).only .dict = s.only .dict :=
    State.toNmt_same (part := .dict) (by decide) s .initialisation
  exact (only_dict (State.syncPartners_same (by decide) _)).trans (only_dict h)

/-- A reset communication with its records dropped and without a selection. -/
def State.cleared (s : State) : State :=
  (s.net.records.foldl (fun s x => s.dropRecord x.ctrl x.chan) s).onDict fun d => { d with
    sel := none, window := [], wlen := 0, resetComm := false }

/-- The communication objects reloaded. -/
def State.reloaded (s : State) : State :=
  s.restoreCommunication.setInForce (joinTables (s.restoreCommunication.inForce.filter fun e => !(inCommunication (e.1 / 256)))
    (s.restoreCommunication.od.filter fun e => inCommunication (e.1 / 256)))

theorem State.resetCommunication_eq (s : State) : s.resetCommunication = s.cleared.reloaded.restarted.leaveInitialisation := rfl

theorem State.reloaded_same {part : Part} (hp : part ∉ [.od, .boot, .inForce]) (s : State) : s.reloaded.only part = s.only part :=
  (State.setInForce_same (away hp (by decide)) _ _).trans (State.restoreCommunication_same (away hp (by decide)) s)

theorem State.cleared_records (s : State) : s.cleared.net.records = [] :=
  dropRecords_records s.net.records s fun _ h => h

theorem State.cleared_now (s : State) : s.cleared.now = s.now :=
  List.foldlRecOn (motive := fun s' : State => s'.now = s.now) s.net.records _ rfl fun s' ih x _ =>
    (only_now (State.dropRecord_same (part := .now) (by decide) s' x.ctrl x.chan)).trans ih

theorem resetCommunication_restarts (s : State) (t : Nat) (c : Fin 2) (node : Nat) (hcore : s.coreOn) (hours : s.addressed c node)
    (hfree : s.dict.store = none) : answers (.resetCommunication t c node) s fun s' => s'.net.records = [] ∧ s'.dict.sel = none ∧
      (s'.net.nmt = .initialisation ∨ s'.net.nmt = .preOperational) ∧
      ∀ d < 2, (s'.ctrl d).mode = s'.obj (ctrlKey d 0x01) ∧ (s'.ctrl d).node = s'.obj (ctrlKey d 0x03) ∧ (s'.ctrl d).dup = false ∧
        (s'.ctrl d).listenFrom = if s'.obj (ctrlKey d 0x01) = 0 then none else some (max s.now t) := by
  have hexec : exec (.resetCommunication t c node) s = nmtCommand t c node 0x82 State.nmtResetComm s := rfl
  refine answers_nmt hexec hcore hours ?_
  have hnone : ¬ (s.advance t).dict.store.isSome = true := by rw [State.advance_dict, hfree]; exact Bool.false_ne_true
  rw [State.nmtResetComm, if_neg hnone]
  rw [State.resetCommunication_eq]
  have hrec : (s.advance t).cleared.reloaded.net.records = [] := by
    rw [only_net (State.reloaded_same (by decide) _)]
    exact State.cleared_records _
  have hsel : (s.advance t).cleared.reloaded.dict.sel = none := by
    rw [only_dict (State.reloaded_same (by decide) _)]
    rfl
  have hnow : (s.advance t).cleared.reloaded.now = max s.now t := by
    rw [only_now (State.reloaded_same (by decide) _)]
    exact State.cleared_now _
  generalize (s.advance t).cleared.reloaded = w at hrec hsel hnow
  obtain ⟨hrec', hnmt'⟩ := State.restarted_net w
  have hod : w.restarted.leaveInitialisation.od = w.restarted.od := only_od (State.leaveInitialisation_same (by decide) _)
  have hdict : w.restarted.leaveInitialisation.dict = w.dict :=
    (only_dict (State.leaveInitialisation_same (by decide) _)).trans w.restarted_dict
  rw [State.settle_net_records, State.settle_net_nmt, State.settle_dict_sel, State.leaveInitialisation_records,
    State.leaveInitialisation_nmt, hdict, hrec', hnmt']
  refine ⟨hrec, hsel, ?_, fun d hd => ?_⟩
  · split
    · exact .inr rfl
    · exact .inl rfl
  · have hlis := (State.leaveInitialisation_listening w.restarted hd).trans (State.restarted_listening w hd)
    rw [← Ctrl.listening_of_quiet (quiet_ctrl (State.settle_quiet _) hd), hnow] at hlis
    rw [State.settle_ctrlKey _ ⟨d, hd⟩ (by decide), State.settle_ctrlKey _ ⟨d, hd⟩ (by decide), State.obj_congr hod, State.obj_congr hod]
    generalize (w.restarted.leaveInitialisation.settle.ctrl d) = k at hlis ⊢
    unfold Ctrl.listening at hlis
    simp only [Prod.mk.injEq] at hlis
    obtain ⟨h1, h2, h3, h4, -⟩ := hlis
    exact ⟨h1, h2, h3, h4⟩

theorem resetCommunication_waits (s : State) (t : Nat) (c : Fin 2) (node : Nat) (hcore : s.coreOn) (hours : s.addressed c node)
    (hstore : s.dict.store.isSome) : answers (.resetCommunication t c node) s fun s' => s'.dict.resetComm ∧ s'.net.nmt = s.net.nmt := by
  have hexec : exec (.resetCommunication t c node) s = nmtCommand t c node 0x82 State.nmtResetComm s := rfl
  refine answers_nmt hexec hcore hours ?_
  rw [State.nmtResetComm, if_pos (c := (s.advance t).dict.store.isSome = true) hstore, State.settle_dict_resetComm,
    State.settle_net_nmt]
  exact ⟨rfl, rfl⟩

theorem duplicateListenEnd_ends (s : State) (t : Nat) (c : Fin 2) (hcore : s.coreOn)
    (hdue : ∃ i, (s.ctrl c).listenFrom = some i ∧ i + s.obj 0x2E0404 * msec ≤ max s.now t) :
    answers (.duplicateListenEnd t c) s fun s' => (s'.ctrl c).listenFrom = none ∧ (s'.ctrl c).silenced = (s.ctrl c).dup ∧
      (s.net.nmt = .initialisation → (∀ d < 2, d ≠ c.val → (s.ctrl d).listenFrom = none) → s'.net.nmt = .preOperational) := by
  have hexec : exec (.duplicateListenEnd t c) s = execDuplicateListenEnd t c s := rfl
  refine answers_core hexec hcore ?_
  obtain ⟨i, hi, hlate⟩ := hdue
  have hlate' : i + (s.advance t).obj 0x2E0404 * msec ≤ (s.advance t).now := hlate
  have hi' : ((s.advance t).ctrl c).listenFrom = some i := hi
  rw [if_pos (Option.any_of_some hi' hlate')]
  generalize hv : ((s.advance t).onCtrl c fun k => { k with listenFrom := none, silenced := k.dup }) = v
  have hlis : (v.leaveInitialisation.settle.ctrl c).listening = (v.ctrl c).listening :=
    (Ctrl.listening_of_quiet (quiet_ctrl (State.settle_quiet _) c.isLt)).trans (State.leaveInitialisation_listening v c.isLt)
  have hctrl : v.ctrl c = { s.ctrl c with listenFrom := none, silenced := (s.ctrl c).dup } := by
    rw [← hv, State.onCtrl_ctrl_same]
    rfl
  rw [hctrl] at hlis
  refine ⟨congrArg (fun x => x.2.2.2.1) hlis, congrArg (fun x => x.2.2.2.2) hlis, fun hnmt hothers => ?_⟩
  have hall : ctrlNos.all (fun d => (v.ctrl d).listenFrom.isNone) = true := by
    refine List.all_eq_true.mpr fun d hd => Option.isNone_iff_eq_none.mpr ?_
    have hd2 : d < 2 := by
      simp only [ctrlNos, List.mem_cons, List.not_mem_nil, or_false] at hd
      omega
    by_cases hdc : d = c.val
    · rw [hdc, hctrl]
    · rw [← hv, State.onCtrl_ctrl_ne _ _ hdc]
      exact hothers d hd2 hdc
  have hnmt' : v.net.nmt = .initialisation := by rw [← hv]; exact hnmt
  rw [State.settle_net_nmt, State.leaveInitialisation_nmt, if_pos ⟨hnmt', hall⟩]

/-! #### A duplicate and heartbeats (O32) -/

theorem duplicate_silences (s : State) (t : Nat) (c : Fin 2) (cob : Nat) (hcore : s.coreOn) (hears : (s.ctrl c).hears)
    (hnode : (s.ctrl c).node ≠ 0xFF) (hcob : cob = 0x700 + (s.ctrl c).node ∨ cob = 0x080 + (s.ctrl c).node) :
    answers (.duplicate t c cob) s fun s' => (s'.ctrl c).silenced ∧ (s'.ctrl c).dup ∧
      s'.obj (ctrlKey c 0x0D) = if (s.ctrl c).silenced then s.obj (ctrlKey c 0x0D)
        else (s.obj (ctrlKey c 0x0D) + 1) % 2 ^ objWidth (ctrlKey c 0x0D) := by
  have hexec : exec (.duplicate t c cob) s = execDuplicate t c cob s := rfl
  refine answers_core hexec hcore ?_
  have hcond : ((s.advance t).ctrl c).hears = true ∧ ((s.advance t).ctrl c).node ≠ 0xFF ∧
      (cob = 0x700 + ((s.advance t).ctrl c).node ∨ cob = 0x080 + ((s.advance t).ctrl c).node) := ⟨hears, hnode, hcob⟩
  rw [if_pos hcond, State.settle_ctrlKey _ c (by decide)]
  obtain ⟨e, f, i, h⟩ := State.settle_ctrl_emcy ((s.advance t).silence c) c
  rw [h]
  unfold State.silence
  by_cases hsil : (s.ctrl c).silenced = true
  · rw [if_pos (c := ((s.advance t).ctrl c).silenced = true) hsil, if_pos hsil, State.setCtrl_ctrl_same]
    exact ⟨rfl, rfl, rfl⟩
  · rw [if_neg (c := ((s.advance t).ctrl c).silenced = true) hsil, if_neg hsil, State.emit_ctrlKey _ _ _ _ c (by decide),
      State.incr_obj_same]
    obtain ⟨e', f', i', h'⟩ := State.emit_ctrl_emcy ((((s.advance t).setCtrl c
      { (s.advance t).ctrl c with dup := true, silenced := true, emcy := [], sending := false }).incr (ctrlKey c 0x0D))) 0xA003 0xFFFF 0 c
    rw [h', State.incr_ctrl, State.setCtrl_ctrl_same]
    exact ⟨rfl, rfl, rfl⟩

theorem heartbeatProduction_sends (s : State) (t : Nat) (c : Fin 2) (hpow : s.powered) (hsends : (s.ctrl c).sends)
    (hbooted : (s.ctrl c).booted) (hon : s.cfg 0x101700 ≠ 0) (hlate : (s.ctrl c).hbAt + s.cfg 0x101700 * msec ≤ max s.now t)
    (hnmt : s.net.nmt ≠ .initialisation) : answers (.heartbeatProduction t c) s fun s' => (s'.ctrl c).hbAt = max s.now t ∧
      .can c (0x700 + (s.ctrl c).node) [BitVec.ofNat 8 s.net.nmt.code] ∈ s'.out := by
  have hexec : exec (.heartbeatProduction t c) s = execHeartbeatProduction t c s := rfl
  refine answers_powered hexec hpow ?_
  have hdue : ((s.advance t).ctrl c).hbAt + (s.advance t).cfg 0x101700 * msec ≤ (s.advance t).now := hlate
  have hcond : ((s.advance t).ctrl c).sends = true ∧ ((s.advance t).ctrl c).booted = true ∧ (s.advance t).cfg 0x101700 ≠ 0 ∧
      ((s.advance t).ctrl c).hbAt + (s.advance t).cfg 0x101700 * msec ≤ (s.advance t).now ∧
      (s.advance t).net.nmt ≠ .initialisation := ⟨hsends, hbooted, hon, hdue, hnmt⟩
  rw [if_pos hcond]
  refine ⟨?_, State.settle_sent⟩
  obtain ⟨e, f, i, h⟩ := State.settle_ctrl_emcy (((s.advance t).setCtrl c { (s.advance t).ctrl c with hbAt := (s.advance t).now }).send
    (.can c (0x700 + ((s.advance t).ctrl c).node) [BitVec.ofNat 8 (s.advance t).net.nmt.code])) c
  rw [h, State.send_ctrl, State.setCtrl_ctrl_same]
  rfl

/-- Settles O32: it holds. -/
theorem nmtAndNodeId : Obligations.nmt_and_node_id :=
  ⟨fun s t c node hcore hours => ⟨startRemoteNode_starts s t c node hcore hours, stopRemoteNode_stops s t c node hcore hours,
    enterPreOperational_enters s t c node hcore hours, resetCommunication_restarts s t c node hcore hours,
    resetCommunication_waits s t c node hcore hours⟩, duplicateListenEnd_ends, duplicate_silences, heartbeatProduction_sends⟩

/-! #### TPDOs (O34) -/

/-- What a TPDO reads as it leaves on a controller. -/
def State.tpdoView (s : State) (d : Nat) : Table Nat × HeadSt × Table (List Byte) × Bool × Nat × List Nat :=
  (s.inForce, s.head, s.net.tpdoData, (s.ctrl d).sends, s.net.syncs, s.net.tpdoWait)

theorem Ctrl.sends_of_quiet {k k' : Ctrl} (h : k'.quiet = k.quiet) : k'.sends = k.sends := by
  have hsends := congrArg Ctrl.sends h
  exact hsends

theorem State.gateDrop_tpdoView (s : State) (d : Nat) (hd : d < 2) : s.gateDrop.tpdoView d = s.tpdoView d := by
  have hctrl : (s.gateDrop.ctrl d).sends = (s.ctrl d).sends :=
    Ctrl.sends_of_quiet (quiet_ctrl (State.emitLimited_quiet (s.incr 0x29120A) ..) hd)
  rw [State.tpdoView, hctrl, only_inForce (State.gateDrop_same (by decide) s), only_head (State.gateDrop_same (by decide) s)]
  rw [State.gateDrop, State.emitLimited_net_tpdoData, State.emitLimited_net_syncs, State.emitLimited_net_tpdoWait]
  rfl

theorem State.canAll_tpdoView (s : State) (cob : Nat) (data : List Byte) (d : Nat) : (s.canAll cob data).tpdoView d = s.tpdoView d :=
  List.foldlRecOn (motive := fun s' : State => s'.tpdoView d = s.tpdoView d) _ _ rfl fun _ ih _ _ => ih

/-- A TPDO that leaves changes nothing that another one reads. -/
theorem State.transmitTpdo_tpdoView (s : State) (n : Nat) (data : List Byte) (d : Nat) (hd : d < 2) :
    (s.transmitTpdo n data).tpdoView d = s.tpdoView d := by
  unfold State.transmitTpdo
  dsimp only
  split
  · rfl
  · split
    · split
      · exact s.gateDrop_tpdoView d hd
      · exact State.canAll_tpdoView ..
    · exact State.canAll_tpdoView ..

theorem State.emitLimited_out_mem {s : State} {o : Out} {i a b c e : Nat} (h : o ∈ s.out) : o ∈ (s.emitLimited i a b c e).out := by
  unfold State.emitLimited
  split
  · exact State.emit_out_mem h
  · exact h

theorem State.canAll_out_mem {s : State} {o : Out} {cob : Nat} {data : List Byte} (h : o ∈ s.out) : o ∈ (s.canAll cob data).out :=
  out_mem_foldl (fun _ _ h => State.send_out_mem h) _ h

theorem State.transmitTpdo_out_mem {s : State} {o : Out} {n : Nat} {data : List Byte} (h : o ∈ s.out) :
    o ∈ (s.transmitTpdo n data).out := by
  unfold State.transmitTpdo
  dsimp only
  split
  · exact h
  · split
    · split
      · exact State.emitLimited_out_mem h
      · exact State.canAll_out_mem h
    · exact State.canAll_out_mem h

theorem State.canAll_sends {s : State} {d : Fin 2} (h : (s.ctrl d).sends) (cob : Nat) (data : List Byte) :
    .can d cob data ∈ (s.canAll cob data).out := by
  have hmem : d.val ∈ ctrlNos.filter fun c => (s.ctrl c).sends := by
    refine List.mem_filter.mpr ⟨?_, h⟩
    simp only [ctrlNos, List.mem_cons, List.not_mem_nil, or_false]
    omega
  unfold State.canAll
  generalize ctrlNos.filter (fun c => (s.ctrl c).sends) = l at hmem
  induction l generalizing s with
  | nil => exact absurd hmem List.not_mem_nil
  | cons c l ih =>
    rcases List.mem_cons.mp hmem with rfl | hl
    · exact out_mem_foldl (fun _ _ h => State.send_out_mem h) l (State.sent ..)
    · exact ih (s := s.send _) h hl

/-- A TPDO that maps no plant output leaves with its data on each controller that sends (R428). -/
theorem State.transmitTpdo_sends {s : State} {d : Fin 2} {n : Nat} (h : (s.ctrl d).sends)
    (hon : (s.cfg (tpdoKey n 0x01)).testBit 31 = false) (hplant : s.isPlantTpdo n = false) (data : List Byte) :
    .can d (s.cfg (tpdoKey n 0x01) % 2 ^ 11) data ∈ (s.transmitTpdo n data).out := by
  have hsome : ctrlNos.all (fun c => !(s.ctrl c).sends) = false := by
    refine List.all_eq_false.mpr ⟨d, ?_, by rw [h]; exact Bool.false_ne_true⟩
    simp only [ctrlNos, List.mem_cons, List.not_mem_nil, or_false]
    omega
  unfold State.transmitTpdo
  dsimp only
  rw [if_neg (by rw [hon, hsome]; simp), if_neg (by rw [hplant]; exact Bool.false_ne_true)]
  exact State.canAll_sends (s := s.onNet fun x => { x with tpdoAt := tset x.tpdoAt n s.now }) h _ _

/-- One TPDO at a SYNC. -/
def State.syncTpdo (s : State) (n : Nat) : State :=
  let k := s.cfg (tpdoKey n 0x02)
  if 1 ≤ k ∧ k ≤ 240 ∧ s.net.syncs % k = 0 ∧ (tfind s.net.tpdoData n).isSome then s.transmitTpdo n (tget s.net.tpdoData n []) else s

theorem State.syncTpdo_tpdoView (s : State) (n d : Nat) (hd : d < 2) : (s.syncTpdo n).tpdoView d = s.tpdoView d := by
  unfold State.syncTpdo
  dsimp only
  split
  · exact State.transmitTpdo_tpdoView s n _ d hd
  · rfl

theorem State.syncTpdo_out_mem {s : State} {o : Out} {n : Nat} (h : o ∈ s.out) : o ∈ (s.syncTpdo n).out := by
  unfold State.syncTpdo
  dsimp only
  split
  · exact State.transmitTpdo_out_mem h
  · exact h

theorem tget_of_tfind {α : Type} {m : Table α} {k : Nat} {v : α} (h : tfind m k = some v) (d : α) : tget m k d = v := by
  induction m with
  | nil => exact nomatch h
  | cons e r ih =>
    obtain ⟨j, w⟩ := e
    rw [tfind] at h
    rw [tget]
    split
    · next hj => rw [if_pos hj] at h; exact Option.some.inj h
    · next hj => rw [if_neg hj] at h; exact ih h

/-- Of the TPDOs at a SYNC, one of type 1 that holds data leaves. -/
theorem State.syncTpdos_sends {d : Fin 2} {n : Nat} {data : List Byte} (l : List Nat) (s v : State) (hview : v.tpdoView d = s.tpdoView d)
    (hmem : n ∈ l) (hsends : (s.ctrl d).sends) (hon : (s.cfg (tpdoKey n 0x01)).testBit 31 = false) (hplant : s.isPlantTpdo n = false)
    (hdata : tfind s.net.tpdoData n = some data) (hsync : s.cfg (tpdoKey n 0x02) = 1) :
    .can d (s.cfg (tpdoKey n 0x01) % 2 ^ 11) data ∈ (l.foldl State.syncTpdo v).out := by
  induction l generalizing v with
  | nil => exact absurd hmem List.not_mem_nil
  | cons m l ih =>
    rcases List.mem_cons.mp hmem with rfl | hl
    · refine out_mem_foldl (fun _ _ h => State.syncTpdo_out_mem h) l ?_
      simp only [State.tpdoView, Prod.mk.injEq] at hview
      obtain ⟨hcfg, hhead, hdata', hsends', -, -⟩ := hview
      rw [← State.cfg_congr hcfg] at hon hsync ⊢
      rw [← hdata'] at hdata
      have hplant' : v.isPlantTpdo n = false := by rw [State.isPlantTpdo, hhead]; exact hplant
      have hcond : 1 ≤ v.cfg (tpdoKey n 0x02) ∧ v.cfg (tpdoKey n 0x02) ≤ 240 ∧ v.net.syncs % v.cfg (tpdoKey n 0x02) = 0 ∧
          (tfind v.net.tpdoData n).isSome := by
        rw [hsync, hdata]
        exact ⟨Nat.le_refl _, by decide, Nat.mod_one _, rfl⟩
      rw [State.syncTpdo, if_pos hcond, tget_of_tfind hdata]
      exact State.transmitTpdo_sends (hsends'.trans hsends) hon hplant' data
    · exact ih (v.syncTpdo m) ((State.syncTpdo_tpdoView v m d d.isLt).trans hview) hl

theorem State.syncTpdos_syncs (l : List Nat) (s : State) : (l.foldl State.syncTpdo s).net.syncs = s.net.syncs :=
  List.foldlRecOn (motive := fun s' : State => s'.net.syncs = s.net.syncs) l _ rfl fun s' ih n _ => by
    have hview := State.syncTpdo_tpdoView s' n 0 (by decide)
    simp only [State.tpdoView, Prod.mk.injEq] at hview
    obtain ⟨-, -, -, -, hsyncs, -⟩ := hview
    exact hsyncs.trans ih

theorem sync_sends (s : State) (t : Nat) (c d : Fin 2) (n : Fin 16) (data : List Byte) (hcore : s.coreOn)
    (hnmt : s.net.nmt = .operational) (hsends : (s.ctrl d).sends) (hon : (s.cfg (tpdoKey n 0x01)).testBit 31 = false)
    (hplant : s.isPlantTpdo n = false) (hdata : tfind s.net.tpdoData n = some data) (hears : (s.ctrl c).hears)
    (hsync : s.cfg (tpdoKey n 0x02) = 1) : answers (.sync t c) s fun s' => s'.net.syncs = s.net.syncs + 1 ∧
      .can d (s.cfg (tpdoKey n 0x01) % 2 ^ 11) data ∈ s'.out := by
  have hexec : exec (.sync t c) s = whenCore t (fun s =>
    if (s.ctrl c).hears ∧ s.net.nmt = .operational then
      (List.range 16).foldl State.syncTpdo (s.onNet fun x => { x with syncs := x.syncs + 1 }) else s) s := rfl
  refine answers_core hexec hcore ?_
  have hcond : ((s.advance t).ctrl c).hears = true ∧ (s.advance t).net.nmt = .operational := ⟨hears, hnmt⟩
  rw [if_pos hcond, State.settle_net_syncs]
  generalize hv : (s.advance t).onNet (fun x => { x with syncs := x.syncs + 1 }) = v
  refine ⟨(State.syncTpdos_syncs _ v).trans (by rw [← hv]; rfl), ?_⟩
  have hout := State.syncTpdos_sends (List.range 16) v v (d := d) rfl (List.mem_range.mpr n.isLt) (by rw [← hv]; exact hsends)
    (by rw [← hv]; exact hon) (by rw [← hv]; exact hplant) (by rw [← hv]; exact hdata) (by rw [← hv]; exact hsync)
  have hcfg : v.cfg = s.cfg := by rw [← hv]; rfl
  rw [hcfg] at hout
  exact State.settle_out_mem hout

theorem tpdoEventTimer_sends (s : State) (t : Nat) (d : Fin 2) (n : Fin 16) (data : List Byte) (hcore : s.coreOn)
    (hnmt : s.net.nmt = .operational) (hsends : (s.ctrl d).sends) (hon : (s.cfg (tpdoKey n 0x01)).testBit 31 = false)
    (hplant : s.isPlantTpdo n = false) (hdata : tfind s.net.tpdoData n = some data) (hevent : 254 ≤ s.cfg (tpdoKey n 0x02))
    (hfree : (s.advance t).tpdoFree n) (hwait : n.val ∈ s.net.tpdoWait) : answers (.tpdoEventTimer t n) s fun s' =>
      n.val ∉ s'.net.tpdoWait ∧ .can d (s.cfg (tpdoKey n 0x01) % 2 ^ 11) data ∈ s'.out := by
  have hexec : exec (.tpdoEventTimer t n) s = execTpdoEventTimer t n s := rfl
  refine answers_core hexec hcore ?_
  rw [if_pos ⟨hnmt, hevent, hfree, .inl (List.contains_iff_mem.mpr hwait)⟩, State.settle_net_tpdoWait, State.tpdoNow]
  generalize hv : (s.advance t).onNet (fun x => { x with tpdoWait := x.tpdoWait.filter (· != n.val) }) = v
  have hdata' : tget (s.advance t).net.tpdoData n [] = data := tget_of_tfind hdata []
  have hview := State.transmitTpdo_tpdoView v n data d d.isLt
  simp only [State.tpdoView, Prod.mk.injEq] at hview
  obtain ⟨-, -, -, -, -, hwait'⟩ := hview
  rw [hdata']
  refine ⟨?_, State.settle_out_mem ?_⟩
  · rw [hwait', ← hv]
    intro hmem
    have hne := (List.mem_filter.mp hmem).2
    simp at hne
  · have hcfg : v.cfg = s.cfg := by rw [← hv]; rfl
    have hout := State.transmitTpdo_sends (s := v) (d := d) (n := n) (by rw [← hv]; exact hsends) (by rw [← hv]; exact hon)
      (by rw [← hv]; exact hplant) data
    rw [hcfg] at hout
    exact hout

/-! #### RPDOs, records and emergencies (O34) -/

theorem State.writeEffect_rpdo (s : State) {u : Nat} (hu : u < 256) (hidr : u ≠ 0x0E) (data : List Byte) :
    s.writeEffect (0x251000 + u) data = s.request (0x251000 + u) (leNat data) := by
  have hi : (0x251000 + u) / 256 = 0x2510 := by omega
  have hu' : (0x251000 + u) % 256 = u := by omega
  have hengine : s.writeEngine (0x251000 + u) (leNat data) = s.request (0x251000 + u) (leNat data) := by
    rw [State.writeEngine, hi, hu', if_neg (fun h => hidr h.2), if_neg (by omega)]
  rw [State.writeEffect, hi]
  exact hengine

theorem State.applyWrite_rpdo {s : State} {u : Nat} {data : List Byte} (hu : u < 256) (hidr : u ≠ 0x0E) (hserved : s.served .rpdo)
    (hok : s.writeError .rpdo (0x251000 + u) data = 0) : s.applyWrite .rpdo (0x251000 + u) data =
      (s.acceptWrite .rpdo (0x251000 + u) data).request (0x251000 + u) (leNat data) := by
  rw [State.applyWrite, if_neg (by omega), if_neg (by omega), if_neg (by omega), if_neg (by omega), State.controlled, if_pos hserved]
  dsimp only
  rw [if_pos hok, State.writeEffect_rpdo _ hu hidr]

/-- An RPDO that maps one object writes it, and counts nothing where the write leaves the count. -/
theorem State.takeRpdo_single {s w : State} {n k : Nat} {data value : List Byte} (hmap : splitMapping (s.rpdoMapping n) data = [(k, value)])
    (hw : s.applyWrite .rpdo k value = w) (hcount : w.obj 0x2E0409 = s.obj 0x2E0409) : s.takeRpdo n data = w := by
  have hfold : (splitMapping (s.rpdoMapping n) data).foldl (fun s e => s.applyWrite .rpdo e.1 e.2) s = w := by rw [hmap]; exact hw
  unfold State.takeRpdo
  dsimp only
  simp only [hfold]
  exact if_pos hcount

theorem rpdo_writes (s : State) (t : Nat) (c : Fin 2) (n : Fin 8) (u : Nat) (data : List Byte) (hcore : s.coreOn)
    (hears : (s.ctrl c).hears) (hnmt : s.net.nmt = .operational) (hon : (s.cfg (0x140001 + 256 * n)).testBit 31 = false)
    (hu : u < 256) (hidr : u ≠ 0x0E) (hmap : splitMapping (s.rpdoMapping n) data = [(0x251000 + u, data)])
    (hserved : (s.advance t).served .rpdo) (hok : (s.advance t).writeError .rpdo (0x251000 + u) data = 0) :
    answers (.rpdo t c n data) s fun s' => s'.obj (0x251000 + u) = leNat data ∧ s'.obj 0x2E0409 = s.obj 0x2E0409 := by
  have hexec : exec (.rpdo t c n data) s = execRpdo t c n data s := rfl
  refine answers_core hexec hcore ?_
  have hcond : ((s.advance t).ctrl c).hears = true ∧ (s.advance t).net.nmt = .operational ∧
      ((s.advance t).cfg (0x140001 + 256 * n)).testBit 31 = false := ⟨hears, hnmt, hon⟩
  have hmap' : splitMapping ((s.advance t).rpdoMapping n) data = [(0x251000 + u, data)] := hmap
  have hobj : (((s.advance t).acceptWrite .rpdo (0x251000 + u) data).request (0x251000 + u) (leNat data)).obj 0x2E0409 =
      (s.advance t).obj 0x2E0409 := by
    rw [State.request_obj, if_neg (by omega), State.acceptWrite_obj _ _ _ _ (by decide)]
  rw [if_pos hcond, State.takeRpdo_single hmap' (State.applyWrite_rpdo hu hidr hserved hok) hobj, State.settle_obj _ (by omega) (by omega),
    State.settle_obj _ (by decide) (by decide), hobj, State.request_obj_same]
  exact ⟨rfl, rfl⟩

theorem State.forgetRecord_recordBuf (s : State) (c r : Nat) : (s.forgetRecord c r).recordBuf c r = none := by
  refine List.find?_eq_none.mpr fun x hx => ?_
  have h := (List.mem_filter.mp hx).2
  rw [Bool.not_eq_true'] at h
  exact ne_true_of_eq_false h

theorem State.recordBuf_congr {s s' : State} (h : s'.net.records = s.net.records) (c r : Nat) : s'.recordBuf c r = s.recordBuf c r := by
  rw [State.recordBuf, h]
  rfl

/-- A fragment that neither ends its record nor overfills it joins it (R436). -/
theorem State.joinRecord_recordBuf (s : State) (x : RecordBuf) (bs : List Byte) (hroom : (x.data ++ bs).length ≤ x.len) :
    (s.joinRecord x false bs).recordBuf x.ctrl x.chan = some { x with data := x.data ++ bs, next := x.next + 1 } := by
  have hnot : ¬ x.len < (x.data ++ bs).length := by omega
  have hfree := s.forgetRecord_recordBuf x.ctrl x.chan
  rw [State.joinRecord]
  dsimp only
  rw [if_neg Bool.false_ne_true, if_neg hnot]
  rw [State.recordBuf] at hfree ⊢
  refine (List.find?_append ..).trans ?_
  rw [hfree]
  simp

/-- The first fragment of a record that its stream can hold begins it where none is in progress (R87, R436). -/
theorem State.firstFragment_joins {s : State} {c r n : Nat} {data : List Byte} (hnone : s.recordBuf c r = none)
    (hstream : s.canStream c r = some n) (hlen : leAt data 2 2 ≠ 0) (hunit : leAt data 2 2 ≤ (s.stream n).limits.unit) (last : Bool) :
    s.firstFragment c r last data =
      s.joinRecord { chan := r, ctrl := c, len := leAt data 2 2, next := 0, data := [], since := s.now } last (data.drop 4) := by
  have hdrop : (if (s.recordBuf c r).isSome then s.dropRecord c r else s) = s := by
    rw [hnone]
    rfl
  unfold State.firstFragment
  dsimp only
  simp only [hdrop, if_neg hlen, hstream, if_neg (Nat.not_lt.mpr hunit)]

theorem canRecordFragment_begins (s : State) (t : Nat) (c : Fin 2) (cob r n : Nat) (data : List Byte) (hcore : s.coreOn)
    (hears : (s.ctrl c).hears) (hchan : s.recordChannel cob = some r) (hnone : s.recordBuf c r = none) (hstream : s.canStream c r = some n)
    (hfirst : leAt data 0 2 = 2 ^ 15) (hlen : leAt data 2 2 ≠ 0) (hunit : leAt data 2 2 ≤ (s.stream n).limits.unit)
    (hroom : (data.drop 4).length ≤ leAt data 2 2) : answers (.canRecordFragment t c cob data) s fun s' =>
      s'.recordBuf c r = some { chan := r, ctrl := c, len := leAt data 2 2, next := 1, data := data.drop 4, since := max s.now t } := by
  have hexec : exec (.canRecordFragment t c cob data) s = execCanRecordFragment t c cob data s := rfl
  refine answers_core hexec hcore ?_
  have hears' : ((s.advance t).ctrl c).hears = true := hears
  have hchan' : (s.advance t).recordChannel cob = some r := hchan
  have hnone' : (s.advance t).recordBuf c r = none := hnone
  have hstream' : (s.advance t).canStream c r = some n := hstream
  have hbegin : Nat.testBit (2 ^ 15) 15 = true ∧ bits (2 ^ 15) 13 0 = 0 := ⟨rfl, rfl⟩
  have hmore : Nat.testBit (2 ^ 15) 14 = false := rfl
  rw [if_pos hears', hchan']
  dsimp only
  rw [hfirst, if_pos hbegin, hmore, State.recordBuf_congr (State.settle_net_records _),
    State.firstFragment_joins hnone' hstream' hlen hunit]
  exact State.joinRecord_recordBuf (s.advance t)
    { chan := r, ctrl := c, len := leAt data 2 2, next := 0, data := [], since := (s.advance t).now } (data.drop 4) hroom

theorem recordReassemblyTimeout_drops (s : State) (t : Nat) (c : Fin 2) (chan : Nat) (x : RecordBuf) (hcore : s.coreOn)
    (hrec : s.recordBuf c chan = some x) (hlate : x.since + s.cfg 0x2E4201 * msec ≤ max s.now t) :
    answers (.recordReassemblyTimeout t c chan) s fun s' => s'.recordBuf c chan = none ∧
      s'.obj 0x2E4202 = (s.obj 0x2E4202 + 1) % 2 ^ objWidth 0x2E4202 := by
  have hexec : exec (.recordReassemblyTimeout t c chan) s = execRecordReassemblyTimeout t c chan s := rfl
  refine answers_core hexec hcore ?_
  have hrec' : (s.advance t).recordBuf c chan = some x := hrec
  have hdue : x.since + (s.advance t).cfg 0x2E4201 * msec ≤ (s.advance t).now := hlate
  rw [hrec']
  dsimp only
  rw [if_pos hdue, State.recordBuf_congr (State.settle_net_records _), State.settle_obj _ (by decide) (by decide), State.dropRecord,
    State.recordBuf_congr (State.emit_net_records ..), State.emit_obj _ _ _ _ (by decide) (by decide), State.incr_obj_same]
  exact ⟨State.forgetRecord_recordBuf (s.advance t) c chan, rfl⟩

/-- The next emergency of the queue goes out when its controller is free (R430). -/
theorem State.startEmcy_sends {s : State} {c : Nat} {e : Emcy} {r : List Emcy} (hqueue : (s.ctrl c).emcy = e :: r)
    (hfree : (s.ctrl c).sending = false) (hsends : (s.ctrl c).sends)
    (hinhibit : ∀ i, (s.ctrl c).inhibitFrom = some i → i + s.inhibit ≤ s.now) :
    .can c (s.emcyCob (s.ctrl c)) (e.bytes (s.ctrl c).mode) ∈ (s.startEmcy c).out := by
  unfold State.startEmcy
  dsimp only
  rw [hqueue, hfree, hsends]
  dsimp only
  cases hi : (s.ctrl c).inhibitFrom with
  | none => exact State.sent ..
  | some i =>
    simp only [decide_eq_true (hinhibit i hi)]
    exact State.sent ..

theorem State.startEmcy_net_emcySent (s : State) (c : Nat) : (s.startEmcy c).net.emcySent = s.net.emcySent :=
  quiet_net_emcySent (s.startEmcy_quiet c)

theorem emergencyInhibitExpiry_sends (s : State) (t : Nat) (c : Fin 2) (e : Emcy) (r : List Emcy) (hpow : s.powered)
    (hqueue : (s.ctrl c).emcy = e :: r) (hfree : (s.ctrl c).sending = false) (hsends : (s.ctrl c).sends)
    (hinhibit : ∀ i, (s.ctrl c).inhibitFrom = some i → i + s.inhibit ≤ max s.now t) :
    answers (.emergencyInhibitExpiry t c) s fun s' => .can c (s.emcyCob (s.ctrl c)) (e.bytes (s.ctrl c).mode) ∈ s'.out := by
  have hexec : exec (.emergencyInhibitExpiry t c) s = execEmergencyInhibitExpiry t c s := rfl
  refine answers_powered hexec hpow ?_
  exact State.settle_out_mem (State.startEmcy_sends (s := s.advance t) hqueue hfree hsends hinhibit)

theorem emergencyFrameSent_counts (s : State) (t : Nat) (c : Fin 2) (hpow : s.powered) (hsending : (s.ctrl c).sending) :
    answers (.emergencyFrameSent t c) s fun s' => s'.net.emcySent = (s.net.emcySent + 1) % 2 ^ 32 := by
  have hexec : exec (.emergencyFrameSent t c) s = execEmergencyFrameSent t c s := rfl
  refine answers_powered hexec hpow ?_
  have hsending' : ((s.advance t).ctrl c).sending = true := hsending
  rw [if_pos hsending', State.settle_net_emcySent, State.startEmcy_net_emcySent]
  rfl

/-- Settles O34: it holds. -/
theorem pdosRecordsEmergencies : Obligations.pdos_records_emergencies :=
  ⟨fun s t c d n data hcore hnmt hsends hon hplant hdata =>
      ⟨sync_sends s t c d n data hcore hnmt hsends hon hplant hdata,
        tpdoEventTimer_sends s t d n data hcore hnmt hsends hon hplant hdata⟩,
    rpdo_writes, canRecordFragment_begins, recordReassemblyTimeout_drops, fun s t c e r hpow hqueue =>
      ⟨emergencyInhibitExpiry_sends s t c e r hpow hqueue, emergencyFrameSent_counts s t c hpow⟩⟩

end Sys2Proof.Machine
end

section
/-! ### The pair: interlock, roles and peers (O30, O29, O28) -/
namespace Sys2Proof.Machine

/-! #### A change of role -/

@[simp] theorem State.emit_red (s : State) (a b c : Nat) : (s.emit a b c).red = s.red := only_red (State.emit_same (by decide) ..)

@[simp] theorem State.emit_link (s : State) (a b c : Nat) : (s.emit a b c).link = s.link := only_link (State.emit_same (by decide) ..)

@[simp] theorem State.blockUp_red (s : State) (type c : Nat) : (s.blockUp type c).red = s.red := only_red (State.blockUp_same (by decide) ..)

@[simp] theorem State.blockUp_link (s : State) (type c : Nat) : (s.blockUp type c).link = s.link :=
  only_link (State.blockUp_same (by decide) ..)

@[simp] theorem State.roleTo_red (s : State) (r : Role) (reason : Nat) : (s.roleTo r reason).red = { s.red with role := r, since := s.now } := by
  rw [State.roleTo, State.emit_red, State.blockUp_red]
  rfl

@[simp] theorem State.roleTo_link (s : State) (r : Role) (reason : Nat) :
    (s.roleTo r reason).link = { s.link with roleRepeat := 2, roleReason := reason } := by
  rw [State.roleTo, State.emit_link, State.blockUp_link]
  rfl

@[simp] theorem State.claim_roleOut (s : State) : s.claim.red.roleOut = true := by
  unfold State.claim
  split
  · next h => exact h
  · rfl

@[simp] theorem State.becomeActive_role (s : State) (reason : Nat) : (s.becomeActive reason).red.role = .active := by
  rw [State.becomeActive, State.roleTo_red]

@[simp] theorem State.becomeActive_roleOut (s : State) (reason : Nat) : (s.becomeActive reason).red.roleOut = s.red.roleOut := by
  rw [State.becomeActive, State.roleTo_red]
  rfl

/-- A device that joins its active changes its role alone. -/
theorem State.startJoins_red (s : State) : ∃ r since, s.startJoins.red = { s.red with role := r, since := since } := by
  unfold State.startJoins
  split
  · exact ⟨_, _, State.roleTo_red ..⟩
  · exact ⟨_, _, rfl⟩

theorem State.startJoins_peers (s : State) : s.startJoins.link.peers = s.link.peers := by
  unfold State.startJoins
  split
  · rw [State.roleTo_link]
  · rfl

/-! #### The interlock (O30) -/

theorem peerRoleInChange_closes (s : State) (t : Nat) (hpow : s.powered) (level : Bool) (hnew : level ≠ s.red.peerIn) :
    answers (.peerRoleInChange t level) s fun s' => s'.red.peerIn = level ∧ s'.red.peerInAt = max s.now t ∧
      s'.red.gate = (s.red.gate && !level) ∧ s'.red.roleOut = s.red.roleOut := by
  have hexec : exec (.peerRoleInChange t level) s = execPeerRoleInChange t level s := rfl
  refine answers_powered hexec hpow ?_
  have hnew' : ¬ level = (s.advance t).red.peerIn := hnew
  rw [if_neg hnew', State.settle_red_peerIn, State.settle_red_peerInAt, State.settle_red_gate, State.settle_red_roleOut]
  obtain ⟨r, since, h⟩ := State.startJoins_red
    ((s.advance t).onRed fun r => { r with peerIn := level, peerInAt := (s.advance t).now, gate := r.gate && !level })
  rw [h]
  exact ⟨rfl, rfl, rfl, rfl⟩

theorem gateOpen_opens (s : State) (t : Nat) (hpow : s.powered) (hout : s.red.roleOut) (hpeer : s.red.peerIn = false)
    (hlate : s.red.peerInAt + 1000 ≤ max s.now t) : answers (.gateOpen t) s fun s' => s'.red.gate ∧ s'.red.role = s.red.role := by
  have hexec : exec (.gateOpen t) s = execGateOpen t s := rfl
  refine answers_powered hexec hpow ?_
  have hcond : (s.advance t).red.roleOut = true ∧ (s.advance t).red.peerIn = false ∧
      (s.advance t).red.peerInAt + 1000 ≤ (s.advance t).now := ⟨hout, hpeer, hlate⟩
  rw [if_pos hcond, State.settle_red_gate, State.settle_red_role]
  exact ⟨rfl, rfl⟩

theorem interlockConflict_yields (s : State) (t : Nat) (hpow : s.powered) (hout : s.red.roleOut) (hpeer : s.red.peerIn)
    (hlate : max s.red.roleOutAt s.red.peerInAt + 1000 ≤ max s.now t) (hid : s.pairPeer < s.link.id) :
    answers (.interlockConflict t) s fun s' => s'.red.roleOut = false ∧ s'.red.gate = false := by
  have hexec : exec (.interlockConflict t) s = execInterlockConflict t s := rfl
  refine answers_powered hexec hpow ?_
  have hcond : (s.advance t).red.roleOut = true ∧ (s.advance t).red.peerIn = true ∧
      max (s.advance t).red.roleOutAt (s.advance t).red.peerInAt + 1000 ≤ (s.advance t).now ∧
      (s.advance t).pairPeer < (s.advance t).link.id := ⟨hout, hpeer, hlate, hid⟩
  rw [if_pos hcond, State.settle_red_gate, State.settle_red_roleOut, State.emit_red]
  exact ⟨rfl, rfl⟩

theorem roleKeeperLapse_drops (s : State) (t : Nat) (hpow : s.powered) (hstopped : s.red.keeperRuns = false)
    (hlate : s.red.keeperAt + 2 * msec ≤ max s.now t) :
    answers (.roleKeeperLapse t) s fun s' => s'.red.roleOut = false ∧ s'.red.gate = false ∧ s'.red.lapsed := by
  have hexec : exec (.roleKeeperLapse t) s = execRoleKeeperLapse t s := rfl
  refine answers_powered hexec hpow ?_
  have hdue : (s.advance t).red.keeperAt + 2 * msec ≤ (s.advance t).now := hlate
  have hcond : (s.advance t).red.keeperRuns = false ∧ (s.advance t).red.keeperAt + 2 * msec ≤ (s.advance t).now := ⟨hstopped, hdue⟩
  rw [if_pos hcond, State.settle_red_roleOut, State.settle_red_gate, State.settle_red_lapsed]
  exact ⟨rfl, rfl, rfl⟩

/-- Settles O30: it holds. -/
theorem interlock : Obligations.interlock := fun s t hpow =>
  ⟨peerRoleInChange_closes s t hpow, gateOpen_opens s t hpow, interlockConflict_yields s t hpow, roleKeeperLapse_drops s t hpow⟩

/-! #### Roles by time and by lines (O29) -/

theorem startWaitExpiry_activates (s : State) (t : Nat) (hcore : s.coreOn) (hpair : s.pair) (hrole : s.red.role = .starting)
    (hlate : s.red.since + s.cfg 0x291006 * msec ≤ max s.now t) (hel : s.eligible) (hpeer : s.red.peerIn = false) (htop : s.topPriority) :
    answers (.startWaitExpiry t) s fun s' => s'.red.role = .active ∧ s'.red.roleOut := by
  have hexec : exec (.startWaitExpiry t) s = execStartWaitExpiry t s := rfl
  refine answers_core hexec hcore ?_
  have hdue : (s.advance t).red.since + (s.advance t).cfg 0x291006 * msec ≤ (s.advance t).now := hlate
  have hcond : (s.advance t).pair = true ∧ (s.advance t).red.role = .starting ∧
      (s.advance t).red.since + (s.advance t).cfg 0x291006 * msec ≤ (s.advance t).now ∧ (s.advance t).eligible = true ∧
      (s.advance t).red.peerIn = false ∧ (s.advance t).topPriority = true := ⟨hpair, hrole, hdue, hel, hpeer, htop⟩
  rw [if_pos hcond, State.settle_red_role, State.settle_red_roleOut, State.becomeActive_role, State.becomeActive_roleOut,
    State.claim_roleOut]
  exact ⟨rfl, rfl⟩

theorem promotionComplete_activates (s : State) (t : Nat) (hcore : s.coreOn) (hrole : s.red.role = .promoting) (hgate : s.red.gate) :
    answers (.promotionComplete t) s fun s' => s'.red.role = .active := by
  have hexec : exec (.promotionComplete t) s = execPromotionComplete t s := rfl
  refine answers_core hexec hcore ?_
  have hcond : (s.advance t).red.role = .promoting ∧ (s.advance t).red.gate = true := ⟨hrole, hgate⟩
  rw [if_pos hcond, State.settle_red_role, State.becomeActive_role]

/-- The entry to Disputed keeps where it came from, and is counted (R387, R410). -/
theorem State.enterDisputed_red (s : State) : s.enterDisputed.red = { s.red with role := .disputed, since := s.now, entered := s.red.role } ∧
    s.enterDisputed.obj 0x291208 = (s.obj 0x291208 + 1) % 2 ^ objWidth 0x291208 := by
  rw [State.enterDisputed, only_red (State.emitArg_same (by decide) ..), State.emitArg_obj _ _ _ _ _ _ _ (by decide) (by decide),
    State.incr_obj_same, State.incr_red, State.roleTo_red, State.obj_congr (only_od (State.roleTo_same (by decide) ..))]
  exact ⟨rfl, rfl⟩

theorem promotionGateTimeout_disputes (s : State) (t : Nat) (hcore : s.coreOn) (hrole : s.red.role = .promoting)
    (hgate : s.red.gate = false) (hlate : s.red.roleOutAt + 100000 ≤ max s.now t) :
    answers (.promotionGateTimeout t) s fun s' => s'.red.role = .disputed ∧ s'.red.roleOut = false ∧ s'.red.gate = false := by
  have hexec : exec (.promotionGateTimeout t) s = execPromotionGateTimeout t s := rfl
  refine answers_core hexec hcore ?_
  have hcond : (s.advance t).red.role = .promoting ∧ (s.advance t).red.gate = false ∧
      (s.advance t).red.roleOutAt + 100000 ≤ (s.advance t).now := ⟨hrole, hgate, hlate⟩
  rw [if_pos hcond, State.settle_red_role, State.settle_red_roleOut, State.settle_red_gate, (State.enterDisputed_red _).1]
  exact ⟨rfl, rfl, rfl⟩

theorem disputedEntered_enters (s : State) (t : Nat) (hcore : s.coreOn) (hpair : s.pair) (hfrom : disputable s.red.role)
    (hrow : 5 ≤ s.red.row) (hlate : s.red.rowAt + s.cfg 0x291007 * msec ≤ max s.now t) :
    answers (.disputedEntered t) s fun s' => s'.red.role = .disputed ∧ s'.red.entered = s.red.role ∧
      s'.obj 0x291208 = (s.obj 0x291208 + 1) % 2 ^ objWidth 0x291208 := by
  have hexec : exec (.disputedEntered t) s = execDisputedEntered t s := rfl
  refine answers_core hexec hcore ?_
  have hdue : (s.advance t).red.rowAt + (s.advance t).cfg 0x291007 * msec ≤ (s.advance t).now := hlate
  have hcond : (s.advance t).pair = true ∧ disputable (s.advance t).red.role = true ∧ 5 ≤ (s.advance t).red.row ∧
      (s.advance t).red.rowAt + (s.advance t).cfg 0x291007 * msec ≤ (s.advance t).now := ⟨hpair, hfrom, hrow, hdue⟩
  obtain ⟨hred, hobj⟩ := State.enterDisputed_red (s.advance t)
  rw [if_pos hcond, State.settle_red_role, State.settle_red_entered, State.settle_obj _ (by decide) (by decide), hred, hobj]
  exact ⟨rfl, rfl, rfl⟩

/-! #### The role commands (O29) -/

/-- The role in which a Disputed state is resolved (R387). -/
def RedSt.resolved (r : RedSt) : Role := if r.roleOut then .active else if r.committed.isSome then .tailstock else .syncing

theorem State.resolve_role (s : State) (reason : Nat) : (s.resolve reason).red.role = s.red.resolved := by
  unfold State.resolve RedSt.resolved
  dsimp only
  split
  · rw [State.roleTo_red]
  · split
    · rw [State.roleTo_red]
    · rw [State.roleTo_red]

theorem disputedResolved_resolves (s : State) (t : Nat) (hcore : s.coreOn) (hrole : s.red.role = .disputed) (hrow : agrees s.red.row)
    (hlate : s.red.agreeAt + s.cfg 0x291008 * msec ≤ max s.now t) :
    answers (.disputedResolved t) s fun s' => s'.red.role = s.red.resolved := by
  have hexec : exec (.disputedResolved t) s = execDisputedResolved t s := rfl
  refine answers_core hexec hcore ?_
  have hdue : (s.advance t).red.agreeAt + (s.advance t).cfg 0x291008 * msec ≤ (s.advance t).now := hlate
  have hcond : (s.advance t).red.role = .disputed ∧ agrees (s.advance t).red.row = true ∧
      (s.advance t).red.agreeAt + (s.advance t).cfg 0x291008 * msec ≤ (s.advance t).now := ⟨hrole, hrow, hdue⟩
  rw [if_pos hcond, State.settle_red_role, State.resolve_role]
  rfl

theorem State.acceptWrite_resolved (s : State) (p : Path) (k : Nat) (d : List Byte) : (s.acceptWrite p k d).red.resolved = s.red.resolved := by
  rw [RedSt.resolved, State.acceptWrite_red_roleOut, State.acceptWrite_red_committed]
  rfl

theorem resolve_resolves (s : State) (t : Nat) (p : Path) (hcore : s.coreOn) (hmay : s.mayWrite t p 0x291005 2) :
    answers (.resolve t p) s fun s' => s'.red.role = s.red.resolved := by
  have hexec : exec (.resolve t p) s = execResolve t p s := rfl
  refine answers_controlledNum hexec hcore hmay ?_
  rw [State.settle_red_role, State.resolve_role, State.acceptWrite_resolved]
  rfl

/-- The restored epoch leaves the roles as they are. -/
theorem State.restore_role (s : State) : s.restore.red.role = s.red.role ∧ s.restore.red.roleOut = s.red.roleOut := by
  unfold State.restore
  split
  · exact ⟨rfl, rfl⟩
  · rw [only_red (State.restoreEpoch_same (by decide) ..)]
    exact ⟨rfl, rfl⟩

theorem forceActive_activates (s : State) (t : Nat) (p : Path) (hcore : s.coreOn) (hmay : s.mayWrite t p 0x291005 3) :
    answers (.forceActive t p) s fun s' => s'.red.role = .active ∧ s'.red.roleOut := by
  have hexec : exec (.forceActive t p) s = execForceActive t p s := rfl
  refine answers_controlledNum hexec hcore hmay ?_
  rw [State.settle_red_role, State.settle_red_roleOut, (State.restore_role _).1, (State.restore_role _).2, State.becomeActive_role,
    State.becomeActive_roleOut, State.claim_roleOut]
  exact ⟨rfl, rfl⟩

theorem forceStandby_stands (s : State) (t : Nat) (p : Path) (hcore : s.coreOn) (hmay : s.mayWrite t p 0x291005 4) :
    answers (.forceStandby t p) s fun s' => s'.red.role = .syncing ∧ s'.red.roleOut = false := by
  have hexec : exec (.forceStandby t p) s = execForceStandby t p s := rfl
  refine answers_controlledNum hexec hcore hmay ?_
  rw [State.settle_red_role, State.settle_red_roleOut, State.roleTo_red]
  exact ⟨rfl, rfl⟩

theorem switchOverCommand_begins (s : State) (t : Nat) (p : Path) (hcore : s.coreOn) (hmay : s.mayWrite t p 0x291005 1)
    (hidle : s.red.handover = 0) : answers (.switchOverCommand t p) s fun s' => s'.red.handover = 1 := by
  have hexec : exec (.switchOverCommand t p) s = execSwitchOverCommand t p s := rfl
  refine answers_controlledNum hexec hcore hmay ?_
  generalize hv : (s.advance t).acceptWrite p 0x291005 (leBytes (objWidth 0x291005 / 8) 1) = v
  have hidle' : v.red.handover = 0 := by
    rw [← hv, State.acceptWrite_red_handover]
    exact hidle
  rw [State.settle_red_handover]
  exact if_pos hidle'

theorem requestedRoleWrite_leaves (s : State) (t : Nat) (p : Path) (hcore : s.coreOn) (hmay : s.mayWrite t p 0x291003 3) (hpair : s.pair)
    (hrole : s.red.role ≠ .outOfService) :
    answers (.requestedRoleWrite t p 3) s fun s' => s'.red.role = .outOfService ∧ s'.red.roleOut = false := by
  have hexec : exec (.requestedRoleWrite t p 3) s = execRequestedRoleWrite t p 3 s := rfl
  refine answers_controlledNum hexec hcore hmay ?_
  generalize hv : (s.advance t).acceptWrite p 0x291003 (leBytes (objWidth 0x291003 / 8) 3) = v
  have hpair' : v.pair = true := by
    rw [State.pair, ← hv, State.acceptWrite_red_config]
    exact hpair
  have hrole' : v.red.role ≠ .outOfService := by
    rw [← hv, State.acceptWrite_red_role]
    exact hrole
  unfold State.requestRole
  dsimp only
  rw [if_neg (by rw [hpair']; exact Bool.noConfusion), if_pos rfl, if_neg hrole', State.settle_red_role, State.settle_red_roleOut,
    State.roleTo_red]
  exact ⟨rfl, rfl⟩

theorem requestedRoleWrite_returns (s : State) (t : Nat) (p : Path) (hcore : s.coreOn) (v : Nat) (hv : v < 3)
    (hmay : s.mayWrite t p 0x291003 v) (hpair : s.pair) (hrole : s.red.role = .outOfService) :
    answers (.requestedRoleWrite t p v) s fun s' => s'.red.role = .syncing := by
  have hexec : exec (.requestedRoleWrite t p v) s = execRequestedRoleWrite t p v s := rfl
  refine answers_controlledNum hexec hcore hmay ?_
  generalize hw : (s.advance t).acceptWrite p 0x291003 (leBytes (objWidth 0x291003 / 8) v) = w
  have hpair' : w.pair = true := by
    rw [State.pair, ← hw, State.acceptWrite_red_config]
    exact hpair
  have hrole' : w.red.role = .outOfService := by
    rw [← hw, State.acceptWrite_red_role]
    exact hrole
  unfold State.requestRole
  dsimp only
  rw [if_neg (by rw [hpair']; exact Bool.noConfusion), if_neg (by omega), if_pos hrole', State.settle_red_role, State.roleTo_red]

/-- Settles O29: it holds. -/
theorem rolesChange : Obligations.roles_change :=
  ⟨startWaitExpiry_activates, fun s t hcore hrole => ⟨promotionComplete_activates s t hcore hrole,
    promotionGateTimeout_disputes s t hcore hrole⟩, disputedEntered_enters, fun s t p hcore =>
    ⟨disputedResolved_resolves s t hcore, resolve_resolves s t p hcore, forceActive_activates s t p hcore, forceStandby_stands s t p hcore,
      switchOverCommand_begins s t p hcore, requestedRoleWrite_leaves s t p hcore, requestedRoleWrite_returns s t p hcore⟩⟩

/-! #### Blocks from peers (O28) -/

theorem State.setPeer_peer (s : State) (p q : Nat) (x : Peer) : (s.setPeer p x).peer q = if q = p then x else s.peer q := by
  by_cases h : q = p
  · rw [if_pos h, h]
    exact tget_tset_same ..
  · rw [if_neg h]
    exact tget_tset_ne _ _ _ h

theorem State.peer_congr {s s' : State} (h : s'.link.peers = s.link.peers) (p : Nat) : s'.peer p = s.peer p := by
  rw [State.peer, State.peer, h]

theorem State.settle_peer (s : State) (p : Nat) : s.settle.peer p = s.peer p := State.peer_congr (State.settle_link_peers s) p

theorem State.judgeGroup_peers (s : State) : s.judgeGroup.link.peers = s.link.peers := by
  unfold State.judgeGroup
  dsimp only
  split
  · rw [State.emit_link]
    rfl
  · rfl

theorem State.passBlock_link (s : State) (k type c : Nat) : (s.passBlock k type c).link = s.link :=
  only_link (State.passBlock_same (by decide) ..)

/-- A block goes on to the other port while its TTL allows (R372). -/
theorem State.passBlock_sends {s : State} {k : Nat} (type c : Nat) (httl : bits c 53 52 ≠ 0) (hup : (s.port (1 - k)).isUp) :
    .block (1 - k) type (c - 2 ^ 52) ∈ (s.passBlock k type c).out := by
  unfold State.passBlock
  dsimp only
  rw [if_pos ⟨httl, hup⟩]
  exact State.sent ..

theorem Port.isUp_iff (p : Port) : p.isUp = true ↔ p.state = 3 := by rw [Port.isUp, beq_iff_eq]

theorem State.port_congr {s s' : State} (h : s'.link.ports = s.link.ports) (k : Nat) : s'.port k = s.port k := by
  rw [State.port, State.port, h]

theorem State.startJoins_ports (s : State) : s.startJoins.link.ports = s.link.ports := by
  unfold State.startJoins
  split
  · rw [State.roleTo_link]
  · rfl

theorem State.judgeGroup_ports (s : State) : s.judgeGroup.link.ports = s.link.ports := by
  unfold State.judgeGroup
  dsimp only
  split
  · rw [State.emit_link]
    rfl
  · rfl

/-- A peer whose heartbeat came. -/
def Peer.beats (x : Peer) (now c : Nat) : Peer :=
  { x with seen := true, heard := true, lastHb := now, misses := 0, lost := false, departed := false, hbCount := some (bits c 41 26)
           role := bits c 51 48 }

theorem State.takeHeartbeat_hears {s : State} {c : Nat} (hnew : (s.peer (originOf c)).hbCount ≠ some (bits c 41 26)) :
    (s.takeHeartbeat c).peer (originOf c) = (s.peer (originOf c)).beats s.now c ∧ (s.takeHeartbeat c).link.ports = s.link.ports := by
  unfold State.takeHeartbeat
  dsimp only
  rw [if_neg hnew, State.startJoins_ports, State.judgeGroup_ports, State.peer_congr (State.startJoins_peers _),
    State.peer_congr (State.judgeGroup_peers _), State.setPeer_peer, if_pos rfl]
  exact ⟨rfl, rfl⟩

theorem heartbeat_hears (s : State) (t : Nat) (k : Fin 2) (c : BitVec 56) (hcore : s.coreOn) (hup : (s.port k).state = 3)
    (hother : originOf c.toNat ≠ s.link.id) (hnew : (s.peer (originOf c.toNat)).hbCount ≠ some (bits c.toNat 41 26)) :
    answers (.heartbeat t k c) s fun s' => (∃ x, s'.peer (originOf c.toNat) = x ∧ x.seen ∧ x.heard ∧ x.lastHb = max s.now t ∧
      x.misses = 0 ∧ x.lost = false ∧ x.departed = false ∧ x.role = bits c.toNat 51 48) ∧
      (bits c.toNat 53 52 ≠ 0 → (s.port (1 - k.val)).state = 3 → .block (1 - k.val) typeHeartbeat (c.toNat - 2 ^ 52) ∈ s'.out) := by
  have hexec : exec (.heartbeat t k c) s = execHeartbeat t k c s := rfl
  refine answers_core hexec hcore ?_
  have hcond : ((s.advance t).port k).isUp = true ∧ originOf c.toNat ≠ (s.advance t).link.id :=
    ⟨(Port.isUp_iff _).mpr hup, hother⟩
  have hnew' : ((s.advance t).peer (originOf c.toNat)).hbCount ≠ some (bits c.toNat 41 26) := hnew
  obtain ⟨hpeer, hports⟩ := State.takeHeartbeat_hears hnew'
  rw [if_pos hcond]
  refine ⟨⟨_, rfl, ?_⟩, fun httl hup' => State.settle_out_mem (State.passBlock_sends _ _ httl ?_)⟩
  · rw [State.settle_peer, State.peer_congr (congrArg LinkSt.peers (State.passBlock_link ..)), hpeer]
    exact ⟨rfl, rfl, rfl, rfl, rfl, rfl, rfl⟩
  · rw [State.port_congr hports, Port.isUp_iff]
    exact hup'

theorem State.takeRole_tells (s : State) (c : Nat) : (s.takeRole c).peer (originOf c) =
    { s.peer (originOf c) with seen := true, role := bits c 51 48, lastRole := some c } ∧ (s.takeRole c).link.ports = s.link.ports := by
  unfold State.takeRole
  dsimp only
  rw [State.startJoins_ports, State.peer_congr (State.startJoins_peers _)]
  refine ⟨?_, rfl⟩
  exact (State.setPeer_peer s _ _ _).trans (if_pos rfl)

theorem role_tells (s : State) (t : Nat) (k : Fin 2) (c : BitVec 56) (hcore : s.coreOn) (hup : (s.port k).state = 3)
    (hother : originOf c.toNat ≠ s.link.id) (hreason : bits c.toNat 15 12 ≤ 5) (hres : bits c.toNat 7 0 = 0) :
    answers (.role t k c) s fun s' => (s'.peer (originOf c.toNat)).role = bits c.toNat 51 48 ∧
      (s'.peer (originOf c.toNat)).lastRole = some c.toNat ∧
      (bits c.toNat 53 52 ≠ 0 → (s.port (1 - k.val)).state = 3 → .block (1 - k.val) typeRole (c.toNat - 2 ^ 52) ∈ s'.out) := by
  have hexec : exec (.role t k c) s = execRole t k c s := rfl
  refine answers_core hexec hcore ?_
  have hup' : ((s.advance t).port k).isUp = true := (Port.isUp_iff _).mpr hup
  have hgood : ¬ (5 < bits c.toNat 15 12 ∨ bits c.toNat 7 0 ≠ 0) := by omega
  have hother' : originOf c.toNat ≠ (s.advance t).link.id := hother
  obtain ⟨hpeer, hports⟩ := State.takeRole_tells (s.advance t) c.toNat
  rw [if_pos hup', if_neg hgood, if_pos hother', State.settle_peer,
    State.peer_congr (congrArg LinkSt.peers (State.passBlock_link ..)), hpeer]
  refine ⟨rfl, rfl, fun httl hup2 => State.settle_out_mem (State.passBlock_sends _ _ httl ?_)⟩
  rw [State.port_congr hports, Port.isUp_iff]
  exact hup2

theorem State.setPort_port_same (s : State) (k : Nat) (p : Port) : (s.setPort k p).port k = p := tget_tset_same ..

theorem State.settle_port_skew (s : State) (k : Fin 2) : (s.settle.port k).skew = (s.port k).skew := by
  have h := congrArg Port.skew (State.settle_port s k.isLt)
  exact h

/-- The instant of a neighbour's edge on the own time base (R374). -/
def State.tickEdge (s : State) (k c : Nat) : Int := (s.now : Int) - s.obj (portKey k 0x03) - bits c 23 0

theorem State.takeTick_link (s : State) (k c : Nat) : (s.takeTick k c).link =
    ((s.onPort k fun x => { x with skew := (s.tickEdge k c - (s.nearestEdge (s.tickEdge k c)).1).natAbs }).setPeer (originOf c)
      { s.peer (originOf c) with lastTick := some (bits c 53 24, (s.nearestEdge (s.tickEdge k c)).2) }).link := by
  unfold State.takeTick
  dsimp only
  split
  · rw [State.emit_link]
    rfl
  · rfl

theorem State.takeTick_tells (s : State) (k c : Nat) :
    (s.takeTick k c).peer (originOf c) =
      { s.peer (originOf c) with lastTick := some (bits c 53 24, (s.nearestEdge (s.tickEdge k c)).2) } ∧
    ((s.takeTick k c).port k).skew = (s.tickEdge k c - (s.nearestEdge (s.tickEdge k c)).1).natAbs := by
  constructor
  · rw [State.peer_congr (congrArg LinkSt.peers (s.takeTick_link k c)), State.setPeer_peer, if_pos rfl]
  · rw [State.port_congr (congrArg LinkSt.ports (s.takeTick_link k c))]
    exact congrArg Port.skew (State.setPort_port_same s k _)

theorem tick_tells (s : State) (t : Nat) (k : Fin 2) (c : BitVec 56) (hcore : s.coreOn) (hup : (s.port k).state = 3)
    (hother : originOf c.toNat ≠ s.link.id) (e : Nat) (hedge : s.tick.lastEdge = some e) : answers (.tick t k c) s fun s' =>
      let edge : Int := ((max s.now t : Nat) : Int) - s.obj (portKey k 0x03) - bits c.toNat 23 0
      (s'.peer (originOf c.toNat)).lastTick = some (bits c.toNat 53 24, (s.nearestEdge edge).2) ∧
      (s'.port k).skew = (edge - (s.nearestEdge edge).1).natAbs := by
  have hexec : exec (.tick t k c) s = execTick t k c s := rfl
  refine answers_core hexec hcore ?_
  have hcond : ((s.advance t).port k).isUp = true ∧ originOf c.toNat ≠ (s.advance t).link.id ∧ (s.advance t).tick.lastEdge.isSome = true :=
    ⟨(Port.isUp_iff _).mpr hup, hother, by rw [State.advance_tick, hedge]; rfl⟩
  obtain ⟨hpeer, hskew⟩ := State.takeTick_tells (s.advance t) k c.toNat
  rw [if_pos hcond]
  dsimp only
  rw [State.settle_peer, State.settle_port_skew, hpeer, hskew]
  exact ⟨rfl, rfl⟩

/-! #### Heartbeat instants (O28) -/

/-- A peer at the end of a heartbeat period (R373). -/
def Peer.periodEnds (x : Peer) (now : Nat) : Peer :=
  if !x.seen || x.lost || x.departed then x
  else if x.heard then { x with heard := false, misses := 0 }
  else if x.misses + 1 < 3 then { x with misses := x.misses + 1 }
  else { x with lost := true, lostAt := now, heard := false, misses := 3 }

/-- Of a peer that is seen and present, the period counts what was heard. -/
theorem Peer.periodEnds_present {x : Peer} (hseen : x.seen) (hlost : x.lost = false) (hdep : x.departed = false) (now : Nat) :
    (x.heard → x.periodEnds now = { x with heard := false, misses := 0 }) ∧
    (x.heard = false → x.misses < 2 → x.periodEnds now = { x with misses := x.misses + 1 }) ∧
    (x.heard = false → 2 ≤ x.misses → x.periodEnds now = { x with lost := true, lostAt := now, misses := 3 }) := by
  have hpresent : ¬ (!x.seen || x.lost || x.departed) = true := by
    rw [hseen, hlost, hdep]
    exact Bool.false_ne_true
  unfold Peer.periodEnds
  rw [if_neg hpresent]
  refine ⟨fun hheard => if_pos hheard, fun hheard hmiss => ?_, fun hheard hmiss => ?_⟩
  · rw [if_neg (by rw [hheard]; exact Bool.false_ne_true), if_pos (by omega)]
  · rw [if_neg (by rw [hheard]; exact Bool.false_ne_true), if_neg (by omega), hheard]

theorem State.losePeer_link (s : State) (p : Nat) : (s.losePeer p).link = { s.link with
    peers := tset s.link.peers p { s.peer p with lost := true, lostAt := s.now, heard := false, misses := 3 }, complete := false } := by
  unfold State.losePeer
  dsimp only
  split
  · rw [State.emit_link, only_link (State.discardPartial_same (by decide) _), State.onLink, State.emit_link]
    rfl
  · rw [only_link (State.discardPartial_same (by decide) _), State.onLink, State.emit_link]
    rfl

theorem State.endPeriod_peer (s : State) (p q : Nat) :
    (s.endPeriod p).peer q = if q = p then (s.peer p).periodEnds s.now else s.peer q := by
  have hself (h : q = p) : s.peer q = s.peer p := by rw [h]
  unfold State.endPeriod Peer.periodEnds
  dsimp only
  split
  · split
    · next h => exact hself h
    · rfl
  · split
    · exact State.setPeer_peer ..
    · split
      · exact State.setPeer_peer ..
      · exact (State.peer_congr (s := s.setPeer p { s.peer p with lost := true, lostAt := s.now, heard := false, misses := 3 })
          (by rw [State.losePeer_link]; rfl) q).trans (State.setPeer_peer ..)

theorem State.endPeriods_peer (l : List Nat) (s : State) (hl : l.Nodup) (q : Nat) :
    (l.foldl State.endPeriod s).peer q = if q ∈ l then (s.peer q).periodEnds s.now else s.peer q := by
  induction l generalizing s with
  | nil => rfl
  | cons p l ih =>
    have hnow : (s.endPeriod p).now = s.now := only_now (State.endPeriod_same (by decide) s p)
    obtain ⟨hp, hl⟩ := List.nodup_cons.mp hl
    rw [List.foldl_cons, ih (s.endPeriod p) hl, State.endPeriod_peer, hnow]
    by_cases hq : q = p
    · rw [hq, if_neg hp, if_pos rfl, if_pos List.mem_cons_self]
    · rw [if_neg hq]
      simp only [List.mem_cons, hq, false_or]

theorem State.discardPartial_out_mem {s : State} {o : Out} (h : o ∈ s.out) : o ∈ s.discardPartial.out := by
  unfold State.discardPartial
  split
  · exact h
  · exact State.emit_out_mem h

theorem State.endPeriod_out_mem {s : State} {o : Out} {p : Nat} (h : o ∈ s.out) : o ∈ (s.endPeriod p).out := by
  unfold State.endPeriod State.losePeer
  dsimp only
  split
  · exact h
  · split
    · exact h
    · split
      · exact h
      · split
        · exact State.emit_out_mem (State.discardPartial_out_mem (State.emit_out_mem (s := s.setPeer p _) h))
        · exact State.discardPartial_out_mem (State.emit_out_mem (s := s.setPeer p _) h)

theorem State.blockUp_out_mem {s : State} {o : Out} {type c : Nat} (h : o ∈ s.out) : o ∈ (s.blockUp type c).out :=
  out_mem_foldl (fun _ _ h => State.send_out_mem h) _ h

/-- A block to every port goes out on each one that is up. -/
theorem State.blockUp_sends {s : State} {k : Nat} (type c : Nat) (hk : k < 2) (hup : (s.port k).isUp) :
    .block k type c ∈ (s.blockUp type c).out := by
  have hmem : k ∈ portNos.filter fun k => (s.port k).isUp := by
    refine List.mem_filter.mpr ⟨?_, hup⟩
    simp only [portNos, List.mem_cons, List.not_mem_nil, or_false]
    omega
  unfold State.blockUp
  generalize portNos.filter (fun k => (s.port k).isUp) = l at hmem
  induction l generalizing s with
  | nil => exact absurd hmem List.not_mem_nil
  | cons j l ih =>
    rcases List.mem_cons.mp hmem with rfl | hl
    · exact out_mem_foldl (fun _ _ h => State.send_out_mem h) l (State.sent ..)
    · exact ih (s := s.send _) hup hl

theorem State.roleTo_out_mem {s : State} {o : Out} {r : Role} {reason : Nat} (h : o ∈ s.out) : o ∈ (s.roleTo r reason).out :=
  State.emit_out_mem (State.blockUp_out_mem h)

theorem State.restoreEpoch_out_mem {s : State} {o : Out} {e : Epoch} (h : o ∈ s.out) : o ∈ (s.restoreEpoch e).out := by
  unfold State.restoreEpoch
  dsimp only
  refine out_mem_foldl (fun s' n h => out_mem_of_same (State.setEnc_same (by decide) s' n _) h) _
    (out_mem_foldl (fun s' c h => ?_) _ ?_)
  · unfold State.enterResync
    split
    · exact h
    · exact State.emit_out_mem h
  · have hcursors : o ∈ (s.restoreCursors (warmPart 1 e.data) (s.tick.count + 1 - e.ownTick)).out :=
      out_mem_of_same (State.restoreCursors_same (part := .out) (by decide) s _ _) h
    generalize s.restoreCursors (warmPart 1 e.data) (s.tick.count + 1 - e.ownTick) = w at hcursors ⊢
    exact hcursors

theorem State.promote_out_mem {s : State} {o : Out} (h : o ∈ s.out) : o ∈ s.promote.out := by
  have hclaim : o ∈ s.claim.out := out_mem_of_same (State.claim_same (by decide) s) h
  unfold State.promote State.restore
  split
  · exact h
  · split
    · exact State.roleTo_out_mem hclaim
    · exact State.restoreEpoch_out_mem (s := (s.claim.roleTo .promoting _).onRed _) (State.roleTo_out_mem hclaim)

theorem State.promote_link (s : State) : s.promote.link.peers = s.link.peers ∧ s.promote.link.hbAt = s.link.hbAt ∧
    s.promote.link.hbCount = s.link.hbCount := by
  have hclaim : s.claim.link = s.link := only_link (State.claim_same (by decide) s)
  unfold State.promote State.restore
  split
  · exact ⟨rfl, rfl, rfl⟩
  · split
    · rw [State.roleTo_link, hclaim]
      exact ⟨rfl, rfl, rfl⟩
    · rw [only_link (State.restoreEpoch_same (by decide) ..), State.onRed_link, State.roleTo_link, hclaim]
      exact ⟨rfl, rfl, rfl⟩

/-- The end of a period changes the peers and whether the group is complete alone. -/
theorem State.endPeriod_link (s : State) (p : Nat) : ∃ ps b, (s.endPeriod p).link = { s.link with peers := ps, complete := b } := by
  unfold State.endPeriod
  dsimp only
  split
  · exact ⟨_, _, rfl⟩
  · split
    · exact ⟨_, _, rfl⟩
    · split
      · exact ⟨_, _, rfl⟩
      · exact ⟨_, _, State.losePeer_link s p⟩

theorem State.endPeriods_link (l : List Nat) (s : State) :
    ∃ ps b, (l.foldl State.endPeriod s).link = { s.link with peers := ps, complete := b } :=
  List.foldlRecOn (motive := fun s' : State => ∃ ps b, s'.link = { s.link with peers := ps, complete := b }) l _ ⟨_, _, rfl⟩
    fun s' ih p _ => by
      obtain ⟨ps, b, h⟩ := ih
      obtain ⟨ps', b', h'⟩ := State.endPeriod_link s' p
      exact ⟨ps', b', by rw [h', h]⟩

/-- The heartbeats of an instant, while the role keeper runs, are counted (R372, R392). -/
theorem State.sendHeartbeats_link (s : State) : ∃ n, s.sendHeartbeats.link = { s.link with
    hbCount := if s.red.lapsed then s.link.hbCount else (s.link.hbCount + 1) % 2 ^ 16, roleRepeat := n } := by
  unfold State.sendHeartbeats
  split
  · exact ⟨_, rfl⟩
  · dsimp only
    split
    · exact ⟨_, by rw [State.onLink_link, State.blockUp_link, State.onLink_link, State.blockUp_link]⟩
    · exact ⟨_, by rw [State.onLink_link, State.blockUp_link]⟩

theorem State.sendHeartbeats_sends {s : State} {k : Nat} (hk : k < 2) (hup : (s.port k).isUp) (hruns : s.red.lapsed = false) :
    .block k typeHeartbeat s.heartbeatContent ∈ s.sendHeartbeats.out := by
  have h := State.blockUp_sends typeHeartbeat s.heartbeatContent hk hup
  unfold State.sendHeartbeats
  rw [hruns]
  dsimp only
  split
  · next hbad => exact absurd hbad Bool.false_ne_true
  · split
    · exact State.blockUp_out_mem (s := (s.blockUp typeHeartbeat s.heartbeatContent).onLink _) h
    · exact h

/-- What a heartbeat instant does behind its heartbeats. -/
def State.endPeriods (s : State) : State :=
  let s1 := s.peerNos.foldl State.endPeriod s
  if s1.pair then s1.reconcile.promote else s1

theorem State.endPeriods_kept (s : State) : (∀ o ∈ s.out, o ∈ s.endPeriods.out) ∧ s.endPeriods.link.hbAt = s.link.hbAt ∧
    s.endPeriods.link.hbCount = s.link.hbCount ∧
    ∀ p, s.endPeriods.peer p = if p ∈ s.peerNos then (s.peer p).periodEnds s.now else s.peer p := by
  have hnodup : s.peerNos.Nodup := List.Pairwise.filter _ List.nodup_range
  have hpeer (p : Nat) := State.endPeriods_peer s.peerNos s hnodup p
  have hout (o : Out) (h : o ∈ s.out) : o ∈ (s.peerNos.foldl State.endPeriod s).out :=
    out_mem_foldl (fun _ _ h => State.endPeriod_out_mem h) _ h
  obtain ⟨ps, b, hlink⟩ := State.endPeriods_link s.peerNos s
  unfold State.endPeriods
  dsimp only
  generalize s.peerNos.foldl State.endPeriod s = w at hpeer hout hlink
  split
  · obtain ⟨hpeers, hat, hcount⟩ := State.promote_link w.reconcile
    have hrec : w.reconcile.link = w.link := only_link (State.reconcile_same (by decide) w)
    refine ⟨fun o h => State.promote_out_mem (out_mem_of_same (State.reconcile_same (by decide) w) (hout o h)), ?_, ?_, fun p => ?_⟩
    · rw [hat, hrec, hlink]
    · rw [hcount, hrec, hlink]
    · rw [State.peer_congr hpeers, State.peer_congr (congrArg LinkSt.peers hrec), hpeer]
  · exact ⟨hout, by rw [hlink], by rw [hlink], hpeer⟩

theorem execHeartbeatInstant_eq (t : Nat) : execHeartbeatInstant t = whenCore t fun s =>
    if s.link.hbAt + 999000 ≤ s.now then (s.onLink fun l => { l with hbAt := s.now }).sendHeartbeats.endPeriods else s := rfl

theorem heartbeatInstant_beats (s : State) (t : Nat) (hcore : s.coreOn) (hdue : s.link.hbAt + 999000 ≤ max s.now t) :
    answers (.heartbeatInstant t) s fun s' => s'.link.hbAt = max s.now t ∧
      (s.red.lapsed = false → s'.link.hbCount = (s.link.hbCount + 1) % 2 ^ 16 ∧
        ∀ k < 2, (s.port k).state = 3 → .block k typeHeartbeat (s.advance t).heartbeatContent ∈ s'.out) ∧
      ∀ p ∈ s.peerNos, (s.peer p).seen → (s.peer p).lost = false → (s.peer p).departed = false →
        ((s.peer p).heard → s'.peer p = { s.peer p with heard := false, misses := 0 }) ∧
        ((s.peer p).heard = false → (s.peer p).misses < 2 → s'.peer p = { s.peer p with misses := (s.peer p).misses + 1 }) ∧
        ((s.peer p).heard = false → 2 ≤ (s.peer p).misses →
          s'.peer p = { s.peer p with lost := true, lostAt := max s.now t, misses := 3 }) := by
  have hexec : exec (.heartbeatInstant t) s = execHeartbeatInstant t s := rfl
  rw [execHeartbeatInstant_eq] at hexec
  refine answers_core hexec hcore ?_
  have hdue' : (s.advance t).link.hbAt + 999000 ≤ (s.advance t).now := hdue
  rw [if_pos hdue']
  generalize hw : ((s.advance t).onLink fun l => { l with hbAt := (s.advance t).now }) = w
  have hcontent : w.heartbeatContent = (s.advance t).heartbeatContent := by rw [← hw]; rfl
  have hlapsed : w.red.lapsed = s.red.lapsed := by rw [← hw]; rfl
  have hwlink : w.link = { s.link with hbAt := max s.now t } := by rw [← hw]; rfl
  have hwnow : w.now = max s.now t := by rw [← hw]; rfl
  obtain ⟨n, hlink⟩ := State.sendHeartbeats_link w
  have hnow : w.sendHeartbeats.now = max s.now t := (only_now (State.sendHeartbeats_same (by decide) w)).trans hwnow
  obtain ⟨hout, hat, hcount, hpeer⟩ := State.endPeriods_kept w.sendHeartbeats
  rw [State.settle_link_hbAt, State.settle_link_hbCount, hat, hcount, hlink, hlapsed, hwlink]
  refine ⟨rfl, fun hruns => ⟨?_, fun k hk hup => State.settle_out_mem (hout _ ?_)⟩, fun p hp hseen hlost hdep => ?_⟩
  · rw [hruns]
    rfl
  · rw [← hcontent]
    refine State.sendHeartbeats_sends hk ?_ (hlapsed.trans hruns)
    rw [Port.isUp_iff, State.port, hwlink]
    exact hup
  · have hp' : p ∈ w.sendHeartbeats.peerNos := by
      rw [State.peerNos, hlink, hwlink]
      exact hp
    have hbefore : w.sendHeartbeats.peer p = s.peer p := State.peer_congr (by rw [hlink, hwlink]) p
    rw [State.settle_peer, hpeer, if_pos hp', hbefore, hnow]
    exact Peer.periodEnds_present hseen hlost hdep _

/-- Settles O28: it holds. -/
theorem peersHeardAndLost : Obligations.peers_heard_and_lost :=
  ⟨fun s t k c hcore hup hother => ⟨heartbeat_hears s t k c hcore hup hother, role_tells s t k c hcore hup hother,
    tick_tells s t k c hcore hup hother⟩, heartbeatInstant_beats⟩

end Sys2Proof.Machine
end

section
/-! ### Spindle Link ports (O25, O26) -/
namespace Sys2Proof.Machine

/-! #### A port behind what it sends -/

/-- A port with the traffic of another. -/
def Port.sendsAs (p q : Port) : Port :=
  { p with txSeq := q.txSeq, waiting := q.waiting, replay := q.replay, replayAt := q.replayAt, credits := q.credits
           tc2Behind := q.tc2Behind, tc0 := q.tc0 }

/-- Of a port, what only sends changes its traffic alone. -/
theorem port_of_quiet {s s' : State} (h : s'.quiet = s.quiet) (k : Fin 2) : ∃ q, s'.port k = (s.port k).sendsAs q := by
  refine ⟨s'.port k, ?_⟩
  have hq := quiet_port h k.isLt
  generalize s'.port k = p' at hq ⊢
  generalize s.port k = p at hq ⊢
  cases p
  cases p'
  simp only [Port.quiet, Port.mk.injEq] at hq
  simp only [Port.sendsAs, Port.mk.injEq]
  simp_all

theorem State.settle_port_sends (s : State) (k : Fin 2) : ∃ q, s.settle.port k = (s.port k).sendsAs q := port_of_quiet s.settle_quiet k

theorem State.pumpAll_quiet (s : State) (k : Fin 2) : (s.pumpAll k).quiet = s.quiet :=
  State.pumpPort_quiet s k _ (Nat.le_of_lt_succ k.isLt)

theorem State.onPort_port_same (s : State) (k : Nat) (f : Port → Port) : (s.onPort k f).port k = f (s.port k) :=
  State.setPort_port_same ..

theorem State.emit_keeps_port (s : State) (a b c k : Nat) : (s.emit a b c).port k = s.port k := by
  rw [State.port, State.emit_link]
  rfl

@[simp] theorem State.advance_port (s : State) (t k : Nat) : (s.advance t).port k = s.port k := rfl

@[simp] theorem State.incr_port (s : State) (j n k : Nat) : (s.incr j n).port k = s.port k := rfl

@[simp] theorem State.setObj_port (s : State) (j v k : Nat) : (s.setObj j v).port k = s.port k := rfl

@[simp] theorem State.block_port (s : State) (j type c k : Nat) : (s.block j type c).port k = s.port k := rfl

theorem State.port_of_only {s s' : State} (h : s'.only .link = s.only .link) (k : Nat) : s'.port k = s.port k :=
  State.port_congr (congrArg LinkSt.ports (only_link h)) k

theorem portKey_bounds (k : Fin 2) {u : Nat} (hu : u < 0x100) : 0x290100 ≤ portKey k u ∧ portKey k u < 0x290300 := by
  unfold portKey
  omega

theorem portKey_ne_sent (k : Fin 2) {u : Nat} (hu : u < 0x100) (h : u ≠ 0x04) : portKey k u ≠ 0x290104 ∧ portKey k u ≠ 0x290204 := by
  unfold portKey
  omega

theorem State.settle_portKey (s : State) (k : Fin 2) {u : Nat} (hu : u < 0x100) (h : u ≠ 0x04) :
    s.settle.obj (portKey k u) = s.obj (portKey k u) :=
  State.settle_obj s (portKey_ne_sent k hu h).1 (portKey_ne_sent k hu h).2

theorem State.emit_portKey (s : State) (a b c : Nat) (k : Fin 2) {u : Nat} (hu : u < 0x100) (h : u ≠ 0x04) :
    (s.emit a b c).obj (portKey k u) = s.obj (portKey k u) :=
  State.emit_obj s a b c (portKey_ne_sent k hu h).1 (portKey_ne_sent k hu h).2

/-! #### Training (O25) -/

theorem State.trainIn_port (s : State) (k st : Nat) : (s.trainIn k st).port k = { s.port k with
    lanes := [], locked := false, aligned := false, trained := false, latSum := 0, latN := 0, state := st, since := s.now } := by
  rw [State.trainIn]
  dsimp only
  rw [State.port_of_only (State.sendTrain_same (by decide) ..), State.portTo, State.onPort_port_same, State.onPort_port_same]
  rfl

theorem portTrainStart_trains (s : State) (t : Nat) (k : Fin 2) (hcore : s.coreOn) (hdown : (s.port k).state = 0) (hused : s.portUsed k)
    (hlate : (s.port k).since + 10 * msec ≤ max s.now t) :
    answers (.portTrainStart t k) s fun s' => (s'.port k).state = 1 ∧ (s'.port k).since = max s.now t := by
  have hexec : exec (.portTrainStart t k) s = execPortTrainStart t k s := rfl
  refine answers_core hexec hcore ?_
  have hdue : ((s.advance t).port k).since + 10 * msec ≤ (s.advance t).now := hlate
  have hcond : ((s.advance t).port k).state = 0 ∧ (s.advance t).portUsed k = true ∧
      ((s.advance t).port k).since + 10 * msec ≤ (s.advance t).now := ⟨hdown, hused, hdue⟩
  rw [if_pos hcond]
  obtain ⟨q, hq⟩ := State.settle_port_sends ((s.advance t).startTrain k) k
  rw [hq, State.startTrain, State.trainIn_port]
  exact ⟨rfl, rfl⟩

/-- A port with the neighbour's TRAIN block in it (R359). -/
def Port.trainedBy (p : Port) (now c : Nat) : Port :=
  let d := (now + 3 * 2 ^ 16 - bits c 33 18 - bits c 17 2) % 2 ^ 16 / 2
  { p with
    lanes := if p.lanes.contains (bits c 55 54) then p.lanes else p.lanes ++ [bits c 55 54]
    locked := c.testBit 51, aligned := c.testBit 50
    latSum := if c.testBit 51 ∧ p.latN < 256 then p.latSum + d else p.latSum
    latN := if c.testBit 51 ∧ p.latN < 256 then p.latN + 1 else p.latN }

theorem Port.trainedBy_lanes (p : Port) (now c : Nat) : bits c 55 54 ∈ (p.trainedBy now c).lanes := by
  unfold Port.trainedBy
  dsimp only
  split
  · next h => exact List.contains_iff_mem.mp h
  · exact List.mem_append_right _ (List.mem_singleton.mpr rfl)

theorem State.takeTrain_eq (s : State) (k c : Nat) : s.takeTrain k c =
    let s1 := s.onPort k fun p => p.trainedBy s.now c
    (if 0 < (s1.port k).latN then s1.setObj (portKey k 0x03) ((s1.port k).latSum / (s1.port k).latN) else s1).block k typeTrain
      (s1.trainContent (bits c 55 54) (bits c 49 34) true ((s1.port k).lanes.length == 4)) := rfl

theorem State.takeTrain_trains (s : State) (k c : Nat) : (s.takeTrain k c).port k = (s.port k).trainedBy s.now c ∧
    (s.takeTrain k c).link.id = s.link.id ∧ (s.takeTrain k c).now = s.now ∧
    .block k typeTrain (s.trainContent (bits c 55 54) (bits c 49 34) true (((s.port k).trainedBy s.now c).lanes.length == 4)) ∈
      (s.takeTrain k c).out := by
  have hport : (s.onPort k fun p => p.trainedBy s.now c).port k = (s.port k).trainedBy s.now c := State.onPort_port_same ..
  rw [State.takeTrain_eq]
  dsimp only
  rw [State.block_port, hport]
  split
  · exact ⟨hport, rfl, rfl, State.sent ..⟩
  · exact ⟨hport, rfl, rfl, State.sent ..⟩

theorem State.trainContent_congr {s s' : State} (hid : s'.link.id = s.link.id) (hnow : s'.now = s.now) (lane ret : Nat)
    (lock aligned : Bool) : s'.trainContent lane ret lock aligned = s.trainContent lane ret lock aligned := by
  rw [State.trainContent, State.trainContent, hid, hnow]

theorem train_answers (s : State) (t : Nat) (k : Fin 2) (hcore : s.coreOn) (hstate : (s.port k).state = 1 ∨ (s.port k).state = 4)
    (c : BitVec 56) : answers (.train t k c) s fun s' => (s'.port k).state = (s.port k).state ∧
      (s'.port k).locked = c.toNat.testBit 51 ∧ (s'.port k).aligned = c.toNat.testBit 50 ∧ bits c.toNat 55 54 ∈ (s'.port k).lanes ∧
      .block k typeTrain (s'.trainContent (bits c.toNat 55 54) (bits c.toNat 49 34) true ((s'.port k).lanes.length == 4)) ∈ s'.out := by
  have hexec : exec (.train t k c) s = execTrain t k c s := rfl
  refine answers_core hexec hcore ?_
  obtain ⟨hport, hid, hnow, hout⟩ := State.takeTrain_trains (s.advance t) k c.toNat
  obtain ⟨q, hq⟩ := State.settle_port_sends ((s.advance t).takeTrain k c.toNat) k
  have hcontent (lane ret : Nat) (lock aligned : Bool) : ((s.advance t).takeTrain k c.toNat).settle.trainContent lane ret lock aligned =
      (s.advance t).trainContent lane ret lock aligned :=
    State.trainContent_congr ((State.settle_link_id _).trans hid) ((State.settle_now _).trans hnow) ..
  rw [if_pos (c := ((s.advance t).port k).state = 1 ∨ ((s.advance t).port k).state = 4) hstate, hcontent, hq, hport]
  exact ⟨rfl, rfl, rfl, Port.trainedBy_lanes ((s.advance t).port k) (s.advance t).now c.toNat, State.settle_out_mem hout⟩

theorem State.sendIdent_port (s : State) (k j : Nat) : (s.sendIdent k).port j = s.port j := rfl

theorem State.trained_port (s : State) (k : Nat) : (s.trained k).port k =
    if (s.port k).state = 1 then { s.port k with state := 2, since := s.now } else { s.port k with trained := true } := by
  unfold State.trained
  dsimp only
  rw [State.sendIdent_port]
  split
  · exact State.onPort_port_same ..
  · exact State.onPort_port_same ..

theorem answers_trainingComplete {s : State} {t : Nat} {k : Fin 2} {P : State → Prop} (hcore : s.coreOn)
    (hstate : (s.port k).state = 1 ∨ (s.port k).state = 4) (hlocked : (s.port k).locked) (haligned : (s.port k).aligned)
    (hlatency : (s.port k).latencyOk) (hp : P ((s.advance t).trained k).settle) : answers (.trainingComplete t k) s P := by
  have hexec : exec (.trainingComplete t k) s = execTrainingComplete t k s := rfl
  refine answers_core hexec hcore ?_
  have hcond : (((s.advance t).port k).state = 1 ∨ ((s.advance t).port k).state = 4) ∧ ((s.advance t).port k).locked = true ∧
      ((s.advance t).port k).aligned = true ∧ ((s.advance t).port k).latencyOk = true := ⟨hstate, hlocked, haligned, hlatency⟩
  dsimp only
  rw [if_pos hcond]
  exact hp

theorem trainingComplete_trained (s : State) (t : Nat) (k : Fin 2) (hcore : s.coreOn) (hlocked : (s.port k).locked)
    (haligned : (s.port k).aligned) (hlatency : (s.port k).latencyOk) :
    ((s.port k).state = 1 → answers (.trainingComplete t k) s fun s' => (s'.port k).state = 2) ∧
    ((s.port k).state = 4 → answers (.trainingComplete t k) s fun s' => (s'.port k).state = 4 ∧ (s'.port k).trained) := by
  obtain ⟨q, hq⟩ := State.settle_port_sends ((s.advance t).trained k) k
  refine ⟨fun h => answers_trainingComplete hcore (.inl h) hlocked haligned hlatency ?_,
    fun h => answers_trainingComplete hcore (.inr h) hlocked haligned hlatency ?_⟩
  · rw [hq, State.trained_port, if_pos (c := ((s.advance t).port k).state = 1) h]
    rfl
  · have hnot : ¬ ((s.advance t).port k).state = 1 := by
      rw [State.advance_port, h]
      decide
    rw [hq, State.trained_port, if_neg hnot]
    exact ⟨h, rfl⟩

theorem trainTimeout_ends (s : State) (t : Nat) (k : Fin 2) (hcore : s.coreOn) (hstate : (s.port k).state = 1)
    (hlate : (s.port k).since + 2 * msec ≤ max s.now t) : answers (.trainTimeout t k) s fun s' => (s'.port k).state = 0 := by
  have hexec : exec (.trainTimeout t k) s = execTrainTimeout t k s := rfl
  refine answers_core hexec hcore ?_
  have hdue : ((s.advance t).port k).since + 2 * msec ≤ (s.advance t).now := hlate
  have hcond : ((s.advance t).port k).state = 1 ∧ ((s.advance t).port k).since + 2 * msec ≤ (s.advance t).now := ⟨hstate, hdue⟩
  rw [if_pos hcond]
  obtain ⟨q, hq⟩ := State.settle_port_sends ((s.advance t).portTo k 0) k
  rw [hq, State.portTo, State.onPort_port_same]
  rfl

theorem identTimeout_refuses (s : State) (t : Nat) (k : Fin 2) (hcore : s.coreOn) (hstate : (s.port k).state = 2)
    (hlate : (s.port k).since + 100000 ≤ max s.now t) : answers (.identTimeout t k) s fun s' => (s'.port k).state = 5 := by
  have hexec : exec (.identTimeout t k) s = execIdentTimeout t k s := rfl
  refine answers_core hexec hcore ?_
  have hcond : ((s.advance t).port k).state = 2 ∧ ((s.advance t).port k).since + 100000 ≤ (s.advance t).now := ⟨hstate, hlate⟩
  rw [if_pos hcond]
  generalize (s.advance t).emit 0x9004 k ((s.advance t).obj (portKey k 0x02)) = v
  obtain ⟨q, hq⟩ := State.settle_port_sends (v.portTo k 5) k
  rw [hq, State.portTo, State.onPort_port_same]
  rfl

theorem refusedTimeout_trains (s : State) (t : Nat) (k : Fin 2) (hcore : s.coreOn) (hstate : (s.port k).state = 5)
    (hlate : (s.port k).since + second ≤ max s.now t) : answers (.refusedTimeout t k) s fun s' => (s'.port k).state = 1 := by
  have hexec : exec (.refusedTimeout t k) s = execRefusedTimeout t k s := rfl
  refine answers_core hexec hcore ?_
  have hdue : ((s.advance t).port k).since + second ≤ (s.advance t).now := hlate
  have hcond : ((s.advance t).port k).state = 5 ∧ ((s.advance t).port k).since + second ≤ (s.advance t).now := ⟨hstate, hdue⟩
  rw [if_pos hcond]
  obtain ⟨q, hq⟩ := State.settle_port_sends ((s.advance t).startTrain k) k
  rw [hq, State.startTrain, State.trainIn_port]
  rfl

theorem State.sendTrain_obj (s : State) (k j : Nat) : (s.sendTrain k).obj j = s.obj j :=
  State.obj_congr (only_od (State.sendTrain_same (by decide) ..)) j

theorem portRetrain_retrains (s : State) (t : Nat) (k : Fin 2) (hcore : s.coreOn) (hstate : (s.port k).state = 3)
    (hfailing : (s.port k).failing (max s.now t)) : answers (.portRetrain t k) s fun s' => (s'.port k).state = 4 ∧
      (s'.port k).leftUp = max s.now t ∧
      s'.obj (portKey k 0x08) = (s.obj (portKey k 0x08) + 1) % 2 ^ objWidth (portKey k 0x08) := by
  have hexec : exec (.portRetrain t k) s = execPortRetrain t k s := rfl
  refine answers_core hexec hcore ?_
  have hcond : ((s.advance t).port k).isUp = true ∧ ((s.advance t).port k).failing (s.advance t).now = true :=
    ⟨(Port.isUp_iff _).mpr hstate, hfailing⟩
  rw [if_pos hcond, State.settle_portKey _ k (by decide) (by decide), State.emit_portKey _ _ _ _ k (by decide) (by decide),
    State.incr_obj_same]
  generalize hv : ((s.advance t).onPort k fun p => { p with leftUp := (s.advance t).now }) = v
  have hport : v.port k = { s.port k with leftUp := max s.now t } := by
    rw [← hv, State.onPort_port_same]
    rfl
  obtain ⟨q, hq⟩ := State.settle_port_sends (((v.trainIn k 4).incr (portKey k 0x08)).emit 0x9002 k) k
  rw [hq, State.emit_keeps_port, State.incr_port, State.trainIn_port, hport]
  refine ⟨rfl, rfl, ?_⟩
  rw [State.trainIn, State.sendTrain_obj, ← hv]
  rfl

/-! #### A port that goes down (O25) -/

theorem State.abandonOne_link (s : State) (x : Xfer) (reason : Nat) :
    (s.abandonOne x reason).link = { s.link with tags := s.link.tags.filter fun e => e.xid != x.xid } :=
  List.foldlRecOn (motive := fun s' : State => s'.link = { s.link with tags := s.link.tags.filter fun e => e.xid != x.xid }) x.chans _ rfl
    fun s' ih c _ => (only_link (State.sendTok_same (by decide) s' c _)).trans ih

/-- Transfers that end take their tags with them, and nothing else of the link (R283). -/
theorem State.abandonAll_link (s : State) (p : Xfer → Bool) (reason : Nat) :
    ∃ l, (s.abandonAll p reason).link = { s.link with tags := l } ∧ ∀ e ∈ l, e ∈ s.link.tags := by
  refine List.foldlRecOn (motive := fun s' : State => ∃ l, s'.link = { s.link with tags := l } ∧ ∀ e ∈ l, e ∈ s.link.tags) _ _
    ⟨_, rfl, fun _ h => h⟩ fun s' ih x _ => ?_
  refine List.foldlRecOn (motive := fun s' : State => ∃ l, s'.link = { s.link with tags := l } ∧ ∀ e ∈ l, e ∈ s.link.tags) _ _ ih
    fun s' ih y _ => ?_
  obtain ⟨l, hlink, hmem⟩ := ih
  exact ⟨l.filter fun e => e.xid != y.xid, by rw [State.abandonOne_link, hlink], fun e he => hmem e (List.mem_filter.mp he).1⟩

/-- A port that is down. -/
def Port.goesDown (p : Port) (now : Nat) : Port :=
  { p with replay := [], waiting := [], accums := [], nakSent := false, credits := [0, 0, 0, 0], state := 0, since := now }

theorem State.sliceLost_link (s : State) : s.sliceLost.link = s.link := only_link (State.sliceLost_same (by decide) s)

theorem State.discardPartial_link (s : State) : s.discardPartial.link = s.link := only_link (State.discardPartial_same (by decide) s)

/-- A port that goes down loses its tags (R366). -/
theorem State.portGoesDown_link (s : State) (k : Nat) : (s.portGoesDown k).port k = (s.port k).goesDown s.now ∧
    (s.portGoesDown k).link.peers = s.link.peers ∧ ∀ e ∈ (s.portGoesDown k).link.tags, e.port ≠ k := by
  unfold State.portGoesDown
  dsimp only
  generalize hv : (s.onPort k fun p => { p with replay := [], waiting := [], accums := [], nakSent := false, credits := [0, 0, 0, 0] }).portTo
    k 0 = v
  have hport : v.port k = (s.port k).goesDown s.now := by
    rw [← hv, State.portTo, State.onPort_port_same, State.onPort_port_same]
    rfl
  have hpeers : v.link.peers = s.link.peers := by rw [← hv]; rfl
  generalize (fun x : Xfer => ((s.link.tags.filter (·.port == k)).map (·.xid)).contains x.xid) = ended
  obtain ⟨l, hlink, -⟩ := State.abandonAll_link v ended 7
  generalize v.abandonAll ended 7 = w at hlink
  rw [State.port, State.discardPartial_link, State.sliceLost_link, State.emit_link, State.incr_link, State.onLink_link, hlink]
  refine ⟨hport, hpeers, fun e he => ?_⟩
  have h := (List.mem_filter.mp he).2
  exact bne_iff_ne.mp h

theorem retrainTimeout_goesDown (s : State) (t : Nat) (k : Fin 2) (hcore : s.coreOn) (hstate : (s.port k).state = 4)
    (hlate : (s.port k).leftUp + 2500000 ≤ max s.now t) :
    answers (.retrainTimeout t k) s fun s' => (s'.port k).state = 0 ∧ (∀ e ∈ s'.link.tags, e.port ≠ k) := by
  have hexec : exec (.retrainTimeout t k) s = execRetrainTimeout t k s := rfl
  refine answers_core hexec hcore ?_
  have hcond : ((s.advance t).port k).state = 4 ∧ ((s.advance t).port k).leftUp + 2500000 ≤ (s.advance t).now := ⟨hstate, hlate⟩
  obtain ⟨hport, -, htags⟩ := State.portGoesDown_link (s.advance t) k
  obtain ⟨q, hq⟩ := State.settle_port_sends ((s.advance t).portGoesDown k) k
  rw [if_pos hcond, hq, hport, State.settle_link_tags]
  exact ⟨rfl, htags⟩

theorem State.departs_peer (s : State) (p : Nat) : ((s.departs p).peer p).departed = true := by
  unfold State.departs
  split
  · next h => exact h
  · dsimp only
    rw [State.peer, State.discardPartial_link, State.onLink_link, State.emit_link]
    exact congrArg Peer.departed ((State.setPeer_peer s p p _).trans (if_pos rfl))

theorem bye_departs (s : State) (t : Nat) (k : Fin 2) (hcore : s.coreOn) (c : BitVec 56) (hstate : (s.port k).state = 3)
    (hother : originOf c.toNat ≠ s.link.id) (hnext : originOf c.toNat = s.neighbour k) :
    answers (.bye t k c) s fun s' => (s'.port k).state = 0 ∧ (s'.peer (originOf c.toNat)).departed := by
  have hexec : exec (.bye t k c) s = execBye t k c s := rfl
  refine answers_core hexec hcore ?_
  have hcond : ((s.advance t).port k).isUp = true ∧ originOf c.toNat ≠ (s.advance t).link.id := ⟨(Port.isUp_iff _).mpr hstate, hother⟩
  have hnext' : originOf c.toNat = (s.advance t).neighbour k := hnext
  dsimp only
  rw [if_pos hcond, if_pos hnext']
  generalize hv : ((s.advance t).departs (originOf c.toNat)).passBlock k typeBye c.toNat = v
  have hdep : (v.peer (originOf c.toNat)).departed = true := by
    rw [← hv, State.peer_congr (congrArg LinkSt.peers (State.passBlock_link ..))]
    exact State.departs_peer ..
  obtain ⟨hport, hpeers, -⟩ := State.portGoesDown_link v k
  obtain ⟨q, hq⟩ := State.settle_port_sends (v.portGoesDown k) k
  rw [hq, hport, State.settle_peer, State.peer_congr hpeers]
  exact ⟨rfl, hdep⟩

/-! #### IDENT (O25) -/

/-- A port at its entry to UP, before anything is sent. -/
def State.portRises (s : State) (k v : Nat) : State :=
  (s.onPort k fun p => { p with
    state := 3, since := s.now, trained := false, stuck := 0, errors := [], credits := p.freshCredits
    txSeq := if (s.port k).state == 4 then p.txSeq else 0, rxSeq := if (s.port k).state == 4 then p.rxSeq else 0
    replayAt := s.now }).setObj (portKey k 0x02) (bits v 7 0)

theorem State.portUp_quiet (s : State) (k : Fin 2) (v : Nat) : (s.portUp k v).quiet = (s.portRises k v).quiet :=
  (State.pumpAll_quiet _ k).trans ((State.emit_quiet ..).trans (quiet_foldl (fun s f => State.send_quiet s (.frame k f)) _ _))

theorem State.portUp_up (s : State) (k : Fin 2) (v : Nat) : ((s.portUp k v).port k).state = 3 ∧
    (s.portUp k v).obj (portKey k 0x02) = bits v 7 0 ∧ (s.portUp k v).link.group = s.link.group ∧ (s.portUp k v).head = s.head := by
  have hkey := portKey_ne_sent k (u := 0x02) (by decide) (by decide)
  have hquiet := s.portUp_quiet k v
  obtain ⟨q, hq⟩ := port_of_quiet hquiet k
  refine ⟨?_, ?_, (quiet_link_group hquiet).trans rfl, only_head (State.portUp_same (by decide) ..)⟩
  · rw [hq, State.portRises, State.setObj_port, State.onPort_port_same]
    rfl
  · rw [quiet_obj hquiet hkey.1 hkey.2, State.portRises, State.setObj_obj_same]

theorem State.judgeLedger_judges (s : State) (k v : Nat) : (s.judgeLedger k v).link = (s.onPort k fun p => { p with
    tc1Refused := bits v 95 64 != s.ledgerId }).link ∧ (s.judgeLedger k v).od = s.od := by
  refine ⟨?_, only_od (State.judgeLedger_same (by decide) ..)⟩
  unfold State.judgeLedger
  dsimp only
  split
  · exact State.emit_link ..
  · rfl

/-- An accepted IDENT exchange brings its port up (R360, R361). -/
theorem State.takeIdent_up {s : State} {k : Fin 2} {v : Nat} (hstate : (s.port k).state = 2) (hok : s.adoptLink.identOk k v) :
    ((s.takeIdent k v).port k).state = 3 ∧ (s.takeIdent k v).link.group = s.obj 0x290002 ∧
      (s.takeIdent k v).obj (portKey k 0x02) = bits v 7 0 ∧
      (((s.takeIdent k v).port k).tc1Refused ↔ bits v 95 64 ≠ s.ledgerId) := by
  have hnot : ¬ (s.adoptLink.port k).state = 3 := by
    rw [show (s.adoptLink.port k).state = 2 from hstate]
    decide
  obtain ⟨hup, hobj, hgroup, hhead⟩ := State.portUp_up s.adoptLink k v
  obtain ⟨hlink, hod⟩ := State.judgeLedger_judges (s.adoptLink.portUp k v) k v
  have hledger : (s.adoptLink.portUp k v).ledgerId = s.ledgerId := by
    rw [State.ledgerId, hhead]
    rfl
  have hport : ((s.adoptLink.portUp k v).judgeLedger k v).port k =
      { (s.adoptLink.portUp k v).port k with tc1Refused := bits v 95 64 != s.ledgerId } := by
    rw [State.port_congr (congrArg LinkSt.ports hlink), State.onPort_port_same, hledger]
  unfold State.takeIdent
  dsimp only
  rw [if_pos hok, if_neg hnot, hport, State.obj_congr hod, hobj, hlink]
  exact ⟨hup, hgroup, rfl, bne_iff_ne⟩

theorem State.takeIdent_refused {s : State} {k : Fin 2} {v : Nat} (hstate : (s.port k).state = 2) (hbad : s.adoptLink.identOk k v = false) :
    ((s.takeIdent k v).port k).state = 5 := by
  have hstate' : (s.adoptLink.port k).state = 2 := hstate
  unfold State.takeIdent
  dsimp only
  rw [if_neg (by rw [hbad]; exact Bool.false_ne_true), if_pos hstate', State.portTo, State.onPort_port_same]

/-- The role that an exchange costs leaves the port as it is (R387). -/
theorem State.roleTo_port (s : State) (r : Role) (reason k : Nat) : (s.roleTo r reason).port k = s.port k := by
  rw [State.port, State.roleTo_link]
  rfl

/-- A Tailstock whose port refuses TC1 becomes Syncing (R387). -/
def State.leaveTailstock (s : State) (k : Nat) : State :=
  if s.pair ∧ s.red.role = .tailstock ∧ (s.port k).tc1Refused then s.roleTo .syncing 1 else s

theorem State.leaveTailstock_kept (s : State) (k j : Nat) : (s.leaveTailstock k).port j = s.port j ∧
    (s.leaveTailstock k).link.group = s.link.group ∧ (s.leaveTailstock k).od = s.od := by
  unfold State.leaveTailstock
  split
  · rw [State.roleTo_port, State.roleTo_link, only_od (State.roleTo_same (by decide) ..)]
    exact ⟨rfl, rfl, rfl⟩
  · exact ⟨rfl, rfl, rfl⟩

theorem execIdent_eq (t : Nat) (k : Fin 2) (payload : IdentPayload) : execIdent t k payload = whenCore t fun s =>
    if (s.port k).state = 2 ∨ (s.port k).state = 3 ∨ ((s.port k).state = 4 ∧ (s.port k).trained) then
      (s.takeIdent k (leNat (payload.take 32))).leaveTailstock k else s := rfl

theorem ident_exchanges (s : State) (t : Nat) (k : Fin 2) (hcore : s.coreOn) (payload : IdentPayload) (hstate : (s.port k).state = 2) :
    (s.adoptLink.identOk k (leNat (payload.take 32)) →
      answers (.ident t k payload) s fun s' => (s'.port k).state = 3 ∧ s'.link.group = s.obj 0x290002 ∧
        s'.obj (portKey k 0x02) = bits (leNat (payload.take 32)) 7 0 ∧
        ((s'.port k).tc1Refused ↔ bits (leNat (payload.take 32)) 95 64 ≠ s.ledgerId)) ∧
    (s.adoptLink.identOk k (leNat (payload.take 32)) = false →
      answers (.ident t k payload) s fun s' => (s'.port k).state = 5) := by
  have hexec : exec (.ident t k payload) s = execIdent t k payload s := rfl
  rw [execIdent_eq] at hexec
  have hcond : ((s.advance t).port k).state = 2 ∨ ((s.advance t).port k).state = 3 ∨
      (((s.advance t).port k).state = 4 ∧ ((s.advance t).port k).trained = true) := .inl hstate
  have hstate' : ((s.advance t).port k).state = 2 := hstate
  obtain ⟨hport, hgroup, hod⟩ := State.leaveTailstock_kept ((s.advance t).takeIdent k (leNat (payload.take 32))) k k
  obtain ⟨q, hq⟩ := State.settle_port_sends (((s.advance t).takeIdent k (leNat (payload.take 32))).leaveTailstock k) k
  refine ⟨fun hok => answers_core hexec hcore ?_, fun hbad => answers_core hexec hcore ?_⟩
  · obtain ⟨hup, hgroup', hobj, hrefused⟩ := State.takeIdent_up (v := leNat (payload.take 32)) hstate' hok
    rw [if_pos hcond, hq, State.settle_link_group, State.settle_portKey _ k (by decide) (by decide), hport, hgroup, State.obj_congr hod]
    exact ⟨hup, hgroup', hobj, hrefused⟩
  · rw [if_pos hcond, hq, hport]
    exact State.takeIdent_refused (v := leNat (payload.take 32)) hstate' hbad

/-- Settles O25: it holds. -/
theorem linkPortStates : Obligations.link_port_states := fun s t k hcore =>
  ⟨portTrainStart_trains s t k hcore, train_answers s t k hcore, trainingComplete_trained s t k hcore, trainTimeout_ends s t k hcore,
    identTimeout_refuses s t k hcore, refusedTimeout_trains s t k hcore, portRetrain_retrains s t k hcore,
    retrainTimeout_goesDown s t k hcore, ident_exchanges s t k hcore, bye_departs s t k hcore⟩

/-! #### Retry (O26) -/

/-- A device that is not active sends no journal. -/
theorem State.sendJournal_idle {s : State} (h : s.red.role ≠ .active) (n : Nat) : s.sendJournal n = s := by
  cases n with
  | zero => rfl
  | succ n => rw [State.sendJournal, if_neg (fun hc => h hc.1)]

/-- The end of a command leaves the link as it is on a device that is not active. -/
theorem State.settle_link {s : State} (h : s.red.role ≠ .active) : s.settle.link = s.link := by
  have hred : s.settleFences.red.role = s.red.role := quiet_red_role s.settleFences_quiet
  rw [State.settle, only_link (State.settleDivergence_same (by decide) _), only_link (State.settleErrors_same (by decide) _),
    State.sendJournal_idle (by rw [hred]; exact h), only_link (State.settleFences_same (by decide) _)]

theorem State.pumpAll_idle {s : State} {k : Nat} (h : (s.port k).waiting = []) : s.pumpAll k = s := by
  rw [State.pumpAll, h]
  rfl

theorem ack_frees (s : State) (t : Nat) (k : Fin 2) (hcore : s.coreOn) (hstate : (s.port k).state = 3) (c : BitVec 56)
    (hkind : bits c.toNat 55 54 = 0) (hidle : (s.port k).waiting = []) (hrole : s.red.role ≠ .active) :
    answers (.ack t k c) s fun s' => (s'.port k).replay = afterSeq (bits c.toNat 53 42) (s.port k).replay := by
  have hexec : exec (.ack t k c) s = execAck t k c s := rfl
  refine answers_core hexec hcore ?_
  have hcond : ((s.advance t).port k).isUp = true ∧ bits c.toNat 55 54 = 0 := ⟨(Port.isUp_iff _).mpr hstate, hkind⟩
  rw [if_pos hcond, State.takeAck]
  generalize hv : (s.advance t).setPort k _ = v
  have hport : (v.port k).replay = afterSeq (bits c.toNat 53 42) (s.port k).replay ∧ (v.port k).waiting = [] := by
    rw [← hv, State.setPort_port_same]
    exact ⟨rfl, hidle⟩
  have hrole' : v.red.role ≠ .active := by rw [← hv]; exact hrole
  rw [State.pumpAll_idle hport.2, State.port_congr (congrArg LinkSt.ports (State.settle_link hrole'))]
  exact hport.1

theorem sends_out_mem (k : Nat) (l : List LinkFrame) (s : State) {f : LinkFrame} (hf : f ∈ l) :
    .frame k f ∈ (l.foldl (fun s f => s.send (.frame k f)) s).out := by
  induction l generalizing s with
  | nil => exact absurd hf List.not_mem_nil
  | cons g l ih =>
    rcases List.mem_cons.mp hf with rfl | hl
    · exact out_mem_foldl (fun _ _ h => State.send_out_mem h) l (State.sent ..)
    · exact ih _ hl

/-- A replay sends the frames of the buffer again, and is counted (R364). -/
theorem State.replay_sends (s : State) (k : Fin 2) : (∀ f ∈ (s.port k).replay, .frame k f ∈ (s.replay k).settle.out) ∧
    ((s.replay k).settle.port k).stuck = (s.port k).stuck + 1 ∧
    (s.replay k).settle.obj (portKey k 0x07) = (s.obj (portKey k 0x07) + 1) % 2 ^ objWidth (portKey k 0x07) := by
  unfold State.replay
  dsimp only
  generalize hv : (s.onPort k fun p => { p with stuck := p.stuck + 1, replayAt := s.now }).incr (portKey k 0x07) = v
  have hport : v.port k = { s.port k with stuck := (s.port k).stuck + 1, replayAt := s.now } := by
    rw [← hv, State.incr_port, State.onPort_port_same]
  have hobj : v.obj (portKey k 0x07) = (s.obj (portKey k 0x07) + 1) % 2 ^ objWidth (portKey k 0x07) := by
    rw [← hv, State.incr_obj_same]
    rfl
  have hquiet : ((v.port k).replay.foldl (fun s f => s.send (.frame k f)) v).settle.quiet = v.quiet :=
    (State.settle_quiet _).trans (quiet_foldl (fun s f => State.send_quiet s (.frame k f)) _ _)
  have hkey := portKey_ne_sent k (u := 0x07) (by decide) (by decide)
  obtain ⟨q, hq⟩ := port_of_quiet hquiet k
  refine ⟨fun f hf => State.settle_out_mem (sends_out_mem k _ v ?_), ?_, ?_⟩
  · rw [hport]
    exact hf
  · rw [hq, hport]
    rfl
  · rw [quiet_obj hquiet hkey.1 hkey.2, hobj]

theorem nak_replays (s : State) (t : Nat) (k : Fin 2) (hcore : s.coreOn) (hstate : (s.port k).state = 3) (c : BitVec 56)
    (hkind : bits c.toNat 55 54 = 1) : answers (.nak t k c) s fun s' => (∀ f ∈ (s.port k).replay, .frame k f ∈ s'.out) ∧
      (s'.port k).stuck = (s.port k).stuck + 1 ∧
      s'.obj (portKey k 0x07) = (s.obj (portKey k 0x07) + 1) % 2 ^ objWidth (portKey k 0x07) := by
  have hexec : exec (.nak t k c) s = execNak t k c s := rfl
  refine answers_core hexec hcore ?_
  have hcond : ((s.advance t).port k).isUp = true ∧ bits c.toNat 55 54 = 1 := ⟨(Port.isUp_iff _).mpr hstate, hkind⟩
  rw [if_pos hcond]
  exact State.replay_sends (s.advance t) k

theorem replayTimeout_replays (s : State) (t : Nat) (k : Fin 2) (hcore : s.coreOn) (hstate : (s.port k).state = 3)
    (hsome : (s.port k).replay ≠ []) (hlate : (s.port k).replayAt + 4000 ≤ max s.now t) :
    answers (.replayTimeout t k) s fun s' => (∀ f ∈ (s.port k).replay, .frame k f ∈ s'.out) ∧
      (s'.port k).stuck = (s.port k).stuck + 1 := by
  have hexec : exec (.replayTimeout t k) s = execReplayTimeout t k s := rfl
  refine answers_core hexec hcore ?_
  have hsome' : (!((s.advance t).port k).replay.isEmpty) = true := by
    rw [State.advance_port, Bool.not_eq_true', List.isEmpty_eq_false_iff]
    exact hsome
  have hcond : ((s.advance t).port k).isUp = true ∧ (!((s.advance t).port k).replay.isEmpty) = true ∧
      ((s.advance t).port k).replayAt + 4000 ≤ (s.advance t).now := ⟨(Port.isUp_iff _).mpr hstate, hsome', hlate⟩
  obtain ⟨hout, hstuck, -⟩ := State.replay_sends (s.advance t) k
  dsimp only
  rw [if_pos hcond]
  exact ⟨hout, hstuck⟩

theorem State.nak_port (s : State) (k : Nat) : (s.nak k).port k = { s.port k with nakSent := true } ∧ (s.nak k).od = s.od := by
  unfold State.nak
  dsimp only
  split
  · next h =>
    refine ⟨?_, rfl⟩
    rw [← h]
  · exact ⟨State.setPort_port_same .., rfl⟩

theorem State.blockError_counts (s : State) (k : Nat) (inFrame : Bool) : (s.blockError k inFrame).port k = { s.port k with
      errors := (s.now :: (s.port k).errors).take 16, badFrame := if inFrame then true else (s.port k).badFrame
      nakSent := if inFrame then true else (s.port k).nakSent } ∧
    (s.blockError k inFrame).obj (portKey k 0x0A) = (s.obj (portKey k 0x0A) + 1) % 2 ^ objWidth (portKey k 0x0A) := by
  unfold State.blockError
  dsimp only
  generalize hv : (s.onPort k fun p => { p with errors := (s.now :: p.errors).take 16 }).incr (portKey k 0x0A) = v
  have hport : v.port k = { s.port k with errors := (s.now :: (s.port k).errors).take 16 } := by
    rw [← hv, State.incr_port, State.onPort_port_same]
  have hobj : v.obj (portKey k 0x0A) = (s.obj (portKey k 0x0A) + 1) % 2 ^ objWidth (portKey k 0x0A) := by
    rw [← hv, State.incr_obj_same]
    rfl
  cases inFrame with
  | false => exact ⟨hport, hobj⟩
  | true =>
    obtain ⟨hnak, hod⟩ := State.nak_port (v.onPort k fun p => { p with badFrame := true }) k
    rw [if_pos rfl, hnak, State.onPort_port_same, hport, State.obj_congr hod]
    exact ⟨rfl, hobj⟩

theorem blockError_answers (s : State) (t : Nat) (k : Fin 2) (hcore : s.coreOn) (hstate : (s.port k).state = 3) (inFrame : Bool) :
    answers (.blockError t k inFrame) s fun s' =>
      s'.obj (portKey k 0x0A) = (s.obj (portKey k 0x0A) + 1) % 2 ^ objWidth (portKey k 0x0A) ∧
      (s'.port k).errors = (max s.now t :: (s.port k).errors).take 16 ∧
      (inFrame → (s'.port k).badFrame ∧ (s'.port k).nakSent) ∧ (inFrame = false → (s'.port k).badFrame = (s.port k).badFrame) := by
  have hexec : exec (.blockError t k inFrame) s = execBlockError t k inFrame s := rfl
  refine answers_core hexec hcore ?_
  have hup : ((s.advance t).port k).isUp = true := (Port.isUp_iff _).mpr hstate
  obtain ⟨hport, hobj⟩ := State.blockError_counts (s.advance t) k inFrame
  obtain ⟨q, hq⟩ := State.settle_port_sends ((s.advance t).blockError k inFrame) k
  rw [if_pos hup, State.settle_portKey _ k (by decide) (by decide), hobj, hq, hport]
  refine ⟨rfl, rfl, fun h => ?_, fun h => ?_⟩
  · rw [h]
    exact ⟨rfl, rfl⟩
  · rw [h]
    rfl

/-- Settles O26: it holds. -/
theorem linkRetry : Obligations.link_retry := fun s t k hcore hstate =>
  ⟨ack_frees s t k hcore hstate, nak_replays s t k hcore hstate, replayTimeout_replays s t k hcore hstate,
    blockError_answers s t k hcore hstate⟩

end Sys2Proof.Machine
end

section
/-! ### Frames of the Spindle Link at their destination (O27) -/
namespace Sys2Proof.Machine

/-! #### Bytes written and read back -/

/-- A byte that a write reaches: its memory, its address, and memory to hold it. -/
theorem State.writeByte_readByte {s : State} (hwf : s.memoryOk) {mem m : Nat} (hmem : mem ≤ 1) (hm : m ≤ 1) (pa a : Nat) (v : Byte) :
    (s.writeByte mem pa v).readByte m a = if m = mem ∧ a = pa ∧ (m = 1 ∨ a < sramSize) then v else s.readByte m a := by
  obtain ⟨hsram, hdram⟩ := Bool.and_eq_true_iff.mp hwf
  rcases Nat.le_one_iff_eq_zero_or_eq_one.mp hmem with rfl | rfl
  · by_cases hpa : pa < sramSize
    · rw [State.writeByte, if_pos rfl, if_pos hpa]
      by_cases hhit : m = 0 ∧ a = pa
      · obtain ⟨rfl, rfl⟩ := hhit
        rw [if_pos ⟨rfl, rfl, .inr hpa⟩, State.readByte, if_pos rfl, if_pos hpa]
        exact memRead_memWrite_same _ _ _ ((wf_iff _).mp hsram).1
      · rw [if_neg (fun h => hhit ⟨h.1, h.2.1⟩), State.readByte, State.readByte]
        split
        · next h0 =>
          split
          · exact memRead_memWrite_ne _ _ fun h => hhit ⟨h0, h⟩
          · rfl
        · rfl
    · rw [State.writeByte, if_pos rfl, if_neg hpa, if_neg (by omega)]
  · rw [State.writeByte, if_neg (by decide)]
    by_cases hhit : m = 1 ∧ a = pa
    · obtain ⟨rfl, rfl⟩ := hhit
      rw [if_pos ⟨rfl, rfl, .inl rfl⟩, State.readByte, if_neg (by decide)]
      exact memRead_memWrite_same _ _ _ ((wf_iff _).mp hdram).1
    · rw [if_neg (fun h => hhit ⟨h.1, h.2.1⟩), State.readByte, State.readByte]
      split
      · rfl
      · next h0 => exact memRead_memWrite_ne _ _ fun h => hhit ⟨by omega, h⟩

theorem State.writeByte_memoryOk {s : State} (hwf : s.memoryOk) (mem pa : Nat) (v : Byte) : (s.writeByte mem pa v).memoryOk = true := by
  obtain ⟨hsram, hdram⟩ := Bool.and_eq_true_iff.mp hwf
  unfold State.writeByte
  split
  · split
    · exact Bool.and_eq_true_iff.mpr ⟨memWrite_wf _ _ _ hsram, hdram⟩
    · exact hwf
  · exact Bool.and_eq_true_iff.mpr ⟨hsram, memWrite_wf _ _ _ hdram⟩

/-- The bytes that a write reaches are written, and no other (R368). -/
theorem State.writeBytes_readByte {s : State} (hwf : s.memoryOk) {mem m : Nat} (hmem : mem ≤ 1) (hm : m ≤ 1) (pa a : Nat)
    (bs : List Byte) : (s.writeBytes mem pa bs).readByte m a =
      if m = mem ∧ pa ≤ a ∧ a < pa + bs.length ∧ (m = 1 ∨ a < sramSize) then bs.getD (a - pa) 0 else s.readByte m a := by
  induction bs generalizing s pa with
  | nil => rw [if_neg (by rw [List.length_nil]; omega)]; rfl
  | cons b bs ih =>
    rw [State.writeBytes, ih (State.writeByte_memoryOk hwf mem pa b), State.writeByte_readByte hwf hmem hm, List.length_cons]
    by_cases hself : a = pa
    · subst hself
      rw [if_neg (by omega)]
      by_cases hthere : m = mem ∧ (m = 1 ∨ a < sramSize)
      · rw [if_pos ⟨hthere.1, rfl, hthere.2⟩, if_pos ⟨hthere.1, Nat.le_refl _, by omega, hthere.2⟩, Nat.sub_self]
        rfl
      · rw [if_neg (fun h => hthere ⟨h.1, h.2.2⟩), if_neg (fun h => hthere ⟨h.1, h.2.2.2⟩)]
    · have hskip : a - pa = a - (pa + 1) + 1 ∨ a < pa := by omega
      by_cases hthere : m = mem ∧ pa + 1 ≤ a ∧ a < pa + 1 + bs.length ∧ (m = 1 ∨ a < sramSize)
      · obtain ⟨h1, h2, h3, h4⟩ := hthere
        rw [if_pos ⟨h1, h2, h3, h4⟩, if_pos ⟨h1, by omega, by omega, h4⟩, show a - pa = a - (pa + 1) + 1 by omega, List.getD_cons_succ]
      · rw [if_neg hthere, if_neg (fun h => hself h.2.1), if_neg (fun h => hthere ⟨h.1, by omega, by omega, h.2.2.2⟩)]

/-! #### A frame in SEQ order is accepted -/

/-- The state behind the acceptance of a frame (R363, R364). -/
def State.accepted (s : State) (k : Nat) (f : LinkFrame) : State :=
  ((s.setPort k { s.port k with rxSeq := ((s.port k).rxSeq + 1) % 4096, nakSent := false }).incr (portKey k 0x05)).acknowledge k
    (frameInfo f).seq (frameInfo f).tc

/-- A whole frame in SEQ order for this device, on a port that is up. -/
structure Arrives (s : State) (k : Nat) (f : LinkFrame) : Prop where
  up : (s.port k).state = 3
  crc : f.crcOk
  whole : (s.port k).badFrame = false
  ok : frameOk f
  seq : (frameInfo f).seq = (s.port k).rxSeq
  own : (frameInfo f).dst = s.link.id

theorem Arrives.acceptFrame {s : State} {k : Nat} {f : LinkFrame} (h : Arrives s k f) : s.acceptFrame k f = (s.accepted k f, true) := by
  have hwhole : ¬ (f.crcOk = false ∨ (s.port k).badFrame = true) := by
    rw [h.crc, h.whole]
    exact fun h => h.elim Bool.noConfusion Bool.noConfusion
  unfold State.acceptFrame
  dsimp only
  rw [if_neg hwhole, if_neg (not_not_intro h.seq), if_pos h.ok]
  rfl

/-- It acts on the state that has accepted it. -/
theorem Arrives.receive {s : State} {k op : Nat} {f : LinkFrame} (h : Arrives s k f) (hop : (frameInfo f).op = op)
    (act : State → FrameInfo → State) : s.receive k op f act = act (s.accepted k f) (frameInfo f) := by
  unfold State.receive
  dsimp only
  rw [if_pos ⟨(Port.isUp_iff _).mpr h.up, .inl hop⟩, h.acceptFrame]
  dsimp only
  rw [if_neg Bool.noConfusion, if_neg (not_not_intro h.own)]

theorem answers_received {c : Instr} {t k op : Nat} {f : LinkFrame} {act : State → FrameInfo → State} {s : State} {P : State → Prop}
    (hc : exec c s = whenCore t (fun s => s.receive k op f act) s) (hcore : s.coreOn) (h : Arrives s k f) (hop : (frameInfo f).op = op)
    (hp : P (act ((s.advance t).accepted k f) (frameInfo f)).settle) : answers c s P := by
  have harr : Arrives (s.advance t) k f := ⟨h.up, h.crc, h.whole, h.ok, h.seq, h.own⟩
  exact answers_core hc hcore (by rw [harr.receive hop]; exact hp)

theorem State.accepted_port (s : State) (k : Nat) (f : LinkFrame) : (s.accepted k f).port k =
    { s.port k with rxSeq := ((s.port k).rxSeq + 1) % 4096, nakSent := false } := State.setPort_port_same ..

theorem State.accepted_obj (s : State) (k : Nat) (f : LinkFrame) (j : Nat) (h : j ≠ portKey k 0x05) : (s.accepted k f).obj j = s.obj j :=
  State.incr_obj_ne _ _ h

theorem State.accepted_count (s : State) (k : Nat) (f : LinkFrame) : (s.accepted k f).obj (portKey k 0x05) =
    (s.obj (portKey k 0x05) + 1) % 2 ^ objWidth (portKey k 0x05) := State.incr_obj_same ..

/-- The frame was taken: the order goes on, no NAK stands, and the frame is counted. -/
def Taken (s s' : State) (k : Nat) : Prop :=
  (s'.port k).rxSeq = ((s.port k).rxSeq + 1) % 4096 ∧ (s'.port k).nakSent = false ∧
    s'.obj (portKey k 0x05) = (s.obj (portKey k 0x05) + 1) % 2 ^ objWidth (portKey k 0x05)

theorem State.accepted_taken (s : State) (k : Nat) (f : LinkFrame) : Taken s (s.accepted k f) k := by
  rw [Taken, State.accepted_port, State.accepted_count]
  exact ⟨rfl, rfl, rfl⟩

theorem Taken.of_quiet {s v w : State} {k : Fin 2} (h : Taken s w k) (hquiet : v.quiet = w.quiet) : Taken s v k := by
  obtain ⟨q, hq⟩ := port_of_quiet hquiet k
  have hkey := portKey_ne_sent k (u := 0x05) (by decide) (by decide)
  rw [Taken, hq, quiet_obj hquiet hkey.1 hkey.2]
  exact h

theorem Taken.settle {s w : State} {k : Fin 2} (h : Taken s w k) : Taken s w.settle k := h.of_quiet w.settle_quiet

theorem Taken.of_port {s v w : State} {k : Nat} (h : Taken s w k) (hport : v.port k = w.port k)
    (hobj : v.obj (portKey k 0x05) = w.obj (portKey k 0x05)) : Taken s v k := by
  rw [Taken, hport, hobj]
  exact h

/-! #### Requests (O27) -/

theorem State.answerRequest_quiet (s : State) (i : FrameInfo) (op status : Nat) (data : List Byte) :
    (s.answerRequest i op status data).quiet = s.quiet := s.sendFrame_quiet ..

theorem addrMem_le (a : Nat) : addrMem a ≤ 1 := by
  unfold addrMem
  split
  · decide
  · decide

theorem State.accepted_inWindow (s : State) (k : Nat) (f : LinkFrame) (addr n perm : Nat) :
    (s.accepted k f).inWindow k addr n perm = s.inWindow k addr n perm := by
  unfold State.inWindow
  rw [State.accepted_port]
  rfl

theorem State.readByte_congr {s s' : State} (hsram : s'.sram = s.sram) (hdram : s'.dram = s.dram) (hpower : s'.power = s.power)
    (m a : Nat) : s'.readByte m a = s.readByte m a := by
  rw [State.readByte, State.readByte, hsram, hdram, hpower]

theorem State.requestHole_outside {s : State} {k op perm n : Nat} {f : LinkFrame} (h : s.inWindow k (frameInfo f).addr n perm = false) :
    s.requestHole k op perm f n = none := by
  unfold State.requestHole
  refine if_neg fun hc => ?_
  rw [h] at hc
  obtain ⟨-, -, -, -, -, hin⟩ := hc
  exact Bool.false_ne_true hin

theorem exec_write {s : State} {t : Nat} {k : Fin 2} {f : LinkFrame} (hhole : s.requestHole k 1 2 f f.payload.length = none) :
    exec (.write t k f) s = whenCore t (fun s => s.receive k 1 f fun s i => s.takeWrite k f i) s := by
  have hexec : exec (.write t k f) s = execWrite t k f s := rfl
  rw [hexec, execWrite, hhole]

theorem write_stores (s : State) (t : Nat) (k : Fin 2) (f : LinkFrame) (hcore : s.coreOn) (harr : Arrives s k f) (hop : (frameInfo f).op = 1)
    (hhole : s.requestHole k 1 2 f f.payload.length = none) (hin : s.inWindow k (frameInfo f).addr f.payload.length 2) (hwf : s.memoryOk) :
    answers (.write t k f) s fun s' => Taken s s' k ∧ ∀ m ≤ 1, ∀ a, s'.readByte m a =
      if m = addrMem (frameInfo f).addr ∧ (frameInfo f).addr ≤ a ∧ a < (frameInfo f).addr + f.payload.length ∧ (m = 1 ∨ a < sramSize)
      then f.payload.getD (a - (frameInfo f).addr) 0 else s.readByte m a := by
  refine answers_received (exec_write hhole) hcore harr hop ?_
  generalize hw : (s.advance t).accepted k f = w
  have htaken : Taken s w k := by rw [← hw]; exact (s.advance t).accepted_taken k f
  have hin' : w.inWindow k (frameInfo f).addr f.payload.length 2 = true := by
    rw [← hw, State.accepted_inWindow]
    exact hin
  have hwf' : w.memoryOk = true := by rw [← hw]; exact hwf
  have hread (m a : Nat) : w.readByte m a = s.readByte m a := by rw [← hw]; exact State.readByte_congr rfl rfl rfl m a
  rw [State.takeWrite, if_pos hin']
  generalize hx : w.writeBytes (addrMem (frameInfo f).addr) (frameInfo f).addr f.payload = x
  have hxtaken : Taken s x k := by
    rw [← hx]
    exact htaken.of_port (State.port_of_only (State.writeBytes_same (by decide) ..) k)
      (State.obj_congr (only_od (State.writeBytes_same (by decide) ..)) _)
  have hquiet : (x.answerRequest (frameInfo f) 5 0 []).settle.quiet = x.quiet := (State.settle_quiet _).trans (x.answerRequest_quiet ..)
  refine ⟨hxtaken.of_quiet hquiet, fun m hm a => ?_⟩
  rw [State.readByte_congr (quiet_sram hquiet) (quiet_dram hquiet) (quiet_power hquiet), ← hx,
    State.writeBytes_readByte hwf' (addrMem_le _) hm, hread]

theorem State.refuseRequest_keeps (s : State) (i : FrameInfo) (op status : Nat) (k : Fin 2) {s0 : State} (h : Taken s0 s k) :
    Taken s0 (s.refuseRequest i op status) k ∧ (s.refuseRequest i op status).sram = s.sram ∧
      (s.refuseRequest i op status).dram = s.dram ∧
      (s.refuseRequest i op status).obj 0x29030D = (s.obj 0x29030D + 1) % 2 ^ objWidth 0x29030D := by
  have hquiet : (s.refuseRequest i op status).quiet = (s.incr 0x29030D).quiet :=
    (State.answerRequest_quiet ..).trans (State.emit_quiet ..)
  have hkey := portKey_bounds k (u := 0x05) (by decide)
  refine ⟨Taken.of_quiet (h.of_port (v := s.incr 0x29030D) rfl (State.incr_obj_ne _ _ ?_)) hquiet, (quiet_sram hquiet).trans rfl,
    (quiet_dram hquiet).trans rfl, ?_⟩
  · omega
  · rw [quiet_obj hquiet (by decide) (by decide), State.incr_obj_same]

theorem write_refused (s : State) (t : Nat) (k : Fin 2) (f : LinkFrame) (hcore : s.coreOn) (harr : Arrives s k f) (hop : (frameInfo f).op = 1)
    (hout : s.inWindow k (frameInfo f).addr f.payload.length 2 = false) : answers (.write t k f) s fun s' => Taken s s' k ∧
      s'.sram = s.sram ∧ s'.dram = s.dram ∧ s'.obj 0x29030D = (s.obj 0x29030D + 1) % 2 ^ objWidth 0x29030D := by
  refine answers_received (exec_write (State.requestHole_outside hout)) hcore harr hop ?_
  have hout' : ¬ ((s.advance t).accepted k f).inWindow k (frameInfo f).addr f.payload.length 2 = true := by
    rw [State.accepted_inWindow]
    exact ne_true_of_eq_false hout
  have hkey := portKey_bounds k (u := 0x05) (by decide)
  obtain ⟨htaken, hsram, hdram, hobj⟩ := State.refuseRequest_keeps ((s.advance t).accepted k f) (frameInfo f) 5 2 k
    ((s.advance t).accepted_taken k f)
  rw [State.takeWrite, if_neg hout', State.settle_sram, State.settle_dram, State.settle_obj _ (by decide) (by decide), hobj,
    State.accepted_obj _ _ _ _ (by omega)]
  exact ⟨htaken.settle, hsram, hdram, rfl⟩

theorem State.metBadWord_keeps (s : State) (pa : Nat) (k : Fin 2) {s0 : State} (h : Taken s0 s k) :
    Taken s0 ((s.metBadWord pa).slabFails pa) k := by
  have hkey := portKey_bounds k (u := 0x05) (by decide)
  have hnext : Taken s0 ((s.incr 0x280007).setObj 0x280008 (pa / 8 * 8)) k := by
    refine h.of_port rfl ?_
    rw [State.setObj_obj_ne _ _ (by omega), State.incr_obj_ne _ _ (by omega)]
  exact Taken.of_port (hnext.of_quiet (State.emit_quiet ..)) rfl rfl

theorem State.takeRead_keeps (s : State) (k : Fin 2) (ecc : Bool) (i : FrameInfo) {s0 : State} (h : Taken s0 s k) :
    Taken s0 (s.takeRead k ecc i) k := by
  unfold State.takeRead
  dsimp only
  split
  · exact (s.refuseRequest_keeps i 4 2 k h).1
  · split
    · exact (s.metBadWord_keeps _ k h).of_quiet (State.answerRequest_quiet ..)
    · split
      · exact h.of_quiet (State.answerRequest_quiet ..)
      · exact h.of_quiet (State.answerRequest_quiet ..)

theorem readReq_stores_nothing (s : State) (t : Nat) (k : Fin 2) (f : LinkFrame) (hcore : s.coreOn) (harr : Arrives s k f)
    (hop : (frameInfo f).op = 3) (ecc : Bool) (hhole : s.requestHole k 3 1 f ((frameInfo f).arg % 512) = none) :
    answers (.readReq t k f ecc) s fun s' => Taken s s' k ∧ s'.sram = s.sram ∧ s'.dram = s.dram := by
  have hexec : exec (.readReq t k f ecc) s = whenCore t (fun s => s.receive k 3 f fun s i => s.takeRead k ecc i) s := by
    have hexec : exec (.readReq t k f ecc) s = execReadReq t k f ecc s := rfl
    rw [hexec, execReadReq, hhole]
  refine answers_received hexec hcore harr hop ?_
  rw [State.settle_sram, State.settle_dram, only_sram (State.takeRead_same (by decide) ..), only_dram (State.takeRead_same (by decide) ..)]
  exact ⟨Taken.settle (State.takeRead_keeps _ k ecc _ ((s.advance t).accepted_taken k f)), rfl, rfl⟩

theorem accum_held (s : State) (t : Nat) (k : Fin 2) (f : LinkFrame) (hcore : s.coreOn) (harr : Arrives s k f) (hop : (frameInfo f).op = 2)
    (ecc : Bool) (el : Elem) (hhole : s.requestHole k 2 3 f f.payload.length = none)
    (hin : s.inWindow k (frameInfo f).addr f.payload.length 3) (hel : elemOf ((frameInfo f).arg % 16) = some el) (hacc : el.accumulates ≠ 0)
    (hmore : (frameInfo f).last = false)
    (hroom : ((s.port k).accums.filter fun g => (frameInfo g).src == (frameInfo f).src).length < 15) :
    answers (.accum t k f ecc) s fun s' => Taken s s' k ∧ s'.sram = s.sram ∧ s'.dram = s.dram ∧
      (s'.port k).accums = (s.port k).accums ++ [f] := by
  have hexec : exec (.accum t k f ecc) s = whenCore t (fun s => s.receive k 2 f fun s i => s.takeAccum k f ecc i) s := by
    have hexec : exec (.accum t k f ecc) s = execAccum t k f ecc s := rfl
    rw [hexec, execAccum, hhole]
  refine answers_received hexec hcore harr hop ?_
  generalize hw : (s.advance t).accepted k f = w
  have htaken : Taken s w k := by rw [← hw]; exact (s.advance t).accepted_taken k f
  have haccums : (w.port k).accums = (s.port k).accums := by rw [← hw, State.accepted_port]; rfl
  have hin' : ¬ w.inWindow k (frameInfo f).addr f.payload.length 3 = false := by
    rw [← hw, State.accepted_inWindow]
    exact ne_false_of_eq_true hin
  generalize hx : (w.onPort k fun p => { p with accums := p.accums ++ [f] }) = x
  have hport : x.port k = { w.port k with accums := (s.port k).accums ++ [f] } := by
    rw [← hx, State.onPort_port_same, haccums]
  have hxtaken : Taken s x k := by
    rw [Taken, hport]
    refine ⟨htaken.1, htaken.2.1, ?_⟩
    rw [← hx]
    exact htaken.2.2
  have hwait : ¬ ((frameInfo f).last = true ∨ 16 ≤ ((x.port k).accums.filter fun g => (frameInfo g).src == (frameInfo f).src).length) := by
    have hone : ([f].filter fun g => (frameInfo g).src == (frameInfo f).src).length ≤ 1 := List.length_filter_le _ [f]
    rw [hmore, hport, List.filter_append, List.length_append]
    intro h
    rcases h with h | h
    · exact Bool.false_ne_true h
    · omega
  have hgood : ¬ ((elemOf ((frameInfo f).arg % 16)).isNone = true ∨ ((elemOf ((frameInfo f).arg % 16)).getD .int8).accumulates = 0) := by
    rw [hel]
    exact fun h => h.elim Bool.noConfusion hacc
  rw [State.takeAccum]
  dsimp only
  rw [if_neg hin', if_neg hgood, hx, if_neg hwait, State.settle_sram, State.settle_dram]
  obtain ⟨q, hq⟩ := State.settle_port_sends x k
  rw [hq, hport]
  refine ⟨hxtaken.settle, ?_, ?_, rfl⟩
  · rw [← hx, ← hw]
    rfl
  · rw [← hx, ← hw]
    rfl

/-! #### Tokens and answers (O27) -/

theorem State.setChan_chan_same (s : State) (c : Nat) (x : Channel) : (s.setChan c x).chan c = x := tget_tset_same ..

theorem State.sendAll_comp (s : State) (l : List Out) : (s.sendAll l).comp = s.comp ∧ (s.sendAll l).od = s.od :=
  ⟨only_comp (State.sendAll_same (by decide) ..), only_od (State.sendAll_same (by decide) ..)⟩

theorem State.chan_congr {s s' : State} (h : s'.comp = s.comp) (c : Nat) : s'.chan c = s.chan c := by
  rw [State.chan, State.chan, h]

theorem State.pump_od (s : State) (c : Nat) : (s.pump c).od = s.od := by
  unfold State.pump
  dsimp only
  split
  · exact (State.sendAll_comp _ _).2
  · exact (State.sendAll_comp _ _).2

/-- What a channel has sent is counted as its tokens go out (R323). -/
theorem State.pump_sent (s : State) (c : Nat) : ((s.pump c).chan c).sent = (s.chan c).deliver.1.sent := by
  unfold State.pump
  dsimp only
  split
  · rw [State.setChan_chan_same]
    rfl
  · rw [State.chan_congr (State.sendAll_comp _ _).1, State.setChan_chan_same]

theorem State.sendTok_obj (s : State) (c : Nat) (x : Tok) {j : Nat} (h : j ≠ 0x270006) : (s.sendTok c x).obj j = s.obj j := by
  unfold State.sendTok
  split
  · rfl
  · rw [State.obj_congr (State.pump_od ..), State.incr_obj_ne _ _ h]
    rfl

/-- A token goes out at once on a channel with a credit and nothing waiting (R323). -/
theorem State.sendTok_sent {s : State} {c : Nat} (hdepth : (s.chan c).depth ≠ 0) (howed : (s.chan c).owed = [])
    (hfree : (s.chan c).free ≠ 0) (x : Tok) : ((s.sendTok c x).chan c).sent = ((s.chan c).sent + 1) % 2 ^ 64 := by
  have hone : Nat.min (s.chan c).free 1 = 1 := Nat.min_eq_right (Nat.one_le_iff_ne_zero.mpr hfree)
  unfold State.sendTok
  rw [if_neg hdepth, State.pump_sent]
  have hchan : ((s.setChan c { s.chan c with owed := (s.chan c).owed ++ [x] }).incr 0x270006 (b2n (x.kind == 1))).chan c =
      { s.chan c with owed := [x] } := by
    refine (State.setChan_chan_same ..).trans ?_
    rw [howed, List.nil_append]
  rw [hchan, Channel.deliver]
  dsimp only [List.length_singleton]
  rw [hone]

theorem State.sendTok_keeps (s : State) (c : Nat) (x : Tok) (k : Fin 2) {s0 : State} (h : Taken s0 s k) : Taken s0 (s.sendTok c x) k := by
  have hkey := portKey_bounds k (u := 0x05) (by decide)
  exact h.of_port (State.port_of_only (State.sendTok_same (by decide) ..) k) (State.sendTok_obj _ _ _ (by omega))

theorem token_sent (s : State) (t : Nat) (k : Fin 2) (f : LinkFrame) (hcore : s.coreOn) (harr : Arrives s k f) (hop : (frameInfo f).op = 6)
    (hopen : (s.port k).tc1Refused = false) (hdepth : (s.chan ((frameInfo f).arg % 512)).depth ≠ 0)
    (howed : (s.chan ((frameInfo f).arg % 512)).owed = []) (hfree : (s.chan ((frameInfo f).arg % 512)).free ≠ 0) :
    answers (.token t k f) s fun s' => Taken s s' k ∧
      (s'.chan ((frameInfo f).arg % 512)).sent = ((s.chan ((frameInfo f).arg % 512)).sent + 1) % 2 ^ 64 := by
  have hexec : exec (.token t k f) s = execToken t k f s := rfl
  refine answers_received hexec hcore harr hop ?_
  generalize hw : (s.advance t).accepted k f = w
  have htaken : Taken s w k := by rw [← hw]; exact (s.advance t).accepted_taken k f
  have hopen' : ¬ (w.port k).tc1Refused = true := by
    rw [← hw, State.accepted_port]
    exact ne_true_of_eq_false hopen
  have hchan (c : Nat) : w.chan c = s.chan c := by rw [← hw]; rfl
  rw [if_neg hopen']
  refine ⟨(State.sendTok_keeps w _ _ k htaken).settle, ?_⟩
  rw [State.chan, State.settle_comp_channels]
  rw [← hchan] at hdepth howed hfree ⊢
  exact State.sendTok_sent hdepth howed hfree _

theorem State.abandonOne_obj (s : State) (x : Xfer) (reason : Nat) {j : Nat} (h5 : j ≠ 0x270005) (h6 : j ≠ 0x270006) :
    (s.abandonOne x reason).obj j = s.obj j := by
  unfold State.abandonOne
  refine List.foldlRecOn (motive := fun s' : State => s'.obj j = s.obj j) x.chans _ ?_ fun s' ih c _ =>
    (State.sendTok_obj s' c _ h6).trans ih
  exact State.incr_obj_ne (s.dropXfer x.xid) 1 h5

theorem State.abandonAll_obj (s : State) (p : Xfer → Bool) (reason : Nat) {j : Nat} (h5 : j ≠ 0x270005) (h6 : j ≠ 0x270006) :
    (s.abandonAll p reason).obj j = s.obj j := by
  refine List.foldlRecOn (motive := fun s' : State => s'.obj j = s.obj j) _ _ rfl fun s' ih x _ => ?_
  exact List.foldlRecOn (motive := fun s' : State => s'.obj j = s.obj j) _ _ ih fun s' ih y _ =>
    (State.abandonOne_obj s' y reason h5 h6).trans ih

/-- An answer frees its tag, whatever it says (R367). -/
theorem State.takeAnswer_frees (s : State) (k : Fin 2) (tag reason : Nat) (ok : Bool) {s0 : State} (h : Taken s0 s k) :
    Taken s0 (s.takeAnswer k tag reason ok) k ∧ ∀ e ∈ (s.takeAnswer k tag reason ok).link.tags, ¬ (e.port = k ∧ e.tag = tag) := by
  have hkey := portKey_bounds k (u := 0x05) (by decide)
  unfold State.takeAnswer
  split
  · next hnone =>
    refine ⟨h, fun e he hmatch => ?_⟩
    have hno := List.find?_eq_none.mp hnone e he
    rw [hmatch.1, hmatch.2, beq_self_eq_true, beq_self_eq_true] at hno
    exact hno rfl
  · next e0 _ =>
    dsimp only
    generalize hv : (s.onLink fun l => { l with tags := l.tags.filter fun x => !(x.port == k.val && x.tag == tag) }) = v
    have hvtaken : Taken s0 v k := by rw [← hv]; exact h.of_port rfl rfl
    have htags : ∀ e ∈ v.link.tags, ¬ (e.port = k ∧ e.tag = tag) := by
      intro e he hmatch
      rw [← hv] at he
      have hkeep := (List.mem_filter.mp he).2
      rw [hmatch.1, hmatch.2, beq_self_eq_true, beq_self_eq_true] at hkeep
      exact Bool.false_ne_true hkeep
    split
    · exact ⟨hvtaken, htags⟩
    · obtain ⟨l, hlink, hmem⟩ := State.abandonAll_link v (fun x => x.xid == e0.xid) reason
      refine ⟨hvtaken.of_port (State.port_congr (by rw [hlink]) k) (State.abandonAll_obj _ _ _ (by omega) (by omega)), ?_⟩
      rw [hlink]
      exact fun e he => htags e (hmem e he)

theorem answer_frees {s : State} {t : Nat} {k : Fin 2} {f : LinkFrame} {c : Instr} {op : Nat} {act : State → FrameInfo → State}
    (hexec : exec c s = whenCore t (fun s => s.receive k op f act) s) (hcore : s.coreOn) (harr : Arrives s k f) (hop : (frameInfo f).op = op)
    (hact : ∃ reason ok, (act ((s.advance t).accepted k f) (frameInfo f)).link.tags =
        (((s.advance t).accepted k f).takeAnswer k (frameInfo f).tag reason ok).link.tags ∧
      (act ((s.advance t).accepted k f) (frameInfo f)).quiet = (((s.advance t).accepted k f).takeAnswer k (frameInfo f).tag reason ok).quiet) :
    answers c s fun s' => Taken s s' k ∧ ∀ e ∈ s'.link.tags, ¬ (e.port = k ∧ e.tag = (frameInfo f).tag) := by
  refine answers_received hexec hcore harr hop ?_
  obtain ⟨reason, ok, htags, hquiet⟩ := hact
  obtain ⟨htaken, hfree⟩ := State.takeAnswer_frees ((s.advance t).accepted k f) k (frameInfo f).tag reason ok
    ((s.advance t).accepted_taken k f)
  rw [State.settle_link_tags, htags]
  exact ⟨(Taken.of_quiet htaken hquiet).settle, hfree⟩

theorem answers_free_tags (s : State) (t : Nat) (k : Fin 2) (f : LinkFrame) (hcore : s.coreOn) (harr : Arrives s k f) (op : Nat) (c : Instr)
    (hc : (op, c) ∈ [(4, Instr.readData t k f), (5, .writeAck t k f), (7, .unreach t k f)]) (hop : (frameInfo f).op = op) :
    answers c s fun s' => Taken s s' k ∧ ∀ e ∈ s'.link.tags, ¬ (e.port = k ∧ e.tag = (frameInfo f).tag) := by
  simp only [List.mem_cons, List.not_mem_nil, or_false, Prod.mk.injEq] at hc
  obtain ⟨rfl, rfl⟩ | ⟨rfl, rfl⟩ | ⟨rfl, rfl⟩ := hc
  · have hexec : exec (.readData t k f) s = execReadData t k f s := rfl
    exact answer_frees hexec hcore harr hop ⟨_, _, rfl, rfl⟩
  · have hexec : exec (.writeAck t k f) s = execWriteAck t k f s := rfl
    exact answer_frees hexec hcore harr hop ⟨_, _, rfl, rfl⟩
  · have hexec : exec (.unreach t k f) s = execUnreach t k f s := rfl
    exact answer_frees hexec hcore harr hop ⟨_, _, State.emit_link_tags .., State.emit_quiet ..⟩

/-- Settles O27: it holds. -/
theorem linkFramesAct : Obligations.link_frames_act := fun s t k f hcore hup hcrc hwhole hok hseq hown =>
  have harr : Arrives s k f := ⟨hup, hcrc, hwhole, hok, hseq, hown⟩
  ⟨write_stores s t k f hcore harr, write_refused s t k f hcore harr, readReq_stores_nothing s t k f hcore harr,
    accum_held s t k f hcore harr, token_sent s t k f hcore harr, answers_free_tags s t k f hcore harr⟩

end Sys2Proof.Machine
end

section
/-! ### The journal and the epochs of a pair (O31) -/
namespace Sys2Proof.Machine

/-! #### What an accepted frame leaves -/

theorem State.accepted_red (s : State) (k : Nat) (f : LinkFrame) : (s.accepted k f).red = s.red := rfl

theorem State.accepted_pair {s : State} (h : s.pair) (k : Nat) (f : LinkFrame) : (s.accepted k f).pair = true := h

theorem State.accepted_journalOnly {s : State} (h : s.journalOnly) (k : Nat) (f : LinkFrame) : (s.accepted k f).journalOnly = true := h

theorem State.sendFrame_red_kept (s : State) (i : FrameInfo) (bs : List Byte) : (s.sendFrame i bs).red = s.red :=
  only_red (State.sendFrame_same (by decide) ..)

/-- A refused epoch leaves what is held, and is counted (R401). -/
theorem State.refuseEpoch_keeps (s : State) (leave : Bool) : (s.refuseEpoch leave).red.committed = s.red.committed ∧
    (s.refuseEpoch leave).red.got = s.red.got ∧
    (s.refuseEpoch leave).obj 0x291108 = (s.obj 0x291108 + 1) % 2 ^ objWidth 0x291108 := by
  unfold State.refuseEpoch
  dsimp only
  generalize hv : ((s.incr 0x291108).emit 0x9012).sendFrame _ _ = v
  have hred : v.red = s.red := by
    rw [← hv, State.sendFrame_red_kept, State.emit_red, State.incr_red]
  have hobj : v.obj 0x291108 = (s.obj 0x291108 + 1) % 2 ^ objWidth 0x291108 := by
    rw [← hv, quiet_obj (State.sendFrame_quiet ..) (by decide) (by decide), State.emit_obj _ _ _ _ (by decide) (by decide),
      State.incr_obj_same]
  split
  · rw [State.roleTo_red, State.obj_congr (only_od (State.roleTo_same (by decide) ..)), hred]
    exact ⟨rfl, rfl, hobj⟩
  · rw [hred]
    exact ⟨rfl, rfl, hobj⟩

/-! #### The journal (R395, R396) -/

theorem newer_ne {a b : Nat} (h : newer a b) : a ≠ b := by
  rintro rfl
  unfold newer at h
  dsimp only at h
  rw [Bool.and_eq_true, decide_eq_true_eq] at h
  omega

/-- A whole entry behind the last one is kept, in order or on a Syncing device. -/
theorem State.takeEntry24_keeps {s : State} {e : JEntry × Bool} (hok : e.2) (hnew : newer e.1.jseq s.red.lastJseq)
    (horder : s.red.role = .syncing ∨ e.1.jseq = (s.red.lastJseq + 1) % 2 ^ 32) : (s.takeEntry24 e).red.got = s.red.got ++ [e.1] := by
  have hne := newer_ne hnew
  have hgap : ¬ (s.red.role = .tailstock ∧ s.red.gap = false ∧ e.1.jseq ≠ s.red.lastJseq ∧
      e.1.jseq ≠ (s.red.lastJseq + 1) % 2 ^ 32) := by
    rintro ⟨hrole, -, -, hnot⟩
    rcases horder with h | h
    · rw [h] at hrole
      exact Role.noConfusion hrole
    · exact hnot h
  unfold State.takeEntry24
  dsimp only
  rw [if_neg (ne_false_of_eq_true hok), if_neg (fun h => ne_false_of_eq_true hnew h.2), if_neg (fun h => hne h.1), if_neg hgap]
  rfl

theorem State.takeEntry24_refuses {s : State} {e : JEntry × Bool} (hbad : e.2 = false) : s.takeEntry24 e = s.refuseEpoch true := by
  unfold State.takeEntry24
  dsimp only
  rw [if_pos hbad]

theorem journal_keeps (s : State) (t : Nat) (k : Fin 2) (f : LinkFrame) (hcore : s.coreOn) (hpair : s.pair) (harr : Arrives s k f)
    (hstandby : s.journalOnly) (hop : (frameInfo f).op = 0x10) (hone : (frameInfo f).arg % 256 = 1) :
    answers (.journal t k f) s fun s' =>
      let e := JEntry.unpack f.payload
      (e.2 → newer e.1.jseq s.red.lastJseq → (s.red.role = .syncing ∨ e.1.jseq = (s.red.lastJseq + 1) % 2 ^ 32) →
        s'.red.got = s.red.got ++ [e.1]) ∧
      (e.2 = false → s'.red.got = s.red.got ∧ s'.obj 0x291108 = (s.obj 0x291108 + 1) % 2 ^ objWidth 0x291108) := by
  have hexec : exec (.journal t k f) s = execJournal t k f s := rfl
  refine answers_received hexec hcore harr hop ?_
  generalize hw : (s.advance t).accepted k f = w
  have hred : w.red = s.red := by rw [← hw]; rfl
  have hobj : w.obj 0x291108 = s.obj 0x291108 := by
    have hkey := portKey_bounds k (u := 0x05) (by decide)
    rw [← hw, State.accepted_obj _ _ _ _ (by omega)]
    rfl
  have hentries : journalEntries ((frameInfo f).arg % 256) f.payload = [JEntry.unpack f.payload] := by rw [hone]; rfl
  have hstandby' : w.pair = true ∧ w.journalOnly = true := by rw [← hw]; exact ⟨hpair, hstandby⟩
  rw [if_pos hstandby', hentries]
  dsimp only [List.foldl]
  rw [State.settle_red_got, State.settle_obj _ (by decide) (by decide)]
  refine ⟨fun hok hnew horder => ?_, fun hbad => ?_⟩
  · rw [← hred] at hnew horder ⊢
    exact State.takeEntry24_keeps hok hnew horder
  · obtain ⟨-, hgot, hcount⟩ := w.refuseEpoch_keeps true
    rw [State.takeEntry24_refuses hbad, hgot, hcount, hred, hobj]
    exact ⟨rfl, rfl⟩

/-! #### Segments (R399) -/

theorem State.takeHeader_begins {s : State} (hempty : s.red.partialSegs = []) (bs : List Byte) :
    (s.takeHeader bs).red.partialSegs = if (headerSegment bs).2 then [(headerSegment bs).1] else [] := by
  unfold State.takeHeader
  dsimp only
  by_cases hcrc : (headerSegment bs).2 = false
  · rw [if_pos hcrc, if_neg (by rw [hcrc]; exact Bool.false_ne_true)]
    exact hempty
  · have hnone : ¬ (s.red.partialSegs.any fun g => decide (g.epoch < (headerSegment bs).1.epoch)) = true := by
      rw [hempty]
      exact Bool.false_ne_true
    rw [if_neg hcrc, if_neg hnone, if_pos (eq_true_of_ne_false hcrc), State.onRed_red, hempty]
    rfl

theorem snapshot_begins (s : State) (t : Nat) (k : Fin 2) (f : LinkFrame) (hcore : s.coreOn) (hpair : s.pair) (harr : Arrives s k f)
    (hstandby : s.journalOnly) (hop : (frameInfo f).op = 0x11) (hheader : (frameInfo f).arg.testBit 9) (hempty : s.red.partialSegs = []) :
    answers (.snapshot t k f) s fun s' =>
      let h := headerSegment f.payload
      s'.red.partialSegs = if h.2 then [h.1] else [] := by
  have hexec : exec (.snapshot t k f) s = execSnapshot t k f s := rfl
  refine answers_received hexec hcore harr hop ?_
  have hstandby' : ((s.advance t).accepted k f).pair = true ∧ ((s.advance t).accepted k f).journalOnly = true := ⟨hpair, hstandby⟩
  rw [if_pos hstandby', if_pos hheader, State.settle_red_partialSegs]
  exact State.takeHeader_begins (s := (s.advance t).accepted k f) hempty f.payload

theorem snapshot_joins (s : State) (t : Nat) (k : Fin 2) (f : LinkFrame) (hcore : s.coreOn) (hpair : s.pair) (harr : Arrives s k f)
    (hstandby : s.journalOnly) (hop : (frameInfo f).op = 0x11) (hdata : (frameInfo f).arg.testBit 9 = false) :
    answers (.snapshot t k f) s fun s' =>
      s'.red.partialSegs = addToLast (frameInfo f).addr f.payload s.red.partialSegs ∧ s'.red.committed = s.red.committed := by
  have hexec : exec (.snapshot t k f) s = execSnapshot t k f s := rfl
  refine answers_received hexec hcore harr hop ?_
  have hstandby' : ((s.advance t).accepted k f).pair = true ∧ ((s.advance t).accepted k f).journalOnly = true := ⟨hpair, hstandby⟩
  rw [if_pos hstandby', if_neg (ne_true_of_eq_false hdata), State.settle_red_partialSegs, State.settle_red_committed]
  exact ⟨rfl, rfl⟩

/-! #### Commits (R400, R401) -/

/-- Every check of a COMMIT frame holds for the data of its epoch (R401). -/
def State.soundCommit (s : State) (bs data : List Byte) : Prop :=
  let v := leNat (bs.take 64)
  let number := bits v 223 160
  (crc32c (bs.take 60)).toNat = bits v 511 480 ∧ bits v 159 128 = s.ledgerId ∧ s.segmentsLedger number s.ledgerId ∧
    s.epochData number (bits v 31 24) = some data ∧ sha256 data = bits v 479 224 ∧
    (∀ e, s.red.committed = some e → e.number < number) ∧ data.length = bits v 95 64 ∧ s.slotsMatch (warmPart 3 data)

/-- The epoch of a COMMIT frame. -/
def State.commitOf (s : State) (bs data : List Byte) : Epoch :=
  let v := leNat (bs.take 64)
  ⟨bits v 223 160, bits v 63 32, bits v 127 96, s.mapTick (bits v 127 96), data⟩

/-- The partial epoch that a COMMIT frame ends. -/
def State.commitEnds (s : State) (bs : List Byte) : State :=
  s.onRed fun r => { r with
    highest := max r.highest (bits (leNat (bs.take 64)) 223 160)
    partialSegs := r.partialSegs.filter fun g => g.epoch != bits (leNat (bs.take 64)) 223 160 }

theorem fresh_iff (c : Option Epoch) (number : Nat) :
    c.all (fun e => decide (e.number < number)) = true ↔ ∀ e, c = some e → e.number < number := by
  cases c with
  | none => exact ⟨fun _ _ he => (nomatch he), fun _ => rfl⟩
  | some e => exact ⟨fun h e' he => Option.some.inj he ▸ of_decide_eq_true h, fun h => decide_eq_true (h e rfl)⟩

/-- A COMMIT frame whose checks all hold commits its epoch. -/
theorem State.takeCommit_sound {s : State} {bs data : List Byte} (h : s.soundCommit bs data) :
    s.takeCommit bs = (s.commitEnds bs).commitEpoch (s.commitOf bs data) := by
  obtain ⟨hcrc, hledger, hsegs, hdata, hsha, hfresh, hlen, hslots⟩ := h
  have hfresh' := (fresh_iff _ _).mpr hfresh
  have hledgers : ¬ (bits (leNat (bs.take 64)) 159 128 ≠ s.ledgerId ∨
      s.segmentsLedger (bits (leNat (bs.take 64)) 223 160) s.ledgerId = false) :=
    fun h => h.elim (fun h => h hledger) (fun h => ne_false_of_eq_true hsegs h)
  have hchecks : ¬ (sha256 data ≠ bits (leNat (bs.take 64)) 479 224 ∨
      (s.red.committed.all fun e => decide (e.number < bits (leNat (bs.take 64)) 223 160)) = false ∨
      data.length ≠ bits (leNat (bs.take 64)) 95 64) :=
    fun h => h.elim (fun h => h hsha) fun h => h.elim (fun h => ne_false_of_eq_true hfresh' h) (fun h => h hlen)
  unfold State.takeCommit
  dsimp only
  rw [if_neg (not_not_intro hcrc), if_neg hledgers, hdata]
  dsimp only
  rw [if_neg hchecks, if_neg (ne_false_of_eq_true hslots)]
  rfl

/-- A COMMIT frame with a check that fails is refused. -/
theorem State.takeCommit_unsound {s : State} {bs : List Byte} (h : ∀ data, ¬ s.soundCommit bs data) :
    ∃ leave, s.takeCommit bs = (s.commitEnds bs).refuseEpoch leave := by
  unfold State.takeCommit
  dsimp only
  split
  · exact ⟨_, rfl⟩
  · next hcrc =>
    split
    · exact ⟨_, rfl⟩
    · next hledgers =>
      obtain ⟨hledger, hsegs⟩ := not_or.mp hledgers
      split
      · exact ⟨_, rfl⟩
      · next data hdata =>
        split
        · exact ⟨_, rfl⟩
        · next hchecks =>
          obtain ⟨hsha, hrest⟩ := not_or.mp hchecks
          obtain ⟨hfresh, hlen⟩ := not_or.mp hrest
          split
          · exact ⟨_, rfl⟩
          · next hslots =>
            exact absurd ⟨Classical.not_not.mp hcrc, Classical.not_not.mp hledger, eq_true_of_ne_false hsegs, hdata, Classical.not_not.mp hsha,
              (fresh_iff _ _).mp (eq_true_of_ne_false hfresh), Classical.not_not.mp hlen, eq_true_of_ne_false hslots⟩ (h data)

/-- A committed epoch is the committed one, and a Syncing device is a Tailstock (R387, R401). -/
theorem State.commitEpoch_commits (s : State) (e : Epoch) : (s.commitEpoch e).red.committed = some e ∧
    (s.red.role = .syncing → (s.commitEpoch e).red.role = .tailstock) := by
  unfold State.commitEpoch
  dsimp only
  split
  · rw [State.roleTo_red, State.sendFrame_red_kept, State.emit_red]
    exact ⟨rfl, fun _ => rfl⟩
  · next hrole =>
    rw [State.sendFrame_red_kept, State.emit_red]
    exact ⟨rfl, fun h => absurd h hrole⟩

theorem commit_commits (s : State) (t : Nat) (k : Fin 2) (f : LinkFrame) (hcore : s.coreOn) (hpair : s.pair) (harr : Arrives s k f)
    (hstandby : s.journalOnly) (hop : (frameInfo f).op = 0x12) : answers (.commit t k f) s fun s' =>
      (∀ data, s.soundCommit f.payload data → s'.red.committed = some (s.commitOf f.payload data) ∧
        (s.red.role = .syncing → s'.red.role = .tailstock)) ∧
      ((∀ data, ¬ s.soundCommit f.payload data) → s'.red.committed = s.red.committed ∧
        s'.obj 0x291108 = (s.obj 0x291108 + 1) % 2 ^ objWidth 0x291108) := by
  have hexec : exec (.commit t k f) s = execCommit t k f s := rfl
  refine answers_received hexec hcore harr hop ?_
  have hstandby' : ((s.advance t).accepted k f).pair = true ∧ ((s.advance t).accepted k f).journalOnly = true := ⟨hpair, hstandby⟩
  have hobj : ((s.advance t).accepted k f).obj 0x291108 = s.obj 0x291108 := by
    have hkey := portKey_bounds k (u := 0x05) (by decide)
    rw [State.accepted_obj _ _ _ _ (by omega)]
    rfl
  rw [if_pos hstandby', State.settle_red_committed, State.settle_red_role, State.settle_obj _ (by decide) (by decide)]
  refine ⟨fun data hsound => ?_, fun hunsound => ?_⟩
  · have hsound' : ((s.advance t).accepted k f).soundCommit f.payload data := hsound
    rw [State.takeCommit_sound hsound']
    exact State.commitEpoch_commits ..
  · have hunsound' : ∀ data, ¬ ((s.advance t).accepted k f).soundCommit f.payload data := hunsound
    obtain ⟨leave, hrefused⟩ := State.takeCommit_unsound hunsound'
    obtain ⟨hcommitted, -, hcount⟩ := State.refuseEpoch_keeps (((s.advance t).accepted k f).commitEnds f.payload) leave
    rw [hrefused, hcommitted, hcount]
    refine ⟨rfl, ?_⟩
    rw [← hobj]
    rfl

/-! #### The answers to an epoch at the active (R401, R403) -/

theorem State.accepted_active {s : State} {k : Nat} {f : LinkFrame} (hpair : s.pair) (hrole : s.red.role = .active) :
    (s.accepted k f).pair = true ∧ (s.accepted k f).red.role = .active := ⟨hpair, hrole⟩

theorem State.epochAnswer_committed {s : State} {e : Epoch} (hopen : s.red.open_ = some e) :
    (s.epochAnswer e.number true).red.open_ = none ∧ (s.epochAnswer e.number true).red.committed = some e := by
  unfold State.epochAnswer
  rw [hopen]
  dsimp only
  rw [if_pos rfl, if_pos rfl]
  exact ⟨rfl, rfl⟩

theorem State.epochAnswer_refused {s : State} (hopen : s.red.open_.isSome) (number : Nat) :
    (s.epochAnswer number false).red.open_ = none ∧ (s.epochAnswer number false).red.committed = s.red.committed ∧
      (s.epochAnswer number false).obj 0x291108 = (s.obj 0x291108 + 1) % 2 ^ objWidth 0x291108 := by
  obtain ⟨e, he⟩ := Option.isSome_iff_exists.mp hopen
  unfold State.epochAnswer
  rw [he]
  dsimp only
  rw [if_neg Bool.false_ne_true, State.incr_obj_same]
  exact ⟨rfl, rfl, rfl⟩

theorem replAck_answers (s : State) (t : Nat) (k : Fin 2) (f : LinkFrame) (hcore : s.coreOn) (hpair : s.pair) (harr : Arrives s k f)
    (hrole : s.red.role = .active) (hop : (frameInfo f).op = 0x13) : answers (.replAck t k f) s fun s' =>
      let v := leNat (f.payload.take 16)
      ((frameInfo f).arg % 4 = 0 → s'.red.applied = bits v 63 32 ∧ s'.red.open_ = s.red.open_) ∧
      (∀ e, (frameInfo f).arg % 4 = 1 → s.red.open_ = some e → e.number = bits v 127 64 →
        s'.red.open_ = none ∧ s'.red.committed = some e) ∧
      ((frameInfo f).arg % 4 = 2 → s.red.open_.isSome → s'.red.open_ = none ∧ s'.red.committed = s.red.committed ∧
        s'.obj 0x291108 = (s.obj 0x291108 + 1) % 2 ^ objWidth 0x291108) := by
  have hexec : exec (.replAck t k f) s = execReplAck t k f s := rfl
  refine answers_received hexec hcore harr hop ?_
  have hobj : ((s.advance t).accepted k f).obj 0x291108 = s.obj 0x291108 := by
    have hkey := portKey_bounds k (u := 0x05) (by decide)
    rw [State.accepted_obj _ _ _ _ (by omega)]
    rfl
  have hactive := State.accepted_active (s := s.advance t) (k := k) (f := f) hpair hrole
  rw [if_pos hactive, State.settle_red_applied, State.settle_red_open_, State.settle_red_committed,
    State.settle_obj _ (by decide) (by decide)]
  refine ⟨fun harg => ?_, fun e harg hopen hnumber => ?_, fun harg hopen => ?_⟩
  · rw [harg]
    exact ⟨rfl, rfl⟩
  · have hopen' : ((s.advance t).accepted k f).red.open_ = some e := hopen
    have hanswer := State.epochAnswer_committed hopen'
    rw [hnumber] at hanswer
    rw [harg]
    exact hanswer
  · have hopen' : ((s.advance t).accepted k f).red.open_.isSome = true := hopen
    obtain ⟨hnone, hcommitted, hcount⟩ := State.epochAnswer_refused hopen' (bits (leNat (f.payload.take 16)) 127 64)
    rw [harg]
    exact ⟨hnone, hcommitted.trans rfl, hcount.trans (by rw [hobj])⟩

theorem epochAbandoned_loses (s : State) (t : Nat) (hcore : s.coreOn) (hopen : s.red.open_.isSome)
    (hlate : s.red.capturedAt + 50 * msec ≤ max s.now t) : answers (.epochAbandoned t) s fun s' => s'.red.open_ = none ∧
      s'.red.committed = s.red.committed ∧ s'.obj 0x291109 = (s.obj 0x291109 + 1) % 2 ^ objWidth 0x291109 := by
  have hexec : exec (.epochAbandoned t) s = execEpochAbandoned t s := rfl
  refine answers_core hexec hcore ?_
  have hdue : (s.advance t).red.capturedAt + 50 * msec ≤ (s.advance t).now := hlate
  have hcond : (s.advance t).red.open_.isSome = true ∧ (s.advance t).red.capturedAt + 50 * msec ≤ (s.advance t).now := ⟨hopen, hdue⟩
  rw [if_pos hcond, State.settle_red_open_, State.settle_red_committed, State.settle_obj _ (by decide) (by decide), State.loseEpoch,
    State.emit_red, State.emit_obj _ _ _ _ (by decide) (by decide), State.incr_obj_same]
  exact ⟨rfl, rfl, rfl⟩

/-- Settles O31: it holds. -/
theorem journalAndEpochs : Obligations.journal_and_epochs :=
  ⟨fun s t k f hcore hpair hup hcrc hwhole hok hseq hown =>
    have harr : Arrives s k f := ⟨hup, hcrc, hwhole, hok, hseq, hown⟩
    ⟨journal_keeps s t k f hcore hpair harr, snapshot_begins s t k f hcore hpair harr, snapshot_joins s t k f hcore hpair harr,
      commit_commits s t k f hcore hpair harr, replAck_answers s t k f hcore hpair harr⟩, epochAbandoned_loses⟩

end Sys2Proof.Machine
end

section
/-! ### Command queues, images and slots (O22, O21) -/
namespace Sys2Proof.Machine

/-! #### A queue behind events and completions -/

/-- A queue with the fence and the completion ring of another. -/
def Queue.postsAs (x y : Queue) : Queue :=
  { x with fence := y.fence, fenceRec := y.fenceRec, compProd := y.compProd, compUsed := y.compUsed }

theorem queue_of_quiet {s s' : State} (h : s'.quiet = s.quiet) (q : Fin 16) : ∃ y, s'.queue q = (s.queue q).postsAs y := by
  refine ⟨s'.queue q, ?_⟩
  have hq := quiet_queue h q.isLt
  generalize s'.queue q = x' at hq ⊢
  generalize s.queue q = x at hq ⊢
  cases x
  cases x'
  simp only [Queue.quiet, Queue.mk.injEq] at hq
  simp only [Queue.postsAs, Queue.mk.injEq]
  simp_all

theorem State.settle_queue_posts (s : State) (q : Fin 16) : ∃ y, s.settle.queue q = (s.queue q).postsAs y :=
  queue_of_quiet s.settle_quiet q

theorem State.setQueue_queue_same (s : State) (q : Nat) (x : Queue) : (s.setQueue q x).queue q = x := tget_tset_same ..

theorem queueKey_bounds (q : Fin 16) {u : Nat} (hu : u < 0x100) : 0x281000 ≤ queueKey q u ∧ queueKey q u < 0x282000 := by
  unfold queueKey
  omega

/-! #### Doorbells and control (O22) -/

theorem queueDoorbell_fetches (s : State) (t : Nat) (q : Fin 16) (tail : BitVec 32) (entries : List Bits512) (hcore : s.coreOn)
    (htail : tail.toNat < s.ringSize q) : answers (.queueDoorbell t q tail entries) s fun s' => (s'.queue q).tail = tail.toNat ∧
      (s'.queue q).expect = (s.queue q).expect ∧ (s'.queue q).fetched = (s.queue q).fetched ++
        (List.range ((tail.toNat + s.ringSize q - (s.queue q).tail % s.ringSize q) % s.ringSize q)).map fun i =>
          (entries.getD i 0, (s.advance t).stamp) := by
  have hexec : exec (.queueDoorbell t q tail entries) s = execQueueDoorbell t q tail entries s := rfl
  refine answers_core hexec hcore ?_
  have hin : ¬ (s.advance t).ringSize q ≤ tail.toNat := Nat.not_le.mpr htail
  have hone : max ((s.advance t).ringSize q) 1 = s.ringSize q := Nat.max_eq_left (show 1 ≤ s.ringSize q by omega)
  unfold State.doorbell
  dsimp only
  rw [if_neg hin, hone]
  generalize hx : ({ (s.advance t).queue q with tail := _, fetched := _ } : Queue) = x
  obtain ⟨y, hy⟩ := State.settle_queue_posts ((s.advance t).setQueue q x) q
  rw [hy, State.setQueue_queue_same, ← hx]
  exact ⟨rfl, rfl, rfl⟩

/-- A queue whose doorbell points beyond its ring halts with status 2 (R337, R340). -/
theorem State.haltQueue_halts (s : State) (q : Fin 16) : ((s.haltQueue q).settle.queue q).state = 2 ∧
    ((s.haltQueue q).settle.queue q).fetched = (s.queue q).fetched ∧
    (s.haltQueue q).settle.obj (queueKey q 0x09) = s.obj (queueKey q 0x09) := by
  have hkey := queueKey_bounds q (u := 0x09) (by decide)
  have hquiet : (s.haltQueue q).settle.quiet = (s.setQueue q { s.queue q with state := 2 }).quiet :=
    (State.settle_quiet _).trans (State.emit_quiet ..)
  obtain ⟨y, hy⟩ := queue_of_quiet hquiet q
  rw [hy, State.setQueue_queue_same, quiet_obj hquiet (by omega) (by omega)]
  exact ⟨rfl, rfl, rfl⟩

theorem State.doorbell_halts {s : State} {q : Fin 16} {tail : Nat} (htail : s.ringSize q ≤ tail) (hruns : (s.queue q).state = 1)
    (entries : List Bits512) : ∃ w : State, s.doorbell q tail entries = w.haltQueue q ∧ (w.queue q).fetched = (s.queue q).fetched ∧
      w.obj (queueKey q 0x09) = 2 := by
  have hkey := queueKey_bounds q (u := 0x09) (by decide)
  have hquiet (v : State) : (v.emit 0x8008 q).quiet = v.quiet := State.emit_quiet ..
  unfold State.doorbell
  dsimp only
  rw [if_pos htail, if_pos hruns]
  refine ⟨_, rfl, ?_⟩
  generalize hv : (s.incr (queueKey q 0x08)).setObj (queueKey q 0x09) 2 = v
  have hqueue : v.queue q = s.queue q := by rw [← hv]; rfl
  have hobj : v.obj (queueKey q 0x09) = 2 := by rw [← hv, State.setObj_obj_same]
  split
  · have hpost : (s.refuseEntry q 0x8008 0 (s.queue q).expect 0 2).quiet = v.quiet := by
      rw [State.refuseEntry, hv]
      exact (State.postCompletion_quiet ..).trans (hquiet v)
    obtain ⟨y, hy⟩ := queue_of_quiet hpost q
    rw [hy, quiet_obj hpost (by omega) (by omega), hqueue, hobj]
    exact ⟨rfl, rfl⟩
  · obtain ⟨y, hy⟩ := queue_of_quiet (hquiet v) q
    rw [hy, quiet_obj (hquiet v) (by omega) (by omega), hqueue, hobj]
    exact ⟨rfl, rfl⟩

theorem queueDoorbell_halts (s : State) (t : Nat) (q : Fin 16) (tail : BitVec 32) (entries : List Bits512) (hcore : s.coreOn)
    (htail : s.ringSize q ≤ tail.toNat) (hruns : (s.queue q).state = 1) : answers (.queueDoorbell t q tail entries) s fun s' =>
      (s'.queue q).state = 2 ∧ (s'.queue q).fetched = (s.queue q).fetched ∧ s'.obj (queueKey q 0x09) = 2 := by
  have hexec : exec (.queueDoorbell t q tail entries) s = execQueueDoorbell t q tail entries s := rfl
  refine answers_core hexec hcore ?_
  obtain ⟨w, hw, hfetched, hobj⟩ := State.doorbell_halts (s := s.advance t) (q := q) htail hruns entries
  obtain ⟨h1, h2, h3⟩ := w.haltQueue_halts q
  rw [hw]
  exact ⟨h1, h2.trans hfetched, h3.trans hobj⟩

theorem State.queue_congr {s s' : State} (h : s'.comp = s.comp) (q : Nat) : s'.queue q = s.queue q := by
  rw [State.queue, State.queue, h]

theorem State.acceptWrite_queue (s : State) (p : Path) (k : Nat) (d : List Byte) (q : Nat) : (s.acceptWrite p k d).queue q = s.queue q :=
  State.queue_congr (only_comp (State.acceptWrite_same (by decide) ..)) q

theorem State.switchQueue_switches (s : State) (q : Fin 16) (on : Nat) : ((s.switchQueue q on).settle.queue q).state =
    (if (s.queue q).state = 2 then 2 else on) ∧ ((s.switchQueue q on).settle.queue q).fetched = (s.queue q).fetched := by
  obtain ⟨y, hy⟩ := State.settle_queue_posts (s.switchQueue q on) q
  rw [hy, State.switchQueue, State.setQueue_queue_same]
  exact ⟨rfl, rfl⟩

theorem queueEnable_enables (s : State) (t : Nat) (p : Path) (q : Fin 16) (hcore : s.coreOn) (hmay : s.mayWrite t p (queueKey q 0x04) 1) :
    answers (.queueEnable t p q) s fun s' =>
      (s'.queue q).state = (if (s.queue q).state = 2 then 2 else 1) ∧ (s'.queue q).fetched = (s.queue q).fetched := by
  have hexec : exec (.queueEnable t p q) s = execQueueEnable t p q s := rfl
  refine answers_controlledNum hexec hcore hmay ?_
  generalize hv : (s.advance t).acceptWrite p (queueKey q 0x04) (leBytes (objWidth (queueKey q 0x04) / 8) 1) = v
  have hqueue : v.queue q = s.queue q := by rw [← hv, State.acceptWrite_queue]; rfl
  rw [← hqueue]
  exact v.switchQueue_switches q 1

theorem queueDisable_disables (s : State) (t : Nat) (p : Path) (q : Fin 16) (hcore : s.coreOn) (hmay : s.mayWrite t p (queueKey q 0x04) 0) :
    answers (.queueDisable t p q) s fun s' =>
      (s'.queue q).state = (if (s.queue q).state = 2 then 2 else 0) ∧ (s'.queue q).fetched = (s.queue q).fetched := by
  have hexec : exec (.queueDisable t p q) s = execQueueDisable t p q s := rfl
  refine answers_controlledNum hexec hcore hmay ?_
  generalize hv : (s.advance t).acceptWrite p (queueKey q 0x04) (leBytes (objWidth (queueKey q 0x04) / 8) 0) = v
  have hqueue : v.queue q = s.queue q := by rw [← hv, State.acceptWrite_queue]; rfl
  rw [← hqueue]
  exact v.switchQueue_switches q 0

theorem queueReset_restarts (s : State) (t : Nat) (p : Path) (q : Fin 16) (hcore : s.coreOn) (hmay : s.mayWrite t p (queueKey q 0x04) 2) :
    answers (.queueReset t p q) s fun s' => (s'.queue q).state = 1 ∧ (s'.queue q).expect = 0 ∧ (s'.queue q).fetched = [] ∧
      (s'.queue q).head = (s.queue q).tail := by
  have hexec : exec (.queueReset t p q) s = execQueueReset t p q s := rfl
  refine answers_controlledNum hexec hcore hmay ?_
  generalize hv : (s.advance t).acceptWrite p (queueKey q 0x04) (leBytes (objWidth (queueKey q 0x04) / 8) 2) = v
  have hqueue : v.queue q = s.queue q := by rw [← hv, State.acceptWrite_queue]; rfl
  obtain ⟨y, hy⟩ := State.settle_queue_posts (v.resetQueue q) q
  rw [hy, State.resetQueue, State.setQueue_queue_same, hqueue]
  exact ⟨rfl, rfl, rfl, rfl⟩

theorem completionHeadWrite_releases (s : State) (t : Nat) (q : Fin 16) (v : BitVec 32) (hcore : s.coreOn) (hin : v.toNat < s.ringSize q)
    (hfew : (v.toNat + s.ringSize q - (s.queue q).compHead % s.ringSize q) % s.ringSize q ≤ (s.queue q).compUsed) :
    answers (.completionHeadWrite t q v) s fun s' => (s'.queue q).compHead = v.toNat ∧ (s'.queue q).fetched = (s.queue q).fetched := by
  have hexec : exec (.completionHeadWrite t q v) s = execCompletionHeadWrite t q v s := rfl
  refine answers_core hexec hcore ?_
  have hin' : ¬ (s.advance t).ringSize q ≤ v.toNat := Nat.not_le.mpr hin
  have hone : max ((s.advance t).ringSize q) 1 = s.ringSize q := Nat.max_eq_left (show 1 ≤ s.ringSize q by omega)
  have hfew' : (v.toNat + s.ringSize q - ((s.advance t).queue q).compHead % s.ringSize q) % s.ringSize q ≤
      ((s.advance t).queue q).compUsed := hfew
  unfold State.releaseRecords
  dsimp only
  rw [if_neg hin', hone, if_pos hfew']
  generalize hx : ({ (s.advance t).queue q with compHead := _, compUsed := _ } : Queue) = x
  obtain ⟨y, hy⟩ := State.settle_queue_posts ((s.advance t).setQueue q x) q
  rw [hy, State.setQueue_queue_same, ← hx]
  exact ⟨rfl, rfl⟩

/-- Settles O22: it holds. -/
theorem queueControl : Obligations.queue_control :=
  ⟨queueDoorbell_fetches, queueDoorbell_halts, fun s t p q hcore => ⟨queueEnable_enables s t p q hcore, queueDisable_disables s t p q hcore,
    queueReset_restarts s t p q hcore⟩, completionHeadWrite_releases⟩

/-! #### Images (O21) -/

theorem State.imageOk_congr {s s' : State} (hboot : s'.boot = s.boot) (htick : s'.tick = s.tick) (hpower : s'.power = s.power) (im : Image) :
    s'.imageOk im = s.imageOk im := by
  rw [State.imageOk, State.imageOk, State.imageSigned, State.imageSigned, State.reduced, State.reduced, hboot, htick, hpower]

theorem State.slotStart_congr {s s' : State} (h : s'.comp = s.comp) : s'.slotStart = s.slotStart := by
  funext x
  rw [State.slotStart, State.slotStart, State.residentWith, State.residentWith, h]

/-- What an image load reads is as it was before its write was accepted. -/
theorem State.accepted_image (s : State) (t : Nat) (p : Path) (k : Nat) (d : List Byte) :
    let w := (s.advance t).acceptWrite p k d
    w.boot = s.boot ∧ w.head = s.head ∧ w.comp = s.comp ∧ ∀ im, w.imageOk im = s.imageOk im :=
  ⟨only_boot (State.acceptWrite_same (by decide) ..), only_head (State.acceptWrite_same (by decide) ..),
    only_comp (State.acceptWrite_same (by decide) ..),
    State.imageOk_congr (only_boot (State.acceptWrite_same (by decide) ..)) (only_tick (State.acceptWrite_same (by decide) ..))
      (only_power (State.acceptWrite_same (by decide) ..))⟩

theorem imageLoadFromNor_loads (s : State) (t : Nat) (p : Path) (v : Nat) (im : Image) (hcore : s.coreOn)
    (hmay : s.mayWrite t p 0x280101 v) (him : (if v = 1 then s.boot.imageA else s.boot.imageB) = some im) (hok : s.imageOk im) :
    answers (.imageLoadFromNor t p v) s fun s' => s'.head.imgState = 1 ∧ s'.head.image = s.head.image ∧
      ∃ l, s'.head.loading = some l ∧ l.img = im ∧ l.bank = v ∧ l.slots = tableOf (im.slots.map fun x => (x.slot, s.slotStart x)) := by
  have hexec : exec (.imageLoadFromNor t p v) s = execImageLoadFromNor t p v s := rfl
  refine answers_controlledNum hexec hcore hmay ?_
  obtain ⟨hboot, hhead, hcomp, hok'⟩ := s.accepted_image t p 0x280101 (leBytes (objWidth 0x280101 / 8) v)
  generalize (s.advance t).acceptWrite p 0x280101 (leBytes (objWidth 0x280101 / 8) v) = w at hboot hhead hcomp hok'
  rw [hboot, him, State.loadImage, if_pos ((hok' im).trans hok), State.settle_head, State.startLoad, State.emit_head, State.onHead_head, hhead, State.slotStart_congr hcomp]
  exact ⟨rfl, rfl, _, rfl, rfl, rfl, rfl⟩

theorem State.refuseImage_refuses (s : State) : s.refuseImage.head = { s.head with imgState := 2 } ∧
    s.refuseImage.obj 0x280104 = (s.obj 0x280104 + 1) % 2 ^ objWidth 0x280104 := by
  rw [State.refuseImage, State.emit_head, State.incr_head, State.onHead_head, State.emit_head,
    State.emit_obj _ _ _ _ (by decide) (by decide), State.incr_obj_same, State.obj_congr (State.onHead_od _ _),
    State.emit_obj _ _ _ _ (by decide) (by decide)]
  exact ⟨rfl, rfl⟩

/-- A place without an image that passes is refused (R332). -/
theorem State.loadImage_refuses {s : State} {o : Option Image} (h : ∀ im, o = some im → s.imageOk im = false) (bank : Nat) :
    (s.loadImage o bank).1 = s.refuseImage := by
  unfold State.loadImage
  split
  · next im => rw [if_neg (ne_true_of_eq_false (h im rfl))]
  · rfl

theorem imageLoadFromNor_refuses (s : State) (t : Nat) (p : Path) (v : Nat) (hcore : s.coreOn) (hmay : s.mayWrite t p 0x280101 v)
    (hbad : ∀ im, (if v = 1 then s.boot.imageA else s.boot.imageB) = some im → s.imageOk im = false) :
    answers (.imageLoadFromNor t p v) s fun s' => s'.head = { s.head with imgState := 2 } ∧
      s'.obj 0x280104 = (s.obj 0x280104 + 1) % 2 ^ objWidth 0x280104 := by
  have hexec : exec (.imageLoadFromNor t p v) s = execImageLoadFromNor t p v s := rfl
  refine answers_controlledNum hexec hcore hmay ?_
  obtain ⟨hboot, hhead, -, hok'⟩ := s.accepted_image t p 0x280101 (leBytes (objWidth 0x280101 / 8) v)
  have hobj : ((s.advance t).acceptWrite p 0x280101 (leBytes (objWidth 0x280101 / 8) v)).obj 0x280104 = s.obj 0x280104 :=
    State.acceptWrite_obj _ _ _ _ (by decide)
  generalize (s.advance t).acceptWrite p 0x280101 (leBytes (objWidth 0x280101 / 8) v) = w at hboot hhead hok' hobj
  obtain ⟨hrhead, hrobj⟩ := w.refuseImage_refuses
  rw [hboot, State.loadImage_refuses (fun im him => (hok' im).trans (hbad im him)), State.settle_head,
    State.settle_obj _ (by decide) (by decide), hrhead, hrobj, hhead, hobj]
  exact ⟨rfl, rfl⟩

/-! #### Slots (O21) -/

theorem slotKey_bounds (n : Fin 16) {u : Nat} (hu : u < 0x100) : 0x282000 ≤ slotKey n u ∧ slotKey n u < 0x283000 := by
  unfold slotKey
  omega

theorem State.emit_slotKey (s : State) (a b c : Nat) (n : Fin 16) {u : Nat} (hu : u < 0x100) :
    (s.emit a b c).obj (slotKey n u) = s.obj (slotKey n u) := by
  have hkey := slotKey_bounds n hu
  exact State.emit_obj _ _ _ _ (by omega) (by omega)

/-- The judgement of a slot's weights, and its counts (R334). -/
theorem State.hashed_judges (s : State) (n : Fin 16) (digest : Nat) (x : Slot) :
    (s.hashed n digest x).1 = { x with state := if digest = x.want then 2 else 3, digest := digest, reload := false } ∧
    (s.hashed n digest x).2.obj (slotKey n 0x05) = (s.obj (slotKey n 0x05) + 1) % 2 ^ objWidth (slotKey n 0x05) ∧
    (s.hashed n digest x).2.obj (slotKey n 0x06) = (if digest = x.want then s.obj (slotKey n 0x06)
      else (s.obj (slotKey n 0x06) + 1) % 2 ^ objWidth (slotKey n 0x06)) := by
  have hne : slotKey n 0x05 ≠ slotKey n 0x06 := by
    unfold slotKey
    omega
  unfold State.hashed
  dsimp only
  generalize hv : (s.healSlabs x).incr (slotKey n 0x05) = v
  have h5 : v.obj (slotKey n 0x05) = (s.obj (slotKey n 0x05) + 1) % 2 ^ objWidth (slotKey n 0x05) := by
    rw [← hv, State.incr_obj_same]
    rfl
  have h6 : v.obj (slotKey n 0x06) = s.obj (slotKey n 0x06) := by
    rw [← hv, State.incr_obj_ne _ _ hne.symm]
    rfl
  by_cases hgood : digest = x.want
  · rw [if_pos hgood, if_pos hgood, if_pos hgood]
    refine ⟨rfl, ?_⟩
    dsimp only
    split
    · rw [State.emit_slotKey _ _ _ _ n (by decide), State.emit_slotKey _ _ _ _ n (by decide)]
      exact ⟨h5, h6⟩
    · exact ⟨h5, h6⟩
  · rw [if_neg hgood, if_neg hgood, if_neg hgood]
    dsimp only
    rw [State.emit_slotKey _ _ _ _ n (by decide), State.emit_slotKey _ _ _ _ n (by decide), State.incr_obj_ne _ _ hne,
      State.incr_obj_same, h6]
    exact ⟨rfl, h5, rfl⟩

theorem slotHashComplete_judges (s : State) (t : Nat) (n : Fin 16) (digest : Nat) (x : Slot) (hcore : s.coreOn)
    (hslot : tget s.comp.slots n {} = x) (hloads : x.loads) : answers (.slotHashComplete t n digest) s fun s' =>
      tget s'.comp.slots n {} = { x with state := if digest = x.want then 2 else 3, digest := digest, reload := false } ∧
      s'.obj (slotKey n 0x05) = (s.obj (slotKey n 0x05) + 1) % 2 ^ objWidth (slotKey n 0x05) ∧
      s'.obj (slotKey n 0x06) = (if digest = x.want then s.obj (slotKey n 0x06)
        else (s.obj (slotKey n 0x06) + 1) % 2 ^ objWidth (slotKey n 0x06)) := by
  have hexec : exec (.slotHashComplete t n digest) s = execSlotHashComplete t n digest s := rfl
  refine answers_core hexec hcore ?_
  have hslot' : tget (s.advance t).comp.slots n {} = x := hslot
  obtain ⟨hjudged, h5, h6⟩ := State.hashed_judges (s.advance t) n digest x
  have hkey5 := slotKey_bounds n (u := 0x05) (by decide)
  have hkey6 := slotKey_bounds n (u := 0x06) (by decide)
  unfold State.slotHash
  dsimp only
  rw [hslot', if_pos hloads, State.settle_comp_slots, State.settle_obj _ (by omega) (by omega), State.settle_obj _ (by omega) (by omega),
    State.onComp_comp, State.obj_congr (State.onComp_od _ _), State.obj_congr (State.onComp_od _ _), h5, h6]
  refine ⟨?_, rfl, rfl⟩
  dsimp only
  rw [tget_tset_same, hjudged]

theorem slotReload_reloads (s : State) (t : Nat) (p : Path) (n : Fin 16) (v : Nat) (hcore : s.coreOn) (hmay : s.mayWrite t p (slotKey n 0x08) v)
    (hfailed : (tget s.comp.slots n {}).state = 3) : answers (.slotReload t p n v) s fun s' =>
      s'.comp.slots = tset s.comp.slots n { tget s.comp.slots n {} with reload := true } := by
  have hexec : exec (.slotReload t p n v) s = execSlotReload t p n v s := rfl
  refine answers_controlledNum hexec hcore hmay ?_
  generalize hw : (s.advance t).acceptWrite p (slotKey n 0x08) (leBytes (objWidth (slotKey n 0x08) / 8) v) = w
  have hcomp : w.comp = s.comp := by
    rw [← hw]
    exact only_comp (State.acceptWrite_same (by decide) ..)
  have hfailed' : (tget w.comp.slots n {}).state = 3 := by rw [hcomp]; exact hfailed
  rw [State.settle_comp_slots, State.reloadSlot, if_pos hfailed', State.onComp_comp, hcomp]

/-- Settles O21: it holds. -/
theorem imagesAndSlots : Obligations.images_and_slots :=
  ⟨imageLoadFromNor_loads, imageLoadFromNor_refuses, slotHashComplete_judges, slotReload_reloads⟩

end Sys2Proof.Machine
end

section
/-! ### Transfers, translation faults and SRAM (O18, O19, O20) -/
namespace Sys2Proof.Machine

/-! #### Transfers that end -/

theorem State.sendTok_xfer (s : State) (c : Nat) (x : Tok) : (s.sendTok c x).xfer = s.xfer := only_xfer (State.sendTok_same (by decide) ..)

theorem sendToks_xfer (l : List Nat) (x : Tok) (s : State) : (l.foldl (fun s c => s.sendTok c x) s).xfer = s.xfer :=
  List.foldlRecOn (motive := fun s' : State => s'.xfer = s.xfer) l _ rfl fun s' ih c _ => (s'.sendTok_xfer c x).trans ih

theorem State.abandonOne_xfer (s : State) (x : Xfer) (reason : Nat) :
    (s.abandonOne x reason).xfer = { s.xfer with active := s.xfer.active.filter fun z => z.xid != x.xid } :=
  sendToks_xfer _ _ _

/-- Of the transfers, an end leaves some as they are. -/
theorem State.abandonGroup_active (l : List Xfer) (reason : Nat) (s : State) :
    ∀ y ∈ (l.foldl (fun s y => s.abandonOne y reason) s).xfer.active, y ∈ s.xfer.active ∧ ∀ x ∈ l, y.xid ≠ x.xid := by
  induction l generalizing s with
  | nil => exact fun y hy => ⟨hy, fun x hx => absurd hx List.not_mem_nil⟩
  | cons x l ih =>
    intro y hy
    obtain ⟨hmem, hne⟩ := ih _ y hy
    rw [State.abandonOne_xfer] at hmem
    obtain ⟨hmem, hx⟩ := List.mem_filter.mp hmem
    refine ⟨hmem, fun z hz => ?_⟩
    rcases List.mem_cons.mp hz with rfl | hz
    · exact bne_iff_ne.mp hx
    · exact hne z hz

theorem xfersFrom_nil {xid : Nat} {l : List Xfer} (h : xfersFrom xid l = []) : ∀ y ∈ l, y.xid ≠ xid := by
  induction l with
  | nil => exact fun y hy => absurd hy List.not_mem_nil
  | cons x r ih =>
    rw [xfersFrom] at h
    split at h
    · exact absurd h (List.cons_ne_nil _ _)
    · next hx =>
      intro y hy
      rcases List.mem_cons.mp hy with rfl | hy
      · exact hx
      · exact ih h y hy

theorem xfersFrom_head {xid : Nat} {l r : List Xfer} {y : Xfer} (h : xfersFrom xid l = y :: r) : y.xid = xid := by
  induction l with
  | nil => exact absurd h (List.cons_ne_nil _ _).symm
  | cons x l ih =>
    rw [xfersFrom] at h
    split at h
    · next hx => rw [← (List.cons.inj h).1]; exact hx
    · exact ih h

/-- An abandoned transfer is over, and the others are as they were (R303). -/
theorem State.abandon_active (s : State) (x : Xfer) (reason : Nat) :
    ∀ y ∈ (s.abandon x reason).xfer.active, y ∈ s.xfer.active ∧ y.xid ≠ x.xid := by
  intro y hy
  obtain ⟨hmem, hne⟩ := State.abandonGroup_active (s.mergeGroup x) reason s y hy
  refine ⟨hmem, ?_⟩
  unfold State.mergeGroup at hne
  split at hne
  · next z r hz =>
    have hhead := hne z List.mem_cons_self
    rw [xfersFrom_head hz] at hhead
    exact hhead
  · next hnil => exact xfersFrom_nil hnil y hmem

theorem State.abandon_obj (s : State) (x : Xfer) (reason : Nat) {j : Nat} (h5 : j ≠ 0x270005) (h6 : j ≠ 0x270006) :
    (s.abandon x reason).obj j = s.obj j :=
  List.foldlRecOn (motive := fun s' : State => s'.obj j = s.obj j) _ _ rfl fun s' ih y _ =>
    (State.abandonOne_obj s' y reason h5 h6).trans ih

theorem State.setXfer_active (s : State) (x : Xfer) : ∀ y ∈ (s.setXfer x).xfer.active, y.xid = x.xid → y = x := by
  intro y hy hid
  obtain ⟨z, -, hz⟩ := List.mem_map.mp hy
  split at hz
  · exact hz.symm
  · next hne => rw [hz] at hne; exact absurd hid hne

/-! #### Chunks (O18) -/

theorem State.readyXfer_xid {s : State} {i : Nat} {x : Xfer} (h : s.readyXfer i = some x) : x.xid = i := by
  obtain ⟨hfind, -⟩ := Option.filter_eq_some_iff.mp h
  have hid := List.find?_some hfind
  exact beq_iff_eq.mp hid

/-- What the next chunk of a transfer of its own comes to when it has memory everywhere. -/
theorem exec_chunkVisible {s : State} {t i : Nat} {crcOk : Bool} {data : List Byte} {x : Xfer} (hcore : s.coreOn)
    (hhole : s.xferHole i data = none) (hready : s.readyXfer i = some x) :
    exec (.chunkVisible t i crcOk data) s = .next ((s.advance t).chunkVisible x crcOk data).settle := by
  have hexec : exec (.chunkVisible t i crcOk data) s = execChunkVisible t i crcOk data s := rfl
  have hready' : (s.advance t).readyXfer i = some x := hready
  rw [hexec, execChunkVisible, if_pos hcore, hhole]
  dsimp only
  rw [whenCore, if_pos hcore, hready']

/-- A chunk without fault, mismatch and bad word is applied (R281). -/
theorem State.chunkVisible_applies {s : State} {x : Xfer} {crcOk : Bool} {data : List Byte} (hgroup : s.mergeGroup x = [x])
    (hfail : s.chunkFail x data = none) (hcrc : x.dst.chunkCrc → crcOk) (hbad : s.chunkBad x (s.chunkPairs x x.next data) = none) :
    s.chunkVisible x crcOk data = s.applyChunk x data := by
  have hmatch : ¬ (x.dst.chunkCrc = true ∧ ¬ crcOk = true) := fun h => h.2 (hcrc h.1)
  unfold State.chunkVisible
  dsimp only
  rw [hgroup]
  simp only [List.findSome?_cons, List.findSome?_nil, hfail, Option.map_none, if_neg hmatch, hbad]
  rfl

/-- A chunk whose CRC does not match is not applied (R282). -/
theorem State.chunkVisible_mismatches {s : State} {x : Xfer} {data : List Byte} (hgroup : s.mergeGroup x = [x])
    (hfail : s.chunkFail x data = none) (hcrc : x.dst.chunkCrc) : s.chunkVisible x false data = s.chunkMismatch x := by
  have hmatch : x.dst.chunkCrc = true ∧ ¬ false = true := ⟨hcrc, Bool.false_ne_true⟩
  unfold State.chunkVisible
  dsimp only
  rw [hgroup]
  simp only [List.findSome?_cons, List.findSome?_nil, hfail, Option.map_none, if_pos hmatch]

/-- The last chunk ends its transfer. -/
theorem State.applyChunk_ends {s : State} {x : Xfer} (hlast : x.next + 1 = x.chunks) (data : List Byte) :
    ∀ y ∈ (s.applyChunk x data).xfer.active, y.xid ≠ x.xid := by
  have hlast' : ({ x with next := x.next + 1, retried := false } : Xfer).next =
      ({ x with next := x.next + 1, retried := false } : Xfer).chunks := hlast
  unfold State.applyChunk
  dsimp only
  rw [if_pos hlast']
  intro y hy
  exact bne_iff_ne.mp (List.mem_filter.mp hy).2

theorem chunkVisible_applied (s : State) (t i : Nat) (crcOk : Bool) (data : List Byte) (x : Xfer) (hcore : s.coreOn)
    (hhole : s.xferHole i data = none) (hready : s.readyXfer i = some x) (hgroup : s.mergeGroup x = [x])
    (hfail : s.chunkFail x data = none) (hcrc : x.dst.chunkCrc → crcOk) (hbad : s.chunkBad x (s.chunkPairs x x.next data) = none) :
    exec (.chunkVisible t i crcOk data) s = .next ((s.advance t).applyChunk x data).settle ∧
      (x.next + 1 = x.chunks → answers (.chunkVisible t i crcOk data) s fun s' => ∀ y ∈ s'.xfer.active, y.xid ≠ i) := by
  have happly : (s.advance t).chunkVisible x crcOk data = (s.advance t).applyChunk x data :=
    State.chunkVisible_applies (s := s.advance t) hgroup hfail hcrc hbad
  have hexec := exec_chunkVisible (t := t) (crcOk := crcOk) hcore hhole hready
  rw [happly] at hexec
  refine ⟨hexec, fun hlast => ⟨_, hexec, ?_⟩⟩
  dsimp only
  rw [State.settle_xfer, ← State.readyXfer_xid hready]
  exact State.applyChunk_ends hlast data

theorem chunkVisible_mismatched (s : State) (t i : Nat) (data : List Byte) (x : Xfer) (hcore : s.coreOn)
    (hhole : s.xferHole i data = none) (hready : s.readyXfer i = some x) (hgroup : s.mergeGroup x = [x])
    (hfail : s.chunkFail x data = none) (hcrc : x.dst.chunkCrc) :
    answers (.chunkVisible t i false data) s fun s' => s'.sram = s.sram ∧ s'.dram = s.dram ∧
      s'.obj 0x270004 = (s.obj 0x270004 + 1) % 2 ^ objWidth 0x270004 ∧
      (x.retried = false → ∀ y ∈ s'.xfer.active, y.xid = i → y = { x with retried := true }) ∧
      (x.retried = true → ∀ y ∈ s'.xfer.active, y.xid ≠ i) := by
  have hmis : (s.advance t).chunkVisible x false data = (s.advance t).chunkMismatch x :=
    State.chunkVisible_mismatches (s := s.advance t) hgroup hfail hcrc
  have hexec := exec_chunkVisible (t := t) (crcOk := false) hcore hhole hready
  rw [hmis] at hexec
  refine ⟨_, hexec, ?_⟩
  dsimp only
  have hid := State.readyXfer_xid hready
  rw [State.settle_sram, State.settle_dram, State.settle_xfer, State.settle_obj _ (by decide) (by decide),
    only_sram (State.chunkMismatch_same (by decide) ..), only_dram (State.chunkMismatch_same (by decide) ..)]
  refine ⟨rfl, rfl, ?_⟩
  unfold State.chunkMismatch
  dsimp only
  generalize hv : (((s.advance t).incr 0x270004).emit 0x7005) = v
  have hobj : v.obj 0x270004 = (s.obj 0x270004 + 1) % 2 ^ objWidth 0x270004 := by
    rw [← hv, State.emit_obj _ _ _ _ (by decide) (by decide), State.incr_obj_same]
    rfl
  split
  · next hretried =>
    rw [State.abandon_obj _ _ _ (by decide) (by decide)]
    exact ⟨hobj, fun h => absurd hretried (ne_true_of_eq_false h), fun _ y hy => hid ▸ (State.abandon_active v x 6 y hy).2⟩
  · next hfirst =>
    exact ⟨hobj, fun _ y hy hi => State.setXfer_active v _ y hy (hi.trans hid.symm), fun h => absurd h hfirst⟩

theorem chunkVisible_hole (s : State) (t i a : Nat) (crcOk : Bool) (data : List Byte) (hcore : s.coreOn)
    (hhole : s.xferHole i data = some a) : exec (.chunkVisible t i crcOk data) s = .fault (.noSuchMemory a) := by
  have hexec : exec (.chunkVisible t i crcOk data) s = execChunkVisible t i crcOk data s := rfl
  rw [hexec, execChunkVisible, if_pos hcore, hhole]

/-- Settles O18: it holds. -/
theorem chunkBecomesVisible : Obligations.chunk_becomes_visible :=
  ⟨chunkVisible_applied, chunkVisible_mismatched, chunkVisible_hole⟩

/-! #### Translation faults (O19) -/

theorem State.hole_congr {s s' : State} (hboot : s'.boot = s.boot) (hpower : s'.power = s.power) (m a : Nat) : s'.hole m a = s.hole m a := by
  have hdram : s'.dramSize = s.dramSize := congrArg (fun b => b.dramMiB * 2 ^ 20) hboot
  have hworking : s'.working = s.working := congrArg (fun w : PowerSt => w.mode == .run || w.mode == .reduced) hpower
  unfold State.hole
  rw [hdram, hworking]

/-- A walk reads tables in memory, and the memory and its state alone decide it (R295). -/
theorem State.walkFrom_congr {s s' : State} (hhole : ∀ m a, s'.hole m a = s.hole m a) (hbad : ∀ m a, s'.badWord m a = s.badWord m a)
    (hread : ∀ m a n, s'.readBytes m a n = s.readBytes m a n) (va access mem n : Nat) (table : Place) :
    s'.walkFrom va access mem n table = s.walkFrom va access mem n table := by
  induction n generalizing table with
  | zero => rfl
  | succ n ih =>
    unfold State.walkFrom
    simp only [hhole, hbad, hread, ih]

theorem State.walk_congr {s s' : State} (hcfg : s'.inForce = s.inForce) (hboot : s'.boot = s.boot) (hpower : s'.power = s.power)
    (hcomp : s'.comp = s.comp) (hsram : s'.sram = s.sram) (hdram : s'.dram = s.dram) (pd va access mem : Nat) :
    s'.walk pd va access mem = s.walk pd va access mem := by
  have hbad (m a : Nat) : s'.badWord m a = s.badWord m a := congrArg (fun c : ComputeSt => m == 0 && c.bad.contains (a / 8 * 8)) hcomp
  have hread (m a n : Nat) : s'.readBytes m a n = s.readBytes m a n :=
    congrArg (List.map · (List.range n)) (funext fun i => State.readByte_congr hsram hdram hpower m (a + i))
  unfold State.walk
  simp only [State.cfg_congr hcfg, State.walkFrom_congr (State.hole_congr hboot hpower) hbad hread]

theorem State.faulted_congr {s s' : State} (hxfer : s'.xfer = s.xfer) (hnow : s'.now = s.now) (id : Nat) :
    s'.faulted id = s.faulted id := by
  simp only [State.faulted, hxfer, hnow]

theorem State.postFault_xfer {s : State} {r : FaultRec} (hring : s.xfer.ringCount < 64) :
    (s.postFault r).xfer.last = s.xfer.last ∧ (s.postFault r).xfer.active = s.xfer.active ∧
      (s.postFault r).xfer.ringCount = s.xfer.ringCount + 1 := by
  rw [State.postFault, if_pos hring]
  exact ⟨rfl, rfl, rfl⟩

theorem State.postFault_sends {s : State} {r : FaultRec} (hring : s.xfer.ringCount < 64) :
    .faultRecord s.xfer.ringProd r ∈ (s.postFault r).out ∧ .msix 16 ∈ (s.postFault r).out := by
  rw [State.postFault, if_pos hring]
  dsimp only
  exact ⟨State.send_out_mem (State.sent ..), State.sent ..⟩

/-- A fault of a host-owned domain is posted to its ring, once its transfer holds it (R298, R301). -/
theorem State.raiseFault_host {s : State} {x : Xfer} {chunk : Nat} {n : Need} {kind level : Nat} {entry : Place}
    (hhost : (s.cfg (0x270501 + n.pd)).testBit 1) : ∃ r u, s.raiseFault x chunk n kind level entry = State.postFault u r ∧
      r.id = s.xfer.faultId ∧ r.kind = kind ∧ r.level = level ∧ r.va = n.va ∧ r.chunk = chunk ∧ r.host = true ∧
      u.xfer.last = some r ∧ u.xfer.ringProd = s.xfer.ringProd ∧ u.xfer.ringCount = s.xfer.ringCount ∧
      ∀ y ∈ u.xfer.active, y.xid = x.xid → y.fault = some r := by
  unfold State.raiseFault
  dsimp only
  rw [if_pos hhost]
  refine ⟨_, _, rfl, rfl, rfl, rfl, rfl, rfl, hhost, ?_⟩
  rw [State.emit_xfer, State.incr_xfer]
  exact ⟨rfl, rfl, rfl, fun y hy hid => congrArg Xfer.fault (State.setXfer_active s _ y hy hid)⟩

theorem State.translationFault_cases (t i chunk va access : Nat) (e : Bool) (s : State) {x : Xfer} {kind level : Nat} {entry : Place}
    (hcore : s.coreOn) (hx : s.faultable i chunk = some x)
    (hwalk : s.walk (x.sideMem access).1 va access (x.sideMem access).2 = .fails kind level entry) :
    exec (.translationFault t i chunk va access e) s = .next
      ((s.advance t).raiseFault x chunk ⟨va, (x.sideMem access).1, access, (x.sideMem access).2⟩ kind level entry).settle := by
  have hexec : exec (.translationFault t i chunk va access e) s = execTranslationFault t i chunk va access e s := rfl
  have hx' : (s.advance t).faultable i chunk = some x := hx
  have hwalk' : (s.advance t).walk (x.sideMem access).1 va access (x.sideMem access).2 = .fails kind level entry :=
    (State.walk_congr rfl rfl rfl rfl rfl rfl ..).trans hwalk
  rw [hexec, execTranslationFault, if_pos hcore, hx, Option.map_some, hwalk]
  dsimp only
  rw [whenCore, if_pos hcore, hx']
  dsimp only
  rw [hwalk']

theorem State.faultable_xid {s : State} {i chunk : Nat} {x : Xfer} (h : s.faultable i chunk = some x) : x.xid = i := by
  obtain ⟨hfind, -⟩ := Option.filter_eq_some_iff.mp h
  have hid := List.find?_some hfind
  exact beq_iff_eq.mp hid

theorem translationFault_posted (s : State) (t i chunk va access kind level : Nat) (e : Bool) (x : Xfer) (entry : Place)
    (hcore : s.coreOn) (hx : s.faultable i chunk = some x)
    (hwalk : s.walk (x.sideMem access).1 va access (x.sideMem access).2 = .fails kind level entry)
    (hhost : (s.cfg (0x270501 + (x.sideMem access).1)).testBit 1) (hring : s.xfer.ringCount < 64) :
    answers (.translationFault t i chunk va access e) s fun s' => ∃ r, s'.xfer.last = some r ∧ r.id = s.xfer.faultId ∧ r.kind = kind ∧
      r.level = level ∧ r.va = va ∧ r.chunk = chunk ∧ r.host = true ∧ (∀ y ∈ s'.xfer.active, y.xid = i → y.fault = some r) ∧
      .faultRecord s.xfer.ringProd r ∈ s'.out ∧ .msix 16 ∈ s'.out ∧ s'.xfer.ringCount = s.xfer.ringCount + 1 := by
  obtain ⟨r, u, hraise, hid, hkind, hlevel, hva, hchunk, hrhost, hlast, hprod, hcount, hactive⟩ :=
    State.raiseFault_host (s := s.advance t) (x := x) (chunk := chunk) (n := ⟨va, (x.sideMem access).1, access, (x.sideMem access).2⟩)
      (kind := kind) (level := level) (entry := entry) hhost
  have hring' : u.xfer.ringCount < 64 := hcount ▸ hring
  obtain ⟨hplast, hpactive, hpcount⟩ := State.postFault_xfer (r := r) hring'
  obtain ⟨hrecord, hmsix⟩ := State.postFault_sends (r := r) hring'
  have hexec := State.translationFault_cases t i chunk va access e s hcore hx hwalk
  rw [hraise] at hexec
  rw [hprod] at hrecord
  refine ⟨_, hexec, r, ?_⟩
  rw [State.settle_xfer, hplast, hpactive, hpcount, hcount]
  exact ⟨hlast, hid, hkind, hlevel, hva, hchunk, hrhost, fun y hy hi => hactive y hy (hi.trans (State.faultable_xid hx).symm),
    State.settle_out_mem hrecord, State.settle_out_mem hmsix, rfl⟩

/-- The transfer and the fault that a response names, while it is written (R299). -/
theorem State.respond_faulted {s : State} {t k : Nat} {p : Path} {data : List Byte} {v : Nat} {z : Xfer × FaultRec}
    (h : (s.advance t).faulted (bits v 23 8) = some z) : ((s.advance t).acceptWrite p k data).faulted (bits v 23 8) = some z :=
  (State.faulted_congr (State.acceptWrite_xfer ..) (State.acceptWrite_now ..) _).trans h

theorem faultResume_resumes (s : State) (t : Nat) (p : Path) (v : BitVec 32) (x : Xfer) (f : FaultRec) (a : Place) (size pte : Nat)
    (hcore : s.coreOn) (hmay : s.mayWrite t p 0x270406 v.toNat) (hfault : (s.advance t).faulted (bits v.toNat 23 8) = some (x, f))
    (hone : bits v.toNat 1 0 = 1) (hwalk : s.walk f.pd f.va (if f.access = 3 then 0 else f.access) f.mem = .page a size pte) :
    answers (.faultResume t p v) s fun s' => (∀ y ∈ s'.xfer.active, y.xid = x.xid → y.fault = none) ∧
      s'.obj 0x270403 = (s.obj 0x270403 + 1) % 2 ^ objWidth 0x270403 := by
  have hexec : exec (.faultResume t p v) s = execFaultResume t p v s := rfl
  refine answers_controlledNum hexec hcore hmay ?_
  generalize hw : (s.advance t).acceptWrite p 0x270406 (leBytes (objWidth 0x270406 / 8) v.toNat) = w
  have hfault' : w.faulted (bits v.toNat 23 8) = some (x, f) := hw ▸ State.respond_faulted hfault
  have hwalk' : w.walk f.pd f.va (if f.access = 3 then 0 else f.access) f.mem = .page a size pte := by
    rw [← hw, State.walk_congr (s := s.advance t) (by simp) (by simp) (by simp) (by simp) (by simp) (by simp)]
    exact (State.walk_congr rfl rfl rfl rfl rfl rfl ..).trans hwalk
  have hobj : w.obj 0x270403 = s.obj 0x270403 := by
    rw [← hw, State.acceptWrite_obj _ _ _ _ (by decide)]
    rfl
  have hrespond : w.respond v.toNat = w.resumed x := by
    rw [State.respond, hfault']
    dsimp only
    rw [if_pos hone, State.resume]
    rw [hwalk']
  rw [hrespond, State.settle_xfer, State.settle_obj _ (by decide) (by decide), State.resumed, State.emit_xfer, State.incr_xfer,
    State.emit_obj _ _ _ _ (by decide) (by decide), State.incr_obj_same]
  exact ⟨fun y hy hid => congrArg Xfer.fault (State.setXfer_active w _ y hy hid), congrArg (fun n => (n + 1) % _) hobj⟩

theorem faultAbandon_ends (s : State) (t : Nat) (p : Path) (v : BitVec 32) (x : Xfer) (f : FaultRec) (hcore : s.coreOn)
    (hmay : s.mayWrite t p 0x270406 v.toNat) (hfault : (s.advance t).faulted (bits v.toNat 23 8) = some (x, f))
    (htwo : bits v.toNat 1 0 = 2) : answers (.faultAbandon t p v) s fun s' => ∀ y ∈ s'.xfer.active, y.xid ≠ x.xid := by
  have hexec : exec (.faultAbandon t p v) s = execFaultAbandon t p v s := rfl
  have hone : ¬ bits v.toNat 1 0 = 1 := by omega
  refine answers_controlledNum hexec hcore hmay ?_
  generalize hw : (s.advance t).acceptWrite p 0x270406 (leBytes (objWidth 0x270406 / 8) v.toNat) = w
  have hfault' : w.faulted (bits v.toNat 23 8) = some (x, f) := hw ▸ State.respond_faulted hfault
  rw [State.settle_xfer, State.respond, hfault']
  dsimp only
  rw [if_neg hone, State.emit_xfer]
  exact fun y hy => (State.abandon_active w x 1 y hy).2

theorem State.missDeadline_active (s : State) (x : Xfer) :
    ∀ y ∈ (s.missDeadline x).xfer.active, y ∈ s.xfer.active ∧ y.xid ≠ x.xid := by
  rw [State.missDeadline, State.emit_xfer, State.incr_xfer]
  exact s.abandon_active x 1

/-- Missed deadlines end their transfers and leave the others (R302). -/
theorem missDeadlines_active (l : List Xfer) (s : State) : ∀ y ∈ (l.foldl State.missDeadline s).xfer.active,
    y ∈ s.xfer.active ∧ ∀ x ∈ l, y.xid ≠ x.xid := by
  induction l generalizing s with
  | nil => exact fun y hy => ⟨hy, fun x hx => absurd hx List.not_mem_nil⟩
  | cons x l ih =>
    intro y hy
    obtain ⟨hmem, hne⟩ := ih _ y hy
    obtain ⟨hmem, hx⟩ := s.missDeadline_active x y hmem
    exact ⟨hmem, List.forall_mem_cons.mpr ⟨hx, hne⟩⟩

theorem faultDeadline_ends (s : State) (t : Nat) (hcore : s.coreOn) :
    answers (.faultDeadline t) s fun s' => (∀ y ∈ s'.xfer.active, ∀ f, y.fault = some f → max s.now t < f.deadline) ∧
      ((∀ y ∈ s.xfer.active, ∀ f, y.fault = some f → max s.now t < f.deadline) → s'.xfer.active = s.xfer.active) := by
  have hexec : exec (.faultDeadline t) s = execFaultDeadline t s := rfl
  refine answers_core hexec hcore ?_
  rw [State.settle_xfer]
  refine ⟨fun y hy f hf => ?_, fun hnone => ?_⟩
  · obtain ⟨hmem, hne⟩ := missDeadlines_active _ _ y hy
    refine Nat.lt_of_not_le fun hle => hne y (List.mem_filter.mpr ⟨hmem, ?_⟩) rfl
    exact Option.any_of_some hf hle
  · have hempty : ((s.advance t).xfer.active.filter fun x => x.fault.any fun f => decide (f.deadline ≤ (s.advance t).now)) = [] := by
      refine List.filter_eq_nil_iff.mpr fun y hy hany => ?_
      obtain ⟨f, hf, hle⟩ := (Option.any_eq_true _ _).mp hany
      exact absurd (hnone y hy f hf) (Nat.not_lt.mpr (of_decide_eq_true hle))
    rw [hempty]
    rfl

theorem faultRing_consumed (s : State) (t : Nat) (v : BitVec 32) (hcore : s.coreOn) :
    answers (.faultRingConsumerWrite t v) s fun s' => s'.xfer.ringCons = v.toNat % 64 ∧
      s'.xfer.ringCount = s.xfer.ringCount - min s.xfer.ringCount ((v.toNat % 64 + 64 - s.xfer.ringCons) % 64) := by
  have hexec : exec (.faultRingConsumerWrite t v) s = execFaultRingConsumerWrite t v s := rfl
  refine answers_core hexec hcore ?_
  rw [State.settle_xfer]
  exact ⟨rfl, rfl⟩

/-- Settles O19: it holds. -/
theorem translationFaults : Obligations.translation_faults :=
  ⟨translationFault_posted, faultResume_resumes, faultAbandon_ends, faultDeadline_ends, faultRing_consumed⟩

/-! #### Invalidations and scrubs (O20) -/

theorem invalidate_drops (s : State) (t : Nat) (p : Path) (hcore : s.coreOn) (hmay : s.mayWrite t p 0x270304 1) :
    answers (.invalidate t p 1) s fun s' => s'.xfer.invalidating = true ∧ s'.xfer.active = s.xfer.active ∧
      ∀ e, e ∈ s'.xfer.tlb ↔ e ∈ s.xfer.tlb ∧ ¬ (e.pd = s.obj 0x270301 ∧ (s.obj 0x270303 = 0 ∨
        (e.page < s.obj 0x270302 + s.obj 0x270303 ∧ s.obj 0x270302 < e.page + e.size))) := by
  have hexec : exec (.invalidate t p 1) s = execInvalidate t p 1 s := rfl
  refine answers_controlledNum hexec hcore hmay ?_
  generalize hw : (s.advance t).acceptWrite p 0x270304 (leBytes (objWidth 0x270304 / 8) 1) = w
  have hxfer : w.xfer = s.xfer := by
    rw [← hw, State.acceptWrite_xfer]
    rfl
  have hobj {k : Nat} (hk : k ≠ 0x200201 ∧ k ≠ 0x200202 ∧ k ≠ 0x200203 ∧ k ≠ 0x200204) : w.obj k = s.obj k := by
    rw [← hw, State.acceptWrite_obj _ _ _ _ hk]
    rfl
  rw [if_pos rfl, State.settle_xfer, State.invalidate, State.dropCached]
  refine ⟨rfl, (congrArg XferSt.active hxfer : w.xfer.active = _), fun e => List.mem_filter.trans ?_⟩
  rw [hobj (by decide), hobj (by decide), hobj (by decide), hxfer]
  simp only [Bool.not_eq_true', ← Bool.not_eq_true, Bool.and_eq_true, Bool.or_eq_true, beq_iff_eq, decide_eq_true_eq]

theorem invalidation_ends (s : State) (t : Nat) (hcore : s.coreOn) (hinv : s.xfer.invalidating) :
    answers (.invalidationCompleted t) s fun s' => s'.xfer = { s.xfer with invalidating := false } := by
  have hexec : exec (.invalidationCompleted t) s = execInvalidationCompleted t s := rfl
  have hinv' : (s.advance t).xfer.invalidating = true := hinv
  refine answers_core hexec hcore ?_
  rw [if_pos hinv', State.settle_xfer, State.emit_xfer]
  rfl


theorem exec_sramScrub {s : State} {t addr errors : Nat} (hpow : s.powered) (hrails : s.coreRails) (hin : addr < sramSize) :
    exec (.sramScrub t addr errors) s = .next ((s.advance t).scrubWord addr errors).settle := by
  have hexec : exec (.sramScrub t addr errors) s = execSramScrub t addr errors s := rfl
  have hcond : (s.advance t).coreRails = true ∧ addr < sramSize := ⟨hrails, hin⟩
  rw [hexec, execSramScrub, whenPowered, if_pos hpow, if_pos hcond]

theorem sramScrub_corrects (s : State) (t addr : Nat) (hpow : s.powered) (hrails : s.coreRails) (hin : addr < sramSize) :
    answers (.sramScrub t addr 1) s fun s' => s'.comp.bad = s.comp.bad ∧ s'.comp.slots = s.comp.slots ∧
      s'.obj 0x280006 = (s.obj 0x280006 + 1) % 2 ^ objWidth 0x280006 := by
  refine ⟨_, exec_sramScrub hpow hrails hin, ?_⟩
  dsimp only
  rw [State.settle_comp_bad, State.settle_comp_slots, State.settle_obj _ (by decide) (by decide), State.scrubWord,
    if_neg Nat.one_ne_zero, if_pos rfl, State.emitLimited_comp_bad, State.emitLimited_comp_slots,
    State.emitLimited_obj _ _ _ _ _ _ (by decide) (by decide), State.incr_obj_same]
  exact ⟨rfl, rfl, rfl⟩

theorem State.metBadWord_comp (s : State) (pa : Nat) : (s.metBadWord pa).comp = s.comp := only_comp (State.metBadWord_same (by decide) ..)

theorem State.metBadWord_counts (s : State) (pa : Nat) : (s.metBadWord pa).obj 0x280008 = pa / 8 * 8 ∧
    (s.metBadWord pa).obj 0x280007 = (s.obj 0x280007 + 1) % 2 ^ objWidth 0x280007 := by
  rw [State.metBadWord, State.emit_obj _ _ _ _ (by decide) (by decide), State.emit_obj _ _ _ _ (by decide) (by decide),
    State.setObj_obj_same, State.setObj_obj_ne _ _ (by decide), State.incr_obj_same]
  exact ⟨rfl, rfl⟩

theorem sramScrub_notes (s : State) (t addr errors : Nat) (hpow : s.powered) (hrails : s.coreRails) (hin : addr < sramSize)
    (htwo : 2 ≤ errors) :
    answers (.sramScrub t addr errors) s fun s' => s'.badWord 0 addr = true ∧ s'.obj 0x280008 = addr / 8 * 8 ∧
      s'.comp.slots = markSlab addr s.comp.slots ∧ s'.obj 0x280007 = (s.obj 0x280007 + 1) % 2 ^ objWidth 0x280007 := by
  refine ⟨_, exec_sramScrub hpow hrails hin, ?_⟩
  have hzero : ¬ errors = 0 := by omega
  have hone : ¬ errors = 1 := by omega
  dsimp only
  rw [State.badWord, State.settle_comp_bad, State.settle_comp_slots, State.settle_obj _ (by decide) (by decide),
    State.settle_obj _ (by decide) (by decide), State.scrubWord, if_neg hzero, if_neg hone]
  generalize hv : ((s.advance t).onComp fun c => { c with bad := (addr / 8 * 8) :: c.bad.filter (· != addr / 8 * 8) }) = v
  have hbad : v.comp.bad = (addr / 8 * 8) :: s.comp.bad.filter (· != addr / 8 * 8) := by rw [← hv]; rfl
  have hslots : v.comp.slots = s.comp.slots := by rw [← hv]; rfl
  have hcount : v.obj 0x280007 = s.obj 0x280007 := by rw [← hv]; rfl
  obtain ⟨haddr, hmet⟩ := v.metBadWord_counts addr
  refine ⟨?_, haddr, ?_, hmet.trans (congrArg (fun n => (n + 1) % _) hcount)⟩
  · rw [State.slabFails, State.onComp_comp, State.metBadWord_comp, hbad]
    exact List.contains_iff_mem.mpr List.mem_cons_self
  · rw [State.slabFails, State.onComp_comp, State.metBadWord_comp, hslots]

/-- Settles O20: it holds. -/
theorem invalidationAndScrub : Obligations.invalidation_and_scrub :=
  ⟨invalidate_drops, invalidation_ends, sramScrub_corrects, sramScrub_notes⟩

end Sys2Proof.Machine
end

section
/-! ### Stream capture: frames, words and packets (O8, O9, O10) -/
namespace Sys2Proof.Machine

/-! #### Pools and streams -/

/-- The unit in capture is put in the place of the buffer that holds it. -/
theorem fillingAt_set_same {pool : List Buf} {k j : Nat} {u : CapturedUnit} (h : fillingAt pool k = some (j, u)) (v : CapturedUnit) :
    ∃ i, j = k + i ∧ i < pool.length ∧ fillingAt (pool.set i (.filling v)) k = some (j, v) := by
  induction pool generalizing k with
  | nil => exact absurd h (by simp [fillingAt])
  | cons b r ih =>
    cases b with
    | filling w =>
      obtain ⟨rfl, -⟩ := Prod.mk.inj (Option.some.inj h)
      exact ⟨0, rfl, Nat.succ_pos _, rfl⟩
    | free => obtain ⟨i, rfl, hi, hset⟩ := ih (k := k + 1) h; exact ⟨i + 1, by omega, Nat.succ_lt_succ hi, hset⟩
    | waiting w => obtain ⟨i, rfl, hi, hset⟩ := ih (k := k + 1) h; exact ⟨i + 1, by omega, Nat.succ_lt_succ hi, hset⟩
    | held q w => obtain ⟨i, rfl, hi, hset⟩ := ih (k := k + 1) h; exact ⟨i + 1, by omega, Nat.succ_lt_succ hi, hset⟩

/-- A unit in a pool without one in capture is the one in capture. -/
theorem fillingAt_set_of_none {pool : List Buf} {k i : Nat} (h : fillingAt pool k = none) (hi : i < pool.length) (v : CapturedUnit) :
    fillingAt (pool.set i (.filling v)) k = some (k + i, v) := by
  induction pool generalizing k i with
  | nil => exact absurd hi (Nat.not_lt_zero _)
  | cons b r ih =>
    cases i with
    | zero => rfl
    | succ i =>
      have hset (h : fillingAt r (k + 1) = none) : fillingAt (r.set i (.filling v)) (k + 1) = some (k + (i + 1), v) := by
        rw [ih h (Nat.lt_of_succ_lt_succ hi), Nat.add_right_comm, Nat.add_assoc]
      cases b with
      | filling w => exact absurd h (Option.some_ne_none _)
      | free => exact hset h
      | waiting w => exact hset h
      | held q w => exact hset h

theorem fillingAt_of_held {pool : List Buf} (h : ∀ b ∈ pool, ∃ r u, b = .held r u) (k : Nat) : fillingAt pool k = none := by
  induction pool generalizing k with
  | nil => rfl
  | cons b r ih =>
    obtain ⟨hb, hr⟩ := List.forall_mem_cons.mp h
    obtain ⟨q, u, rfl⟩ := hb
    exact ih hr _

theorem oldestWaiting_of_held {pool : List Buf} (h : ∀ b ∈ pool, ∃ r u, b = .held r u) (k : Nat) : oldestWaiting pool k = none := by
  induction pool generalizing k with
  | nil => rfl
  | cons b r ih =>
    obtain ⟨hb, hr⟩ := List.forall_mem_cons.mp h
    obtain ⟨q, u, rfl⟩ := hb
    exact ih hr _

theorem takeBuffer_of_free {pool : List Buf} (h : pool.any Buf.isFree) (u : CapturedUnit) :
    ∃ i, i < pool.length ∧ takeBuffer pool u = some (pool.set i (.filling u), none) := by
  obtain ⟨i, hi⟩ := Option.isSome_iff_exists.mp (List.findIdx?_isSome.trans h)
  obtain ⟨hlt, -⟩ := List.findIdx?_eq_some_iff_getElem.mp hi
  refine ⟨i, hlt, ?_⟩
  rw [takeBuffer, hi]

theorem takeBuffer_of_held {pool : List Buf} (h : ∀ b ∈ pool, ∃ r u, b = .held r u) (u : CapturedUnit) : takeBuffer pool u = none := by
  have hfree : pool.findIdx? Buf.isFree = none := by
    refine List.findIdx?_eq_none_iff.mpr fun b hb => ?_
    obtain ⟨q, w, rfl⟩ := h b hb
    rfl
  rw [takeBuffer, hfree, oldestWaiting_of_held h]

theorem StreamSt.onFilling_filling {x : StreamSt} {u : CapturedUnit} (h : x.filling = some u) (f : CapturedUnit → CapturedUnit) :
    (x.onFilling f).filling = some (f u) := by
  obtain ⟨⟨j, w⟩, hat, rfl⟩ := Option.map_eq_some_iff.mp h
  obtain ⟨i, rfl, -, hset⟩ := fillingAt_set_same hat (f w)
  rw [Nat.zero_add] at hset hat
  rw [StreamSt.onFilling, hat]
  exact congrArg (Option.map _) hset

theorem StreamSt.onFilling_keeps (x : StreamSt) (f : CapturedUnit → CapturedUnit) : x.onFilling f = { x with pool := (x.onFilling f).pool } := by
  unfold StreamSt.onFilling
  split <;> rfl

theorem State.stream_congr {s s' : State} (h : s'.streams = s.streams) (n : Nat) : s'.stream n = s.stream n := by
  rw [State.stream, State.stream, h]

theorem State.onStream_stream_same (s : State) (n : Nat) (f : StreamSt → StreamSt) : (s.onStream n f).stream n = f (s.stream n) :=
  tget_tset_same ..

theorem State.boundTo_lt {s : State} {p : Nat → Nat → Bool} {n : Nat} (h : s.boundTo p = some n) : n < 16 :=
  List.mem_range.mp (List.mem_of_find?_eq_some h)

/-- The objects of the streams lie before those of an emission and of the ports. -/
theorem streamKey_bounds {n u : Nat} (hn : n < 16) (hu : u < 256) : 0x210000 ≤ streamKey n u ∧ streamKey n u < 0x220000 := by
  unfold streamKey
  omega

theorem State.settle_streamKey (s : State) {n u : Nat} (hn : n < 16) (hu : u < 256) :
    s.settle.obj (streamKey n u) = s.obj (streamKey n u) := by
  obtain ⟨-, hlt⟩ := streamKey_bounds hn hu
  exact State.settle_obj _ (by omega) (by omega)

theorem State.emit_streamKey (s : State) (a b c : Nat) {n u : Nat} (hn : n < 16) (hu : u < 256) :
    (s.emit a b c).obj (streamKey n u) = s.obj (streamKey n u) := by
  obtain ⟨-, hlt⟩ := streamKey_bounds hn hu
  exact State.emit_obj _ _ _ _ (by omega) (by omega)

theorem State.settle_stream (s : State) (n : Nat) : s.settle.stream n = s.stream n := State.stream_congr (State.settle_streams s) n

theorem State.emit_stream (s : State) (a b c n : Nat) : (s.emit a b c).stream n = s.stream n := State.stream_congr (State.emit_streams ..) n

theorem State.sendAll_streams (s : State) (os : List Out) : (s.sendAll os).streams = s.streams :=
  only_streams (State.sendAll_same (by decide) s os)

theorem State.sendAll_out_mem {s : State} {o : Out} (h : o ∈ s.out) (os : List Out) : o ∈ (s.sendAll os).out :=
  out_mem_foldl (fun _ _ h => State.send_out_mem h) os h

theorem State.pump_streams (s : State) (c : Nat) : (s.pump c).streams = s.streams := by
  unfold State.pump
  dsimp only
  split <;> exact State.sendAll_streams ..

theorem State.pump_out_mem {s : State} {o : Out} (h : o ∈ s.out) (c : Nat) : o ∈ (s.pump c).out := by
  have hsent (k : Channel) (os : List Out) : o ∈ ((s.setChan c k).sendAll os).out := State.sendAll_out_mem (s := s.setChan c k) h os
  unfold State.pump
  dsimp only
  split <;> exact hsent ..

theorem State.sendTok_streams (s : State) (c : Nat) (x : Tok) : (s.sendTok c x).streams = s.streams := by
  unfold State.sendTok
  split
  · rfl
  · exact State.pump_streams ..

theorem State.sendTok_out_mem {s : State} {o : Out} (h : o ∈ s.out) (c : Nat) (x : Tok) : o ∈ (s.sendTok c x).out := by
  unfold State.sendTok
  split
  · exact h
  · refine State.pump_out_mem ?_ c
    exact h

/-- A unit that starts while a buffer is free is in capture with the next sequence number (R91). -/
theorem State.captureStart_takes {s : State} {n : Nat} (u : CapturedUnit) (hmay : s.mayStart n) (hfull : s.unitsFull n = false)
    (hfill : (s.stream n).filling = none) (hfree : (s.stream n).pool.any Buf.isFree) :
    ∃ i, i < (s.stream n).pool.length ∧ (s.captureStart n u).stream n = { s.stream n with
      seq := (s.stream n).seq + 1, inTick := (s.stream n).inTick + 1
      pool := (s.stream n).pool.set i (.filling { u with seq := (s.stream n).seq }) } ∧
      fillingAt ((s.captureStart n u).stream n).pool 0 = some (i, { u with seq := (s.stream n).seq }) := by
  obtain ⟨i, hi, htake⟩ := takeBuffer_of_free hfree { u with seq := (s.stream n).seq }
  have hgo : ¬ (s.mayStart n = false ∨ s.unitsFull n = true) := by
    rw [hmay, hfull]
    simp only [Bool.true_eq_false, Bool.false_eq_true, or_self, not_false_eq_true]
  have hstream : (s.captureStart n u).stream n = { s.stream n with
      seq := (s.stream n).seq + 1, inTick := (s.stream n).inTick + 1
      pool := (s.stream n).pool.set i (.filling { u with seq := (s.stream n).seq }) } := by
    unfold State.captureStart
    dsimp only
    rw [if_neg hgo, State.startUnit, State.onStream_stream_same, htake]
    dsimp only
    rw [State.onStream_stream_same, State.onStream_stream_same]
  refine ⟨i, hi, hstream, ?_⟩
  rw [hstream]
  exact (fillingAt_set_of_none (Option.map_eq_none_iff.mp hfill) hi _).trans (by rw [Nat.zero_add])

/-- A unit that starts while every buffer is held is dropped and counted (R91). -/
theorem State.captureStart_drops {s : State} {n : Nat} (u : CapturedUnit) (hn : n < 16) (hmay : s.mayStart n)
    (hfull : s.unitsFull n = false) (hheld : ∀ b ∈ (s.stream n).pool, ∃ r u, b = .held r u) :
    ((s.captureStart n u).stream n).pool = (s.stream n).pool ∧
      (s.captureStart n u).obj (streamKey n 0x10) = (s.obj (streamKey n 0x10) + 1) % 2 ^ objWidth (streamKey n 0x10) := by
  have hgo : ¬ (s.mayStart n = false ∨ s.unitsFull n = true) := by
    rw [hmay, hfull]
    simp only [Bool.true_eq_false, Bool.false_eq_true, or_self, not_false_eq_true]
  unfold State.captureStart
  dsimp only
  rw [if_neg hgo, State.startUnit, State.onStream_stream_same, takeBuffer_of_held hheld]
  dsimp only
  rw [State.stream_congr (only_streams (State.dropBeforeDecode_same (by decide) ..)),
    State.obj_congr (only_od (State.dropBeforeDecode_same (by decide) ..)), State.emit_stream, State.emit_streamKey _ _ _ _ hn (by decide),
    State.incr_obj_same]
  refine ⟨?_, rfl⟩
  rw [State.stream_congr (State.incr_streams ..), State.onStream_stream_same]

/-! #### CSI-2 frames (O8) -/

theorem csi2FrameStart_takes (s : State) (t : Nat) (rx : Fin 2) (vc n : Nat) (hcore : s.coreOn) (hn : s.csiStream rx vc = some n)
    (hvc : vc < 4) (hmay : s.mayStart n) (hfull : s.unitsFull n = false) (hfill : (s.stream n).filling = none)
    (hfree : (s.stream n).pool.any Buf.isFree) :
    answers (.csi2FrameStart t rx vc) s fun s' =>
      (s'.stream n).filling = some { seq := (s.stream n).seq, stamp := (s.advance t).stamp, bytes := 0 } ∧
      (s'.stream n).seq = (s.stream n).seq + 1 ∧ (s'.stream n).lines = 0 := by
  have hexec : exec (.csi2FrameStart t rx vc) s = execCsi2FrameStart t rx vc s := rfl
  have hn' : (s.advance t).csiStream rx vc = some n := hn
  have hclosed : ¬ ((s.advance t).stream n).filling.isSome = true := by
    have hnone : ((s.advance t).stream n).filling = none := hfill
    rw [hnone]
    exact Bool.false_ne_true
  obtain ⟨i, -, hstream, hat⟩ := State.captureStart_takes (s := s.advance t) { seq := 0, stamp := (s.advance t).stamp, bytes := 0 }
    hmay hfull hfill hfree
  refine answers_core hexec hcore ?_
  rw [hn']
  dsimp only
  rw [if_neg (Nat.not_le.mpr hvc), if_neg hclosed, State.settle_stream, State.onStream_stream_same]
  exact ⟨congrArg (Option.map _) hat, congrArg StreamSt.seq hstream, rfl⟩

theorem csi2FrameStart_drops (s : State) (t : Nat) (rx : Fin 2) (vc n : Nat) (hcore : s.coreOn) (hn : s.csiStream rx vc = some n)
    (hvc : vc < 4) (hmay : s.mayStart n) (hfull : s.unitsFull n = false) (hheld : ∀ b ∈ (s.stream n).pool, ∃ r u, b = .held r u) :
    answers (.csi2FrameStart t rx vc) s fun s' => (s'.stream n).pool = (s.stream n).pool ∧
      s'.obj (streamKey n 0x10) = (s.obj (streamKey n 0x10) + 1) % 2 ^ objWidth (streamKey n 0x10) := by
  have hexec : exec (.csi2FrameStart t rx vc) s = execCsi2FrameStart t rx vc s := rfl
  have hn' : (s.advance t).csiStream rx vc = some n := hn
  have hlt : n < 16 := State.boundTo_lt hn
  have hclosed : ¬ ((s.advance t).stream n).filling.isSome = true := by
    have hnone : ((s.advance t).stream n).filling = none := congrArg (Option.map _) (fillingAt_of_held hheld 0)
    rw [hnone]
    exact Bool.false_ne_true
  obtain ⟨hpool, hcount⟩ := State.captureStart_drops (s := s.advance t) { seq := 0, stamp := (s.advance t).stamp, bytes := 0 } hlt
    hmay hfull hheld
  refine answers_core hexec hcore ?_
  rw [hn']
  dsimp only
  rw [if_neg (Nat.not_le.mpr hvc), if_neg hclosed, State.settle_stream, State.onStream_stream_same, State.settle_streamKey _ hlt (by decide)]
  exact ⟨hpool, hcount⟩

/-- A line of its data type within the limits joins the frame (R78, R87). -/
theorem State.takeLine_joins {s : State} {n dt bytes : Nat} {u : CapturedUnit} (hdt : dt = bits (s.stream n).addr 13 8)
    (hfill : (s.stream n).filling = some u) (hheight : (s.stream n).lines + 1 ≤ (s.stream n).limits.height)
    (hwidth : bytes * 8 ≤ (s.stream n).limits.width * dataTypeBits dt) :
    ((s.takeLine n dt bytes).stream n).lines = (s.stream n).lines + 1 ∧
      ((s.takeLine n dt bytes).stream n).filling = some { u with bytes := u.bytes + bytes } := by
  have hopen : ¬ (s.stream n).filling.isNone = true := by
    rw [hfill]
    exact Bool.false_ne_true
  have hin : ¬ ((s.stream n).limits.height < (s.stream n).lines + 1 ∨ (s.stream n).limits.width * dataTypeBits dt < bytes * 8) := by omega
  unfold State.takeLine
  dsimp only
  rw [if_neg hopen, if_neg (Classical.not_not.mpr hdt), if_neg hin, State.onStream_stream_same]
  exact ⟨rfl, StreamSt.onFilling_filling hfill _⟩

/-- Damage is noted in the unit in capture (R79). -/
theorem State.damageUnit_notes {s : State} {n : Nat} {u : CapturedUnit} (hfill : (s.stream n).filling = some u) (code : Nat) :
    ((s.damageUnit n code).stream n).lines = (s.stream n).lines ∧
      ((s.damageUnit n code).stream n).filling = some { u with damaged := true } := by
  have hstream : (s.damageUnit n code).stream n = (s.stream n).onFilling fun u => { u with damaged := true } := by
    unfold State.damageUnit
    rw [hfill]
    dsimp only
    split
    · exact State.onStream_stream_same ..
    · rw [State.emit_stream, State.stream_congr (State.incr_streams ..)]
      exact State.onStream_stream_same ..
  rw [hstream]
  exact ⟨by rw [StreamSt.onFilling_keeps], StreamSt.onFilling_filling hfill _⟩

theorem csi2LongPacket_joins (s : State) (t : Nat) (rx : Fin 2) (vc n dt bytes : Nat) (crcOk : Bool) (u : CapturedUnit) (hcore : s.coreOn)
    (hn : s.csiStream rx vc = some n) (hvc : vc < 4) (hdt : dt = bits (s.stream n).addr 13 8) (hbits : dataTypeBits dt ≠ 0)
    (hfull : s.partsFull n = false) (hfill : (s.stream n).filling = some u)
    (hheight : (s.stream n).lines + 1 ≤ (s.stream n).limits.height)
    (hwidth : bytes * 8 ≤ (s.stream n).limits.width * dataTypeBits dt) :
    answers (.csi2LongPacket t rx vc dt bytes 0 crcOk false) s fun s' => (s'.stream n).lines = (s.stream n).lines + 1 ∧
      (s'.stream n).filling = some { u with bytes := u.bytes + bytes, damaged := u.damaged || !crcOk } := by
  have hexec : exec (.csi2LongPacket t rx vc dt bytes 0 crcOk false) s = execCsi2LongPacket t rx vc dt bytes 0 crcOk false s := rfl
  have hn' : (s.advance t).csiStream rx vc = some n := hn
  have hfull' : (s.advance t).partsFull n = false := hfull
  have hembedded : ¬ dt = 0x12 := fun h => hbits (h ▸ rfl)
  have hknown : ¬ (4 ≤ vc ∨ dataTypeBits dt = 0) := not_or.mpr ⟨Nat.not_le.mpr hvc, hbits⟩
  refine answers_core hexec hcore ?_
  rw [hn']
  dsimp only
  rw [if_neg (by decide), if_neg hembedded, if_neg hknown, if_neg Nat.zero_ne_one, hfull', State.settle_stream]
  generalize hw : (s.advance t).onStream n (fun x => { x with subInTick := x.subInTick + 1 }) = w
  have hstream : w.stream n = { s.stream n with subInTick := (s.stream n).subInTick + 1 } := by
    rw [← hw]
    exact State.onStream_stream_same ..
  obtain ⟨hlines, hjoined⟩ := State.takeLine_joins (s := w) (n := n) (dt := dt) (bytes := bytes) (u := u) (by rw [hstream]; exact hdt)
    (by rw [hstream]; exact hfill) (by rw [hstream]; exact hheight) (by rw [hstream]; exact hwidth)
  have hlines' : ((w.takeLine n dt bytes).stream n).lines = (s.stream n).lines + 1 := hlines.trans (by rw [hstream])
  cases crcOk with
  | true =>
    rw [if_neg Bool.false_ne_true, if_neg (by decide)]
    exact ⟨hlines', by rw [hjoined, Bool.not_true, Bool.or_false]⟩
  | false =>
    obtain ⟨hkept, hdamaged⟩ := State.damageUnit_notes hjoined 0x3007
    rw [if_neg Bool.false_ne_true, if_pos (by decide)]
    exact ⟨hkept.trans hlines', by rw [hdamaged, Bool.not_false, Bool.or_true]⟩

/-- A complete unit waits, stamped, and its record is written (R92, R95). -/
theorem State.completeUnit_announces {s : State} {n i : Nat} {u : CapturedUnit} (h : fillingAt (s.stream n).pool 0 = some (i, u)) :
    (s.completeUnit n).stream n = { s.stream n with pool := (s.stream n).pool.set i (.waiting u), lastStamp := some u.stamp } ∧
      .metadata 0xFFFF (u.metadata n).pack ∈ (s.completeUnit n).out := by
  unfold State.completeUnit
  rw [h]
  dsimp only
  generalize hv : (((s.onStream n fun x => { x with pool := x.pool.set i (.waiting u), lastStamp := some u.stamp }).incr
    (streamKey n 0x0E)).send (.metadata 0xFFFF (u.metadata n).pack)) = v
  have hstream : v.stream n = { s.stream n with pool := (s.stream n).pool.set i (.waiting u), lastStamp := some u.stamp } := by
    rw [← hv, State.stream_congr (State.send_streams ..), State.stream_congr (State.incr_streams ..), State.onStream_stream_same]
  have hout : .metadata 0xFFFF (u.metadata n).pack ∈ v.out := hv ▸ State.sent ..
  split
  · exact ⟨(State.stream_congr (State.sendTok_streams ..) n).trans hstream, State.sendTok_out_mem hout ..⟩
  · exact ⟨hstream, hout⟩

theorem csi2FrameEnd_announces (s : State) (t : Nat) (rx : Fin 2) (vc n i : Nat) (u : CapturedUnit) (hcore : s.coreOn)
    (hn : s.csiStream rx vc = some n) (hvc : vc < 4) (hat : fillingAt (s.stream n).pool 0 = some (i, u)) (hgood : u.damaged = false) :
    answers (.csi2FrameEnd t rx vc) s fun s' => (s'.stream n).pool = (s.stream n).pool.set i (.waiting u) ∧
      (s'.stream n).lastStamp = some u.stamp ∧ .metadata 0xFFFF (u.metadata n).pack ∈ s'.out := by
  have hexec : exec (.csi2FrameEnd t rx vc) s = execCsi2FrameEnd t rx vc s := rfl
  have hn' : (s.advance t).csiStream rx vc = some n := hn
  have hfill : ((s.advance t).stream n).filling = some u := congrArg (Option.map _) hat
  have hkept : ¬ (u.damaged = true ∧ (s.advance t).cfg (streamKey n 0x0D) = 0) := fun h => Bool.false_ne_true (hgood.symm.trans h.1)
  obtain ⟨hstream, hout⟩ := State.completeUnit_announces (s := s.advance t) hat
  refine answers_core hexec hcore ?_
  rw [hn']
  dsimp only
  rw [if_neg (Nat.not_le.mpr hvc), State.endFrame, hfill]
  dsimp only
  rw [if_neg hkept, State.settle_stream, hstream]
  exact ⟨rfl, rfl, State.settle_out_mem hout⟩

/-- Settles O8: it holds. -/
theorem csi2FrameCaptured : Obligations.csi2_frame_captured :=
  ⟨csi2FrameStart_takes, csi2FrameStart_drops, csi2LongPacket_joins, csi2FrameEnd_announces⟩

/-! #### Words that reach their taps (O9) -/

theorem State.setTap_tap_ne (s : State) {n m : Nat} (v : TapSt) (h : m ≠ n) : (s.setTap n v).tap m = s.tap m := tget_tset_ne _ _ _ h

theorem State.tapValue_congr {s s' : State} (h : s'.alarm.bank = s.alarm.bank) (tap raw : Nat) : s'.tapValue tap raw = s.tapValue tap raw := by
  have hbk (k : Nat) : s'.bk k = s.bk k := congrArg (fun b : Table Nat => tget b k (objectDefault k)) h
  simp only [State.tapValue, hbk]

/-- What a word leaves of the alarm path: the bank, a running GCLK, and every other tap. -/
structure WordKeeps (s s' : State) (tap : Nat) : Prop where
  gclkOk : s'.alarm.gclkOk = s.alarm.gclkOk
  bank : s'.alarm.bank = s.alarm.bank
  now : s'.now = s.now
  others : ∀ m, m ≠ tap → s'.tap m = s.tap m

theorem State.tapWord_keeps {s : State} (hclk : s.alarm.gclkOk) (tap raw : Nat) : WordKeeps s (s.tapWord tap raw) tap ∧
    (s.tapWord tap raw).tap tap = s.tapStep tap (s.tapValue tap raw) := by
  have hnow : (s.tapWord tap raw).now = s.now := only_now (State.tapWord_same (by decide) ..)
  unfold State.tapWord at hnow ⊢
  rw [if_pos hclk] at hnow ⊢
  dsimp only at hnow ⊢
  generalize hv : ((s.setTap tap (s.tapStep tap (s.tapValue tap raw))).incr (tapBase tap + 0x1C)).setObj (tapBase tap + 0x1A)
    (pattern 32 (s.tapValue tap raw)) = v at hnow ⊢
  have htaps : v.alarm = (s.setTap tap (s.tapStep tap (s.tapValue tap raw))).alarm := by rw [← hv]; rfl
  obtain ⟨pins, r, w, hmatrix⟩ := v.matrix_alarm
  refine ⟨⟨?_, ?_, hnow, fun m hm => ?_⟩, ?_⟩
  · rw [hmatrix, htaps]; rfl
  · rw [hmatrix, htaps]; rfl
  · rw [State.matrix_tap, State.tap_congr (congrArg AlarmSt.taps htaps), State.setTap_tap_ne _ _ hm]
  · rw [State.matrix_tap, State.tap_congr (congrArg AlarmSt.taps htaps), State.setTap_tap_same]

theorem State.takeSample_alarm (s : State) (n : Nat) (v : Int) : (s.takeSample n v).alarm = s.alarm :=
  only_alarm (State.takeSample_same (by decide) ..)

theorem State.slotWord_keeps {s : State} (hclk : s.alarm.gclkOk) (port slot : Nat) (w : BitVec 32) :
    WordKeeps s (s.slotWord port slot w) (16 * port + slot) ∧
      (s.slotWord port slot w).tap (16 * port + slot) = s.tapStep (16 * port + slot) (s.tapValue (16 * port + slot) w.toNat) := by
  obtain ⟨⟨hgclk, hbank, hnow, hothers⟩, htap⟩ := State.tapWord_keeps hclk (16 * port + slot) w.toNat
  unfold State.slotWord
  dsimp only
  split
  · next n hn =>
    have halarm := State.takeSample_alarm (s.tapWord (16 * port + slot) w.toNat) n w.toInt
    have hnow' : ((s.tapWord (16 * port + slot) w.toNat).takeSample n w.toInt).now = (s.tapWord (16 * port + slot) w.toNat).now :=
      only_now (State.takeSample_same (by decide) ..)
    have htaps := State.tap_congr (congrArg AlarmSt.taps halarm)
    exact ⟨⟨(congrArg AlarmSt.gclkOk halarm).trans hgclk, (congrArg AlarmSt.bank halarm).trans hbank, hnow'.trans hnow,
      fun m hm => (htaps m).trans (hothers m hm)⟩, (htaps _).trans htap⟩
  · exact ⟨⟨hgclk, hbank, hnow, hothers⟩, htap⟩

theorem State.tapStep_silent (s : State) (tap : Nat) (c : Int) : (s.tapStep tap c).silent = false := by
  unfold State.tapStep
  dsimp only
  split
  · rfl
  · next h => exact Bool.not_eq_true _ |>.mp h

/-- The words of a frame reach the taps of their slots, and no earlier tap (R80, R112). -/
theorem slotWords_taps (port : Nat) (words : List (BitVec 32)) (k : Nat) (s : State) (hclk : s.alarm.gclkOk) :
    (∀ m, m < 16 * port + k → ((words.zipIdx k).foldl (fun s e => s.slotWord port e.2 e.1) s).tap m = s.tap m) ∧
      ∀ i w, words[i]? = some w → ∃ u : State, u.alarm.bank = s.alarm.bank ∧ u.now = s.now ∧
        ((words.zipIdx k).foldl (fun s e => s.slotWord port e.2 e.1) s).tap (16 * port + (k + i)) =
          u.tapStep (16 * port + (k + i)) (s.tapValue (16 * port + (k + i)) w.toNat) := by
  induction words generalizing k s with
  | nil => exact ⟨fun _ _ => rfl, fun i w h => nomatch h⟩
  | cons w ws ih =>
    obtain ⟨⟨hgclk, hbank, hnow, hothers⟩, htap⟩ := State.slotWord_keeps hclk port k w
    obtain ⟨hlow, hwords⟩ := ih (k + 1) (s.slotWord port k w) (hgclk.trans hclk)
    rw [List.zipIdx_cons, List.foldl_cons]
    refine ⟨fun m hm => (hlow m (by omega)).trans (hothers m (by omega)), fun i x hx => ?_⟩
    cases i with
    | zero =>
      obtain rfl : w = x := Option.some.inj hx
      exact ⟨s, rfl, rfl, (hlow _ (by omega)).trans htap⟩
    | succ i =>
      obtain ⟨u, hubank, hunow, hu⟩ := hwords i x hx
      rw [State.tapValue_congr hbank] at hu
      refine ⟨u, hubank.trans hbank, hunow.trans hnow, ?_⟩
      have hslot : k + (i + 1) = k + 1 + i := by omega
      rw [hslot]
      exact hu

theorem tdmFrame_reaches (s : State) (t : Nat) (port : Fin 4) (words : List (BitVec 32)) (hpow : s.powered) (hclk : s.alarm.gclkOk) :
    answers (.tdmFrame t port words true) s fun s' => ∀ i w, i < 16 → words[i]? = some w →
      (s'.tap (16 * port + i)).value = s.tapValue (16 * port + i) w.toNat ∧ (s'.tap (16 * port + i)).lastWord = some (max s.now t) ∧
      (s'.tap (16 * port + i)).silent = false := by
  have hexec : exec (.tdmFrame t port words true) s = execTdmFrame t port words true s := rfl
  refine answers_powered hexec hpow ?_
  rw [if_pos rfl]
  intro i w hi hw
  obtain ⟨-, hwords⟩ := slotWords_taps port (words.take 16) 0 (s.advance t) hclk
  obtain ⟨u, -, hnow, htap⟩ := hwords i w ((List.getElem?_take_of_lt hi).trans hw)
  rw [Nat.zero_add] at htap
  rw [State.settle_tap, htap]
  exact ⟨rfl, congrArg some hnow, State.tapStep_silent ..⟩

theorem State.loseSample_alarm (s : State) (n : Nat) : (s.loseSample n).alarm = s.alarm :=
  only_alarm (State.loseSample_same (by decide) ..)

theorem tdmFrame_lost (s : State) (t : Nat) (port : Fin 4) (words : List (BitVec 32)) (hpow : s.powered) :
    answers (.tdmFrame t port words false) s fun s' => s'.alarm = s.alarm := by
  have hexec : exec (.tdmFrame t port words false) s = execTdmFrame t port words false s := rfl
  refine answers_powered hexec hpow ?_
  rw [if_neg Bool.false_ne_true, State.settle_alarm, State.emit_alarm]
  refine List.foldlRecOn (motive := fun s' : State => s'.alarm = s.alarm) _ _ rfl fun s' ih slot _ => ?_
  split
  · next n _ => exact (s'.loseSample_alarm n).trans ih
  · exact ih

theorem spiTransaction_reaches (s : State) (t : Nat) (m : Fin 2) (c : Fin 4) (w : BitVec 32) (hpow : s.powered) (hclk : s.alarm.gclkOk) :
    answers (.spiTransaction t m c (some w)) s fun s' =>
      (s'.tap (64 + 4 * m + c)).value = s.tapValue (64 + 4 * m + c) w.toNat ∧
        (s'.tap (64 + 4 * m + c)).lastWord = some (max s.now t) := by
  have hexec : exec (.spiTransaction t m c (some w)) s = execSpiTransaction t m c (some w) s := rfl
  refine answers_powered hexec hpow ?_
  obtain ⟨-, htap⟩ := State.tapWord_keeps (s := s.advance t) hclk (64 + 4 * m + c) w.toNat
  rw [State.settle_tap]
  dsimp only
  split
  · next n _ =>
    rw [State.tap_congr (congrArg AlarmSt.taps (State.takeSample_alarm ..)), htap]
    exact ⟨rfl, rfl⟩
  · rw [htap]
    exact ⟨rfl, rfl⟩

theorem spiTransaction_lost (s : State) (t : Nat) (m : Fin 2) (c : Fin 4) (n : Nat) (hpow : s.powered)
    (hn : s.spiStream m c = some n) (htakes : s.takesSamples n) :
    answers (.spiTransaction t m c none) s fun s' => (s'.stream n).lost = (s.stream n).lost + 1 ∧ s'.alarm = s.alarm := by
  have hexec : exec (.spiTransaction t m c none) s = execSpiTransaction t m c none s := rfl
  have hn' : (s.advance t).spiStream m c = some n := hn
  have htakes' : (s.advance t).takesSamples n = true := htakes
  refine answers_powered hexec hpow ?_
  rw [hn']
  dsimp only
  rw [State.settle_alarm, State.loseSample_alarm, State.settle_stream, State.loseSample, if_pos htakes',
    State.stream_congr (State.incr_streams ..), State.onStream_stream_same]
  exact ⟨rfl, rfl⟩

theorem drdyTimeout_reports (s : State) (t : Nat) (m : Fin 2) (c : Fin 4) (n : Nat) (hpow : s.powered)
    (hn : s.spiStream m c = some n) (hmode : s.cfg (0x2E1101 + 4 * m + c) = 1) :
    exec (.drdyTimeout t m c) s = .next ((s.advance t).emit 0x300F n).settle := by
  have hexec : exec (.drdyTimeout t m c) s = execDrdyTimeout t m c s := rfl
  have hn' : (s.advance t).spiStream m c = some n := hn
  have hmode' : (s.advance t).cfg (0x2E1101 + 4 * m + c) = 1 := hmode
  rw [hexec, execDrdyTimeout, whenPowered, if_pos hpow, hn']
  dsimp only
  rw [if_pos hmode']

/-- Settles O9: it holds. -/
theorem wordsReachTaps : Obligations.words_reach_taps :=
  ⟨tdmFrame_reaches, tdmFrame_lost, spiTransaction_reaches, spiTransaction_lost, drdyTimeout_reports⟩

/-! #### Packets (O10) -/

/-- A packet of the source in its access unit, in order and not the last, joins the unit (R83). -/
theorem State.rtpData_joins {s : State} {n : Nat} {pkt : RtpPacket} {u : CapturedUnit} (hts : (s.stream n).rtpTs = some pkt.ts)
    (hseq : ∀ q, (s.stream n).rtpSeq = some q → (q + 1) % 2 ^ 16 = pkt.seq % 2 ^ 16) (hfill : (s.stream n).filling = some u)
    (hsize : (s.stream n).size + pkt.bytes ≤ (s.stream n).limits.unit) (hmarker : pkt.marker = false) :
    (s.rtpData n pkt).stream n = { (s.stream n).onFilling fun u => { u with bytes := u.bytes + pkt.bytes, idr := u.idr || pkt.idr } with
      rtpSeq := some (pkt.seq % 2 ^ 16), size := (s.stream n).size + pkt.bytes } := by
  have hgap : ¬ ((s.stream n).rtpSeq.any fun q => (q + 1) % 2 ^ 16 != pkt.seq % 2 ^ 16) = true := by
    intro h
    obtain ⟨q, hq, hne⟩ := (Option.any_eq_true _ _).mp h
    exact bne_iff_ne.mp hne (hseq q hq)
  have hnew : ¬ ((s.stream n).rtpTs != some pkt.ts) = true := by
    rw [hts]
    exact fun h => bne_iff_ne.mp h rfl
  have hmarker' : ¬ pkt.marker = true := ne_true_of_eq_false hmarker
  unfold State.rtpData
  dsimp only
  rw [if_neg hmarker', if_neg hnew, if_neg fun h => hgap h.1, if_neg fun h => hgap h.1]
  generalize hw : s.onStream n (fun x => { x with rtpSeq := some (pkt.seq % 2 ^ 16) }) = w
  have hstream : w.stream n = { s.stream n with rtpSeq := some (pkt.seq % 2 ^ 16) } := by rw [← hw, State.onStream_stream_same]
  have hopen : ¬ (w.stream n).filling.isNone = true := by
    have hw : (w.stream n).filling = some u := by rw [hstream]; exact hfill
    rw [hw]
    exact Bool.false_ne_true
  have hfits : ¬ (w.stream n).limits.unit < (w.stream n).size + pkt.bytes := by
    rw [hstream]
    exact Nat.not_lt.mpr hsize
  unfold State.addPacket
  dsimp only
  rw [if_neg hopen, if_neg hfits, State.onStream_stream_same, hstream]
  unfold StreamSt.onFilling
  dsimp only
  split <;> rfl

theorem rtpPacket_joins (s : State) (t : Nat) (mac : Fin 2) (port n : Nat) (pkt : RtpPacket) (u : CapturedUnit) (hcore : s.coreOn)
    (hn : s.rtpStream mac port = some n) (hruns : s.chuckRuns n) (hsup : pkt.supported)
    (hssrc : ∀ x, (s.stream n).ssrc = some x → x = pkt.ssrc) (hfull : s.partsFull n = false) (hts : (s.stream n).rtpTs = some pkt.ts)
    (hseq : ∀ q, (s.stream n).rtpSeq = some q → (q + 1) % 2 ^ 16 = pkt.seq % 2 ^ 16) (hfill : (s.stream n).filling = some u)
    (hsize : (s.stream n).size + pkt.bytes ≤ (s.stream n).limits.unit) (hmarker : pkt.marker = false) :
    answers (.rtpPacket t mac port true pkt) s fun s' => (s'.stream n).ssrc = some pkt.ssrc ∧
      (s'.stream n).rtpSeq = some (pkt.seq % 2 ^ 16) ∧ (s'.stream n).size = (s.stream n).size + pkt.bytes ∧
      (s'.stream n).filling = some { u with bytes := u.bytes + pkt.bytes, idr := u.idr || pkt.idr } := by
  have hexec : exec (.rtpPacket t mac port true pkt) s = execRtpPacket t mac port true pkt s := rfl
  have hn' : (s.advance t).rtpStream mac port = some n := hn
  have hruns' : ¬ (s.advance t).chuckRuns n = false := ne_false_of_eq_true hruns
  have hknown : ¬ (¬ true = true ∨ ¬ pkt.supported = true) := not_or.mpr ⟨Classical.not_not.mpr rfl, Classical.not_not.mpr hsup⟩
  have hsame : ¬ ((s.advance t).stream n).ssrc.any (· != pkt.ssrc) = true := by
    intro h
    obtain ⟨x, hx, hne⟩ := (Option.any_eq_true _ _).mp h
    exact bne_iff_ne.mp hne (hssrc x hx)
  have hfull' : (s.advance t).partsFull n = false := hfull
  refine answers_core hexec hcore ?_
  rw [hn']
  dsimp only
  rw [if_neg hruns', if_neg hknown, if_neg hsame, hfull', if_neg Bool.false_ne_true, State.settle_stream]
  generalize hw : (s.advance t).onStream n (fun x => { x with ssrc := some pkt.ssrc, subInTick := x.subInTick + 1 }) = w
  have hstream : w.stream n = { s.stream n with ssrc := some pkt.ssrc, subInTick := (s.stream n).subInTick + 1 } := by
    rw [← hw]
    exact State.onStream_stream_same ..
  have hfill' : (w.stream n).filling = some u := by rw [hstream]; exact hfill
  rw [State.rtpData_joins (u := u) (by rw [hstream]; exact hts) (by rw [hstream]; exact hseq) hfill' (by rw [hstream]; exact hsize) hmarker]
  refine ⟨?_, rfl, by rw [hstream], StreamSt.onFilling_filling hfill' _⟩
  rw [StreamSt.onFilling_keeps, hstream]

theorem rtpPacket_refused (s : State) (t : Nat) (mac : Fin 2) (port n x : Nat) (pkt : RtpPacket) (hcore : s.coreOn)
    (hn : s.rtpStream mac port = some n) (hruns : s.chuckRuns n) (hsup : pkt.supported) (hssrc : (s.stream n).ssrc = some x)
    (hother : x ≠ pkt.ssrc) : exec (.rtpPacket t mac port true pkt) s = .next ((s.advance t).emit 0x3009 n).settle := by
  have hexec : exec (.rtpPacket t mac port true pkt) s = execRtpPacket t mac port true pkt s := rfl
  have hn' : (s.advance t).rtpStream mac port = some n := hn
  have hruns' : ¬ (s.advance t).chuckRuns n = false := ne_false_of_eq_true hruns
  have hknown : ¬ (¬ true = true ∨ ¬ pkt.supported = true) := not_or.mpr ⟨Classical.not_not.mpr rfl, Classical.not_not.mpr hsup⟩
  have hany : ((s.advance t).stream n).ssrc.any (· != pkt.ssrc) = true := (Option.any_eq_true _ _).mpr ⟨x, hssrc, bne_iff_ne.mpr hother⟩
  rw [hexec, execRtpPacket, whenCore, if_pos hcore, hn']
  dsimp only
  rw [if_neg hruns', if_neg hknown, if_pos hany]

theorem ssrcRelease_releases (s : State) (t : Nat) (p : Path) (n : Fin 16) (v : Nat) (hcore : s.coreOn)
    (hmay : s.mayWrite t p (streamKey n 0x1A) v) :
    answers (.ssrcRelease t p n v) s fun s' => s'.stream n = { s.stream n with ssrc := none } := by
  have hexec : exec (.ssrcRelease t p n v) s = execSsrcRelease t p n v s := rfl
  refine answers_controlledNum hexec hcore hmay ?_
  rw [State.settle_stream, State.onStream_stream_same, State.stream_congr (State.acceptWrite_streams ..)]
  rfl

theorem rtcpSenderReport_kept (s : State) (t : Nat) (mac : Fin 2) (port n : Nat) (data : List Byte) (hcore : s.coreOn)
    (hn : s.rtpStream mac port = some n) (htype : leAt data 1 1 = 200) :
    answers (.rtcpSenderReport t mac port data) s fun s' => tget s'.net.rtcp n [] = data := by
  have hexec : exec (.rtcpSenderReport t mac port data) s = execRtcpSenderReport t mac port data s := rfl
  have hn' : (s.advance t).rtpStream mac port = some n := hn
  refine answers_core hexec hcore ?_
  rw [hn']
  dsimp only
  rw [if_pos htype, State.settle_net_rtcp]
  exact tget_tset_same ..

/-- A whole record that a free buffer takes waits with the next sequence number (R84, R92). -/
theorem State.deliver_waits {s : State} {n : Nat} {data : List Byte} (hmay : s.mayStart n) (hfull : s.unitsFull n = false)
    (hsize : data.length ≤ (s.stream n).limits.unit) (hfill : (s.stream n).filling = none) (hfree : (s.stream n).pool.any Buf.isFree) :
    ((s.deliver n data.length data true none).stream n).seq = (s.stream n).seq + 1 ∧
      .waiting { seq := (s.stream n).seq, stamp := s.stamp, bytes := data.length, data := data } ∈
        ((s.deliver n data.length data true none).stream n).pool := by
  have hruns : ¬ s.chuckRuns n = false := ne_false_of_eq_true (Bool.and_eq_true _ _ ▸ hmay : _ ∧ _).1
  obtain ⟨i, hi, hstream, hat⟩ := State.captureStart_takes (s := s)
    { seq := 0, stamp := s.stamp, bytes := data.length, data := data, hostTime := none } hmay hfull hfill hfree
  unfold State.deliver
  dsimp only
  rw [if_neg hruns, if_neg Bool.true_eq_false.mp, if_neg (Nat.not_lt.mpr hsize)]
  generalize hw : s.captureStart n { seq := 0, stamp := s.stamp, bytes := data.length, data := data, hostTime := none } = w at hstream hat ⊢
  have hopen : (w.stream n).filling.isSome = true := by
    rw [StreamSt.filling, hat]
    rfl
  obtain ⟨hwaits, -⟩ := State.completeUnit_announces hat
  rw [if_pos hopen, hwaits, hstream]
  refine ⟨rfl, List.mem_iff_getElem.mpr ⟨i, ?_, ?_⟩⟩
  · simpa only [List.length_set] using hi
  · simp only [List.getElem_set_self]

theorem udpRecordDatagram_waits (s : State) (t : Nat) (i : Fin 3) (port n : Nat) (data : List Byte) (hcore : s.coreOn)
    (hn : s.udpStream i port = some n) (hmay : s.mayStart n) (hfull : s.unitsFull n = false)
    (hsize : data.length ≤ (s.stream n).limits.unit) (hfill : (s.stream n).filling = none) (hfree : (s.stream n).pool.any Buf.isFree) :
    answers (.udpRecordDatagram t i port data) s fun s' => (s'.stream n).seq = (s.stream n).seq + 1 ∧
      .waiting { seq := (s.stream n).seq, stamp := (s.advance t).stamp, bytes := data.length, data := data } ∈ (s'.stream n).pool := by
  have hexec : exec (.udpRecordDatagram t i port data) s = execUdpRecordDatagram t i port data s := rfl
  have hn' : (s.advance t).udpStream i port = some n := hn
  refine answers_core hexec hcore ?_
  rw [hn']
  dsimp only
  rw [State.settle_stream]
  exact State.deliver_waits (s := s.advance t) hmay hfull hsize hfill hfree

/-- Settles O10: it holds. -/
theorem packetsCaptured : Obligations.packets_captured :=
  ⟨rtpPacket_joins, rtpPacket_refused, ssrcRelease_releases, rtcpSenderReport_kept, udpRecordDatagram_waits⟩

end Sys2Proof.Machine
end

section
/-! ### Jobs that end, are cut or are forced (O14, O16) -/
namespace Sys2Proof.Machine

/-! #### The end of a run (O14) -/

theorem outputStatus_bounds (late bad : Bool) : outputStatus late bad ≤ 2 ∧ (late → 1 ≤ outputStatus late bad) := by
  cases late <;> cases bad <;> decide

theorem State.entryRecord_out_mem {s : State} {o : Out} (h : o ∈ s.out) (r : Run) (qstatus event out : Nat) :
    o ∈ (s.entryRecord r qstatus event out).out := by
  unfold State.entryRecord
  split
  · exact h
  · split
    · refine State.postCompletion_out_mem (State.emit_out_mem ?_)
      exact h
    · split
      · exact State.postCompletion_out_mem h
      · exact h

/-- Behind a run's output its units and lanes are given back and its entry is answered. -/
def State.clearRun (s : State) (r : Run) (qstatus event st : Nat) : State :=
  ((if r.entry.window then s.rewaitUnits r.rid else s.releaseUnits r.rid).holdLanes r).entryRecord r qstatus event st

theorem State.clearRun_keeps (s : State) (r : Run) (qstatus event st : Nat) :
    (s.clearRun r qstatus event st).head.running = s.head.running ∧ (s.clearRun r qstatus event st).head.status = s.head.status ∧
      ∀ o ∈ s.out, o ∈ (s.clearRun r qstatus event st).out := by
  have hfreed : (if r.entry.window then s.rewaitUnits r.rid else s.releaseUnits r.rid).head = s.head ∧
      (if r.entry.window then s.rewaitUnits r.rid else s.releaseUnits r.rid).out = s.out := by
    split
    · exact ⟨only_head (State.rewaitUnits_same (by decide) ..), only_out (State.rewaitUnits_same (by decide) ..)⟩
    · exact ⟨only_head (State.releaseUnits_same (by decide) ..), only_out (State.releaseUnits_same (by decide) ..)⟩
  obtain ⟨hhead, hout⟩ := hfreed
  have hrecord (u : State) : (u.entryRecord r qstatus event st).head = u.head := only_head (State.entryRecord_same (by decide) ..)
  unfold State.clearRun
  generalize (if r.entry.window then s.rewaitUnits r.rid else s.releaseUnits r.rid) = v at hhead hout ⊢
  have hrunning : (v.holdLanes r).head.running = v.head.running := rfl
  have hstatus : (v.holdLanes r).head.status = v.head.status := rfl
  rw [hrecord, hrunning, hstatus, hhead]
  exact ⟨rfl, rfl, fun o ho => State.entryRecord_out_mem (hout ▸ ho) ..⟩

/-- A run that ends runs no more, and its output goes out with its status, late when it overran (R24, R28). -/
theorem State.endRun_ends (s : State) (r : Run) (e : JobEnd) (reason qstatus event : Nat) :
    (∀ y ∈ (s.endRun r e reason qstatus event).head.running, y.rid ≠ r.rid) ∧
      ∃ st, tget (s.endRun r e reason qstatus event).head.status r.entry.id 0 = st ∧
        .output r.entry.id st r.tick r.takeover ∈ (s.endRun r e reason qstatus event).out ∧ st ≤ 2 ∧ (r.overran → 1 ≤ st) := by
  unfold State.endRun
  dsimp only
  generalize hst : outputStatus (r.overran || _) _ = st
  have hbounds : st ≤ 2 ∧ (r.overran → 1 ≤ st) := by
    obtain ⟨hle, hlate⟩ := outputStatus_bounds (r.overran || _) _
    exact hst ▸ ⟨hle, fun h => hlate (by rw [h, Bool.true_or])⟩
  generalize hw : State.endTokens _ r st reason _ = w
  obtain ⟨hrunning, hstatus, hout⟩ := (w.send (.output r.entry.id st r.tick r.takeover)).clearRun_keeps r qstatus event st
  unfold State.clearRun at hrunning hstatus hout
  have hhead : w.head.running = (s.consume r.entry.id).1.head.running.filter (fun x => x.rid != r.rid) ∧
      w.head.status = tset (s.consume r.entry.id).1.head.status r.entry.id st := by
    rw [← hw, only_head (State.endTokens_same (by decide) ..)]
    split <;> exact ⟨rfl, rfl⟩
  obtain ⟨hfiltered, hset⟩ := hhead
  rw [hrunning, hstatus]
  refine ⟨fun y hy => ?_, st, ?_, hout _ (State.sent ..), hbounds⟩
  · rw [State.send_head, hfiltered] at hy
    exact bne_iff_ne.mp (List.mem_filter.mp hy).2
  · rw [State.send_head, hset, tget_tset_same]

theorem jobCompletion_ends (s : State) (t job : Nat) (x : Run) (r : JobReport) (hcore : s.coreOn)
    (hrun : s.head.running.find? (·.entry.id == job) = some x) (hdone : s.xfersDone x.rid) :
    answers (.jobCompletion t job r) s fun s' => (∀ y ∈ s'.head.running, y.rid ≠ x.rid) ∧
      ∃ st, tget s'.head.status job 0 = st ∧ .output job st x.tick x.takeover ∈ s'.out ∧ st ≤ 2 ∧ (x.overran → 1 ≤ st) := by
  have hjob : x.entry.id = job := by
    have hid := List.find?_some hrun
    exact beq_iff_eq.mp hid
  refine ⟨_, exec_jobCompletion t r hcore hrun hdone, ?_⟩
  dsimp only
  rw [State.settle_head]
  unfold State.completeJob
  dsimp only
  obtain ⟨hgone, st, hstatus, hout, hbounds⟩ := State.endRun_ends _ { x with began := some (x.at_ + 2000 + r.waited) } _ 0 0 0
  refine ⟨hgone, st, ?_, State.settle_out_mem ?_, hbounds⟩
  · exact hjob ▸ hstatus
  · exact hjob ▸ hout

theorem hostAssistStageRegistered_costs (s : State) (t : Nat) (n : Fin 32) (cost : Nat) (hcore : s.coreOn) :
    answers (.hostAssistStageRegistered t n cost) s fun s' => s'.stage n = { s.stage n with cost := some cost } := by
  have hexec : exec (.hostAssistStageRegistered t n cost) s = execHostAssistStageRegistered t n cost s := rfl
  refine answers_core hexec hcore ?_
  rw [State.stage, State.settle_head]
  exact tget_tset_same ..

/-- Settles O14: it holds. -/
theorem jobCompletes : Obligations.job_completes := ⟨jobCompletion_ends, hostAssistStageRegistered_costs⟩

/-! #### Budget cuts and forced IDRs (O16) -/

/-- What a budget cut comes to when its decode job runs. -/
theorem exec_budgetCut {s : State} {t job conc : Nat} {x : Run} (hcore : s.coreOn)
    (hrun : s.head.running.find? (fun r => r.entry.id == job && jobDecodes r.entry.kind) = some x) :
    exec (.budgetCut t job conc) s =
      .next ((((s.advance t).cutContext x.entry.kind conc).incr 0x250005).emit 0x5006).settle := by
  have hexec : exec (.budgetCut t job conc) s = execBudgetCut t job conc s := rfl
  rw [hexec, execBudgetCut, whenCore, if_pos hcore, State.advance_head, hrun]

/-- A cut context is counted and leaves the jobs as they run (R138). -/
theorem State.budgetCut_counts (u s : State) (hobj : u.obj 0x250005 = s.obj 0x250005) (hhead : u.head = s.head) :
    ((u.incr 0x250005).emit 0x5006).settle.codec = u.codec ∧
      ((u.incr 0x250005).emit 0x5006).settle.obj 0x250005 = (s.obj 0x250005 + 1) % 2 ^ 32 ∧
      ((u.incr 0x250005).emit 0x5006).settle.head = s.head := by
  rw [State.settle_codec, State.settle_head, State.settle_obj _ (by decide) (by decide), State.emit_codec, State.emit_head,
    State.emit_obj _ _ _ _ (by decide) (by decide), State.incr_obj_same, hobj]
  exact ⟨rfl, rfl, hhead⟩

theorem budgetCut_jpeg (s : State) (t job c conc : Nat) (x : Run) (hcore : s.coreOn)
    (hrun : s.head.running.find? (fun r => r.entry.id == job && jobDecodes r.entry.kind) = some x) (hkind : x.entry.kind = .jpeg c) :
    answers (.budgetCut t job conc) s fun s' => (s'.jpegCtx c).cut = true ∧ (s'.jpegCtx c).conc = (s.jpegCtx c).conc + conc ∧
      s'.obj 0x250005 = (s.obj 0x250005 + 1) % 2 ^ 32 ∧ s'.head = s.head := by
  refine ⟨_, exec_budgetCut hcore hrun, ?_⟩
  dsimp only
  rw [hkind, State.cutContext]
  obtain ⟨hcodec, hcount, hhead⟩ := State.budgetCut_counts
    ((s.advance t).setJpeg c { s.jpegCtx c with cut := true, conc := (s.jpegCtx c).conc + conc }) s rfl rfl
  have hctx := (congrArg (fun y : CodecSt => tget y.jpeg c {}) hcodec).trans (tget_tset_same ..)
  exact ⟨congrArg JpegCtx.cut hctx, congrArg JpegCtx.conc hctx, hcount, hhead⟩

theorem budgetCut_h264 (s : State) (t job c conc : Nat) (x : Run) (hcore : s.coreOn)
    (hrun : s.head.running.find? (fun r => r.entry.id == job && jobDecodes r.entry.kind) = some x) (hkind : x.entry.kind = .h264 c)
    (hc : c < 8) : answers (.budgetCut t job conc) s fun s' =>
      s'.h264 c = { s.h264 c with cut := true, damaged := true, conc := (s.h264 c).conc + conc } ∧
      s'.obj 0x250005 = (s.obj 0x250005 + 1) % 2 ^ 32 ∧ s'.head = s.head := by
  refine ⟨_, exec_budgetCut hcore hrun, ?_⟩
  dsimp only
  rw [hkind, State.cutContext]
  generalize hv : (State.incr _ (h264Key c 0x0D)) = v
  have hkey (u : Nat) : 0x250005 ≠ h264Key c u := by unfold h264Key; omega
  have hobj : v.obj 0x250005 = s.obj 0x250005 := by
    rw [← hv, State.incr_obj_ne _ _ (hkey _), State.incr_obj_ne _ _ (hkey _)]
    rfl
  have hhead : v.head = s.head := by rw [← hv]; rfl
  have hctx : v.h264 c = { s.h264 c with cut := true, damaged := true, conc := (s.h264 c).conc + conc } := by
    rw [← hv]
    exact tget_tset_same ..
  obtain ⟨hcodec, hcount, hkept⟩ := State.budgetCut_counts v s hobj hhead
  exact ⟨(State.h264_congr hcodec c).trans hctx, hcount, hkept⟩

theorem forceIdr_forces (s : State) (t : Nat) (p : Path) (e : Fin 2) (v : Nat) (hcore : s.coreOn) (hmay : s.mayWrite t p (encKey e 0x0E) v) :
    answers (.forceIdr t p e v) s fun s' => s'.enc e = { s.enc e with forced := true } := by
  have hexec : exec (.forceIdr t p e v) s = execForceIdr t p e v s := rfl
  refine answers_controlledNum hexec hcore hmay ?_
  generalize hw : (s.advance t).acceptWrite p (encKey e 0x0E) (leBytes (objWidth (encKey e 0x0E) / 8) v) = w
  have henc : w.enc e = s.enc e := by
    rw [State.enc, ← hw, State.acceptWrite_codec]
    rfl
  rw [State.forceIdr, State.enc, State.settle_codec, State.emit_codec, henc]
  exact tget_tset_same ..

/-- Settles O16: it holds. -/
theorem budgetCutAndForcedIdr : Obligations.budget_cut_and_forced_idr := ⟨budgetCut_jpeg, budgetCut_h264, forceIdr_forces⟩

end Sys2Proof.Machine
end

section
/-! ### UDP object access and stores (O40, O41) -/
namespace Sys2Proof.Machine

/-! #### UDP object access (O40) -/

/-- What a datagram comes to while UDP object access is open (R480). -/
theorem exec_udpObjectAccess {s : State} {t src port : Nat} {data : List Byte} (hcore : s.coreOn) (hon : s.cfg 0x200301 = 1)
    (hport : s.cfg 0x200302 ≠ 0) (hserved : (s.advance t).served .udp) :
    exec (.udpObjectAccess t src port data) s = .next (match src != 0 && (List.range 4).any fun n => s.cfg (0x200303 + n) == src,
        udpRequest data with
      | true, some r => (s.advance t).answerUdp src port r
      | _, _ => (s.advance t).incr 0x200307).settle := by
  have hexec : exec (.udpObjectAccess t src port data) s = execUdpObjectAccess t src port data s := rfl
  have hopen : (s.advance t).cfg 0x200301 = 1 ∧ (s.advance t).cfg 0x200302 ≠ 0 ∧ (s.advance t).served .udp = true :=
    ⟨hon, hport, hserved⟩
  rw [hexec, execUdpObjectAccess, whenCore, if_pos hcore, if_pos hopen]
  rfl

theorem udpObjectAccess_drops {s : State} {t src port : Nat} {data : List Byte} (hcore : s.coreOn) (hon : s.cfg 0x200301 = 1)
    (hport : s.cfg 0x200302 ≠ 0) (hserved : (s.advance t).served .udp)
    (hdrop : src = 0 ∨ (∀ n < 4, s.cfg (0x200303 + n) ≠ src) ∨ udpRequest data = none) :
    answers (.udpObjectAccess t src port data) s fun s' =>
      s'.obj 0x200307 = (s.obj 0x200307 + 1) % 2 ^ objWidth 0x200307 ∧ s'.dict.udp = s.dict.udp := by
  have hexec := exec_udpObjectAccess (src := src) (port := port) (data := data) hcore hon hport hserved
  generalize hlisted : (src != 0 && (List.range 4).any fun n => s.cfg (0x200303 + n) == src) = listed at hexec
  have hnone : listed = true → udpRequest data = none := by
    intro h
    obtain ⟨hsrc, hany⟩ := Bool.and_eq_true_iff.mp (hlisted.trans h)
    obtain ⟨n, hn, heq⟩ := List.any_eq_true.mp hany
    rcases hdrop with h0 | hall | hdata
    · exact absurd h0 (bne_iff_ne.mp hsrc)
    · exact absurd (beq_iff_eq.mp heq) (hall n (List.mem_range.mp hn))
    · exact hdata
  refine ⟨((s.advance t).incr 0x200307).settle, ?_, ?_⟩
  · rw [hexec]
    cases listed with
    | false => rfl
    | true => rw [hnone rfl]
  · dsimp only
    rw [State.settle_dict_udp, State.settle_obj _ (by decide) (by decide), State.incr_obj_same]
    exact ⟨rfl, rfl⟩

/-- A request from a listed address is answered (R480). -/
theorem exec_udpObjectAccess_listed {s : State} {t src port : Nat} {data : List Byte} {r : UdpRequest} (hcore : s.coreOn)
    (hon : s.cfg 0x200301 = 1) (hport : s.cfg 0x200302 ≠ 0) (hserved : (s.advance t).served .udp) (hsrc : src ≠ 0)
    (hlist : ∃ n < 4, s.cfg (0x200303 + n) = src) (hr : udpRequest data = some r) :
    exec (.udpObjectAccess t src port data) s = .next ((s.advance t).answerUdp src port r).settle := by
  obtain ⟨n, hn, heq⟩ := hlist
  have hlisted : (src != 0 && (List.range 4).any fun n => s.cfg (0x200303 + n) == src) = true :=
    Bool.and_eq_true_iff.mpr ⟨bne_iff_ne.mpr hsrc, List.any_eq_true.mpr ⟨n, List.mem_range.mpr hn, beq_iff_eq.mpr heq⟩⟩
  rw [exec_udpObjectAccess hcore hon hport hserved, hlisted, hr]

theorem State.answerUdp_again {s : State} {src port : Nat} {r : UdpRequest} {b : List Byte}
    (h : s.udpAgain (src * 2 ^ 16 + port) r.seq = some b) :
    s.answerUdp src port r = (s.incr 0x200308).transmitUdp (.udp 0 src port b) := by
  unfold State.answerUdp
  dsimp only
  rw [h]

theorem State.answerUdp_serves {s : State} {src port : Nat} {r : UdpRequest} (h : s.udpAgain (src * 2 ^ 16 + port) r.seq = none) :
    .udp 0 src port (s.serveUdp r).2 ∈ (s.answerUdp src port r).out ∧
      (s.answerUdp src port r).dict.udp.head? = some (src * 2 ^ 16 + port, r.seq, s.now, (s.serveUdp r).2) := by
  unfold State.answerUdp
  dsimp only
  rw [h]
  exact ⟨State.sent .., rfl⟩

/-- Settles O40: it holds. -/
theorem udpAccess : Obligations.udp_access := by
  intro s t src port data hcore hon hport hserved
  refine ⟨udpObjectAccess_drops hcore hon hport hserved, fun hsrc hlist r hr => ?_⟩
  have hexec := exec_udpObjectAccess_listed (port := port) hcore hon hport hserved hsrc hlist hr
  refine ⟨fun b hb => ?_, fun hnew => ?_⟩
  · rw [State.answerUdp_again hb] at hexec
    refine ⟨_, hexec, State.settle_out_mem (State.sent ..), ?_, ?_, ?_⟩
    · rw [State.settle_dict_udp]
      rfl
    · rw [State.settle_obj _ (by decide) (by decide), State.transmitUdp]
      exact State.incr_obj_same ..
    · rw [State.settle_inForce]
      rfl
  · obtain ⟨hout, hhead⟩ := State.answerUdp_serves hnew
    refine ⟨_, hexec, State.settle_out_mem hout, ?_⟩
    rw [State.settle_dict_udp]
    exact hhead

/-! #### Divergences and stores (O41) -/

theorem divergencePersisted_counts (s : State) (t key i : Nat) (hcore : s.coreOn) (hnew : key ∉ s.dict.raised)
    (hdiv : (key, i) ∈ s.dict.divs) (hlate : i + s.cfg 0x200103 * msec ≤ max s.now t) :
    answers (.divergencePersisted t key) s fun s' => s'.obj 0x200104 = (s.obj 0x200104 + 1) % 2 ^ objWidth 0x200104 := by
  have hexec : exec (.divergencePersisted t key) s = execDivergencePersisted t key s := rfl
  have hlate' : i + (s.advance t).cfg 0x200103 * msec ≤ (s.advance t).now := hlate
  have hany : (s.advance t).dict.divs.any (fun e => e.1 == key && decide (e.2 + (s.advance t).cfg 0x200103 * msec ≤ (s.advance t).now)) =
      true := List.any_eq_true.mpr ⟨(key, i), hdiv, Bool.and_eq_true_iff.mpr ⟨beq_self_eq_true key, decide_eq_true hlate'⟩⟩
  have hraised : (s.advance t).dict.raised.contains key = false := by
    rw [← Bool.not_eq_true, List.contains_iff_mem]
    exact hnew
  refine answers_core hexec hcore ?_
  rw [if_pos ⟨hraised, hany⟩, State.settle_obj _ (by decide) (by decide), State.emit_obj _ _ _ _ (by decide) (by decide),
    State.incr_obj_same]
  rfl

/-- A store's target is one of the two copies. -/
theorem State.storeTarget_le (s : State) : s.storeTarget ≤ 1 := by
  unfold State.storeTarget
  split <;> decide

theorem State.setCopy_copyAt_same (s : State) (n : Nat) (c : Option Retained) : (s.setCopy n c).copyAt n = c := by
  unfold State.setCopy State.copyAt
  by_cases h : n = 0
  · simp only [h, if_true, State.onBoot_boot]
  · simp only [h, if_false, State.onBoot_boot]

theorem State.setCopy_copyAt_other (s : State) {n : Nat} (hn : n ≤ 1) (c : Option Retained) :
    (s.setCopy n c).copyAt (1 - n) = s.copyAt (1 - n) := by
  unfold State.setCopy State.copyAt
  by_cases h : n = 0
  · simp only [h, if_true, State.onBoot_boot, Nat.sub_zero, Nat.one_ne_zero, if_false]
  · obtain rfl : n = 1 := by omega
    simp only [Nat.one_ne_zero, if_false, State.onBoot_boot, Nat.sub_self, if_true]

theorem State.copyAt_congr {s s' : State} (h : s'.boot = s.boot) (n : Nat) : s'.copyAt n = s.copyAt n := by
  rw [State.copyAt, State.copyAt, h]

/-- A store that begins erases the copy that it writes and leaves the other (R481, R483). -/
theorem State.beginStore_copies (s : State) (p : Path) (key : Nat) (snap : Table Nat) (marks : Nat) (isMark : Bool)
    (lss : Option Nat) :
    (s.beginStore p key snap marks isMark lss).copyAt s.storeTarget = none ∧
      (s.beginStore p key snap marks isMark lss).copyAt (1 - s.storeTarget) = s.copyAt (1 - s.storeTarget) := by
  have herase : (s.eraseCopy s.storeTarget).boot = (s.setCopy s.storeTarget none).boot :=
    only_boot (State.countErases_same (by decide) ..)
  have hboot : (s.beginStore p key snap marks isMark lss).boot = (s.setCopy s.storeTarget none).boot := by
    rw [State.beginStore, State.onDict_boot, herase]
  rw [State.copyAt_congr hboot, State.copyAt_congr hboot]
  exact ⟨State.setCopy_copyAt_same .., State.setCopy_copyAt_other s s.storeTarget_le none⟩

theorem State.controlledLater_served {s : State} {p : Path} {k : Nat} {data : List Byte} (hserved : s.served p)
    (herror : s.writeError p k data = 0) (eff : State → State) : s.controlledLater p k data eff = eff s := by
  unfold State.controlledLater
  dsimp only
  rw [if_pos hserved, if_pos herror]

theorem store_begins (s : State) (t : Nat) (p : Path) (sub v : Nat) (hcore : s.coreOn) (hserved : (s.advance t).served p)
    (herror : (s.advance t).writeError p (0x101000 + sub) (leBytes 4 v) = 0) :
    answers (.store t p sub v) s fun s' => s'.copyAt s.storeTarget = none ∧ s'.copyAt (1 - s.storeTarget) = s.copyAt (1 - s.storeTarget) ∧
      s'.dict.store = some { path := p, key := 0x101000 + sub, snap := s.storeSnapshot (setsOf sub), marks := s.boot.marks,
                             copy := s.storeTarget, isMark := false, lss := none } := by
  have hexec : exec (.store t p sub v) s = execStore t p sub v s := rfl
  refine answers_core hexec hcore ?_
  rw [State.askStore, State.controlledLater_served hserved herror, State.settle_dict_store, State.copyAt_congr (State.settle_boot _),
    State.copyAt_congr (State.settle_boot _)]
  obtain ⟨herased, hkept⟩ := (s.advance t).beginStore_copies p (0x101000 + sub) ((s.advance t).storeSnapshot (setsOf sub))
    (s.advance t).boot.marks false none
  exact ⟨herased, hkept, State.beginStore_store ..⟩

theorem restoreDefaults_begins (s : State) (t : Nat) (p : Path) (sub v : Nat) (hcore : s.coreOn) (hserved : (s.advance t).served p)
    (herror : (s.advance t).writeError p (0x101100 + sub) (leBytes 4 v) = 0) :
    answers (.restoreDefaults t p sub v) s fun s' => s'.copyAt s.storeTarget = none ∧
      s'.dict.store = some { path := p, key := 0x101100 + sub, snap := (s.newest.map (·.entries)).getD [],
                             marks := s.boot.marks ||| 2 ^ (sub - 1), copy := s.storeTarget, isMark := true, lss := none } := by
  have hexec : exec (.restoreDefaults t p sub v) s = execRestoreDefaults t p sub v s := rfl
  refine answers_core hexec hcore ?_
  rw [State.askRestore, State.controlledLater_served hserved herror, State.settle_dict_store, State.copyAt_congr (State.settle_boot _)]
  obtain ⟨herased, -⟩ := (s.advance t).beginStore_copies p (0x101100 + sub) (((s.advance t).newest.map (·.entries)).getD [])
    ((s.advance t).boot.marks ||| 2 ^ (sub - 1)) true none
  exact ⟨herased, State.beginStore_store ..⟩

theorem stores_begin (s : State) (t : Nat) (p : Path) (sub v : Nat) (hcore : s.coreOn) (hserved : (s.advance t).served p) :
    ((s.advance t).writeError p (0x101000 + sub) (leBytes 4 v) = 0 →
      answers (.store t p sub v) s fun s' => s'.copyAt s.storeTarget = none ∧ s'.copyAt (1 - s.storeTarget) = s.copyAt (1 - s.storeTarget) ∧
        s'.dict.store = some { path := p, key := 0x101000 + sub, snap := s.storeSnapshot (setsOf sub), marks := s.boot.marks,
                               copy := s.storeTarget, isMark := false, lss := none }) ∧
    ((s.advance t).writeError p (0x101100 + sub) (leBytes 4 v) = 0 →
      answers (.restoreDefaults t p sub v) s fun s' => s'.copyAt s.storeTarget = none ∧
        s'.dict.store = some { path := p, key := 0x101100 + sub, snap := (s.newest.map (·.entries)).getD [],
                               marks := s.boot.marks ||| 2 ^ (sub - 1), copy := s.storeTarget, isMark := true, lss := none }) :=
  ⟨store_begins s t p sub v hcore hserved, restoreDefaults_begins s t p sub v hcore hserved⟩

/-- The answer of a store leaves the dictionary's own part, the retained copies and the store's objects. -/
theorem State.storeAnswer_keeps (s : State) (x : StoreSt) (code : Nat) : (s.storeAnswer x code).dict = s.dict ∧
    (s.storeAnswer x code).boot = s.boot ∧ ∀ j, 0x200400 ≤ j → j ≤ 0x2004FF → (s.storeAnswer x code).obj j = s.obj j := by
  refine ⟨only_dict (State.storeAnswer_same (by decide) ..), only_boot (State.storeAnswer_same (by decide) ..), fun j hlo hhi => ?_⟩
  unfold State.storeAnswer
  split
  · rfl
  · split
    · exact State.acceptWrite_obj _ _ _ _ (by omega)
    · exact State.refuse_obj _ _ _ _ (by omega) (by omega) (by omega) (by omega)

theorem exec_storeComplete {s : State} {t : Nat} {x : StoreSt} {ok : Bool} (hcore : s.coreOn) (hstore : s.dict.store = some x)
    (hcomm : ((s.advance t).endStore x ok).dict.resetComm = false) :
    exec (.storeComplete t ok) s = .next ((s.advance t).endStore x ok).settle := by
  have hexec : exec (.storeComplete t ok) s = execStoreComplete t ok s := rfl
  have hstore' : (s.advance t).dict.store = some x := hstore
  have hends : (s.advance t).storeCompletes ok = (s.advance t).endStore x ok := by
    rw [State.storeCompletes, hstore']
  have hkept : ¬ (((s.advance t).endStore x ok).dict.store = none ∧ ((s.advance t).endStore x ok).dict.resetComm = true) :=
    fun h => Bool.false_ne_true (hcomm.symm.trans h.2)
  rw [hexec, execStoreComplete, whenCore, if_pos hcore, hstore', if_pos (Option.isSome_some), State.storeEnds]
  rw [hends, if_neg hkept]

/-- A bad read-back ends the store and leaves the retained copies (R483). -/
theorem State.endStore_bad (s : State) (x : StoreSt) : (s.endStore x false).dict = { s.dict with store := none } ∧
    (s.endStore x false).boot = s.boot ∧ (s.endStore x false).obj 0x200401 = 2 := by
  unfold State.endStore
  dsimp only
  rw [if_pos rfl]
  generalize hw : (((s.onDict fun d => { d with store := none }).setObj 0x200401 2).emit 0xD041) = w
  obtain ⟨hdict, hboot, hobj⟩ := w.storeAnswer_keeps x abortHardware
  rw [hdict, hboot, hobj 0x200401 (by decide) (by decide), ← hw, only_dict (State.emit_same (by decide) ..), State.emit_boot,
    State.emit_obj _ _ _ _ (by decide) (by decide), State.setObj_obj_same]
  exact ⟨rfl, rfl, rfl⟩

/-- The copy that a store writes, and what it shows (R481). -/
theorem State.storeWritten_writes (s : State) (x : StoreSt) : (s.storeWritten x).boot = (s.setCopy x.copy (some (s.storedCopy x))).boot ∧
    (s.storeWritten x).dict = s.dict ∧ (s.storeWritten x).obj 0x200401 = 1 ∧
      (s.storeWritten x).obj 0x200402 = (s.storedCopy x).seq := by
  refine ⟨rfl, rfl, State.setObj_obj_same .., ?_⟩
  unfold State.storeWritten
  dsimp only
  rw [State.setObj_obj_ne _ _ (by decide), State.incr_obj_ne _ _ (by decide), State.setObj_obj_ne _ _ (by decide), State.setObj_obj_same]

/-- A good read-back of a store that carries no mark ends it (R481). -/
theorem State.endStore_good (s : State) {x : StoreSt} (hmark : x.isMark = false) : (s.endStore x true).dict = { s.dict with store := none } ∧
    (s.endStore x true).boot = (s.setCopy x.copy (some (s.storedCopy x))).boot ∧ (s.endStore x true).obj 0x200401 = 1 ∧
      (s.endStore x true).obj 0x200402 = (s.storedCopy x).seq := by
  have hmark' : ¬ x.isMark = true := ne_true_of_eq_false hmark
  unfold State.endStore
  dsimp only
  rw [if_neg Bool.true_eq_false.mp, if_neg hmark']
  generalize hw : ((s.onDict fun d => { d with store := none }).storeWritten x).emit 0xD040 = w
  obtain ⟨hboot, hdict, hstate, hseq⟩ := (s.onDict fun d => { d with store := none }).storeWritten_writes x
  obtain ⟨hadict, haboot, haobj⟩ := w.storeAnswer_keeps x 0
  rw [hadict, haboot, haobj 0x200401 (by decide) (by decide), haobj 0x200402 (by decide) (by decide), ← hw, only_dict (State.emit_same (by decide) ..),
    State.emit_boot, State.emit_obj _ _ _ _ (by decide) (by decide), State.emit_obj _ _ _ _ (by decide) (by decide),
    hboot, hdict, hstate, hseq]
  exact ⟨rfl, rfl, rfl, rfl⟩

theorem storeComplete_ends (s : State) (t : Nat) (x : StoreSt) (hcore : s.coreOn) (hstore : s.dict.store = some x)
    (hcomm : s.dict.resetComm = false) (hcopy : x.copy ≤ 1) :
    (answers (.storeComplete t false) s fun s' => s'.dict.store = none ∧ s'.obj 0x200401 = 2 ∧ s'.boot = s.boot) ∧
    (x.isMark = false → answers (.storeComplete t true) s fun s' => s'.dict.store = none ∧ s'.obj 0x200401 = 1 ∧
      s'.copyAt x.copy = some (s.storedCopy x) ∧ s'.copyAt (1 - x.copy) = s.copyAt (1 - x.copy) ∧
      s'.obj 0x200402 = (s.storedCopy x).seq) := by
  refine ⟨?_, fun hmark => ?_⟩
  · obtain ⟨hdict, hboot, hstate⟩ := (s.advance t).endStore_bad x
    refine ⟨_, exec_storeComplete hcore hstore ((congrArg DictSt.resetComm hdict).trans hcomm), ?_⟩
    dsimp only
    rw [State.settle_dict_store, State.settle_obj _ (by decide) (by decide), State.settle_boot, hstate, hboot]
    exact ⟨congrArg DictSt.store hdict, rfl, rfl⟩
  · obtain ⟨hdict, hboot, hstate, hseq⟩ := (s.advance t).endStore_good hmark
    refine ⟨_, exec_storeComplete hcore hstore ((congrArg DictSt.resetComm hdict).trans hcomm), ?_⟩
    dsimp only
    rw [State.settle_dict_store, State.settle_obj _ (by decide) (by decide), State.settle_obj _ (by decide) (by decide), hstate, hseq,
      State.copyAt_congr (State.settle_boot _), State.copyAt_congr (State.settle_boot _), State.copyAt_congr hboot,
      State.copyAt_congr hboot, State.setCopy_copyAt_same, State.setCopy_copyAt_other _ hcopy]
    exact ⟨congrArg DictSt.store hdict, rfl, rfl, rfl, rfl⟩

/-- Settles O41: it holds. -/
theorem storesAndDivergences : Obligations.stores_and_divergences :=
  ⟨divergencePersisted_counts, stores_begin, storeComplete_ends⟩

end Sys2Proof.Machine
end
